-- ==== Sys2Proof/Word.lean ====
section
/-! DEFINITION. The word of the DM64 (R3), its bytes, and the readings of a word as a number (R7). -/

namespace Sys2Proof

/-- R3: the native word, 36 bits, bit 35 most significant. -/
abbrev Word := BitVec 36

/-- One byte of a byte-oriented link (R113, R514) or of byte DOMAIN data. -/
abbrev Byte := BitVec 8

/-- A stored object value: one word in the low 36 bits, or the two words of an EXT72
(epoch word in [71:36], time word in [35:0]; R10, R73). -/
abbrev Val := BitVec 72

/-- Sparse data by key: strictly rising keys, no entry equal to the value an unlisted key has. -/
abbrev Map (α : Type) := List (Nat × α)

/-- One unit of the time base is 0.25 ns (R8, TIME36). -/
abbrev unitsPerUs : Nat := 4000

/-- A slot: 40 000 time units, 10 us (chapter 2). -/
abbrev unitsPerSlot : Nat := 40000

/-- One millisecond in time units (the worked example of chapter 0: 4 000 000). -/
abbrev unitsPerMs : Nat := 4000000

end Sys2Proof
end

