-- ==== Sys2Proof/Syntax.lean ====
section
/-! DEFINITION. The commands of the DM64: one constructor of `Instr` for each row of the table of operations
and events, with its operands. An operand is what the outside world supplies with the step (a request's fields,
the bytes of a frame, a measured value, a stamp, the outcome of a physical check); everything the module knows
itself is read from the state. -/

namespace Sys2Proof

/-- A session number, S0-S9 (chapter 3). -/
abbrev Sess := Fin 10
/-- An axis number, AX0-AX63. -/
abbrev Ax := Fin 64
/-- A hoop number, HP0-HP63. -/
abbrev Hp := Fin 64
/-- An instance as the token header numbers it (R33): 0-63 are the axes, 64-127 the hoops. -/
abbrev InstId := Fin 128

/-- A host's request: session, the SEQ byte of the local host port (R515; 0 on the line) and the mode of its frame (R513),
the object address (R12) or what the command defines in its place, LEN, and the request part of the data area. -/
structure Req where
  sess : Sess
  seq  : Byte
  mode3 : Bool
  addr : BitVec 24
  len  : Nat
  data : List Byte
  deriving DecidableEq, Repr

/-- A line port (R106): LA, LB. -/
inductive LPort | la | lb
  deriving DecidableEq, Repr

/-- A port with a link and frame counters (R157): LA, LB and the service port SV. -/
inductive Port3 | la | lb | sv
  deriving DecidableEq, Repr

/-- What a PHY reports when its link comes up (R106). -/
inductive LinkSpeed | m100 | m1000
  deriving DecidableEq, Repr

/-- The side of a hard limit (R314). -/
inductive Side | pos | neg
  deriving DecidableEq, Repr

/-- A frame on a line port as it was received, from its destination address to its FCS. `cut` says that bypass began or
ended while it was in passage (R152). -/
structure LineFrame where
  bytes : List Byte
  cut   : Bool := false
  deriving DecidableEq, Repr

/-- A PTP frame as it was received, from its destination address to its FCS (R167, R168). -/
structure PtpFrame where
  frame : List Byte
  deriving DecidableEq, Repr

/-- An instant as the delay line measures it (R162): how many reference edges lie after the edge before it, and the fraction
of the period that had passed. -/
structure Instant where
  ago : Nat := 0
  phi : Rat := 0
  deriving DecidableEq, Repr

/-- The runs of equal samples of the four lines of a feedback port at the 100 MHz reference (R273): of each line the instant of
the raw transition that began its run, whose `ago` edges have all sampled the level that stands now. -/
structure LineRuns where
  a : Instant := {}
  b : Instant := {}
  c : Instant := {}
  d : Instant := {}
  deriving DecidableEq, Repr

/-- A change of a field channel as it reaches the main die (R376, R429): the arrival, and for how many samples of 20 ns the
comparator had held the new level by then, counted on the field die. -/
structure FieldArrival where
  at_  : Instant := {}
  held : Nat := 0
  deriving DecidableEq, Repr

/-- A condition of a field channel that the field die has found, and for how many of its samples of 20 ns it has stood without
a break (R434, R442, R443). -/
structure ChannelHeld where
  ch   : Fin 32
  held : Nat
  deriving DecidableEq, Repr

/-- A peer-delay response as received (R172): whether a follow-up carries the rest, the peer's times
(request receipt, response origin) and the correctionField, all in units of 0.25 ns. -/
structure PdelayMsg where
  seqId       : BitVec 16
  twoStep     : Bool
  reqReceipt  : Int
  respOrigin  : Int
  correction  : Int
  deriving DecidableEq, Repr

/-- How a long operation ends (R101): done with the results its measurement gave, as result words and values
for the objects it may write, or failed with an OP_ERROR code after the results that its measurement gave until then. -/
inductive OpEnd
  | done (results : List (List Word))
  | fail (code : Byte) (results : List (List Word))
  deriving DecidableEq, Repr

/-- An event entry of R143 as it stands in NTRIG and CARRIER records. -/
structure EventEntry where
  valid  : Bool
  kind   : Byte
  source : BitVec 12
  id     : BitVec 12
  time   : Nat
  value  : Word
  deriving DecidableEq, Repr

/-- A seal switch as the safety die reads it: its true and its complement contact, closed or open (R455). -/
structure SealRead where
  trueClosed : Bool
  compClosed : Bool
  deriving DecidableEq, Repr

/-- A safety input of two channels: SI0-SI3 or the chain input (R460). -/
inductive SafeIn | si (n : Fin 4) | chain
  deriving DecidableEq, Repr

/-- What a channel of a safety input has stood at, and for how many microseconds of the safety oscillator (R460). -/
structure SafeLevel where
  demand : Bool
  heldUs : Nat
  deriving DecidableEq, Repr

/-- A timed step of the safety die for one of its parts, with the time by then in microseconds of the safety oscillator since
release of its field reach (R462, R469, R471, R474). -/
structure SafeStep (α : Type) where
  part : α
  us   : Nat
  deriving DecidableEq, Repr

/-- The straps as they stand at the lands at the release of module reach (R492). -/
structure Straps where
  lineSpeed : Fin 4
  bootBank  : Bool
  fbDefault : Fin 4
  pwmPol    : Bool
  hostPort  : Bool
  addrMode  : Bool
  etypeAlt  : Bool
  test      : Bool
  deriving DecidableEq, Repr

/-- The module and core reset sources of R485. -/
inductive ResetSource
  | por | brownOutCore | brownOutIo | resetPin | refLoss | lockup | watchdog | softFull | debug
  deriving DecidableEq, Repr

/-- A configuration bank (R499). -/
inductive Bank | bankA | bankB
  deriving DecidableEq, Repr

/-- What a slot boundary takes from outside: the replicas' measurements (R44), and for each running long operation that has
completed a result record by then what was measured for it (R102). -/
structure SlotIn where
  replicas : List Nat := []
  records  : List (Fin 139 × List Word) := []
  deriving DecidableEq, Repr

/-- The commands, one per row of the table, in the table's order. -/
inductive Instr
  -- fabric
  | slotBoundary (x : SlotIn)
  | tokenComplete (cell : Fin 16) (bitsU bitsV : List Bool)
  | ledgerDecision
  | currentChainMiss (ax : Ax)
  | outerChainMiss (i : InstId)
  | refinementChainMiss (entries : List (Fin 1024))
  | dvBrimWrite (sess : Sess) (value : Nat)
  -- trips
  | tripInputQualified (t : Fin 8)
  | tripInputUnqualified (t : Fin 8)
  | tripDecimatorOutput (ax : Ax) (bitsU bitsV : List Bool)
  -- claims and sessions
  | claim (sess : Sess) (code : Nat)
  | claimWindowClose (domain : Fin 155)
  | release (sess : Sess) (code : Nat)
  | breakDomain (sess : Sess) (code : Nat)
  | sessionLapse (sess : Sess)
  | stopWrite (sess : Sess) (i : InstId) (value : Nat)
  -- CONTROL
  | enable (sess : Sess) (i : InstId)
  | disable (sess : Sess) (i : InstId)
  | modeChange (sess : Sess) (i : InstId) (mode : Fin 16)
  | startMove (sess : Sess) (i : InstId) (queue relative : Bool)
  | faultReset (sess : Sess) (i : InstId)
  | opAbort (sess : Sess) (i : InstId)
  | homingStart (sess : Sess) (i : InstId)
  | motorIdentification (sess : Sess) (i : InstId)
  | currentLoopAutoTune (sess : Sess) (i : InstId)
  | longOperationEnd (op : Fin 139) (how : OpEnd)
  -- record commands
  | nop (sess : Sess)
  | read (q : Req)
  | write (q : Req)
  | fetch (q : Req)
  | openSession (q : Req)
  | closeSession (q : Req)
  | readAt (q : Req)
  | writeAt (q : Req)
  | bwrite (q : Req)
  | address (sess : Sess) (base : BitVec 12) (force : Bool) (hops : BitVec 12)
  | segment (q : Req)
  | ntrig (sess : Sess) (entries : List EventEntry)
  | carrier (sess : Sess) (entries : List EventEntry)
  -- frames and ports
  | damekFrame (port : LPort) (f : LineFrame)
  | serviceFrame (bytes : List Byte)
  | foreignFrame (port : Port3) (f : LineFrame)
  | answerReady (sess : Sess) (ticket : Byte)
  | answerPlaceFreed (sess : Sess) (ticket : Byte)
  | portDown (port : Port3)
  | phyLinkUp (port : Port3) (speed : LinkSpeed)
  | portUp (port : Port3)
  -- network time
  | sync (port : LPort) (rawStamp : Instant) (g : PtpFrame)
  | followUp (port : LPort) (g : PtpFrame)
  | announce (port : LPort) (g : PtpFrame)
  | pdelayReq (port : LPort) (g : PtpFrame) (rawStamp txStamp : Instant)
  | pdelayResp (port : LPort) (rawStamp : Instant) (m : PdelayMsg)
  | pdelayIntervalExpiry (port : LPort) (txStamp : Instant)
  | masterLoss
  | timeStep
  | ntTimeSet (sess : Sess) (ext : BitVec 72)
  | ntSyncModeWrite (sess : Sess) (value : Nat)
  -- sequences of an axis or hoop
  | gateSettleEnd (ax : Ax)
  | alignStepEnd (ax : Ax)
  | brakeReleaseEnd (i : InstId)
  | standstillReached (i : InstId)
  | brakeEngageEnd (i : InstId)
  | stopTimeout (i : InstId)
  | followErr (i : InstId)
  | velErr (i : InstId)
  | safeLevelSignal (zone : Fin 2)
  | safeLevelSignalWithdrawn (zone : Fin 2)
  | ss1Announcement (zone : Fin 2)
  | loopPeriodWrite (sess : Sess) (ax : Ax) (obj : Fin 4) (value : Nat)
  -- PWM
  | updatePoint (ax : Ax)
  | pwOpmodeWrite (sess : Sess) (ax : Ax) (value : Nat)
  | pwShCommit (sess : Sess) (ax : Ax) (value : Nat)
  -- feedback
  | fbLevelChange (port : Ax) (levels : BitVec 4) (runs : LineRuns)
  | hallIllegalTimeout (port : Ax)
  | errLevelDecay (port : Ax)
  | fbModeWrite (sess : Sess) (port : Ax) (value : Nat)
  | fbZArm (sess : Sess) (port : Ax) (value : Nat)
  | serialReadStart (port : Ax) (fba : Bool)
  | serialReadEnd (port : Ax) (bits : List Bool) (mono : Bool)
  | dvEeEnWrite (sess : Sess) (value : Nat)
  -- moves, limits, homing
  | profileWrite (sess : Sess) (i : InstId) (obj : Fin 5) (value : Word)
  | limitLatch (i : InstId) (side : Side)
  | limitRelease (i : InstId) (side : Side)
  | homeCandidateAccepted (i : InstId)
  | hardStopHomeEvent (i : InstId)
  | homeNoSensorTimeout (i : InstId)
  | homingTimeout (i : InstId)
  -- hoops, links, cams, masters
  | hpAdd (sess : Sess) (hp : Hp) (code : Nat)
  | hpRemove (sess : Sess) (hp : Hp) (code : Nat)
  | linkEngage (sess : Sess) (i : InstId)
  | linkDisengage (sess : Sess) (i : InstId)
  | linkDisengageAt (sess : Sess) (i : InstId)
  | camCommit (sess : Sess) (table : Nat)
  | segmentPlace (vm : Fin 16)
  | segmentTakeover (vm : Fin 16)
  | masterOverrun (vm : Fin 16)
  | masterRunout (vm : Fin 16)
  | masterEmpty (vm : Fin 16)
  -- events and actions
  | eventEdge (src : Fin 16) (level : Bool) (rawStamp : Instant)
  | latchCapture (unit : Fin 32)
  | evLtArm (sess : Sess) (unit : Fin 32) (value : Nat)
  | actionWrite (sess : Sess) (offset : Nat) (words : List Word)
  | evCancel (sess : Sess) (value : Word)
  | templateWrite (sess : Sess) (offset : Nat) (words : List Word)
  | actionFire (entry : Fin 1024)
  | pulseOff (ch : Fin 32)
  | actionExpire (entry : Fin 1024)
  | overdueExecute (entry : Fin 1024)
  -- acquisition
  | aqArm (sess : Sess) (unit : Fin 8)
  | aqTrigger (sess : Sess) (unit : Fin 8)
  | aqStop (sess : Sess) (unit : Fin 8)
  | aqArmInstant (unit : Fin 8)
  | aqPostTimeout (unit : Fin 8)
  | aqRead (sess : Sess) (unit : Fin 8) (value : Nat)
  -- field I/O
  | barrierLinkLoss
  | barrierLinkReturn
  | barrierConfigAck (levels : BitVec 32)
  | fieldInputChange (ch : Fin 32) (level : Bool) (arrival : FieldArrival)
  | wireBreak (ch : ChannelHeld)
  | wireBreakEnd (ch : Fin 32)
  | ioOutWrite (sess : Sess) (ch : Fin 32) (value : Nat)
  | ioDirWrite (sess : Sess) (ch : Fin 32) (value : Nat)
  | ioInputConfigWrite (sess : Sess) (ch : Fin 32) (filt : Bool) (value : Nat)
  | readbackError (ch : Fin 32)
  | outputShort (ch : ChannelHeld)
  | outputOvertemp (ch : Fin 32)
  | openLoad (ch : ChannelHeld)
  | demagEnd (ch : Fin 32)
  | fieldUndervoltage (mv : Nat)
  | fieldUndervoltageEnd (mv : Nat)
  | fieldIoReach
  | fieldIoReachRelease
  -- safety die
  | safetyFieldReach
  | safetyFieldReachRelease (switches : List SealRead)
  | safetySelfTestEnd
  | sealRead (switches : List SealRead)
  | safetyChannelChange (inp : SafeIn) (chB : Bool) (level : SafeLevel) (us : Nat)
  | discrepancyFault (inp : SafeStep SafeIn)
  | ss1DelayEnd (zone : SafeStep (Fin 2))
  | autoRestart (zone : SafeStep (Fin 2))
  | safeLevelReleaseDelay (zone : SafeStep (Fin 2))
  | chainTestPulse (chB : Bool) (fellInTime : Bool)
  | gauntletTestPulse (gt : Fin 8) (highSide : Bool) (passed : Bool)
  | gauntletReadbackCheck (gt : SafeStep (Fin 8)) (inBounds : Bool)
  | gauntletCurrentLimit (gt : SafeStep (Fin 8))
  | safetyStatusFrame
  | safetyStatusTimeout
  -- reset, boot, configuration
  | por
  | brownOutCore
  | brownOutIo
  | resetPin
  | refLoss
  | lockup
  | watchdog
  | rsFullReset (sess : Sess) (value : Nat)
  | softFull
  | debug
  | moduleReachRelease (straps : Straps)
  | coreReachRelease
  | trimsLoaded (goodRead : Nat)
  | firmwareVerified
  | configVerified
  | timeBaseStart (xrefValid : Bool)
  | configApplied (bootUs : Nat)
  | unitReset (sess : Sess) (code : Nat)
  | mittenClose (code : Nat)
  | mittenHoldEnd (code : Nat)
  | mittenOpen (code : Nat)
  | cfCommit (sess : Sess) (value : Nat)
  | cfFwUpdate (sess : Sess) (value : Nat)
  | cfSecverRaise (sess : Sess) (value : Nat)
  | dvSelftest (sess : Sess) (value : Nat)
  -- local host port and peripheral ports
  | nullFrame (mode3 : Bool)
  | readInc (q : Req)
  | psXfer (sess : Sess) (n : Fin 2) (bytes : List Byte)
  | psTransferEnd (n : Fin 2) (rx : List Byte)
  -- later rows
  | pdelayRespFollowUp (port : LPort) (seqId : BitVec 16) (respOrigin correction : Int)
  | openLoadEnd (ch : Fin 32)
  | resetSourceRelease (src : ResetSource)
  | safetyInternalFault
  | chainOutReadbackFault
  | hostFrameRefused (mode3 : Bool) (bytes : List Byte)
  deriving DecidableEq, Repr

end Sys2Proof
end

