-- ==== Sys2Proof/Decode.lean ====
section
/-! DEFINITION. The decoder the host's reader asks for. The table of operations and events gives its rows no bits: a
command is no word, so no word spells one. -/

namespace Sys2Proof

/-- The command that a word spells by the table's bits: none, as the table gives no row any bits (chapter 95). -/
def decodeTableWord (_nbits _w : Nat) : Option Instr := none

end Sys2Proof
end

