-- ==== Sys2Proof/Config.lean ====
section
/-! DEFINITION. The values the spec leaves open, each an opaque constant: nothing can be proved of its value. A
statement about the model holds for every choice of them. -/

namespace Sys2Proof.Config

/-- The sine of an angle in turns, where the angle is no multiple of a quarter turn (R222, R243, R305), used within 2^-80 of
the sine: the spec states no arithmetic for it. DESIGN CHOICE (log 10). -/
opaque sin : Rat → Rat
/-- The cosine of an angle in turns, elsewhere than at a multiple of a quarter turn, used within 2^-80. DESIGN CHOICE (log 10). -/
opaque cos : Rat → Rat
/-- A square root that is not rational (R222, R243, R307), used within a relative 2^-63. DESIGN CHOICE (log 10). -/
opaque sqrt : Rat → Rat
/-- The number the module uses for 1/(2π) (R227, R305), used within 2^-80. DESIGN CHOICE (log 10). -/
opaque invTwoPi : Rat
/-- Whether a result that falls between two representable values is taken to the upper one, where the spec states
no rounding. DESIGN CHOICE (log 11). -/
opaque roundUp : Rat → Bool
/-- Where the zero of the low-pass filter of R223 lies, taken into 0 to 1/2: the spec gives its -3 dB point and its order.
DESIGN CHOICE (log 12). -/
opaque lpfZero : Rat
/-- The d and q voltages that identification applies at a release of the current chain, by AX_ID_LEVEL (R226): the spec
gives its results and the level, not the injected sequence. DESIGN CHOICE (log 13). -/
opaque probe : BitVec 36 → Nat → Rat × Rat
/-- Whether an ECDSA P-256 signature verifies with SHA-256 and the key's hash equals the OTP hash (R506); the OTP
hash is the part's own. First the key test, then the signature test. DESIGN CHOICE (log 14). -/
opaque keyAccepted : List (BitVec 8) → Bool
/-- The signature test of R506. DESIGN CHOICE (log 14). -/
opaque signatureGood : List (BitVec 8) → Bool
/-- The distance a relative engage adds between two evaluations (R356: the velocity set-point is integrated): for the
time between them, the velocity set-points at both and σ at the later one. DESIGN CHOICE (log 19). -/
opaque integral : Rat → Rat → Rat → Rat → Rat
/-- The electrical speed, in turns per second, from ACTUAL_VEL and AX_POLE_PAIRS where PW_ENC_PER_REV is 0 (R243 derives
it from the three). DESIGN CHOICE (log 20). -/
opaque elecSpeed : Rat → Nat → Rat
/-- A free word for a value the spec calls undefined; the argument is a count that every use advances.
DESIGN CHOICE (log 15). -/
opaque freeWord : Nat → BitVec 36
/-- Which side a contest takes that the spec leaves undefined (R261, R499 erased content). DESIGN CHOICE (log 15). -/
opaque freeBool : Nat → Bool
/-- The build identifier of the safety die (SF_ID, factory; R480). DESIGN CHOICE (log 16). -/
opaque safetyId : BitVec 36
/-- The firmware's rate filter: the NT_FREQ_EST after a Sync, from the estimate before, the measured offset and the
time since the last one (R173 says that it is updated, not how). DESIGN CHOICE (log 17). -/
opaque rateEstimate : BitVec 36 → Int → Nat → BitVec 36
/-- The servo's choice of NT_INC at a Sync, before the bounds of R161 and R173. DESIGN CHOICE (log 17). -/
opaque servoInc : BitVec 36 → Int → BitVec 36
/-- The station address that the node's own peer-delay messages carry: the part's own. DESIGN CHOICE (log 113). -/
opaque macAddress : BitVec 48
/-- The clock identity that the node's own peer-delay messages carry: the part's own. DESIGN CHOICE (log 113). -/
opaque clockIdentity : BitVec 64
/-- The field die's temperature (IO_TEMP), a measured value. DESIGN CHOICE (log 18). -/
opaque dieTemperature : Nat → Int
/-- VFIELD in mV (IO_VFIELD), a measured value. DESIGN CHOICE (log 18). -/
opaque fieldMillivolts : Nat → Nat
/-- The level at the land of a GPIO input line at an extended time (R530), a measured value. DESIGN CHOICE (log 18). -/
opaque gpioIn : Nat → Nat → Bool

end Sys2Proof.Config
end

