-- ==== Sys2Proof/Machine/ObjNames.lean ====
section
/-! DEFINITION. The object numbers of the spec by their names there (R12, R13): the number [11:0] of an object
address. An indexed object (DV_MCLKc_PERIOD, EV_SRC_DLY[s], DV_EEo_SRC, PSn_MODE, AQ_CH_SRC) has the number of its
element 0. -/

namespace Sys2Proof.Machine.O

/-- DV_BRIM -/ abbrev DV_BRIM : Nat := 0x200
/-- DV_PACE_NOW -/ abbrev DV_PACE_NOW : Nat := 0x201
/-- DV_PACE_MAX -/ abbrev DV_PACE_MAX : Nat := 0x202
/-- DV_PACE_STATE -/ abbrev DV_PACE_STATE : Nat := 0x203
/-- DV_PACE_HOLD -/ abbrev DV_PACE_HOLD : Nat := 0x204
/-- DV_LOAD_RT -/ abbrev DV_LOAD_RT : Nat := 0x205
/-- DV_LOAD_RT_PM -/ abbrev DV_LOAD_RT_PM : Nat := 0x206
/-- DV_SLOT_FILL -/ abbrev DV_SLOT_FILL : Nat := 0x207
/-- DV_TOKENS_RT -/ abbrev DV_TOKENS_RT : Nat := 0x208
/-- DV_TOKENS_NOW -/ abbrev DV_TOKENS_NOW : Nat := 0x209
/-- DV_TOKENS_PEAK -/ abbrev DV_TOKENS_PEAK : Nat := 0x20A
/-- DV_BE_BUDGET -/ abbrev DV_BE_BUDGET : Nat := 0x20B
/-- DV_BE_SHED -/ abbrev DV_BE_SHED : Nat := 0x20C
/-- DV_WARN_PACE -/ abbrev DV_WARN_PACE : Nat := 0x20D
/-- DV_ADMIT_CODE -/ abbrev DV_ADMIT_CODE : Nat := 0x210
/-- DV_ADMIT_OBJ -/ abbrev DV_ADMIT_OBJ : Nat := 0x211
/-- DV_ADMIT_NEED -/ abbrev DV_ADMIT_NEED : Nat := 0x212
/-- DV_ADMIT_WHERE -/ abbrev DV_ADMIT_WHERE : Nat := 0x213
/-- DV_ADMIT_COUNT -/ abbrev DV_ADMIT_COUNT : Nat := 0x214
/-- DV_MISS_COUNT -/ abbrev DV_MISS_COUNT : Nat := 0x215
/-- DV_MISS_LAST -/ abbrev DV_MISS_LAST : Nat := 0x216
/-- HS_STATE -/ abbrev HS_STATE : Nat := 0x000
/-- HS_SERVICE -/ abbrev HS_SERVICE : Nat := 0x001
/-- HS_LEASE -/ abbrev HS_LEASE : Nat := 0x002
/-- HS_LAST_SEEN -/ abbrev HS_LAST_SEEN : Nat := 0x003
/-- HS_CLAIM -/ abbrev HS_CLAIM : Nat := 0x004
/-- HS_RELEASE -/ abbrev HS_RELEASE : Nat := 0x005
/-- HS_ABORT_LAST -/ abbrev HS_ABORT_LAST : Nat := 0x006
/-- HS_ABORT_COUNT -/ abbrev HS_ABORT_COUNT : Nat := 0x007
/-- HS_LAPSE_COUNT -/ abbrev HS_LAPSE_COUNT : Nat := 0x008
/-- HS_OWNER_MAP -/ abbrev HS_OWNER_MAP : Nat := 0x100
/-- HS_CLAIM_WINDOW -/ abbrev HS_CLAIM_WINDOW : Nat := 0x101
/-- HS_BREAK -/ abbrev HS_BREAK : Nat := 0x102
/-- HS_PROT_LOCK -/ abbrev HS_PROT_LOCK : Nat := 0x110
/-- HS_PROT_COUNT -/ abbrev HS_PROT_COUNT : Nat := 0x111
/-- HS_SVC_MASK -/ abbrev HS_SVC_MASK : Nat := 0x112
/-- HS_PROT_TABLE -/ abbrev HS_PROT_TABLE : Nat := 0x113
/-- DG_RIND_MAP -/ abbrev DG_RIND_MAP : Nat := 0x010
/-- STATUS -/ abbrev STATUS : Nat := 0x010
/-- CONTROL -/ abbrev CONTROL : Nat := 0x011
/-- STOP -/ abbrev STOP : Nat := 0x012
/-- OP_STATUS -/ abbrev OP_STATUS : Nat := 0x040
/-- OP_RESULT -/ abbrev OP_RESULT : Nat := 0x041
/-- OP_RESULT_LEN -/ abbrev OP_RESULT_LEN : Nat := 0x042
/-- NT_NODE_ADDR -/ abbrev NT_NODE_ADDR : Nat := 0x300
/-- NT_ADDR_VALID -/ abbrev NT_ADDR_VALID : Nat := 0x301
/-- NT_ADDR_MODE -/ abbrev NT_ADDR_MODE : Nat := 0x302
/-- NT_ADDR_CFG -/ abbrev NT_ADDR_CFG : Nat := 0x303
/-- NT_ETYPE -/ abbrev NT_ETYPE : Nat := 0x304
/-- NT_SPEED_SEL -/ abbrev NT_SPEED_SEL : Nat := 0x305
/-- NT_HEAL_HOLD -/ abbrev NT_HEAL_HOLD : Nat := 0x306
/-- NT_PEND_KEEP -/ abbrev NT_PEND_KEEP : Nat := 0x307
/-- NT_HOPS -/ abbrev NT_HOPS : Nat := 0x308
/-- NT_UPSTREAM -/ abbrev NT_UPSTREAM : Nat := 0x309
/-- NT_REC_CHECK_ERR -/ abbrev NT_REC_CHECK_ERR : Nat := 0x30A
/-- NT_REC_MALFORMED -/ abbrev NT_REC_MALFORMED : Nat := 0x30B
/-- NT_DUPLICATES -/ abbrev NT_DUPLICATES : Nat := 0x30C
/-- NT_LINK -/ abbrev NT_LINK : Nat := 0x310
/-- NT_TURNING -/ abbrev NT_TURNING : Nat := 0x311
/-- NT_RX_FRAMES -/ abbrev NT_RX_FRAMES : Nat := 0x312
/-- NT_RX_DAMEK -/ abbrev NT_RX_DAMEK : Nat := 0x313
/-- NT_FCS_ERR -/ abbrev NT_FCS_ERR : Nat := 0x314
/-- NT_STOMPED -/ abbrev NT_STOMPED : Nat := 0x315
/-- NT_DROPPED -/ abbrev NT_DROPPED : Nat := 0x316
/-- NT_LINK_DOWN_COUNT -/ abbrev NT_LINK_DOWN_COUNT : Nat := 0x317
/-- NT_LONG -/ abbrev NT_LONG : Nat := 0x318
/-- NT_TIME_EXT -/ abbrev NT_TIME_EXT : Nat := 0x100
/-- NT_TIME -/ abbrev NT_TIME : Nat := 0x101
/-- NT_INC -/ abbrev NT_INC : Nat := 0x102
/-- NT_INC_MANUAL -/ abbrev NT_INC_MANUAL : Nat := 0x103
/-- NT_SYNC_MODE -/ abbrev NT_SYNC_MODE : Nat := 0x104
/-- NT_SYNC_STATE -/ abbrev NT_SYNC_STATE : Nat := 0x105
/-- NT_OFFSET -/ abbrev NT_OFFSET : Nat := 0x106
/-- NT_FREQ_EST -/ abbrev NT_FREQ_EST : Nat := 0x107
/-- NT_SYNC_TIMEOUT -/ abbrev NT_SYNC_TIMEOUT : Nat := 0x108
/-- NT_LOCK_THRESH -/ abbrev NT_LOCK_THRESH : Nat := 0x109
/-- NT_STEP_LIMIT -/ abbrev NT_STEP_LIMIT : Nat := 0x10A
/-- NT_SLEW_PPM -/ abbrev NT_SLEW_PPM : Nat := 0x10B
/-- NT_SLEW_MAX -/ abbrev NT_SLEW_MAX : Nat := 0x10C
/-- NT_SLEWING -/ abbrev NT_SLEWING : Nat := 0x10D
/-- NT_STEP_COUNT -/ abbrev NT_STEP_COUNT : Nat := 0x10E
/-- NT_MASTER_ID -/ abbrev NT_MASTER_ID : Nat := 0x10F
/-- NT_PTP_DOMAIN -/ abbrev NT_PTP_DOMAIN : Nat := 0x110
/-- NT_PTP_PORT -/ abbrev NT_PTP_PORT : Nat := 0x111
/-- NT_LOSS_COUNT -/ abbrev NT_LOSS_COUNT : Nat := 0x112
/-- NT_REF_SEL -/ abbrev NT_REF_SEL : Nat := 0x113
/-- NT_REF_IN_USE -/ abbrev NT_REF_IN_USE : Nat := 0x114
/-- NT_PDELAY_INTERVAL -/ abbrev NT_PDELAY_INTERVAL : Nat := 0x115
/-- NT_TIME_SET -/ abbrev NT_TIME_SET : Nat := 0x116
/-- NT_PDELAY -/ abbrev NT_PDELAY : Nat := 0x120
/-- NT_RX_CORR -/ abbrev NT_RX_CORR : Nat := 0x121
/-- NT_TX_CORR -/ abbrev NT_TX_CORR : Nat := 0x122
/-- NT_TS_USER -/ abbrev NT_TS_USER : Nat := 0x123
/-- NT_PDELAY_FAIL -/ abbrev NT_PDELAY_FAIL : Nat := 0x124
/-- FAULT_CAUSE -/ abbrev FAULT_CAUSE : Nat := 0x013
/-- FAULT_LAST -/ abbrev FAULT_LAST : Nat := 0x014
/-- FAULT_TIME -/ abbrev FAULT_TIME : Nat := 0x015
/-- FAULT_COUNT -/ abbrev FAULT_COUNT : Nat := 0x016
/-- WARN_CAUSE -/ abbrev WARN_CAUSE : Nat := 0x017
/-- WARN_LATCH -/ abbrev WARN_LATCH : Nat := 0x018
/-- ACTUAL_IQ -/ abbrev ACTUAL_IQ : Nat := 0x033
/-- FAULT_REACT -/ abbrev FAULT_REACT : Nat := 0x050
/-- DISABLE_REACT -/ abbrev DISABLE_REACT : Nat := 0x051
/-- QSTOP_DEC -/ abbrev QSTOP_DEC : Nat := 0x052
/-- QSTOP_REACT -/ abbrev QSTOP_REACT : Nat := 0x053
/-- STOP_TMAX -/ abbrev STOP_TMAX : Nat := 0x054
/-- SS_VEL -/ abbrev SS_VEL : Nat := 0x058
/-- SS_TIME -/ abbrev SS_TIME : Nat := 0x059
/-- SS_WINDOW -/ abbrev SS_WINDOW : Nat := 0x05A
/-- FE_WARN -/ abbrev FE_WARN : Nat := 0x060
/-- FE_LIMIT -/ abbrev FE_LIMIT : Nat := 0x061
/-- FE_TIME -/ abbrev FE_TIME : Nat := 0x062
/-- VE_LIMIT -/ abbrev VE_LIMIT : Nat := 0x063
/-- VEL_LIMIT -/ abbrev VEL_LIMIT : Nat := 0x064
/-- OVERSPEED -/ abbrev OVERSPEED : Nat := 0x065
/-- TARGET_TORQUE -/ abbrev TARGET_TORQUE : Nat := 0x068
/-- TORQUE_SLOPE -/ abbrev TORQUE_SLOPE : Nat := 0x069
/-- AX_CL_K -/ abbrev AX_CL_K : Nat := 0x100
/-- AX_VL_M -/ abbrev AX_VL_M : Nat := 0x101
/-- AX_PL_P -/ abbrev AX_PL_P : Nat := 0x102
/-- AX_CL_LEAD -/ abbrev AX_CL_LEAD : Nat := 0x103
/-- AX_PHASE -/ abbrev AX_PHASE : Nat := 0x104
/-- AX_MOTOR_TYPE -/ abbrev AX_MOTOR_TYPE : Nat := 0x110
/-- AX_POLE_PAIRS -/ abbrev AX_POLE_PAIRS : Nat := 0x111
/-- AX_I_FULL -/ abbrev AX_I_FULL : Nat := 0x112
/-- AX_V_FULL -/ abbrev AX_V_FULL : Nat := 0x113
/-- AX_RS -/ abbrev AX_RS : Nat := 0x114
/-- AX_LD -/ abbrev AX_LD : Nat := 0x115
/-- AX_LQ -/ abbrev AX_LQ : Nat := 0x116
/-- AX_VEL_SCALE -/ abbrev AX_VEL_SCALE : Nat := 0x117
/-- AX_ACC_FULL -/ abbrev AX_ACC_FULL : Nat := 0x118
/-- AX_PP_KP -/ abbrev AX_PP_KP : Nat := 0x120
/-- AX_PP_VFF -/ abbrev AX_PP_VFF : Nat := 0x121
/-- AX_VP_KP -/ abbrev AX_VP_KP : Nat := 0x122
/-- AX_VP_KI -/ abbrev AX_VP_KI : Nat := 0x123
/-- AX_VP_AFF -/ abbrev AX_VP_AFF : Nat := 0x124
/-- AX_IQ_LPF -/ abbrev AX_IQ_LPF : Nat := 0x125
/-- AX_NOTCH_F -/ abbrev AX_NOTCH_F : Nat := 0x126
/-- AX_NOTCH_BW -/ abbrev AX_NOTCH_BW : Nat := 0x127
/-- AX_IQ_LIMIT -/ abbrev AX_IQ_LIMIT : Nat := 0x128
/-- AX_CD_KP -/ abbrev AX_CD_KP : Nat := 0x130
/-- AX_CD_KI -/ abbrev AX_CD_KI : Nat := 0x131
/-- AX_CQ_KP -/ abbrev AX_CQ_KP : Nat := 0x132
/-- AX_CQ_KI -/ abbrev AX_CQ_KI : Nat := 0x133
/-- AX_ID_REF -/ abbrev AX_ID_REF : Nat := 0x134
/-- AX_VMAX -/ abbrev AX_VMAX : Nat := 0x135
/-- AX_DECOUPLE -/ abbrev AX_DECOUPLE : Nat := 0x136
/-- AX_I_CONT -/ abbrev AX_I_CONT : Nat := 0x140
/-- AX_I2T_TAU -/ abbrev AX_I2T_TAU : Nat := 0x141
/-- AX_I2T_MODE -/ abbrev AX_I2T_MODE : Nat := 0x142
/-- AX_I2T_LEVEL -/ abbrev AX_I2T_LEVEL : Nat := 0x143
/-- AX_BRAKE_OUT -/ abbrev AX_BRAKE_OUT : Nat := 0x150
/-- AX_BRAKE_RELEASE_T -/ abbrev AX_BRAKE_RELEASE_T : Nat := 0x151
/-- AX_BRAKE_ENGAGE_T -/ abbrev AX_BRAKE_ENGAGE_T : Nat := 0x152
/-- AX_GATE_SETTLE -/ abbrev AX_GATE_SETTLE : Nat := 0x153
/-- AX_ID_LEVEL -/ abbrev AX_ID_LEVEL : Nat := 0x160
/-- AX_ID_APPLY -/ abbrev AX_ID_APPLY : Nat := 0x161
/-- AX_AT_BW -/ abbrev AX_AT_BW : Nat := 0x162
/-- AX_AT_LEVEL -/ abbrev AX_AT_LEVEL : Nat := 0x163
/-- AX_AT_APPLY -/ abbrev AX_AT_APPLY : Nat := 0x164
/-- DV_MCLKc_PERIOD -/ abbrev DV_MCLKc_PERIOD : Nat := 0x400
/-- DV_MCLK_EN -/ abbrev DV_MCLK_EN : Nat := 0x408
/-- DV_MCLKc_DLY -/ abbrev DV_MCLKc_DLY : Nat := 0x410
/-- DV_TRIPt_QUAL -/ abbrev DV_TRIPt_QUAL : Nat := 0x420
/-- DV_TRIP_EN -/ abbrev DV_TRIP_EN : Nat := 0x428
/-- DV_TRIP_POL -/ abbrev DV_TRIP_POL : Nat := 0x429
/-- DV_TRIP_STATE -/ abbrev DV_TRIP_STATE : Nat := 0x42A
/-- DV_TRIP_LATCH -/ abbrev DV_TRIP_LATCH : Nat := 0x42B
/-- DV_TRIPt_COUNT -/ abbrev DV_TRIPt_COUNT : Nat := 0x430
/-- PW_PERIOD -/ abbrev PW_PERIOD : Nat := 0x100
/-- PW_ALIGN -/ abbrev PW_ALIGN : Nat := 0x101
/-- PW_UPDATE -/ abbrev PW_UPDATE : Nat := 0x102
/-- PW_MIN_PULSE -/ abbrev PW_MIN_PULSE : Nat := 0x103
/-- PW_REFRESH -/ abbrev PW_REFRESH : Nat := 0x104
/-- PW_START_DUTY -/ abbrev PW_START_DUTY : Nat := 0x105
/-- PW_MOD -/ abbrev PW_MOD : Nat := 0x106
/-- PW_VBUS -/ abbrev PW_VBUS : Nat := 0x107
/-- PW_VDT -/ abbrev PW_VDT : Nat := 0x108
/-- PW_ANGLE_COMP -/ abbrev PW_ANGLE_COMP : Nat := 0x109
/-- PW_OPMODE -/ abbrev PW_OPMODE : Nat := 0x110
/-- PW_SH_PERIOD -/ abbrev PW_SH_PERIOD : Nat := 0x111
/-- PW_SH_CMP_U -/ abbrev PW_SH_CMP_U : Nat := 0x112
/-- PW_SH_CMP_V -/ abbrev PW_SH_CMP_V : Nat := 0x113
/-- PW_SH_CMP_W -/ abbrev PW_SH_CMP_W : Nat := 0x114
/-- PW_SH_COMMIT -/ abbrev PW_SH_COMMIT : Nat := 0x115
/-- PW_FLAGS -/ abbrev PW_FLAGS : Nat := 0x116
/-- PW_DUTY_U -/ abbrev PW_DUTY_U : Nat := 0x118
/-- PW_DUTY_V -/ abbrev PW_DUTY_V : Nat := 0x119
/-- PW_DUTY_W -/ abbrev PW_DUTY_W : Nat := 0x11A
/-- PW_SD_CLK -/ abbrev PW_SD_CLK : Nat := 0x120
/-- PW_SD_EDGE -/ abbrev PW_SD_EDGE : Nat := 0x121
/-- PW_OSR_LOOP -/ abbrev PW_OSR_LOOP : Nat := 0x122
/-- PW_OSR_TRIP -/ abbrev PW_OSR_TRIP : Nat := 0x123
/-- PW_SD_GAIN -/ abbrev PW_SD_GAIN : Nat := 0x124
/-- PW_SD_OFS_U -/ abbrev PW_SD_OFS_U : Nat := 0x125
/-- PW_SD_OFS_V -/ abbrev PW_SD_OFS_V : Nat := 0x126
/-- PW_SD_AGE -/ abbrev PW_SD_AGE : Nat := 0x127
/-- PW_GROUP_DELAY -/ abbrev PW_GROUP_DELAY : Nat := 0x128
/-- PW_I_U -/ abbrev PW_I_U : Nat := 0x129
/-- PW_I_V -/ abbrev PW_I_V : Nat := 0x12A
/-- PW_OC_LIMIT -/ abbrev PW_OC_LIMIT : Nat := 0x130
/-- PW_OC_SPREAD -/ abbrev PW_OC_SPREAD : Nat := 0x131
/-- PW_TRIP_SEL -/ abbrev PW_TRIP_SEL : Nat := 0x132
/-- PW_TRIP_SRC -/ abbrev PW_TRIP_SRC : Nat := 0x133
/-- PW_COMM_SRC -/ abbrev PW_COMM_SRC : Nat := 0x150
/-- PW_ENC_PER_REV -/ abbrev PW_ENC_PER_REV : Nat := 0x151
/-- PW_COMM_OFFSET -/ abbrev PW_COMM_OFFSET : Nat := 0x152
/-- PW_HALL_PORT -/ abbrev PW_HALL_PORT : Nat := 0x153
/-- PW_HALL_OFFSET -/ abbrev PW_HALL_OFFSET : Nat := 0x154
/-- PW_HALL_INTERP -/ abbrev PW_HALL_INTERP : Nat := 0x155
/-- PW_COMM_TOL -/ abbrev PW_COMM_TOL : Nat := 0x156
/-- PW_ALIGN_LEVEL -/ abbrev PW_ALIGN_LEVEL : Nat := 0x157
/-- PW_ALIGN_TIME -/ abbrev PW_ALIGN_TIME : Nat := 0x158
/-- PW_ANGLE -/ abbrev PW_ANGLE : Nat := 0x159
/-- PW_COMM_VALID -/ abbrev PW_COMM_VALID : Nat := 0x15A
/-- FB_STATUS -/ abbrev FB_STATUS : Nat := 0x010
/-- FB_POS -/ abbrev FB_POS : Nat := 0x011
/-- FB_EDGE_TIME -/ abbrev FB_EDGE_TIME : Nat := 0x012
/-- FB_LINES -/ abbrev FB_LINES : Nat := 0x013
/-- FB_HALL_SECTOR -/ abbrev FB_HALL_SECTOR : Nat := 0x014
/-- FB_ERR_LEVEL -/ abbrev FB_ERR_LEVEL : Nat := 0x015
/-- FB_ERR_COUNT -/ abbrev FB_ERR_COUNT : Nat := 0x016
/-- FB_LATCH -/ abbrev FB_LATCH : Nat := 0x017
/-- FB_INDEX_POS -/ abbrev FB_INDEX_POS : Nat := 0x018
/-- FB_INDEX_TIME -/ abbrev FB_INDEX_TIME : Nat := 0x019
/-- FB_INDEX_COUNT -/ abbrev FB_INDEX_COUNT : Nat := 0x01A
/-- FB_Z_ARM -/ abbrev FB_Z_ARM : Nat := 0x01B
/-- FB_SER_RAW -/ abbrev FB_SER_RAW : Nat := 0x01C
/-- FB_SER_ERR -/ abbrev FB_SER_ERR : Nat := 0x01D
/-- FB_SPD_SPAN -/ abbrev FB_SPD_SPAN : Nat := 0x01E
/-- FB_MODE -/ abbrev FB_MODE : Nat := 0x100
/-- FB_FILT_N -/ abbrev FB_FILT_N : Nat := 0x101
/-- FB_POL -/ abbrev FB_POL : Nat := 0x102
/-- FB_DIR -/ abbrev FB_DIR : Nat := 0x103
/-- FB_ERR_LIMIT -/ abbrev FB_ERR_LIMIT : Nat := 0x104
/-- FB_ERR_DECAY -/ abbrev FB_ERR_DECAY : Nat := 0x105
/-- FB_ALARM_EN -/ abbrev FB_ALARM_EN : Nat := 0x106
/-- FB_Z_MODE -/ abbrev FB_Z_MODE : Nat := 0x110
/-- FB_Z_GATE -/ abbrev FB_Z_GATE : Nat := 0x111
/-- FB_INDEX_PERIOD -/ abbrev FB_INDEX_PERIOD : Nat := 0x112
/-- FB_INDEX_TOL -/ abbrev FB_INDEX_TOL : Nat := 0x113
/-- FB_HALL_ILL_T -/ abbrev FB_HALL_ILL_T : Nat := 0x120
/-- FB_SER_BITS -/ abbrev FB_SER_BITS : Nat := 0x130
/-- FB_SER_CODE -/ abbrev FB_SER_CODE : Nat := 0x131
/-- FB_SER_LEAD -/ abbrev FB_SER_LEAD : Nat := 0x132
/-- FB_SER_TRAIL -/ abbrev FB_SER_TRAIL : Nat := 0x133
/-- FB_SER_ERRMASK -/ abbrev FB_SER_ERRMASK : Nat := 0x134
/-- FB_SER_CRC_LEN -/ abbrev FB_SER_CRC_LEN : Nat := 0x135
/-- FB_SER_CRC_POLY -/ abbrev FB_SER_CRC_POLY : Nat := 0x136
/-- FB_SER_CRC_INV -/ abbrev FB_SER_CRC_INV : Nat := 0x137
/-- FB_SER_PERIOD -/ abbrev FB_SER_PERIOD : Nat := 0x138
/-- FB_SER_DLY -/ abbrev FB_SER_DLY : Nat := 0x139
/-- FB_SER_TM -/ abbrev FB_SER_TM : Nat := 0x13A
/-- FB_SER_JUMP -/ abbrev FB_SER_JUMP : Nat := 0x13B
/-- FB_SPD_MATCH -/ abbrev FB_SPD_MATCH : Nat := 0x140
/-- FB_SPD_WIN -/ abbrev FB_SPD_WIN : Nat := 0x141
/-- FB_SPD_TMAX -/ abbrev FB_SPD_TMAX : Nat := 0x142
/-- DV_EE_EN -/ abbrev DV_EE_EN : Nat := 0x500
/-- DV_EE_LAG -/ abbrev DV_EE_LAG : Nat := 0x501
/-- DV_EE_NOSRC -/ abbrev DV_EE_NOSRC : Nat := 0x502
/-- DV_EEo_SRC -/ abbrev DV_EEo_SRC : Nat := 0x510
/-- DV_EEo_NUM -/ abbrev DV_EEo_NUM : Nat := 0x511
/-- DV_EEo_DEN -/ abbrev DV_EEo_DEN : Nat := 0x512
/-- DV_EEo_Z_PERIOD -/ abbrev DV_EEo_Z_PERIOD : Nat := 0x513
/-- DV_EEo_Z_POS -/ abbrev DV_EEo_Z_POS : Nat := 0x514
/-- DV_EEo_COUNT -/ abbrev DV_EEo_COUNT : Nat := 0x515
/-- TARGET_POS -/ abbrev TARGET_POS : Nat := 0x020
/-- PROFILE_VEL -/ abbrev PROFILE_VEL : Nat := 0x021
/-- PROFILE_ACC -/ abbrev PROFILE_ACC : Nat := 0x022
/-- PROFILE_DEC -/ abbrev PROFILE_DEC : Nat := 0x023
/-- BLEND_SHAPE -/ abbrev BLEND_SHAPE : Nat := 0x024
/-- MQ_BLEND -/ abbrev MQ_BLEND : Nat := 0x025
/-- MQ_COUNT -/ abbrev MQ_COUNT : Nat := 0x026
/-- MQ_DROPPED -/ abbrev MQ_DROPPED : Nat := 0x027
/-- ACTUAL_POS -/ abbrev ACTUAL_POS : Nat := 0x030
/-- ACTUAL_VEL -/ abbrev ACTUAL_VEL : Nat := 0x031
/-- FOLLOW_ERR -/ abbrev FOLLOW_ERR : Nat := 0x032
/-- POS_CONT -/ abbrev POS_CONT : Nat := 0x034
/-- POS_OFFSET -/ abbrev POS_OFFSET : Nat := 0x035
/-- POS_SP -/ abbrev POS_SP : Nat := 0x036
/-- VEL_SP -/ abbrev VEL_SP : Nat := 0x037
/-- TGT_WIN -/ abbrev TGT_WIN : Nat := 0x038
/-- TGT_TIME -/ abbrev TGT_TIME : Nat := 0x039
/-- LIM_POS_IN -/ abbrev LIM_POS_IN : Nat := 0x070
/-- LIM_NEG_IN -/ abbrev LIM_NEG_IN : Nat := 0x071
/-- LIM_POL -/ abbrev LIM_POL : Nat := 0x072
/-- LIM_REACT -/ abbrev LIM_REACT : Nat := 0x073
/-- LIM_REL_T -/ abbrev LIM_REL_T : Nat := 0x074
/-- LIM_STATUS -/ abbrev LIM_STATUS : Nat := 0x075
/-- LIM_CHATTER -/ abbrev LIM_CHATTER : Nat := 0x076
/-- VLIM_MODE -/ abbrev VLIM_MODE : Nat := 0x078
/-- VLIM_POS -/ abbrev VLIM_POS : Nat := 0x079
/-- VLIM_NEG -/ abbrev VLIM_NEG : Nat := 0x07A
/-- HOME_IN -/ abbrev HOME_IN : Nat := 0x080
/-- HOME_METHOD -/ abbrev HOME_METHOD : Nat := 0x081
/-- HOME_DIR -/ abbrev HOME_DIR : Nat := 0x082
/-- HOME_VEL_FAST -/ abbrev HOME_VEL_FAST : Nat := 0x083
/-- HOME_VEL_SLOW -/ abbrev HOME_VEL_SLOW : Nat := 0x084
/-- HOME_ACC -/ abbrev HOME_ACC : Nat := 0x085
/-- HOME_POS -/ abbrev HOME_POS : Nat := 0x086
/-- HOME_DIST -/ abbrev HOME_DIST : Nat := 0x087
/-- HOME_DEBOUNCE -/ abbrev HOME_DEBOUNCE : Nat := 0x088
/-- HOME_REVERSE -/ abbrev HOME_REVERSE : Nat := 0x089
/-- HOME_GOTO -/ abbrev HOME_GOTO : Nat := 0x08A
/-- HOME_IQ -/ abbrev HOME_IQ : Nat := 0x08B
/-- HOME_HS_T -/ abbrev HOME_HS_T : Nat := 0x08C
/-- HOME_INDEX_DIST -/ abbrev HOME_INDEX_DIST : Nat := 0x08D
/-- HOME_TMAX -/ abbrev HOME_TMAX : Nat := 0x08E
/-- MODULO -/ abbrev MODULO : Nat := 0x090
/-- MOD_DIR -/ abbrev MOD_DIR : Nat := 0x091
/-- PARENT -/ abbrev PARENT : Nat := 0x019
/-- LINK_TYPE -/ abbrev LINK_TYPE : Nat := 0x0A0
/-- LINK_TABLE -/ abbrev LINK_TABLE : Nat := 0x0A1
/-- LINK_NUM -/ abbrev LINK_NUM : Nat := 0x0A2
/-- LINK_DEN -/ abbrev LINK_DEN : Nat := 0x0A3
/-- LINK_X_OFS -/ abbrev LINK_X_OFS : Nat := 0x0A4
/-- LINK_Y_OFS -/ abbrev LINK_Y_OFS : Nat := 0x0A5
/-- LINK_REL -/ abbrev LINK_REL : Nat := 0x0A6
/-- ENG_MODE -/ abbrev ENG_MODE : Nat := 0x0A7
/-- ENG_AT -/ abbrev ENG_AT : Nat := 0x0A8
/-- ENG_TIME -/ abbrev ENG_TIME : Nat := 0x0A9
/-- ENG_DIST -/ abbrev ENG_DIST : Nat := 0x0AA
/-- DIS_AT -/ abbrev DIS_AT : Nat := 0x0AB
/-- SHARE_WEIGHT -/ abbrev SHARE_WEIGHT : Nat := 0x0AC
/-- LINK_CMD -/ abbrev LINK_CMD : Nat := 0x0AD
/-- LINK_STATE -/ abbrev LINK_STATE : Nat := 0x0AE
/-- CYCLE -/ abbrev CYCLE : Nat := 0x0AF
/-- HP_KIND -/ abbrev HP_KIND : Nat := 0x100
/-- HP_PERIOD -/ abbrev HP_PERIOD : Nat := 0x101
/-- HP_PL_P -/ abbrev HP_PL_P : Nat := 0x102
/-- HP_POLICY -/ abbrev HP_POLICY : Nat := 0x103
/-- HP_ADD -/ abbrev HP_ADD : Nat := 0x104
/-- HP_REMOVE -/ abbrev HP_REMOVE : Nat := 0x105
/-- HP_MEMBERS -/ abbrev HP_MEMBERS : Nat := 0x106
/-- HP_COUNT -/ abbrev HP_COUNT : Nat := 0x107
/-- HP_SRC -/ abbrev HP_SRC : Nat := 0x110
/-- HP_SHARE_FB -/ abbrev HP_SHARE_FB : Nat := 0x120
/-- HP_I_FULL -/ abbrev HP_I_FULL : Nat := 0x121
/-- HP_PP_KP -/ abbrev HP_PP_KP : Nat := 0x122
/-- HP_PP_VFF -/ abbrev HP_PP_VFF : Nat := 0x123
/-- HP_VP_KP -/ abbrev HP_VP_KP : Nat := 0x124
/-- HP_VP_KI -/ abbrev HP_VP_KI : Nat := 0x125
/-- HP_VEL_SCALE -/ abbrev HP_VEL_SCALE : Nat := 0x126
/-- HP_IQ_LIMIT -/ abbrev HP_IQ_LIMIT : Nat := 0x127
/-- CM_MEM -/ abbrev CM_MEM : Nat := 0x100
/-- CM_COMMIT -/ abbrev CM_COMMIT : Nat := 0x110
/-- CM_TAB_BASE -/ abbrev CM_TAB_BASE : Nat := 0x200
/-- CM_TAB_VER -/ abbrev CM_TAB_VER : Nat := 0x201
/-- CM_TAB_WORDS -/ abbrev CM_TAB_WORDS : Nat := 0x202
/-- CM_TAB_USERS -/ abbrev CM_TAB_USERS : Nat := 0x203
/-- CM_TAB_RETAINED -/ abbrev CM_TAB_RETAINED : Nat := 0x204
/-- CM_VM_SEGMENT -/ abbrev CM_VM_SEGMENT : Nat := 0x300
/-- CM_VM_STATE -/ abbrev CM_VM_STATE : Nat := 0x301
/-- CM_VM_POS -/ abbrev CM_VM_POS : Nat := 0x302
/-- CM_VM_VEL -/ abbrev CM_VM_VEL : Nat := 0x303
/-- CM_VM_ACC -/ abbrev CM_VM_ACC : Nat := 0x304
/-- CM_VM_FORCE -/ abbrev CM_VM_FORCE : Nat := 0x305
/-- CM_VM_QUEUED -/ abbrev CM_VM_QUEUED : Nat := 0x306
/-- CM_VM_GRACE -/ abbrev CM_VM_GRACE : Nat := 0x307
/-- CM_VM_STOP_DEC -/ abbrev CM_VM_STOP_DEC : Nat := 0x308
/-- CM_VM_JUMP_TOL -/ abbrev CM_VM_JUMP_TOL : Nat := 0x309
/-- CM_VM_MERGE_T -/ abbrev CM_VM_MERGE_T : Nat := 0x30A
/-- CM_VM_LATE_MAX -/ abbrev CM_VM_LATE_MAX : Nat := 0x30B
/-- CM_VM_REF_CODE -/ abbrev CM_VM_REF_CODE : Nat := 0x30C
/-- CM_VM_REF_COUNT -/ abbrev CM_VM_REF_COUNT : Nat := 0x30D
/-- CM_VM_MERGE_LAST -/ abbrev CM_VM_MERGE_LAST : Nat := 0x30E
/-- CM_VM_RUNOUT_COUNT -/ abbrev CM_VM_RUNOUT_COUNT : Nat := 0x30F
/-- EV_QUEUE -/ abbrev EV_QUEUE : Nat := 0x100
/-- EV_STATUS -/ abbrev EV_STATUS : Nat := 0x101
/-- EV_CANCEL -/ abbrev EV_CANCEL : Nat := 0x102
/-- EV_REF_PERIOD -/ abbrev EV_REF_PERIOD : Nat := 0x103
/-- EV_PRED_HORIZON -/ abbrev EV_PRED_HORIZON : Nat := 0x104
/-- EV_ARMED -/ abbrev EV_ARMED : Nat := 0x105
/-- EV_CROSSING -/ abbrev EV_CROSSING : Nat := 0x106
/-- EV_DONE_COUNT -/ abbrev EV_DONE_COUNT : Nat := 0x107
/-- EV_LATE_COUNT -/ abbrev EV_LATE_COUNT : Nat := 0x108
/-- EV_EXPIRED_COUNT -/ abbrev EV_EXPIRED_COUNT : Nat := 0x109
/-- EV_RULE_BASE -/ abbrev EV_RULE_BASE : Nat := 0x10A
/-- EV_RULE_FAIL_COUNT -/ abbrev EV_RULE_FAIL_COUNT : Nat := 0x10B
/-- EV_NET_DROPPED -/ abbrev EV_NET_DROPPED : Nat := 0x10C
/-- EV_TPL -/ abbrev EV_TPL : Nat := 0x110
/-- EV_NETRX -/ abbrev EV_NETRX : Nat := 0x120
/-- EV_NETRX_COUNT -/ abbrev EV_NETRX_COUNT : Nat := 0x121
/-- EV_SRC_DLY -/ abbrev EV_SRC_DLY : Nat := 0x300
/-- EV_IN_CORR -/ abbrev EV_IN_CORR : Nat := 0x340
/-- EV_EVT_FILT_N -/ abbrev EV_EVT_FILT_N : Nat := 0x380
/-- EV_OUT_CORR -/ abbrev EV_OUT_CORR : Nat := 0x3A0
/-- EV_LT_MODE -/ abbrev EV_LT_MODE : Nat := 0x200
/-- EV_LT_SRC -/ abbrev EV_LT_SRC : Nat := 0x201
/-- EV_LT_EDGE -/ abbrev EV_LT_EDGE : Nat := 0x202
/-- EV_LT_TGT -/ abbrev EV_LT_TGT : Nat := 0x203
/-- EV_LT_ARM -/ abbrev EV_LT_ARM : Nat := 0x204
/-- EV_LT_LAST -/ abbrev EV_LT_LAST : Nat := 0x205
/-- EV_LT_COUNT -/ abbrev EV_LT_COUNT : Nat := 0x206
/-- EV_LT_RING -/ abbrev EV_LT_RING : Nat := 0x207
/-- EV_LT_FLAGS -/ abbrev EV_LT_FLAGS : Nat := 0x208
/-- EV_LT_RULE -/ abbrev EV_LT_RULE : Nat := 0x209
/-- EV_LT_NETSEND -/ abbrev EV_LT_NETSEND : Nat := 0x20A
/-- EV_LT_NETID -/ abbrev EV_LT_NETID : Nat := 0x20B
/-- AQ_STATE -/ abbrev AQ_STATE : Nat := 0x100
/-- AQ_CMD -/ abbrev AQ_CMD : Nat := 0x101
/-- AQ_BASE -/ abbrev AQ_BASE : Nat := 0x102
/-- AQ_DEPTH -/ abbrev AQ_DEPTH : Nat := 0x103
/-- AQ_PRE -/ abbrev AQ_PRE : Nat := 0x104
/-- AQ_POST_T -/ abbrev AQ_POST_T : Nat := 0x105
/-- AQ_PERIOD -/ abbrev AQ_PERIOD : Nat := 0x106
/-- AQ_HOLDOFF -/ abbrev AQ_HOLDOFF : Nat := 0x107
/-- AQ_TRIG_EN -/ abbrev AQ_TRIG_EN : Nat := 0x108
/-- AQ_TRIG_CH -/ abbrev AQ_TRIG_CH : Nat := 0x109
/-- AQ_TRIG_LEVEL -/ abbrev AQ_TRIG_LEVEL : Nat := 0x10A
/-- AQ_TRIG_SLOPE -/ abbrev AQ_TRIG_SLOPE : Nat := 0x10B
/-- AQ_TRIG_EVT -/ abbrev AQ_TRIG_EVT : Nat := 0x10C
/-- AQ_TRIG_BUS -/ abbrev AQ_TRIG_BUS : Nat := 0x10D
/-- AQ_NET_SEND -/ abbrev AQ_NET_SEND : Nat := 0x10E
/-- AQ_NET_ID -/ abbrev AQ_NET_ID : Nat := 0x10F
/-- AQ_TRIG_TIME -/ abbrev AQ_TRIG_TIME : Nat := 0x110
/-- AQ_TRIG_CAUSE -/ abbrev AQ_TRIG_CAUSE : Nat := 0x111
/-- AQ_PRE_GOT -/ abbrev AQ_PRE_GOT : Nat := 0x112
/-- AQ_POST_GOT -/ abbrev AQ_POST_GOT : Nat := 0x113
/-- AQ_FILL -/ abbrev AQ_FILL : Nat := 0x114
/-- AQ_FLAGS -/ abbrev AQ_FLAGS : Nat := 0x115
/-- AQ_TRIG_IGNORED -/ abbrev AQ_TRIG_IGNORED : Nat := 0x116
/-- AQ_LOST -/ abbrev AQ_LOST : Nat := 0x117
/-- AQ_ARM_TIME -/ abbrev AQ_ARM_TIME : Nat := 0x118
/-- AQ_READ -/ abbrev AQ_READ : Nat := 0x119
/-- AQ_NET_DROPPED -/ abbrev AQ_NET_DROPPED : Nat := 0x11A
/-- AQ_CH_SRC -/ abbrev AQ_CH_SRC : Nat := 0x200
/-- AQ_CH_DEADBAND -/ abbrev AQ_CH_DEADBAND : Nat := 0x201
/-- AQ_CH_SKEW -/ abbrev AQ_CH_SKEW : Nat := 0x202
/-- AQ_CH_AUTO -/ abbrev AQ_CH_AUTO : Nat := 0x203
/-- IO_IN -/ abbrev IO_IN : Nat := 0x010
/-- IO_DIAG -/ abbrev IO_DIAG : Nat := 0x011
/-- IO_DIAG_LATCH -/ abbrev IO_DIAG_LATCH : Nat := 0x012
/-- IO_EDGE_COUNT -/ abbrev IO_EDGE_COUNT : Nat := 0x013
/-- IO_OUT -/ abbrev IO_OUT : Nat := 0x020
/-- IO_DIR -/ abbrev IO_DIR : Nat := 0x100
/-- IO_IN_TYPE -/ abbrev IO_IN_TYPE : Nat := 0x101
/-- IO_IN_FILT -/ abbrev IO_IN_FILT : Nat := 0x102
/-- IO_WB_EN -/ abbrev IO_WB_EN : Nat := 0x103
/-- IO_WB_T -/ abbrev IO_WB_T : Nat := 0x104
/-- IO_RB_T -/ abbrev IO_RB_T : Nat := 0x105
/-- IO_OL_EN -/ abbrev IO_OL_EN : Nat := 0x106
/-- IO_LINK -/ abbrev IO_LINK : Nat := 0x300
/-- IO_LINK_LOSS_COUNT -/ abbrev IO_LINK_LOSS_COUNT : Nat := 0x301
/-- IO_FIELD_UV -/ abbrev IO_FIELD_UV : Nat := 0x302
/-- IO_VFIELD -/ abbrev IO_VFIELD : Nat := 0x303
/-- IO_TEMP -/ abbrev IO_TEMP : Nat := 0x304
/-- IO_FIELD_RESETS -/ abbrev IO_FIELD_RESETS : Nat := 0x305
/-- IO_CMD_DROPPED -/ abbrev IO_CMD_DROPPED : Nat := 0x306
/-- SF_SEAL -/ abbrev SF_SEAL : Nat := 0x100
/-- SF_DISC_T -/ abbrev SF_DISC_T : Nat := 0x101
/-- SF_SS1_T -/ abbrev SF_SS1_T : Nat := 0x102
/-- SF_INPUTS -/ abbrev SF_INPUTS : Nat := 0x103
/-- SF_GAUNTLETS -/ abbrev SF_GAUNTLETS : Nat := 0x104
/-- SF_FAULT -/ abbrev SF_FAULT : Nat := 0x105
/-- SF_LINK -/ abbrev SF_LINK : Nat := 0x106
/-- SF_DEMAND_COUNT -/ abbrev SF_DEMAND_COUNT : Nat := 0x107
/-- SF_DISC_COUNT -/ abbrev SF_DISC_COUNT : Nat := 0x108
/-- SF_ID -/ abbrev SF_ID : Nat := 0x109
/-- SF_ZONE_STATE -/ abbrev SF_ZONE_STATE : Nat := 0x110
/-- SF_ZONE_CAUSE -/ abbrev SF_ZONE_CAUSE : Nat := 0x111
/-- RS_CAUSE -/ abbrev RS_CAUSE : Nat := 0x100
/-- RS_EPISODES -/ abbrev RS_EPISODES : Nat := 0x101
/-- RS_FLAGS -/ abbrev RS_FLAGS : Nat := 0x102
/-- RS_BOOT_STATE -/ abbrev RS_BOOT_STATE : Nat := 0x103
/-- RS_BOOT_TIME -/ abbrev RS_BOOT_TIME : Nat := 0x104
/-- RS_STRAPS -/ abbrev RS_STRAPS : Nat := 0x105
/-- RS_FULL_RESET -/ abbrev RS_FULL_RESET : Nat := 0x110
/-- RS_UNIT_RESET -/ abbrev RS_UNIT_RESET : Nat := 0x111
/-- RS_UNIT_LAST -/ abbrev RS_UNIT_LAST : Nat := 0x112
/-- RS_UNIT_COUNT -/ abbrev RS_UNIT_COUNT : Nat := 0x113
/-- CF_DEFAULTED -/ abbrev CF_DEFAULTED : Nat := 0x100
/-- CF_DEFAULT_WHY -/ abbrev CF_DEFAULT_WHY : Nat := 0x101
/-- CF_BANK -/ abbrev CF_BANK : Nat := 0x102
/-- CF_GEN -/ abbrev CF_GEN : Nat := 0x103
/-- CF_LOAD_REJECTS -/ abbrev CF_LOAD_REJECTS : Nat := 0x104
/-- CF_LOAD_FIRST -/ abbrev CF_LOAD_FIRST : Nat := 0x105
/-- CF_COMMIT -/ abbrev CF_COMMIT : Nat := 0x110
/-- CF_CFG_STAGE -/ abbrev CF_CFG_STAGE : Nat := 0x111
/-- CF_FW_STAGE -/ abbrev CF_FW_STAGE : Nat := 0x112
/-- CF_FW_UPDATE -/ abbrev CF_FW_UPDATE : Nat := 0x113
/-- CF_FW_RELEASE -/ abbrev CF_FW_RELEASE : Nat := 0x114
/-- CF_FW_SECVER -/ abbrev CF_FW_SECVER : Nat := 0x115
/-- CF_SECVER_RAISE -/ abbrev CF_SECVER_RAISE : Nat := 0x116
/-- CF_BANK_INFO -/ abbrev CF_BANK_INFO : Nat := 0x200
/-- CF_BANK_GEN -/ abbrev CF_BANK_GEN : Nat := 0x201
/-- DV_SELFTEST -/ abbrev DV_SELFTEST : Nat := 0x600
/-- DV_LP_MODE -/ abbrev DV_LP_MODE : Nat := 0x680
/-- DV_LP_FRAMES -/ abbrev DV_LP_FRAMES : Nat := 0x681
/-- DV_LP_CHECK_ERR -/ abbrev DV_LP_CHECK_ERR : Nat := 0x682
/-- DV_LP_FRAME_ERR -/ abbrev DV_LP_FRAME_ERR : Nat := 0x683
/-- DV_LP_BUSY_COUNT -/ abbrev DV_LP_BUSY_COUNT : Nat := 0x684
/-- PSn_MODE -/ abbrev PSn_MODE : Nat := 0x700
/-- PSn_DIV -/ abbrev PSn_DIV : Nat := 0x701
/-- PSn_LSB_FIRST -/ abbrev PSn_LSB_FIRST : Nat := 0x702
/-- PSn_SEL -/ abbrev PSn_SEL : Nat := 0x703
/-- PSn_SEL_POL -/ abbrev PSn_SEL_POL : Nat := 0x704
/-- PSn_CS_LEAD -/ abbrev PSn_CS_LEAD : Nat := 0x705
/-- PSn_CS_LAG -/ abbrev PSn_CS_LAG : Nat := 0x706
/-- PSn_XFER -/ abbrev PSn_XFER : Nat := 0x707
/-- PSn_RX -/ abbrev PSn_RX : Nat := 0x708
/-- PSn_BUSY -/ abbrev PSn_BUSY : Nat := 0x709
/-- DV_GPIO_DIR -/ abbrev DV_GPIO_DIR : Nat := 0x740
/-- DV_GPIO_OUT -/ abbrev DV_GPIO_OUT : Nat := 0x741
/-- DV_GPIO_IN -/ abbrev DV_GPIO_IN : Nat := 0x742

end Sys2Proof.Machine.O
end

