-- ==== Sys2Proof/Machine/ObjInfo.lean ====
section
/-! DEFINITION. What the spec's object tables say of one object: its type (R11), its access per class (R16), its
default (R17) and the range of a write (check 7 of R92). -/

namespace Sys2Proof.Machine

/-- The types that differ in length or in what a write may hold (R8, R11, R73); `word` is every other one-word
type. -/
inductive Ty | bool | u8 | u16 | word | ext | domain
  deriving DecidableEq, Repr

/-- The access codes of R16; `no` is the dash. -/
inductive Access | ro | rw | wo | w1c | no
  deriving DecidableEq, Repr

/-- The range an Effect cell states, over the raw word (`int` reads it as two's complement). `ffOr` is a code of
0xFF or a number in a range, `zeroOr` is 0 or a number in a range. -/
inductive Range
  | any
  | nat (lo hi : Nat)
  | zeroOr (lo hi : Nat)
  | ffOr (lo hi : Nat)
  | even (lo hi : Nat)
  | oneOf (l : List Nat)
  | int (lo hi : Int)
  | intNonzero (lo hi : Int)
  deriving DecidableEq, Repr

/-- One row of an object table: object numbers, instances, type, access of owner, observer and service, default,
range, and whether the object is stored in the configuration store, is in the rind (R90), and is marked "Settle". -/
structure ObjInfo where
  numLo  : Nat
  numHi  : Nat
  instLo : Nat
  instHi : Nat
  ty     : Ty
  own    : Access
  obs    : Access
  svc    : Access
  dflt   : Nat
  range  : Range
  stored : Bool
  rind   : Bool
  settle : Bool
  deriving DecidableEq, Repr

end Sys2Proof.Machine
end

