-- ==== Sys2Proof/Machine/ObjTable.lean ====
section
/-! DEFINITION. The object tables of the spec (R71, R105, R157, R181, R229, R268, R269, R298, R299, R335,
R371-R373, R404, R405, R424, R451, R452, R480, R511, R531), one row per object: object numbers, instances, type,
access for owner, observer and service, default, range of a write, and whether it is stored, in the rind, or
"Settle". Rows stand in ascending object number, one list per area. -/

namespace Sys2Proof.Machine

/-- Area 0x0 (DV_), objects from 0x040. -/
def objsDV0 : List ObjInfo := [
  ⟨0x040, 0x040, 0, 0, .word, .ro, .ro, .ro, 0, .any, false, true, false⟩,
  ⟨0x041, 0x041, 0, 0, .domain, .ro, .ro, .ro, 0, .any, false, false, false⟩,
  ⟨0x042, 0x042, 0, 0, .word, .ro, .ro, .ro, 0, .any, false, false, false⟩,
  ⟨0x200, 0x200, 0, 0, .u16, .rw, .ro, .rw, 125, (.nat 50 400), false, false, false⟩,
  ⟨0x201, 0x201, 0, 0, .u16, .ro, .ro, .ro, 0, .any, false, false, false⟩,
  ⟨0x202, 0x202, 0, 0, .u16, .ro, .ro, .ro, 0, .any, false, false, false⟩,
  ⟨0x203, 0x203, 0, 0, .u8, .ro, .ro, .ro, 0, .any, false, true, false⟩,
  ⟨0x204, 0x204, 0, 0, .u16, .ro, .ro, .ro, 0, .any, false, false, false⟩,
  ⟨0x205, 0x205, 0, 0, .word, .ro, .ro, .ro, 0, .any, false, false, false⟩,
  ⟨0x206, 0x206, 0, 0, .u16, .ro, .ro, .ro, 0, .any, false, false, false⟩,
  ⟨0x207, 0x207, 0, 0, .u16, .ro, .ro, .ro, 0, .any, false, false, false⟩,
  ⟨0x208, 0x208, 0, 0, .u16, .ro, .ro, .ro, 0, .any, false, false, false⟩,
  ⟨0x209, 0x209, 0, 0, .u16, .ro, .ro, .ro, 0, .any, false, false, false⟩,
  ⟨0x20A, 0x20A, 0, 0, .u16, .ro, .ro, .ro, 0, .any, false, false, false⟩,
  ⟨0x20B, 0x20B, 0, 0, .word, .ro, .ro, .ro, 0, .any, false, false, false⟩,
  ⟨0x20C, 0x20C, 0, 0, .u8, .ro, .ro, .ro, 0, .any, false, true, false⟩,
  ⟨0x20D, 0x20D, 0, 0, .bool, .ro, .ro, .ro, 0, .any, false, true, false⟩,
  ⟨0x210, 0x210, 0, 0, .u8, .ro, .ro, .ro, 0, .any, false, false, false⟩,
  ⟨0x211, 0x211, 0, 0, .word, .ro, .ro, .ro, 0, .any, false, false, false⟩,
  ⟨0x212, 0x212, 0, 0, .word, .ro, .ro, .ro, 0, .any, false, false, false⟩,
  ⟨0x213, 0x213, 0, 0, .word, .ro, .ro, .ro, 0, .any, false, false, false⟩,
  ⟨0x214, 0x214, 0, 0, .word, .ro, .ro, .ro, 0, .any, false, false, false⟩,
  ⟨0x215, 0x215, 0, 0, .word, .ro, .ro, .ro, 0, .any, false, false, false⟩,
  ⟨0x216, 0x216, 0, 0, .word, .ro, .ro, .ro, 0, .any, false, false, false⟩,
  ⟨0x400, 0x407, 0, 0, .u16, .rw, .ro, .rw, 200, (.even 160 800), true, false, false⟩,
  ⟨0x408, 0x408, 0, 0, .u8, .rw, .ro, .rw, 0, .any, true, false, false⟩,
  ⟨0x410, 0x417, 0, 0, .u16, .rw, .ro, .rw, 40, (.nat 0 400), true, false, false⟩,
  ⟨0x420, 0x427, 0, 0, .u8, .rw, .ro, .rw, 5, (.nat 1 255), true, false, false⟩,
  ⟨0x428, 0x428, 0, 0, .u8, .rw, .ro, .rw, 0, .any, true, false, false⟩,
  ⟨0x429, 0x429, 0, 0, .u8, .rw, .ro, .rw, 0, .any, true, false, false⟩]

/-- Area 0x0 (DV_), objects from 0x42A. -/
def objsDV1 : List ObjInfo := [
  ⟨0x42A, 0x42A, 0, 0, .u8, .ro, .ro, .ro, 0, .any, false, true, false⟩,
  ⟨0x42B, 0x42B, 0, 0, .u8, .w1c, .ro, .w1c, 0, .any, false, false, false⟩,
  ⟨0x430, 0x437, 0, 0, .word, .ro, .ro, .ro, 0, .any, false, false, false⟩,
  ⟨0x500, 0x500, 0, 0, .u8, .rw, .ro, .rw, 0, .any, false, false, false⟩,
  ⟨0x501, 0x501, 0, 0, .u8, .ro, .ro, .ro, 0, .any, false, false, false⟩,
  ⟨0x502, 0x502, 0, 0, .u8, .ro, .ro, .ro, 0, .any, false, false, false⟩,
  ⟨0x510, 0x510, 0, 0, .u16, .rw, .ro, .rw, 0, .any, true, false, false⟩,
  ⟨0x511, 0x511, 0, 0, .word, .rw, .ro, .rw, 1, (.intNonzero (-1048576) (1048576)), true, false, false⟩,
  ⟨0x512, 0x512, 0, 0, .word, .rw, .ro, .rw, 1, (.nat 1 1048576), true, false, false⟩,
  ⟨0x513, 0x513, 0, 0, .word, .rw, .ro, .rw, 0, (.zeroOr 4 1073741824), true, false, false⟩,
  ⟨0x514, 0x514, 0, 0, .word, .rw, .ro, .rw, 0, .any, true, false, false⟩,
  ⟨0x515, 0x515, 0, 0, .word, .ro, .ro, .ro, 0, .any, false, false, false⟩,
  ⟨0x520, 0x520, 0, 0, .u16, .rw, .ro, .rw, 0, .any, true, false, false⟩,
  ⟨0x521, 0x521, 0, 0, .word, .rw, .ro, .rw, 1, (.intNonzero (-1048576) (1048576)), true, false, false⟩,
  ⟨0x522, 0x522, 0, 0, .word, .rw, .ro, .rw, 1, (.nat 1 1048576), true, false, false⟩,
  ⟨0x523, 0x523, 0, 0, .word, .rw, .ro, .rw, 0, (.zeroOr 4 1073741824), true, false, false⟩,
  ⟨0x524, 0x524, 0, 0, .word, .rw, .ro, .rw, 0, .any, true, false, false⟩,
  ⟨0x525, 0x525, 0, 0, .word, .ro, .ro, .ro, 0, .any, false, false, false⟩,
  ⟨0x530, 0x530, 0, 0, .u16, .rw, .ro, .rw, 0, .any, true, false, false⟩,
  ⟨0x531, 0x531, 0, 0, .word, .rw, .ro, .rw, 1, (.intNonzero (-1048576) (1048576)), true, false, false⟩,
  ⟨0x532, 0x532, 0, 0, .word, .rw, .ro, .rw, 1, (.nat 1 1048576), true, false, false⟩,
  ⟨0x533, 0x533, 0, 0, .word, .rw, .ro, .rw, 0, (.zeroOr 4 1073741824), true, false, false⟩,
  ⟨0x534, 0x534, 0, 0, .word, .rw, .ro, .rw, 0, .any, true, false, false⟩,
  ⟨0x535, 0x535, 0, 0, .word, .ro, .ro, .ro, 0, .any, false, false, false⟩,
  ⟨0x540, 0x540, 0, 0, .u16, .rw, .ro, .rw, 0, .any, true, false, false⟩,
  ⟨0x541, 0x541, 0, 0, .word, .rw, .ro, .rw, 1, (.intNonzero (-1048576) (1048576)), true, false, false⟩,
  ⟨0x542, 0x542, 0, 0, .word, .rw, .ro, .rw, 1, (.nat 1 1048576), true, false, false⟩,
  ⟨0x543, 0x543, 0, 0, .word, .rw, .ro, .rw, 0, (.zeroOr 4 1073741824), true, false, false⟩,
  ⟨0x544, 0x544, 0, 0, .word, .rw, .ro, .rw, 0, .any, true, false, false⟩,
  ⟨0x545, 0x545, 0, 0, .word, .ro, .ro, .ro, 0, .any, false, false, false⟩]

/-- Area 0x0 (DV_), objects from 0x550. -/
def objsDV2 : List ObjInfo := [
  ⟨0x550, 0x550, 0, 0, .u16, .rw, .ro, .rw, 0, .any, true, false, false⟩,
  ⟨0x551, 0x551, 0, 0, .word, .rw, .ro, .rw, 1, (.intNonzero (-1048576) (1048576)), true, false, false⟩,
  ⟨0x552, 0x552, 0, 0, .word, .rw, .ro, .rw, 1, (.nat 1 1048576), true, false, false⟩,
  ⟨0x553, 0x553, 0, 0, .word, .rw, .ro, .rw, 0, (.zeroOr 4 1073741824), true, false, false⟩,
  ⟨0x554, 0x554, 0, 0, .word, .rw, .ro, .rw, 0, .any, true, false, false⟩,
  ⟨0x555, 0x555, 0, 0, .word, .ro, .ro, .ro, 0, .any, false, false, false⟩,
  ⟨0x560, 0x560, 0, 0, .u16, .rw, .ro, .rw, 0, .any, true, false, false⟩,
  ⟨0x561, 0x561, 0, 0, .word, .rw, .ro, .rw, 1, (.intNonzero (-1048576) (1048576)), true, false, false⟩,
  ⟨0x562, 0x562, 0, 0, .word, .rw, .ro, .rw, 1, (.nat 1 1048576), true, false, false⟩,
  ⟨0x563, 0x563, 0, 0, .word, .rw, .ro, .rw, 0, (.zeroOr 4 1073741824), true, false, false⟩,
  ⟨0x564, 0x564, 0, 0, .word, .rw, .ro, .rw, 0, .any, true, false, false⟩,
  ⟨0x565, 0x565, 0, 0, .word, .ro, .ro, .ro, 0, .any, false, false, false⟩,
  ⟨0x570, 0x570, 0, 0, .u16, .rw, .ro, .rw, 0, .any, true, false, false⟩,
  ⟨0x571, 0x571, 0, 0, .word, .rw, .ro, .rw, 1, (.intNonzero (-1048576) (1048576)), true, false, false⟩,
  ⟨0x572, 0x572, 0, 0, .word, .rw, .ro, .rw, 1, (.nat 1 1048576), true, false, false⟩,
  ⟨0x573, 0x573, 0, 0, .word, .rw, .ro, .rw, 0, (.zeroOr 4 1073741824), true, false, false⟩,
  ⟨0x574, 0x574, 0, 0, .word, .rw, .ro, .rw, 0, .any, true, false, false⟩,
  ⟨0x575, 0x575, 0, 0, .word, .ro, .ro, .ro, 0, .any, false, false, false⟩,
  ⟨0x580, 0x580, 0, 0, .u16, .rw, .ro, .rw, 0, .any, true, false, false⟩,
  ⟨0x581, 0x581, 0, 0, .word, .rw, .ro, .rw, 1, (.intNonzero (-1048576) (1048576)), true, false, false⟩,
  ⟨0x582, 0x582, 0, 0, .word, .rw, .ro, .rw, 1, (.nat 1 1048576), true, false, false⟩,
  ⟨0x583, 0x583, 0, 0, .word, .rw, .ro, .rw, 0, (.zeroOr 4 1073741824), true, false, false⟩,
  ⟨0x584, 0x584, 0, 0, .word, .rw, .ro, .rw, 0, .any, true, false, false⟩,
  ⟨0x585, 0x585, 0, 0, .word, .ro, .ro, .ro, 0, .any, false, false, false⟩,
  ⟨0x600, 0x600, 0, 0, .bool, .wo, .no, .wo, 0, .any, false, false, false⟩,
  ⟨0x680, 0x680, 0, 0, .u8, .ro, .ro, .ro, 0, .any, false, false, false⟩,
  ⟨0x681, 0x681, 0, 0, .word, .ro, .ro, .ro, 0, .any, false, false, false⟩,
  ⟨0x682, 0x682, 0, 0, .word, .ro, .ro, .ro, 0, .any, false, false, false⟩,
  ⟨0x683, 0x683, 0, 0, .word, .ro, .ro, .ro, 0, .any, false, false, false⟩,
  ⟨0x684, 0x684, 0, 0, .word, .ro, .ro, .ro, 0, .any, false, false, false⟩]

/-- Area 0x0 (DV_), objects from 0x700. -/
def objsDV3 : List ObjInfo := [
  ⟨0x700, 0x700, 0, 0, .u8, .rw, .ro, .rw, 0, (.nat 0 3), true, false, false⟩,
  ⟨0x701, 0x701, 0, 0, .u16, .rw, .ro, .rw, 100, (.even 4 256), true, false, false⟩,
  ⟨0x702, 0x702, 0, 0, .bool, .rw, .ro, .rw, 0, .any, true, false, false⟩,
  ⟨0x703, 0x703, 0, 0, .u8, .rw, .ro, .rw, 255, (.ffOr 0 15), true, false, false⟩,
  ⟨0x704, 0x704, 0, 0, .u8, .rw, .ro, .rw, 0, (.nat 0 1), true, false, false⟩,
  ⟨0x705, 0x705, 0, 0, .u8, .rw, .ro, .rw, 1, (.nat 1 100), true, false, false⟩,
  ⟨0x706, 0x706, 0, 0, .u8, .rw, .ro, .rw, 1, (.nat 1 100), true, false, false⟩,
  ⟨0x707, 0x707, 0, 0, .domain, .wo, .no, .wo, 0, .any, false, false, false⟩,
  ⟨0x708, 0x708, 0, 0, .domain, .ro, .ro, .ro, 0, .any, false, false, false⟩,
  ⟨0x709, 0x709, 0, 0, .bool, .ro, .ro, .ro, 0, .any, false, false, false⟩,
  ⟨0x720, 0x720, 0, 0, .u8, .rw, .ro, .rw, 0, (.nat 0 3), true, false, false⟩,
  ⟨0x721, 0x721, 0, 0, .u16, .rw, .ro, .rw, 100, (.even 4 256), true, false, false⟩,
  ⟨0x722, 0x722, 0, 0, .bool, .rw, .ro, .rw, 0, .any, true, false, false⟩,
  ⟨0x723, 0x723, 0, 0, .u8, .rw, .ro, .rw, 255, (.ffOr 0 15), true, false, false⟩,
  ⟨0x724, 0x724, 0, 0, .u8, .rw, .ro, .rw, 0, (.nat 0 1), true, false, false⟩,
  ⟨0x725, 0x725, 0, 0, .u8, .rw, .ro, .rw, 1, (.nat 1 100), true, false, false⟩,
  ⟨0x726, 0x726, 0, 0, .u8, .rw, .ro, .rw, 1, (.nat 1 100), true, false, false⟩,
  ⟨0x727, 0x727, 0, 0, .domain, .wo, .no, .wo, 0, .any, false, false, false⟩,
  ⟨0x728, 0x728, 0, 0, .domain, .ro, .ro, .ro, 0, .any, false, false, false⟩,
  ⟨0x729, 0x729, 0, 0, .bool, .ro, .ro, .ro, 0, .any, false, false, false⟩,
  ⟨0x740, 0x740, 0, 0, .u16, .rw, .ro, .rw, 0, .any, true, false, false⟩,
  ⟨0x741, 0x741, 0, 0, .u16, .rw, .ro, .rw, 0, .any, false, false, false⟩,
  ⟨0x742, 0x742, 0, 0, .u16, .ro, .ro, .ro, 0, .any, false, true, false⟩]

/-- Every object of area 0x0 (DV_). -/
def objsDV : List ObjInfo := objsDV0 ++ objsDV1 ++ objsDV2 ++ objsDV3

/-- Area 0x1 (NT_), objects from 0x100. -/
def objsNT0 : List ObjInfo := [
  ⟨0x100, 0x100, 0, 0, .ext, .ro, .ro, .ro, 0, .any, false, true, false⟩,
  ⟨0x101, 0x101, 0, 0, .word, .ro, .ro, .ro, 0, .any, false, true, false⟩,
  ⟨0x102, 0x102, 0, 0, .word, .ro, .ro, .ro, 42949672960, .any, false, false, false⟩,
  ⟨0x103, 0x103, 0, 0, .word, .rw, .ro, .rw, 42949672960, (.nat 42941284352 42958061568), true, false, false⟩,
  ⟨0x104, 0x104, 0, 0, .u8, .rw, .ro, .rw, 0, (.nat 0 1), true, false, false⟩,
  ⟨0x105, 0x105, 0, 0, .u8, .ro, .ro, .ro, 0, .any, false, true, false⟩,
  ⟨0x106, 0x106, 0, 0, .word, .ro, .ro, .ro, 0, .any, false, false, false⟩,
  ⟨0x107, 0x107, 0, 0, .word, .ro, .ro, .ro, 42949672960, .any, false, false, false⟩,
  ⟨0x108, 0x108, 0, 0, .u16, .rw, .ro, .rw, 500, (.nat 50 10000), true, false, false⟩,
  ⟨0x109, 0x109, 0, 0, .u16, .rw, .ro, .rw, 100, (.nat 10 10000), true, false, false⟩,
  ⟨0x10A, 0x10A, 0, 0, .word, .rw, .ro, .rw, 10000, (.nat 1000 1000000), true, false, false⟩,
  ⟨0x10B, 0x10B, 0, 0, .u8, .rw, .ro, .rw, 100, (.nat 1 150), true, false, false⟩,
  ⟨0x10C, 0x10C, 0, 0, .word, .rw, .ro, .rw, 10000, (.nat 100 1000000), true, false, false⟩,
  ⟨0x10D, 0x10D, 0, 0, .bool, .ro, .ro, .ro, 0, .any, false, false, false⟩,
  ⟨0x10E, 0x10E, 0, 0, .word, .ro, .ro, .ro, 0, .any, false, false, false⟩,
  ⟨0x10F, 0x10F, 0, 0, .domain, .ro, .ro, .ro, 0, .any, false, false, false⟩,
  ⟨0x110, 0x110, 0, 0, .u8, .rw, .ro, .rw, 0, (.nat 0 127), true, false, false⟩,
  ⟨0x111, 0x111, 0, 0, .u8, .ro, .ro, .ro, 255, .any, false, false, false⟩,
  ⟨0x112, 0x112, 0, 0, .word, .ro, .ro, .ro, 0, .any, false, false, false⟩,
  ⟨0x113, 0x113, 0, 0, .u8, .rw, .ro, .rw, 0, (.nat 0 1), true, false, false⟩,
  ⟨0x114, 0x114, 0, 0, .u8, .ro, .ro, .ro, 0, .any, false, false, false⟩,
  ⟨0x115, 0x115, 0, 0, .word, .rw, .ro, .rw, 0, (.int (-3) (3)), true, false, false⟩,
  ⟨0x116, 0x116, 0, 0, .ext, .no, .no, .wo, 0, .any, false, false, false⟩,
  ⟨0x120, 0x120, 0, 1, .word, .ro, .ro, .ro, 0, .any, false, false, false⟩,
  ⟨0x121, 0x121, 0, 1, .u16, .ro, .ro, .ro, 0, .any, false, false, false⟩,
  ⟨0x122, 0x122, 0, 1, .u16, .ro, .ro, .ro, 0, .any, false, false, false⟩,
  ⟨0x123, 0x123, 0, 1, .word, .rw, .ro, .rw, 0, (.int (-4000) (4000)), true, false, false⟩,
  ⟨0x124, 0x124, 0, 1, .word, .ro, .ro, .ro, 0, .any, false, false, false⟩,
  ⟨0x300, 0x300, 0, 0, .u16, .ro, .ro, .ro, 0, .any, false, true, false⟩,
  ⟨0x301, 0x301, 0, 0, .bool, .ro, .ro, .ro, 0, .any, false, true, false⟩]

/-- Area 0x1 (NT_), objects from 0x302. -/
def objsNT1 : List ObjInfo := [
  ⟨0x302, 0x302, 0, 0, .u8, .ro, .ro, .ro, 0, .any, false, false, false⟩,
  ⟨0x303, 0x303, 0, 0, .u16, .rw, .ro, .rw, 0, (.nat 0 4095), true, false, false⟩,
  ⟨0x304, 0x304, 0, 0, .u16, .ro, .ro, .ro, 0, .any, false, false, false⟩,
  ⟨0x305, 0x305, 0, 0, .u8, .ro, .ro, .ro, 0, .any, false, false, false⟩,
  ⟨0x306, 0x306, 0, 0, .u16, .rw, .ro, .rw, 20, (.nat 1 1000), false, false, false⟩,
  ⟨0x307, 0x307, 0, 0, .u16, .rw, .ro, .rw, 200, (.nat 10 10000), false, false, false⟩,
  ⟨0x308, 0x308, 0, 0, .u16, .ro, .ro, .ro, 0, .any, false, false, false⟩,
  ⟨0x309, 0x309, 0, 0, .u8, .ro, .ro, .ro, 0, .any, false, false, false⟩,
  ⟨0x30A, 0x30A, 0, 0, .word, .ro, .ro, .ro, 0, .any, false, false, false⟩,
  ⟨0x30B, 0x30B, 0, 0, .word, .ro, .ro, .ro, 0, .any, false, false, false⟩,
  ⟨0x30C, 0x30C, 0, 0, .word, .ro, .ro, .ro, 0, .any, false, false, false⟩,
  ⟨0x310, 0x310, 0, 2, .u8, .ro, .ro, .ro, 0, .any, false, true, false⟩,
  ⟨0x311, 0x311, 0, 2, .bool, .ro, .ro, .ro, 0, .any, false, true, false⟩,
  ⟨0x312, 0x312, 0, 2, .word, .ro, .ro, .ro, 0, .any, false, false, false⟩,
  ⟨0x313, 0x313, 0, 2, .word, .ro, .ro, .ro, 0, .any, false, false, false⟩,
  ⟨0x314, 0x314, 0, 2, .word, .ro, .ro, .ro, 0, .any, false, false, false⟩,
  ⟨0x315, 0x315, 0, 2, .word, .ro, .ro, .ro, 0, .any, false, false, false⟩,
  ⟨0x316, 0x316, 0, 2, .word, .ro, .ro, .ro, 0, .any, false, false, false⟩,
  ⟨0x317, 0x317, 0, 2, .word, .ro, .ro, .ro, 0, .any, false, false, false⟩,
  ⟨0x318, 0x318, 0, 2, .word, .ro, .ro, .ro, 0, .any, false, false, false⟩]

/-- Every object of area 0x1 (NT_). -/
def objsNT : List ObjInfo := objsNT0 ++ objsNT1

/-- Area 0x2 (HS_), objects from 0x000. -/
def objsHS0 : List ObjInfo := [
  ⟨0x000, 0x000, 0, 9, .u8, .ro, .ro, .ro, 0, .any, false, true, false⟩,
  ⟨0x001, 0x001, 0, 9, .bool, .ro, .ro, .ro, 0, .any, false, false, false⟩,
  ⟨0x002, 0x002, 0, 9, .u16, .rw, .ro, .ro, 100, (.zeroOr 10 60000), false, false, false⟩,
  ⟨0x003, 0x003, 0, 9, .word, .ro, .ro, .ro, 0, .any, false, false, false⟩,
  ⟨0x004, 0x004, 0, 9, .u16, .wo, .no, .no, 0, .any, false, false, false⟩,
  ⟨0x005, 0x005, 0, 9, .u16, .wo, .no, .no, 0, .any, false, false, false⟩,
  ⟨0x006, 0x006, 0, 9, .word, .ro, .ro, .ro, 0, .any, false, false, false⟩,
  ⟨0x007, 0x007, 0, 9, .word, .ro, .ro, .ro, 0, .any, false, false, false⟩,
  ⟨0x008, 0x008, 0, 9, .word, .ro, .ro, .ro, 0, .any, false, false, false⟩,
  ⟨0x100, 0x100, 0, 0, .domain, .ro, .ro, .ro, 0, .any, false, false, false⟩,
  ⟨0x101, 0x101, 0, 0, .u16, .rw, .ro, .rw, 1000, (.nat 100 10000), false, false, false⟩,
  ⟨0x102, 0x102, 0, 0, .u16, .no, .no, .wo, 0, .any, false, false, false⟩,
  ⟨0x110, 0x110, 0, 0, .bool, .ro, .ro, .ro, 0, .any, false, false, false⟩,
  ⟨0x111, 0x111, 0, 0, .u8, .ro, .ro, .ro, 0, .any, false, false, false⟩,
  ⟨0x112, 0x112, 0, 0, .u16, .ro, .ro, .ro, 256, .any, false, false, false⟩,
  ⟨0x113, 0x113, 0, 0, .domain, .ro, .ro, .ro, 0, .any, false, false, false⟩]

/-- Every object of area 0x2 (HS_). -/
def objsHS : List ObjInfo := objsHS0

/-- Area 0x3 (AX_), objects from 0x010. -/
def objsAX0 : List ObjInfo := [
  ⟨0x010, 0x010, 0, 63, .word, .ro, .ro, .ro, 0, .any, false, true, false⟩,
  ⟨0x011, 0x011, 0, 63, .word, .rw, .ro, .rw, 0, .any, false, false, false⟩,
  ⟨0x012, 0x012, 0, 63, .u8, .rw, .ro, .rw, 0, (.nat 0 2), false, true, false⟩,
  ⟨0x013, 0x013, 0, 63, .word, .ro, .ro, .ro, 0, .any, false, true, false⟩,
  ⟨0x014, 0x014, 0, 63, .word, .ro, .ro, .ro, 0, .any, false, false, false⟩,
  ⟨0x015, 0x015, 0, 63, .ext, .ro, .ro, .ro, 0, .any, false, false, false⟩,
  ⟨0x016, 0x016, 0, 63, .word, .ro, .ro, .ro, 0, .any, false, false, false⟩,
  ⟨0x017, 0x017, 0, 63, .word, .ro, .ro, .ro, 0, .any, false, true, false⟩,
  ⟨0x018, 0x018, 0, 63, .word, .w1c, .ro, .w1c, 0, .any, false, false, false⟩,
  ⟨0x019, 0x019, 0, 63, .u16, .ro, .ro, .ro, 65535, .any, false, false, false⟩,
  ⟨0x020, 0x020, 0, 63, .word, .rw, .ro, .rw, 0, .any, false, false, false⟩,
  ⟨0x021, 0x021, 0, 63, .word, .rw, .ro, .rw, 25600000, (.intNonzero (-34359738368) (34359738367)), true, false, false⟩,
  ⟨0x022, 0x022, 0, 63, .word, .rw, .ro, .rw, 8000000, (.int (1) (34359738367)), true, false, false⟩,
  ⟨0x023, 0x023, 0, 63, .word, .rw, .ro, .rw, 8000000, (.int (1) (34359738367)), true, false, false⟩,
  ⟨0x024, 0x024, 0, 63, .u8, .rw, .ro, .rw, 0, (.nat 0 2), true, false, false⟩,
  ⟨0x025, 0x025, 0, 63, .bool, .rw, .ro, .rw, 0, .any, true, false, false⟩,
  ⟨0x026, 0x026, 0, 63, .u8, .ro, .ro, .ro, 0, .any, false, false, false⟩,
  ⟨0x027, 0x027, 0, 63, .word, .ro, .ro, .ro, 0, .any, false, false, false⟩,
  ⟨0x030, 0x030, 0, 63, .word, .ro, .ro, .ro, 0, .any, false, true, false⟩,
  ⟨0x031, 0x031, 0, 63, .word, .ro, .ro, .ro, 0, .any, false, true, false⟩,
  ⟨0x032, 0x032, 0, 63, .word, .ro, .ro, .ro, 0, .any, false, true, false⟩,
  ⟨0x033, 0x033, 0, 63, .word, .ro, .ro, .ro, 0, .any, false, true, false⟩,
  ⟨0x034, 0x034, 0, 63, .word, .ro, .ro, .ro, 0, .any, false, false, false⟩,
  ⟨0x035, 0x035, 0, 63, .word, .rw, .ro, .rw, 0, .any, true, false, true⟩,
  ⟨0x036, 0x036, 0, 63, .word, .ro, .ro, .ro, 0, .any, false, false, false⟩,
  ⟨0x037, 0x037, 0, 63, .word, .ro, .ro, .ro, 0, .any, false, false, false⟩,
  ⟨0x038, 0x038, 0, 63, .word, .rw, .ro, .rw, 100, (.int (0) (34359738367)), true, false, false⟩,
  ⟨0x039, 0x039, 0, 63, .u16, .rw, .ro, .rw, 10, (.nat 0 10000), true, false, false⟩,
  ⟨0x040, 0x040, 0, 63, .word, .ro, .ro, .ro, 0, .any, false, true, false⟩,
  ⟨0x041, 0x041, 0, 63, .domain, .ro, .ro, .ro, 0, .any, false, false, false⟩]

/-- Area 0x3 (AX_), objects from 0x042. -/
def objsAX1 : List ObjInfo := [
  ⟨0x042, 0x042, 0, 63, .word, .ro, .ro, .ro, 0, .any, false, false, false⟩,
  ⟨0x050, 0x050, 0, 63, .u8, .rw, .ro, .rw, 1, (.nat 0 3), true, false, false⟩,
  ⟨0x051, 0x051, 0, 63, .u8, .rw, .ro, .rw, 2, (.nat 0 3), true, false, false⟩,
  ⟨0x052, 0x052, 0, 63, .word, .rw, .ro, .rw, 16000000, (.int (1) (34359738367)), true, false, false⟩,
  ⟨0x053, 0x053, 0, 63, .u8, .rw, .ro, .rw, 0, (.nat 0 1), true, false, false⟩,
  ⟨0x054, 0x054, 0, 63, .u16, .rw, .ro, .rw, 5000, (.zeroOr 10 60000), true, false, false⟩,
  ⟨0x058, 0x058, 0, 63, .word, .rw, .ro, .rw, 51200, (.int (0) (34359738367)), true, false, false⟩,
  ⟨0x059, 0x059, 0, 63, .u16, .rw, .ro, .rw, 10, (.nat 1 10000), true, false, false⟩,
  ⟨0x05A, 0x05A, 0, 63, .word, .rw, .ro, .rw, 0, (.int (0) (34359738367)), true, false, false⟩,
  ⟨0x060, 0x060, 0, 63, .word, .rw, .ro, .rw, 0, (.int (0) (34359738367)), true, false, false⟩,
  ⟨0x061, 0x061, 0, 63, .word, .rw, .ro, .rw, 0, (.int (0) (34359738367)), true, false, false⟩,
  ⟨0x062, 0x062, 0, 63, .u16, .rw, .ro, .rw, 0, (.nat 0 10000), true, false, false⟩,
  ⟨0x063, 0x063, 0, 63, .word, .rw, .ro, .rw, 0, (.int (0) (34359738367)), true, false, false⟩,
  ⟨0x064, 0x064, 0, 63, .word, .rw, .ro, .rw, 34359738367, (.int (1) (34359738367)), true, false, false⟩,
  ⟨0x065, 0x065, 0, 63, .word, .rw, .ro, .rw, 0, (.int (0) (34359738367)), true, false, false⟩,
  ⟨0x068, 0x068, 0, 63, .word, .rw, .ro, .rw, 0, .any, false, false, false⟩,
  ⟨0x069, 0x069, 0, 63, .word, .rw, .ro, .rw, 1000, (.nat 1 1000000), true, false, false⟩,
  ⟨0x070, 0x070, 0, 63, .u8, .rw, .ro, .rw, 255, (.ffOr 0 31), true, false, true⟩,
  ⟨0x071, 0x071, 0, 63, .u8, .rw, .ro, .rw, 255, (.ffOr 0 31), true, false, true⟩,
  ⟨0x072, 0x072, 0, 63, .u8, .rw, .ro, .rw, 3, .any, true, false, true⟩,
  ⟨0x073, 0x073, 0, 63, .u8, .rw, .ro, .rw, 1, (.nat 0 2), true, false, false⟩,
  ⟨0x074, 0x074, 0, 63, .u16, .rw, .ro, .rw, 20, (.nat 1 10000), true, false, false⟩,
  ⟨0x075, 0x075, 0, 63, .u16, .ro, .ro, .ro, 0, .any, false, true, false⟩,
  ⟨0x076, 0x076, 0, 63, .word, .ro, .ro, .ro, 0, .any, false, false, false⟩,
  ⟨0x078, 0x078, 0, 63, .u8, .rw, .ro, .rw, 0, (.nat 0 2), true, false, false⟩,
  ⟨0x079, 0x079, 0, 63, .word, .rw, .ro, .rw, 0, .any, true, false, false⟩,
  ⟨0x07A, 0x07A, 0, 63, .word, .rw, .ro, .rw, 0, .any, true, false, false⟩,
  ⟨0x080, 0x080, 0, 63, .u8, .rw, .ro, .rw, 255, (.ffOr 0 31), true, false, true⟩,
  ⟨0x081, 0x081, 0, 63, .u8, .rw, .ro, .rw, 1, (.nat 0 7), true, false, false⟩,
  ⟨0x082, 0x082, 0, 63, .u8, .rw, .ro, .rw, 0, (.nat 0 1), true, false, false⟩]

/-- Area 0x3 (AX_), objects from 0x083. -/
def objsAX2 : List ObjInfo := [
  ⟨0x083, 0x083, 0, 63, .word, .rw, .ro, .rw, 5120000, (.int (1) (34359738367)), true, false, false⟩,
  ⟨0x084, 0x084, 0, 63, .word, .rw, .ro, .rw, 256000, (.int (1) (34359738367)), true, false, false⟩,
  ⟨0x085, 0x085, 0, 63, .word, .rw, .ro, .rw, 3200000, (.int (1) (34359738367)), true, false, false⟩,
  ⟨0x086, 0x086, 0, 63, .word, .rw, .ro, .rw, 0, .any, true, false, false⟩,
  ⟨0x087, 0x087, 0, 63, .word, .rw, .ro, .rw, 0, (.int (0) (34359738367)), true, false, false⟩,
  ⟨0x088, 0x088, 0, 63, .u16, .rw, .ro, .rw, 5, (.nat 0 1000), true, false, false⟩,
  ⟨0x089, 0x089, 0, 63, .bool, .rw, .ro, .rw, 0, .any, true, false, false⟩,
  ⟨0x08A, 0x08A, 0, 63, .bool, .rw, .ro, .rw, 0, .any, true, false, false⟩,
  ⟨0x08B, 0x08B, 0, 63, .word, .rw, .ro, .rw, 4294967296, (.nat 687194768 34359738367), true, false, false⟩,
  ⟨0x08C, 0x08C, 0, 63, .u16, .rw, .ro, .rw, 50, (.nat 5 5000), true, false, false⟩,
  ⟨0x08D, 0x08D, 0, 63, .word, .rw, .ro, .rw, 0, (.int (0) (34359738367)), true, false, false⟩,
  ⟨0x08E, 0x08E, 0, 63, .u16, .rw, .ro, .rw, 60, (.nat 1 3600), true, false, false⟩,
  ⟨0x090, 0x090, 0, 63, .word, .rw, .ro, .rw, 0, (.zeroOr 2 17179869184), true, false, true⟩,
  ⟨0x091, 0x091, 0, 63, .u8, .rw, .ro, .rw, 0, (.nat 0 2), true, false, false⟩,
  ⟨0x0A0, 0x0A0, 0, 63, .u8, .rw, .ro, .rw, 0, (.nat 0 1), true, false, false⟩,
  ⟨0x0A1, 0x0A1, 0, 63, .u8, .rw, .ro, .rw, 0, (.nat 0 255), true, false, false⟩,
  ⟨0x0A2, 0x0A2, 0, 63, .word, .rw, .ro, .rw, 1, (.int (-1048576) (1048576)), true, false, false⟩,
  ⟨0x0A3, 0x0A3, 0, 63, .word, .rw, .ro, .rw, 1, (.nat 1 1048576), true, false, false⟩,
  ⟨0x0A4, 0x0A4, 0, 63, .word, .rw, .ro, .rw, 0, .any, true, false, false⟩,
  ⟨0x0A5, 0x0A5, 0, 63, .word, .rw, .ro, .rw, 0, .any, true, false, false⟩,
  ⟨0x0A6, 0x0A6, 0, 63, .bool, .rw, .ro, .rw, 1, .any, true, false, false⟩,
  ⟨0x0A7, 0x0A7, 0, 63, .u8, .rw, .ro, .rw, 0, (.nat 0 2), true, false, false⟩,
  ⟨0x0A8, 0x0A8, 0, 63, .word, .rw, .ro, .rw, 0, .any, true, false, false⟩,
  ⟨0x0A9, 0x0A9, 0, 63, .ext, .rw, .ro, .rw, 0, .any, true, false, false⟩,
  ⟨0x0AA, 0x0AA, 0, 63, .word, .rw, .ro, .rw, 0, (.int (0) (34359738367)), true, false, false⟩,
  ⟨0x0AB, 0x0AB, 0, 63, .word, .rw, .ro, .rw, 0, .any, true, false, false⟩,
  ⟨0x0AC, 0x0AC, 0, 63, .u16, .rw, .ro, .rw, 1000, .any, true, false, false⟩,
  ⟨0x0AD, 0x0AD, 0, 63, .u8, .wo, .no, .wo, 0, (.nat 1 3), false, false, false⟩,
  ⟨0x0AE, 0x0AE, 0, 63, .u8, .ro, .ro, .ro, 0, .any, false, true, false⟩,
  ⟨0x0AF, 0x0AF, 0, 63, .word, .ro, .ro, .ro, 0, .any, false, false, false⟩]

/-- Area 0x3 (AX_), objects from 0x100. -/
def objsAX3 : List ObjInfo := [
  ⟨0x100, 0x100, 0, 63, .u8, .rw, .ro, .rw, 5, (.nat 1 25), true, false, false⟩,
  ⟨0x101, 0x101, 0, 63, .u8, .rw, .ro, .rw, 2, (.nat 1 16), true, false, false⟩,
  ⟨0x102, 0x102, 0, 63, .u8, .rw, .ro, .rw, 2, (.nat 1 16), true, false, false⟩,
  ⟨0x103, 0x103, 0, 63, .u8, .rw, .ro, .rw, 80, (.nat 20 100), true, false, false⟩,
  ⟨0x104, 0x104, 0, 63, .u16, .ro, .ro, .ro, 65535, .any, false, false, false⟩,
  ⟨0x110, 0x110, 0, 63, .u8, .rw, .ro, .rw, 0, (.nat 0 2), true, false, false⟩,
  ⟨0x111, 0x111, 0, 63, .u8, .rw, .ro, .rw, 4, (.nat 1 64), true, false, false⟩,
  ⟨0x112, 0x112, 0, 63, .word, .rw, .ro, .rw, 0, (.zeroOr 100 1000000), true, false, false⟩,
  ⟨0x113, 0x113, 0, 63, .word, .rw, .ro, .rw, 0, (.zeroOr 1000 1000000), true, false, false⟩,
  ⟨0x114, 0x114, 0, 63, .word, .rw, .ro, .rw, 0, .any, true, false, false⟩,
  ⟨0x115, 0x115, 0, 63, .word, .rw, .ro, .rw, 0, .any, true, false, false⟩,
  ⟨0x116, 0x116, 0, 63, .word, .rw, .ro, .rw, 0, .any, true, false, false⟩,
  ⟨0x117, 0x117, 0, 63, .word, .rw, .ro, .rw, 0, .any, true, false, false⟩,
  ⟨0x118, 0x118, 0, 63, .word, .rw, .ro, .rw, 0, .any, true, false, false⟩,
  ⟨0x120, 0x120, 0, 63, .word, .rw, .ro, .rw, 335544320, (.nat 0 34342961152), true, false, false⟩,
  ⟨0x121, 0x121, 0, 63, .word, .rw, .ro, .rw, 16777216, (.nat 0 16777216), true, false, false⟩,
  ⟨0x122, 0x122, 0, 63, .word, .rw, .ro, .rw, 8388608, (.nat 0 34342961152), true, false, false⟩,
  ⟨0x123, 0x123, 0, 63, .word, .rw, .ro, .rw, 167772, (.nat 0 34342961152), true, false, false⟩,
  ⟨0x124, 0x124, 0, 63, .word, .rw, .ro, .rw, 0, (.nat 0 33554432), true, false, false⟩,
  ⟨0x125, 0x125, 0, 63, .u16, .rw, .ro, .rw, 0, (.zeroOr 10 20000), true, false, false⟩,
  ⟨0x126, 0x126, 0, 63, .u16, .rw, .ro, .rw, 0, (.zeroOr 20 10000), true, false, false⟩,
  ⟨0x127, 0x127, 0, 63, .u16, .rw, .ro, .rw, 50, (.nat 5 5000), true, false, false⟩,
  ⟨0x128, 0x128, 0, 63, .word, .rw, .ro, .rw, 17179869184, (.nat 0 34359738367), true, false, false⟩,
  ⟨0x130, 0x130, 0, 63, .word, .rw, .ro, .rw, 0, (.nat 0 34342961152), true, false, false⟩,
  ⟨0x131, 0x131, 0, 63, .word, .rw, .ro, .rw, 0, (.nat 0 34342961152), true, false, false⟩,
  ⟨0x132, 0x132, 0, 63, .word, .rw, .ro, .rw, 0, (.nat 0 34342961152), true, false, false⟩,
  ⟨0x133, 0x133, 0, 63, .word, .rw, .ro, .rw, 0, (.nat 0 34342961152), true, false, false⟩,
  ⟨0x134, 0x134, 0, 63, .word, .rw, .ro, .rw, 0, .any, true, false, false⟩,
  ⟨0x135, 0x135, 0, 63, .word, .rw, .ro, .rw, 30923764531, (.nat 3435973837 34359738367), true, false, false⟩,
  ⟨0x136, 0x136, 0, 63, .bool, .rw, .ro, .rw, 0, .any, true, false, false⟩]

/-- Area 0x3 (AX_), objects from 0x140. -/
def objsAX4 : List ObjInfo := [
  ⟨0x140, 0x140, 0, 63, .word, .rw, .ro, .rw, 8589934592, (.nat 1 34359738367), true, false, false⟩,
  ⟨0x141, 0x141, 0, 63, .u16, .rw, .ro, .rw, 0, (.zeroOr 100 60000), true, false, false⟩,
  ⟨0x142, 0x142, 0, 63, .u8, .rw, .ro, .rw, 0, (.nat 0 1), true, false, false⟩,
  ⟨0x143, 0x143, 0, 63, .u16, .ro, .ro, .ro, 0, .any, false, true, false⟩,
  ⟨0x150, 0x150, 0, 63, .u8, .rw, .ro, .rw, 255, (.ffOr 16 31), true, false, false⟩,
  ⟨0x151, 0x151, 0, 63, .u16, .rw, .ro, .rw, 0, (.nat 0 5000), true, false, false⟩,
  ⟨0x152, 0x152, 0, 63, .u16, .rw, .ro, .rw, 0, (.nat 0 5000), true, false, false⟩,
  ⟨0x153, 0x153, 0, 63, .u16, .rw, .ro, .rw, 200, (.nat 0 10000), true, false, false⟩,
  ⟨0x160, 0x160, 0, 63, .word, .rw, .ro, .rw, 8589934592, (.nat 1717986919 34359738367), true, false, false⟩,
  ⟨0x161, 0x161, 0, 63, .bool, .rw, .ro, .rw, 1, .any, true, false, false⟩,
  ⟨0x162, 0x162, 0, 63, .u16, .rw, .ro, .rw, 1000, (.nat 100 10000), true, false, false⟩,
  ⟨0x163, 0x163, 0, 63, .word, .rw, .ro, .rw, 8589934592, (.nat 1717986919 34359738367), true, false, false⟩,
  ⟨0x164, 0x164, 0, 63, .bool, .rw, .ro, .rw, 1, .any, true, false, false⟩]

/-- Every object of area 0x3 (AX_). -/
def objsAX : List ObjInfo := objsAX0 ++ objsAX1 ++ objsAX2 ++ objsAX3 ++ objsAX4

/-- Area 0x4 (HP_), objects from 0x010. -/
def objsHP0 : List ObjInfo := [
  ⟨0x010, 0x010, 0, 63, .word, .ro, .ro, .ro, 0, .any, false, true, false⟩,
  ⟨0x011, 0x011, 0, 63, .word, .rw, .ro, .rw, 0, .any, false, false, false⟩,
  ⟨0x012, 0x012, 0, 63, .u8, .rw, .ro, .rw, 0, (.nat 0 2), false, true, false⟩,
  ⟨0x013, 0x013, 0, 63, .word, .ro, .ro, .ro, 0, .any, false, true, false⟩,
  ⟨0x014, 0x014, 0, 63, .word, .ro, .ro, .ro, 0, .any, false, false, false⟩,
  ⟨0x015, 0x015, 0, 63, .ext, .ro, .ro, .ro, 0, .any, false, false, false⟩,
  ⟨0x016, 0x016, 0, 63, .word, .ro, .ro, .ro, 0, .any, false, false, false⟩,
  ⟨0x017, 0x017, 0, 63, .word, .ro, .ro, .ro, 0, .any, false, true, false⟩,
  ⟨0x018, 0x018, 0, 63, .word, .w1c, .ro, .w1c, 0, .any, false, false, false⟩,
  ⟨0x019, 0x019, 0, 63, .u16, .ro, .ro, .ro, 65535, .any, false, false, false⟩,
  ⟨0x020, 0x020, 0, 63, .word, .rw, .ro, .rw, 0, .any, false, false, false⟩,
  ⟨0x021, 0x021, 0, 63, .word, .rw, .ro, .rw, 25600000, (.intNonzero (-34359738368) (34359738367)), true, false, false⟩,
  ⟨0x022, 0x022, 0, 63, .word, .rw, .ro, .rw, 8000000, (.int (1) (34359738367)), true, false, false⟩,
  ⟨0x023, 0x023, 0, 63, .word, .rw, .ro, .rw, 8000000, (.int (1) (34359738367)), true, false, false⟩,
  ⟨0x024, 0x024, 0, 63, .u8, .rw, .ro, .rw, 0, (.nat 0 2), true, false, false⟩,
  ⟨0x025, 0x025, 0, 63, .bool, .rw, .ro, .rw, 0, .any, true, false, false⟩,
  ⟨0x026, 0x026, 0, 63, .u8, .ro, .ro, .ro, 0, .any, false, false, false⟩,
  ⟨0x027, 0x027, 0, 63, .word, .ro, .ro, .ro, 0, .any, false, false, false⟩,
  ⟨0x030, 0x030, 0, 63, .word, .ro, .ro, .ro, 0, .any, false, true, false⟩,
  ⟨0x031, 0x031, 0, 63, .word, .ro, .ro, .ro, 0, .any, false, true, false⟩,
  ⟨0x032, 0x032, 0, 63, .word, .ro, .ro, .ro, 0, .any, false, true, false⟩,
  ⟨0x033, 0x033, 0, 63, .word, .ro, .ro, .ro, 0, .any, false, true, false⟩,
  ⟨0x034, 0x034, 0, 63, .word, .ro, .ro, .ro, 0, .any, false, false, false⟩,
  ⟨0x035, 0x035, 0, 63, .word, .rw, .ro, .rw, 0, .any, true, false, true⟩,
  ⟨0x036, 0x036, 0, 63, .word, .ro, .ro, .ro, 0, .any, false, false, false⟩,
  ⟨0x037, 0x037, 0, 63, .word, .ro, .ro, .ro, 0, .any, false, false, false⟩,
  ⟨0x038, 0x038, 0, 63, .word, .rw, .ro, .rw, 100, (.int (0) (34359738367)), true, false, false⟩,
  ⟨0x039, 0x039, 0, 63, .u16, .rw, .ro, .rw, 10, (.nat 0 10000), true, false, false⟩,
  ⟨0x040, 0x040, 0, 63, .word, .ro, .ro, .ro, 0, .any, false, true, false⟩,
  ⟨0x041, 0x041, 0, 63, .domain, .ro, .ro, .ro, 0, .any, false, false, false⟩]

/-- Area 0x4 (HP_), objects from 0x042. -/
def objsHP1 : List ObjInfo := [
  ⟨0x042, 0x042, 0, 63, .word, .ro, .ro, .ro, 0, .any, false, false, false⟩,
  ⟨0x050, 0x050, 0, 63, .u8, .rw, .ro, .rw, 1, (.nat 0 3), true, false, false⟩,
  ⟨0x051, 0x051, 0, 63, .u8, .rw, .ro, .rw, 2, (.nat 0 3), true, false, false⟩,
  ⟨0x052, 0x052, 0, 63, .word, .rw, .ro, .rw, 16000000, (.int (1) (34359738367)), true, false, false⟩,
  ⟨0x053, 0x053, 0, 63, .u8, .rw, .ro, .rw, 0, (.nat 0 1), true, false, false⟩,
  ⟨0x054, 0x054, 0, 63, .u16, .rw, .ro, .rw, 5000, (.zeroOr 10 60000), true, false, false⟩,
  ⟨0x058, 0x058, 0, 63, .word, .rw, .ro, .rw, 51200, (.int (0) (34359738367)), true, false, false⟩,
  ⟨0x059, 0x059, 0, 63, .u16, .rw, .ro, .rw, 10, (.nat 1 10000), true, false, false⟩,
  ⟨0x05A, 0x05A, 0, 63, .word, .rw, .ro, .rw, 0, (.int (0) (34359738367)), true, false, false⟩,
  ⟨0x060, 0x060, 0, 63, .word, .rw, .ro, .rw, 0, (.int (0) (34359738367)), true, false, false⟩,
  ⟨0x061, 0x061, 0, 63, .word, .rw, .ro, .rw, 0, (.int (0) (34359738367)), true, false, false⟩,
  ⟨0x062, 0x062, 0, 63, .u16, .rw, .ro, .rw, 0, (.nat 0 10000), true, false, false⟩,
  ⟨0x063, 0x063, 0, 63, .word, .rw, .ro, .rw, 0, (.int (0) (34359738367)), true, false, false⟩,
  ⟨0x064, 0x064, 0, 63, .word, .rw, .ro, .rw, 34359738367, (.int (1) (34359738367)), true, false, false⟩,
  ⟨0x065, 0x065, 0, 63, .word, .rw, .ro, .rw, 0, (.int (0) (34359738367)), true, false, false⟩,
  ⟨0x068, 0x068, 0, 63, .word, .rw, .ro, .rw, 0, .any, false, false, false⟩,
  ⟨0x069, 0x069, 0, 63, .word, .rw, .ro, .rw, 1000, (.nat 1 1000000), true, false, false⟩,
  ⟨0x070, 0x070, 0, 63, .u8, .rw, .ro, .rw, 255, (.ffOr 0 31), true, false, true⟩,
  ⟨0x071, 0x071, 0, 63, .u8, .rw, .ro, .rw, 255, (.ffOr 0 31), true, false, true⟩,
  ⟨0x072, 0x072, 0, 63, .u8, .rw, .ro, .rw, 3, .any, true, false, true⟩,
  ⟨0x073, 0x073, 0, 63, .u8, .rw, .ro, .rw, 1, (.nat 0 2), true, false, false⟩,
  ⟨0x074, 0x074, 0, 63, .u16, .rw, .ro, .rw, 20, (.nat 1 10000), true, false, false⟩,
  ⟨0x075, 0x075, 0, 63, .u16, .ro, .ro, .ro, 0, .any, false, true, false⟩,
  ⟨0x076, 0x076, 0, 63, .word, .ro, .ro, .ro, 0, .any, false, false, false⟩,
  ⟨0x078, 0x078, 0, 63, .u8, .rw, .ro, .rw, 0, (.nat 0 2), true, false, false⟩,
  ⟨0x079, 0x079, 0, 63, .word, .rw, .ro, .rw, 0, .any, true, false, false⟩,
  ⟨0x07A, 0x07A, 0, 63, .word, .rw, .ro, .rw, 0, .any, true, false, false⟩,
  ⟨0x080, 0x080, 0, 63, .u8, .rw, .ro, .rw, 255, (.ffOr 0 31), true, false, true⟩,
  ⟨0x081, 0x081, 0, 63, .u8, .rw, .ro, .rw, 1, (.nat 0 7), true, false, false⟩,
  ⟨0x082, 0x082, 0, 63, .u8, .rw, .ro, .rw, 0, (.nat 0 1), true, false, false⟩]

/-- Area 0x4 (HP_), objects from 0x083. -/
def objsHP2 : List ObjInfo := [
  ⟨0x083, 0x083, 0, 63, .word, .rw, .ro, .rw, 5120000, (.int (1) (34359738367)), true, false, false⟩,
  ⟨0x084, 0x084, 0, 63, .word, .rw, .ro, .rw, 256000, (.int (1) (34359738367)), true, false, false⟩,
  ⟨0x085, 0x085, 0, 63, .word, .rw, .ro, .rw, 3200000, (.int (1) (34359738367)), true, false, false⟩,
  ⟨0x086, 0x086, 0, 63, .word, .rw, .ro, .rw, 0, .any, true, false, false⟩,
  ⟨0x087, 0x087, 0, 63, .word, .rw, .ro, .rw, 0, (.int (0) (34359738367)), true, false, false⟩,
  ⟨0x088, 0x088, 0, 63, .u16, .rw, .ro, .rw, 5, (.nat 0 1000), true, false, false⟩,
  ⟨0x089, 0x089, 0, 63, .bool, .rw, .ro, .rw, 0, .any, true, false, false⟩,
  ⟨0x08A, 0x08A, 0, 63, .bool, .rw, .ro, .rw, 0, .any, true, false, false⟩,
  ⟨0x08B, 0x08B, 0, 63, .word, .rw, .ro, .rw, 4294967296, (.nat 687194768 34359738367), true, false, false⟩,
  ⟨0x08C, 0x08C, 0, 63, .u16, .rw, .ro, .rw, 50, (.nat 5 5000), true, false, false⟩,
  ⟨0x08D, 0x08D, 0, 63, .word, .rw, .ro, .rw, 0, (.int (0) (34359738367)), true, false, false⟩,
  ⟨0x08E, 0x08E, 0, 63, .u16, .rw, .ro, .rw, 60, (.nat 1 3600), true, false, false⟩,
  ⟨0x090, 0x090, 0, 63, .word, .rw, .ro, .rw, 0, (.zeroOr 2 17179869184), true, false, true⟩,
  ⟨0x091, 0x091, 0, 63, .u8, .rw, .ro, .rw, 0, (.nat 0 2), true, false, false⟩,
  ⟨0x0A0, 0x0A0, 0, 63, .u8, .rw, .ro, .rw, 0, (.nat 0 1), true, false, false⟩,
  ⟨0x0A1, 0x0A1, 0, 63, .u8, .rw, .ro, .rw, 0, (.nat 0 255), true, false, false⟩,
  ⟨0x0A2, 0x0A2, 0, 63, .word, .rw, .ro, .rw, 1, (.int (-1048576) (1048576)), true, false, false⟩,
  ⟨0x0A3, 0x0A3, 0, 63, .word, .rw, .ro, .rw, 1, (.nat 1 1048576), true, false, false⟩,
  ⟨0x0A4, 0x0A4, 0, 63, .word, .rw, .ro, .rw, 0, .any, true, false, false⟩,
  ⟨0x0A5, 0x0A5, 0, 63, .word, .rw, .ro, .rw, 0, .any, true, false, false⟩,
  ⟨0x0A6, 0x0A6, 0, 63, .bool, .rw, .ro, .rw, 1, .any, true, false, false⟩,
  ⟨0x0A7, 0x0A7, 0, 63, .u8, .rw, .ro, .rw, 0, (.nat 0 2), true, false, false⟩,
  ⟨0x0A8, 0x0A8, 0, 63, .word, .rw, .ro, .rw, 0, .any, true, false, false⟩,
  ⟨0x0A9, 0x0A9, 0, 63, .ext, .rw, .ro, .rw, 0, .any, true, false, false⟩,
  ⟨0x0AA, 0x0AA, 0, 63, .word, .rw, .ro, .rw, 0, (.int (0) (34359738367)), true, false, false⟩,
  ⟨0x0AB, 0x0AB, 0, 63, .word, .rw, .ro, .rw, 0, .any, true, false, false⟩,
  ⟨0x0AC, 0x0AC, 0, 63, .u16, .rw, .ro, .rw, 1000, .any, true, false, false⟩,
  ⟨0x0AD, 0x0AD, 0, 63, .u8, .wo, .no, .wo, 0, (.nat 1 3), false, false, false⟩,
  ⟨0x0AE, 0x0AE, 0, 63, .u8, .ro, .ro, .ro, 0, .any, false, true, false⟩,
  ⟨0x0AF, 0x0AF, 0, 63, .word, .ro, .ro, .ro, 0, .any, false, false, false⟩]

/-- Area 0x4 (HP_), objects from 0x100. -/
def objsHP3 : List ObjInfo := [
  ⟨0x100, 0x100, 0, 63, .u8, .rw, .ro, .rw, 0, (.nat 0 2), true, false, true⟩,
  ⟨0x101, 0x101, 0, 63, .u16, .rw, .ro, .rw, 8, (.nat 1 6400), true, false, true⟩,
  ⟨0x102, 0x102, 0, 63, .u8, .rw, .ro, .rw, 2, (.nat 1 16), true, false, true⟩,
  ⟨0x103, 0x103, 0, 63, .u8, .rw, .ro, .rw, 0, (.nat 0 1), true, false, true⟩,
  ⟨0x104, 0x104, 0, 63, .u16, .wo, .no, .wo, 0, .any, false, false, false⟩,
  ⟨0x105, 0x105, 0, 63, .u16, .wo, .no, .wo, 0, .any, false, false, false⟩,
  ⟨0x106, 0x106, 0, 63, .domain, .ro, .ro, .ro, 0, .any, false, false, false⟩,
  ⟨0x107, 0x107, 0, 63, .u8, .ro, .ro, .ro, 0, .any, false, false, false⟩,
  ⟨0x110, 0x110, 0, 63, .u16, .rw, .ro, .rw, 0, .any, true, false, false⟩,
  ⟨0x120, 0x120, 0, 63, .u8, .rw, .ro, .rw, 255, (.ffOr 0 63), true, false, true⟩,
  ⟨0x121, 0x121, 0, 63, .word, .rw, .ro, .rw, 0, (.zeroOr 100 10000000), true, false, false⟩,
  ⟨0x122, 0x122, 0, 63, .word, .rw, .ro, .rw, 335544320, (.nat 0 34342961152), true, false, false⟩,
  ⟨0x123, 0x123, 0, 63, .word, .rw, .ro, .rw, 16777216, (.nat 0 16777216), true, false, false⟩,
  ⟨0x124, 0x124, 0, 63, .word, .rw, .ro, .rw, 8388608, (.nat 0 34342961152), true, false, false⟩,
  ⟨0x125, 0x125, 0, 63, .word, .rw, .ro, .rw, 167772, (.nat 0 34342961152), true, false, false⟩,
  ⟨0x126, 0x126, 0, 63, .word, .rw, .ro, .rw, 0, .any, true, false, false⟩,
  ⟨0x127, 0x127, 0, 63, .word, .rw, .ro, .rw, 17179869184, (.nat 0 34359738367), true, false, false⟩]

/-- Every object of area 0x4 (HP_). -/
def objsHP : List ObjInfo := objsHP0 ++ objsHP1 ++ objsHP2 ++ objsHP3

/-- Area 0x5 (FB_), objects from 0x010. -/
def objsFB0 : List ObjInfo := [
  ⟨0x010, 0x010, 0, 63, .word, .ro, .ro, .ro, 0, .any, false, true, false⟩,
  ⟨0x011, 0x011, 0, 63, .word, .ro, .ro, .ro, 0, .any, false, true, false⟩,
  ⟨0x012, 0x012, 0, 63, .word, .ro, .ro, .ro, 0, .any, false, false, false⟩,
  ⟨0x013, 0x013, 0, 63, .u8, .ro, .ro, .ro, 0, .any, false, false, false⟩,
  ⟨0x014, 0x014, 0, 63, .u8, .ro, .ro, .ro, 255, .any, false, false, false⟩,
  ⟨0x015, 0x015, 0, 63, .u8, .ro, .ro, .ro, 0, .any, false, true, false⟩,
  ⟨0x016, 0x016, 0, 63, .word, .ro, .ro, .ro, 0, .any, false, false, false⟩,
  ⟨0x017, 0x017, 0, 63, .u8, .w1c, .ro, .w1c, 0, .any, false, false, false⟩,
  ⟨0x018, 0x018, 0, 63, .word, .ro, .ro, .ro, 0, .any, false, false, false⟩,
  ⟨0x019, 0x019, 0, 63, .word, .ro, .ro, .ro, 0, .any, false, false, false⟩,
  ⟨0x01A, 0x01A, 0, 63, .word, .ro, .ro, .ro, 0, .any, false, false, false⟩,
  ⟨0x01B, 0x01B, 0, 63, .bool, .wo, .no, .wo, 0, .any, false, false, false⟩,
  ⟨0x01C, 0x01C, 0, 63, .word, .ro, .ro, .ro, 0, .any, false, false, false⟩,
  ⟨0x01D, 0x01D, 0, 63, .u8, .ro, .ro, .ro, 0, .any, false, false, false⟩,
  ⟨0x01E, 0x01E, 0, 63, .word, .ro, .ro, .ro, 0, .any, false, false, false⟩,
  ⟨0x100, 0x100, 0, 63, .u8, .rw, .ro, .rw, 0, (.nat 0 3), true, false, false⟩,
  ⟨0x101, 0x101, 0, 63, .u8, .rw, .ro, .rw, 3, (.nat 1 255), true, false, false⟩,
  ⟨0x102, 0x102, 0, 63, .u8, .rw, .ro, .rw, 0, .any, true, false, false⟩,
  ⟨0x103, 0x103, 0, 63, .bool, .rw, .ro, .rw, 0, .any, true, false, false⟩,
  ⟨0x104, 0x104, 0, 63, .u8, .rw, .ro, .rw, 4, .any, true, false, false⟩,
  ⟨0x105, 0x105, 0, 63, .u16, .rw, .ro, .rw, 1000, (.nat 10 60000), true, false, false⟩,
  ⟨0x106, 0x106, 0, 63, .bool, .rw, .ro, .rw, 0, .any, true, false, false⟩,
  ⟨0x110, 0x110, 0, 63, .u8, .rw, .ro, .rw, 0, (.nat 0 2), true, false, false⟩,
  ⟨0x111, 0x111, 0, 63, .u8, .rw, .ro, .rw, 4, (.nat 0 4), true, false, false⟩,
  ⟨0x112, 0x112, 0, 63, .word, .rw, .ro, .rw, 0, (.zeroOr 4 34359738368), true, false, false⟩,
  ⟨0x113, 0x113, 0, 63, .u16, .rw, .ro, .rw, 2, (.nat 0 1000), true, false, false⟩,
  ⟨0x120, 0x120, 0, 63, .u16, .rw, .ro, .rw, 50, (.nat 1 10000), true, false, false⟩,
  ⟨0x130, 0x130, 0, 63, .u8, .rw, .ro, .rw, 24, (.nat 8 36), true, false, false⟩,
  ⟨0x131, 0x131, 0, 63, .u8, .rw, .ro, .rw, 0, (.nat 0 1), true, false, false⟩,
  ⟨0x132, 0x132, 0, 63, .u8, .rw, .ro, .rw, 0, (.nat 0 4), true, false, false⟩]

/-- Area 0x5 (FB_), objects from 0x133. -/
def objsFB1 : List ObjInfo := [
  ⟨0x133, 0x133, 0, 63, .u8, .rw, .ro, .rw, 0, (.nat 0 8), true, false, false⟩,
  ⟨0x134, 0x134, 0, 63, .u8, .rw, .ro, .rw, 0, .any, true, false, false⟩,
  ⟨0x135, 0x135, 0, 63, .u8, .rw, .ro, .rw, 0, (.nat 0 8), true, false, false⟩,
  ⟨0x136, 0x136, 0, 63, .u8, .rw, .ro, .rw, 1, .any, true, false, false⟩,
  ⟨0x137, 0x137, 0, 63, .bool, .rw, .ro, .rw, 0, .any, true, false, false⟩,
  ⟨0x138, 0x138, 0, 63, .u16, .rw, .ro, .rw, 800, (.even 400 4000), true, false, false⟩,
  ⟨0x139, 0x139, 0, 63, .u16, .rw, .ro, .rw, 200, (.nat 0 4000), true, false, false⟩,
  ⟨0x13A, 0x13A, 0, 63, .u16, .rw, .ro, .rw, 20, (.nat 1 100), true, false, false⟩,
  ⟨0x13B, 0x13B, 0, 63, .word, .rw, .ro, .rw, 0, (.zeroOr 1 34359738368), true, false, false⟩,
  ⟨0x140, 0x140, 0, 63, .u8, .rw, .ro, .rw, 4, (.nat 1 8), true, false, false⟩,
  ⟨0x141, 0x141, 0, 63, .u16, .rw, .ro, .rw, 200, (.nat 10 10000), true, false, false⟩,
  ⟨0x142, 0x142, 0, 63, .u16, .rw, .ro, .rw, 100, (.nat 1 8000), true, false, false⟩]

/-- Every object of area 0x5 (FB_). -/
def objsFB : List ObjInfo := objsFB0 ++ objsFB1

/-- Area 0x6 (PW_), objects from 0x100. -/
def objsPW0 : List ObjInfo := [
  ⟨0x100, 0x100, 0, 63, .word, .rw, .ro, .rw, 80000, (.even 40000 2000000), true, false, true⟩,
  ⟨0x101, 0x101, 0, 63, .u8, .rw, .ro, .rw, 1, (.nat 0 1), true, false, true⟩,
  ⟨0x102, 0x102, 0, 63, .u8, .rw, .ro, .rw, 1, (.nat 0 1), true, false, true⟩,
  ⟨0x103, 0x103, 0, 63, .u16, .rw, .ro, .rw, 400, (.nat 80 8000), true, false, true⟩,
  ⟨0x104, 0x104, 0, 63, .u16, .rw, .ro, .rw, 2000, (.nat 80 20000), true, false, true⟩,
  ⟨0x105, 0x105, 0, 63, .word, .rw, .ro, .rw, 0, .any, true, false, true⟩,
  ⟨0x106, 0x106, 0, 63, .u8, .rw, .ro, .rw, 1, (.nat 0 1), true, false, false⟩,
  ⟨0x107, 0x107, 0, 63, .word, .rw, .ro, .rw, 24000, (.nat 1000 1000000), true, false, false⟩,
  ⟨0x108, 0x108, 0, 63, .u16, .rw, .ro, .rw, 0, (.nat 0 10000), true, false, false⟩,
  ⟨0x109, 0x109, 0, 63, .bool, .rw, .ro, .rw, 1, .any, true, false, false⟩,
  ⟨0x110, 0x110, 0, 63, .u8, .rw, .ro, .rw, 0, (.nat 0 1), false, false, false⟩,
  ⟨0x111, 0x111, 0, 63, .word, .rw, .ro, .rw, 80000, (.even 40000 2000000), false, false, false⟩,
  ⟨0x112, 0x112, 0, 63, .word, .rw, .ro, .rw, 0, .any, false, false, false⟩,
  ⟨0x113, 0x113, 0, 63, .word, .rw, .ro, .rw, 0, .any, false, false, false⟩,
  ⟨0x114, 0x114, 0, 63, .word, .rw, .ro, .rw, 0, .any, false, false, false⟩,
  ⟨0x115, 0x115, 0, 63, .bool, .wo, .no, .wo, 0, .any, false, false, false⟩,
  ⟨0x116, 0x116, 0, 63, .u8, .w1c, .ro, .w1c, 0, .any, false, false, false⟩,
  ⟨0x118, 0x118, 0, 63, .word, .ro, .ro, .ro, 0, .any, false, true, false⟩,
  ⟨0x119, 0x119, 0, 63, .word, .ro, .ro, .ro, 0, .any, false, true, false⟩,
  ⟨0x11A, 0x11A, 0, 63, .word, .ro, .ro, .ro, 0, .any, false, true, false⟩,
  ⟨0x120, 0x120, 0, 63, .u8, .rw, .ro, .rw, 0, (.nat 0 7), true, false, true⟩,
  ⟨0x121, 0x121, 0, 63, .u8, .rw, .ro, .rw, 0, (.nat 0 1), true, false, true⟩,
  ⟨0x122, 0x122, 0, 63, .u16, .rw, .ro, .rw, 32, (.oneOf [16, 32, 64, 128, 256]), true, false, true⟩,
  ⟨0x123, 0x123, 0, 63, .u8, .rw, .ro, .rw, 16, (.oneOf [8, 16, 32]), true, false, true⟩,
  ⟨0x124, 0x124, 0, 63, .word, .rw, .ro, .rw, 16777216, (.int (-34342961152) (34342961152)), true, false, false⟩,
  ⟨0x125, 0x125, 0, 63, .word, .rw, .ro, .rw, 0, .any, true, false, false⟩,
  ⟨0x126, 0x126, 0, 63, .word, .rw, .ro, .rw, 0, .any, true, false, false⟩,
  ⟨0x127, 0x127, 0, 63, .u16, .ro, .ro, .ro, 0, .any, false, false, false⟩,
  ⟨0x128, 0x128, 0, 63, .word, .ro, .ro, .ro, 0, .any, false, false, false⟩,
  ⟨0x129, 0x129, 0, 63, .word, .ro, .ro, .ro, 0, .any, false, true, false⟩]

/-- Area 0x6 (PW_), objects from 0x12A. -/
def objsPW1 : List ObjInfo := [
  ⟨0x12A, 0x12A, 0, 63, .word, .ro, .ro, .ro, 0, .any, false, true, false⟩,
  ⟨0x130, 0x130, 0, 63, .word, .rw, .ro, .rw, 30923764531, (.nat 0 34359738367), true, false, false⟩,
  ⟨0x131, 0x131, 0, 63, .u8, .rw, .ro, .rw, 0, .any, true, false, false⟩,
  ⟨0x132, 0x132, 0, 63, .u8, .rw, .ro, .rw, 0, .any, true, false, false⟩,
  ⟨0x133, 0x133, 0, 63, .u16, .ro, .ro, .ro, 0, .any, false, false, false⟩,
  ⟨0x150, 0x150, 0, 63, .u8, .rw, .ro, .rw, 0, (.nat 0 4), true, false, true⟩,
  ⟨0x151, 0x151, 0, 63, .word, .rw, .ro, .rw, 0, (.zeroOr 6 34359738368), true, false, true⟩,
  ⟨0x152, 0x152, 0, 63, .word, .rw, .ro, .rw, 0, .any, true, false, false⟩,
  ⟨0x153, 0x153, 0, 63, .u8, .rw, .ro, .rw, 255, (.ffOr 0 63), true, false, true⟩,
  ⟨0x154, 0x154, 0, 63, .u16, .rw, .ro, .rw, 0, .any, true, false, false⟩,
  ⟨0x155, 0x155, 0, 63, .bool, .rw, .ro, .rw, 0, .any, true, false, false⟩,
  ⟨0x156, 0x156, 0, 63, .u8, .rw, .ro, .rw, 20, (.nat 5 60), true, false, false⟩,
  ⟨0x157, 0x157, 0, 63, .word, .rw, .ro, .rw, 8589934592, (.nat 1717986919 34359738367), true, false, false⟩,
  ⟨0x158, 0x158, 0, 63, .u16, .rw, .ro, .rw, 500, (.nat 50 5000), true, false, false⟩,
  ⟨0x159, 0x159, 0, 63, .u16, .ro, .ro, .ro, 0, .any, false, true, false⟩,
  ⟨0x15A, 0x15A, 0, 63, .bool, .ro, .ro, .ro, 0, .any, false, false, false⟩]

/-- Every object of area 0x6 (PW_). -/
def objsPW : List ObjInfo := objsPW0 ++ objsPW1

/-- Area 0x7 (EV_), objects from 0x100. -/
def objsEV0 : List ObjInfo := [
  ⟨0x100, 0x100, 0, 0, .domain, .rw, .ro, .rw, 0, .any, false, false, false⟩,
  ⟨0x101, 0x101, 0, 0, .domain, .ro, .ro, .ro, 0, .any, false, false, false⟩,
  ⟨0x102, 0x102, 0, 0, .word, .wo, .no, .wo, 0, .any, false, false, false⟩,
  ⟨0x103, 0x103, 0, 0, .u16, .rw, .ro, .rw, 25, (.nat 1 400), true, false, false⟩,
  ⟨0x104, 0x104, 0, 0, .u16, .rw, .ro, .rw, 8000, (.nat 100 8000), true, false, false⟩,
  ⟨0x105, 0x105, 0, 0, .u16, .ro, .ro, .ro, 0, .any, false, true, false⟩,
  ⟨0x106, 0x106, 0, 0, .u16, .ro, .ro, .ro, 0, .any, false, false, false⟩,
  ⟨0x107, 0x107, 0, 0, .word, .ro, .ro, .ro, 0, .any, false, true, false⟩,
  ⟨0x108, 0x108, 0, 0, .word, .ro, .ro, .ro, 0, .any, false, false, false⟩,
  ⟨0x109, 0x109, 0, 0, .word, .ro, .ro, .ro, 0, .any, false, false, false⟩,
  ⟨0x10A, 0x10A, 0, 0, .u16, .rw, .ro, .rw, 512, (.nat 0 1023), true, false, false⟩,
  ⟨0x10B, 0x10B, 0, 0, .word, .ro, .ro, .ro, 0, .any, false, false, false⟩,
  ⟨0x10C, 0x10C, 0, 0, .word, .ro, .ro, .ro, 0, .any, false, false, false⟩,
  ⟨0x110, 0x110, 0, 0, .domain, .rw, .ro, .rw, 0, .any, true, false, false⟩,
  ⟨0x120, 0x120, 0, 0, .domain, .ro, .ro, .ro, 0, .any, false, false, false⟩,
  ⟨0x121, 0x121, 0, 0, .word, .ro, .ro, .ro, 0, .any, false, true, false⟩,
  ⟨0x200, 0x200, 0, 31, .u8, .rw, .ro, .rw, 0, (.nat 0 2), true, false, false⟩,
  ⟨0x201, 0x201, 0, 31, .u16, .rw, .ro, .rw, 0, .any, true, false, false⟩,
  ⟨0x202, 0x202, 0, 31, .u8, .rw, .ro, .rw, 1, (.nat 1 3), true, false, false⟩,
  ⟨0x203, 0x203, 0, 31, .u16, .rw, .ro, .rw, 0, .any, true, false, false⟩,
  ⟨0x204, 0x204, 0, 31, .bool, .wo, .no, .wo, 0, .any, false, false, false⟩,
  ⟨0x205, 0x205, 0, 31, .domain, .ro, .ro, .ro, 0, .any, false, true, false⟩,
  ⟨0x206, 0x206, 0, 31, .word, .ro, .ro, .ro, 0, .any, false, true, false⟩,
  ⟨0x207, 0x207, 0, 31, .domain, .ro, .ro, .ro, 0, .any, false, false, false⟩,
  ⟨0x208, 0x208, 0, 31, .u8, .w1c, .ro, .w1c, 0, .any, false, false, false⟩,
  ⟨0x209, 0x209, 0, 31, .u8, .rw, .ro, .rw, 255, (.ffOr 0 15), true, false, false⟩,
  ⟨0x20A, 0x20A, 0, 31, .bool, .rw, .ro, .rw, 0, .any, true, false, false⟩,
  ⟨0x20B, 0x20B, 0, 31, .u16, .rw, .ro, .rw, 0, (.nat 0 4095), true, false, false⟩,
  ⟨0x300, 0x32F, 0, 0, .word, .rw, .ro, .rw, 0, (.nat 0 40000000), true, false, false⟩,
  ⟨0x340, 0x36F, 0, 0, .word, .ro, .ro, .ro, 0, .any, false, false, false⟩]

/-- Area 0x7 (EV_), objects from 0x380. -/
def objsEV1 : List ObjInfo := [
  ⟨0x380, 0x38F, 0, 0, .u8, .rw, .ro, .rw, 3, (.nat 1 255), true, false, false⟩,
  ⟨0x3A0, 0x3AF, 0, 0, .word, .ro, .ro, .ro, 0, .any, false, false, false⟩]

/-- Every object of area 0x7 (EV_). -/
def objsEV : List ObjInfo := objsEV0 ++ objsEV1

/-- Area 0x8 (IO_), objects from 0x010. -/
def objsIO0 : List ObjInfo := [
  ⟨0x010, 0x010, 0, 31, .bool, .ro, .ro, .ro, 0, .any, false, true, false⟩,
  ⟨0x011, 0x011, 0, 31, .u8, .ro, .ro, .ro, 0, .any, false, true, false⟩,
  ⟨0x012, 0x012, 0, 31, .u8, .ro, .ro, .w1c, 0, .any, false, false, false⟩,
  ⟨0x013, 0x013, 0, 31, .word, .ro, .ro, .ro, 0, .any, false, false, false⟩,
  ⟨0x020, 0x020, 16, 31, .bool, .rw, .ro, .rw, 0, .any, false, true, false⟩,
  ⟨0x100, 0x100, 0, 31, .u8, .ro, .ro, .rw, 0, (.nat 0 1), true, false, false⟩,
  ⟨0x101, 0x101, 0, 31, .u8, .ro, .ro, .rw, 3, (.oneOf [1, 3]), true, false, false⟩,
  ⟨0x102, 0x102, 0, 31, .u8, .ro, .ro, .rw, 0, (.nat 0 255), true, false, false⟩,
  ⟨0x103, 0x103, 0, 31, .bool, .ro, .ro, .rw, 0, .any, true, false, false⟩,
  ⟨0x104, 0x104, 0, 31, .u16, .ro, .ro, .rw, 10, (.nat 1 1000), true, false, false⟩,
  ⟨0x105, 0x105, 0, 31, .u16, .ro, .ro, .rw, 20, (.nat 1 1000), true, false, false⟩,
  ⟨0x106, 0x106, 0, 31, .bool, .ro, .ro, .rw, 0, .any, true, false, false⟩,
  ⟨0x300, 0x300, 0, 0, .u8, .ro, .ro, .ro, 0, .any, false, true, false⟩,
  ⟨0x301, 0x301, 0, 0, .word, .ro, .ro, .ro, 0, .any, false, false, false⟩,
  ⟨0x302, 0x302, 0, 0, .bool, .ro, .ro, .ro, 0, .any, false, true, false⟩,
  ⟨0x303, 0x303, 0, 0, .u16, .ro, .ro, .ro, 0, .any, false, false, false⟩,
  ⟨0x304, 0x304, 0, 0, .word, .ro, .ro, .ro, 0, .any, false, false, false⟩,
  ⟨0x305, 0x305, 0, 0, .word, .ro, .ro, .ro, 0, .any, false, false, false⟩,
  ⟨0x306, 0x306, 0, 0, .word, .ro, .ro, .ro, 0, .any, false, false, false⟩]

/-- Every object of area 0x8 (IO_). -/
def objsIO : List ObjInfo := objsIO0

/-- Area 0x9 (SF_), objects from 0x100. -/
def objsSF0 : List ObjInfo := [
  ⟨0x100, 0x100, 0, 0, .word, .ro, .ro, .ro, 0, .any, false, false, false⟩,
  ⟨0x101, 0x101, 0, 0, .u16, .ro, .ro, .ro, 0, .any, false, false, false⟩,
  ⟨0x102, 0x102, 0, 0, .u16, .ro, .ro, .ro, 0, .any, false, false, false⟩,
  ⟨0x103, 0x103, 0, 0, .word, .ro, .ro, .ro, 0, .any, false, true, false⟩,
  ⟨0x104, 0x104, 0, 0, .word, .ro, .ro, .ro, 0, .any, false, true, false⟩,
  ⟨0x105, 0x105, 0, 0, .u8, .ro, .ro, .ro, 0, .any, false, false, false⟩,
  ⟨0x106, 0x106, 0, 0, .bool, .ro, .ro, .ro, 0, .any, false, true, false⟩,
  ⟨0x107, 0x107, 0, 0, .word, .ro, .ro, .ro, 0, .any, false, false, false⟩,
  ⟨0x108, 0x108, 0, 0, .word, .ro, .ro, .ro, 0, .any, false, false, false⟩,
  ⟨0x109, 0x109, 0, 0, .word, .ro, .ro, .ro, 0, .any, false, false, false⟩,
  ⟨0x110, 0x110, 0, 1, .u8, .ro, .ro, .ro, 0, .any, false, true, false⟩,
  ⟨0x111, 0x111, 0, 1, .u8, .ro, .ro, .ro, 0, .any, false, true, false⟩]

/-- Every object of area 0x9 (SF_). -/
def objsSF : List ObjInfo := objsSF0

/-- Area 0xA (AQ_), objects from 0x040. -/
def objsAQ0 : List ObjInfo := [
  ⟨0x040, 0x040, 0, 7, .word, .ro, .ro, .ro, 0, .any, false, true, false⟩,
  ⟨0x041, 0x041, 0, 7, .domain, .ro, .ro, .ro, 0, .any, false, false, false⟩,
  ⟨0x042, 0x042, 0, 7, .word, .ro, .ro, .ro, 0, .any, false, false, false⟩,
  ⟨0x100, 0x100, 0, 7, .u8, .ro, .ro, .ro, 0, .any, false, true, false⟩,
  ⟨0x101, 0x101, 0, 7, .u8, .wo, .no, .wo, 0, (.nat 1 3), false, false, false⟩,
  ⟨0x102, 0x102, 0, 7, .word, .rw, .ro, .rw, 0, (.nat 0 524287), true, false, false⟩,
  ⟨0x103, 0x103, 0, 7, .word, .rw, .ro, .rw, 65536, (.zeroOr 256 524288), true, false, false⟩,
  ⟨0x104, 0x104, 0, 7, .word, .rw, .ro, .rw, 32768, .any, true, false, false⟩,
  ⟨0x105, 0x105, 0, 7, .u16, .rw, .ro, .rw, 1000, (.nat 0 60000), true, false, false⟩,
  ⟨0x106, 0x106, 0, 7, .u16, .rw, .ro, .rw, 1, (.nat 1 6400), true, false, false⟩,
  ⟨0x107, 0x107, 0, 7, .bool, .rw, .ro, .rw, 0, .any, true, false, false⟩,
  ⟨0x108, 0x108, 0, 7, .u8, .rw, .ro, .rw, 0, .any, true, false, false⟩,
  ⟨0x109, 0x109, 0, 7, .u8, .rw, .ro, .rw, 0, (.nat 0 7), true, false, false⟩,
  ⟨0x10A, 0x10A, 0, 7, .word, .rw, .ro, .rw, 0, .any, true, false, false⟩,
  ⟨0x10B, 0x10B, 0, 7, .u8, .rw, .ro, .rw, 1, (.nat 1 3), true, false, false⟩,
  ⟨0x10C, 0x10C, 0, 7, .u16, .rw, .ro, .rw, 256, .any, true, false, false⟩,
  ⟨0x10D, 0x10D, 0, 7, .u8, .rw, .ro, .rw, 0, .any, true, false, false⟩,
  ⟨0x10E, 0x10E, 0, 7, .bool, .rw, .ro, .rw, 0, .any, true, false, false⟩,
  ⟨0x10F, 0x10F, 0, 7, .u16, .rw, .ro, .rw, 0, (.nat 0 4095), true, false, false⟩,
  ⟨0x110, 0x110, 0, 7, .ext, .ro, .ro, .ro, 0, .any, false, false, false⟩,
  ⟨0x111, 0x111, 0, 7, .u8, .ro, .ro, .ro, 0, .any, false, false, false⟩,
  ⟨0x112, 0x112, 0, 7, .word, .ro, .ro, .ro, 0, .any, false, false, false⟩,
  ⟨0x113, 0x113, 0, 7, .word, .ro, .ro, .ro, 0, .any, false, false, false⟩,
  ⟨0x114, 0x114, 0, 7, .word, .ro, .ro, .ro, 0, .any, false, false, false⟩,
  ⟨0x115, 0x115, 0, 7, .u8, .w1c, .ro, .w1c, 0, .any, false, false, false⟩,
  ⟨0x116, 0x116, 0, 7, .word, .ro, .ro, .ro, 0, .any, false, false, false⟩,
  ⟨0x117, 0x117, 0, 7, .word, .ro, .ro, .ro, 0, .any, false, false, false⟩,
  ⟨0x118, 0x118, 0, 7, .ext, .ro, .ro, .ro, 0, .any, false, false, false⟩,
  ⟨0x119, 0x119, 0, 7, .bool, .wo, .no, .wo, 0, .any, false, false, false⟩,
  ⟨0x11A, 0x11A, 0, 7, .word, .ro, .ro, .ro, 0, .any, false, false, false⟩]

/-- Area 0xA (AQ_), objects from 0x200. -/
def objsAQ1 : List ObjInfo := [
  ⟨0x200, 0x200, 0, 7, .word, .rw, .ro, .rw, 0, .any, true, false, false⟩,
  ⟨0x201, 0x201, 0, 7, .word, .rw, .ro, .rw, 0, (.nat 0 34359738368), true, false, false⟩,
  ⟨0x202, 0x202, 0, 7, .word, .rw, .ro, .rw, 0, (.int (-40000000) (40000000)), true, false, false⟩,
  ⟨0x203, 0x203, 0, 7, .word, .ro, .ro, .ro, 0, .any, false, false, false⟩,
  ⟨0x210, 0x210, 0, 7, .word, .rw, .ro, .rw, 0, .any, true, false, false⟩,
  ⟨0x211, 0x211, 0, 7, .word, .rw, .ro, .rw, 0, (.nat 0 34359738368), true, false, false⟩,
  ⟨0x212, 0x212, 0, 7, .word, .rw, .ro, .rw, 0, (.int (-40000000) (40000000)), true, false, false⟩,
  ⟨0x213, 0x213, 0, 7, .word, .ro, .ro, .ro, 0, .any, false, false, false⟩,
  ⟨0x220, 0x220, 0, 7, .word, .rw, .ro, .rw, 0, .any, true, false, false⟩,
  ⟨0x221, 0x221, 0, 7, .word, .rw, .ro, .rw, 0, (.nat 0 34359738368), true, false, false⟩,
  ⟨0x222, 0x222, 0, 7, .word, .rw, .ro, .rw, 0, (.int (-40000000) (40000000)), true, false, false⟩,
  ⟨0x223, 0x223, 0, 7, .word, .ro, .ro, .ro, 0, .any, false, false, false⟩,
  ⟨0x230, 0x230, 0, 7, .word, .rw, .ro, .rw, 0, .any, true, false, false⟩,
  ⟨0x231, 0x231, 0, 7, .word, .rw, .ro, .rw, 0, (.nat 0 34359738368), true, false, false⟩,
  ⟨0x232, 0x232, 0, 7, .word, .rw, .ro, .rw, 0, (.int (-40000000) (40000000)), true, false, false⟩,
  ⟨0x233, 0x233, 0, 7, .word, .ro, .ro, .ro, 0, .any, false, false, false⟩,
  ⟨0x240, 0x240, 0, 7, .word, .rw, .ro, .rw, 0, .any, true, false, false⟩,
  ⟨0x241, 0x241, 0, 7, .word, .rw, .ro, .rw, 0, (.nat 0 34359738368), true, false, false⟩,
  ⟨0x242, 0x242, 0, 7, .word, .rw, .ro, .rw, 0, (.int (-40000000) (40000000)), true, false, false⟩,
  ⟨0x243, 0x243, 0, 7, .word, .ro, .ro, .ro, 0, .any, false, false, false⟩,
  ⟨0x250, 0x250, 0, 7, .word, .rw, .ro, .rw, 0, .any, true, false, false⟩,
  ⟨0x251, 0x251, 0, 7, .word, .rw, .ro, .rw, 0, (.nat 0 34359738368), true, false, false⟩,
  ⟨0x252, 0x252, 0, 7, .word, .rw, .ro, .rw, 0, (.int (-40000000) (40000000)), true, false, false⟩,
  ⟨0x253, 0x253, 0, 7, .word, .ro, .ro, .ro, 0, .any, false, false, false⟩,
  ⟨0x260, 0x260, 0, 7, .word, .rw, .ro, .rw, 0, .any, true, false, false⟩,
  ⟨0x261, 0x261, 0, 7, .word, .rw, .ro, .rw, 0, (.nat 0 34359738368), true, false, false⟩,
  ⟨0x262, 0x262, 0, 7, .word, .rw, .ro, .rw, 0, (.int (-40000000) (40000000)), true, false, false⟩,
  ⟨0x263, 0x263, 0, 7, .word, .ro, .ro, .ro, 0, .any, false, false, false⟩,
  ⟨0x270, 0x270, 0, 7, .word, .rw, .ro, .rw, 0, .any, true, false, false⟩,
  ⟨0x271, 0x271, 0, 7, .word, .rw, .ro, .rw, 0, (.nat 0 34359738368), true, false, false⟩]

/-- Area 0xA (AQ_), objects from 0x272. -/
def objsAQ2 : List ObjInfo := [
  ⟨0x272, 0x272, 0, 7, .word, .rw, .ro, .rw, 0, (.int (-40000000) (40000000)), true, false, false⟩,
  ⟨0x273, 0x273, 0, 7, .word, .ro, .ro, .ro, 0, .any, false, false, false⟩]

/-- Every object of area 0xA (AQ_). -/
def objsAQ : List ObjInfo := objsAQ0 ++ objsAQ1 ++ objsAQ2

/-- Area 0xB (CM_), objects from 0x040. -/
def objsCM0 : List ObjInfo := [
  ⟨0x040, 0x040, 0, 0, .word, .ro, .ro, .ro, 0, .any, false, true, false⟩,
  ⟨0x041, 0x041, 0, 0, .domain, .ro, .ro, .ro, 0, .any, false, false, false⟩,
  ⟨0x042, 0x042, 0, 0, .word, .ro, .ro, .ro, 0, .any, false, false, false⟩,
  ⟨0x100, 0x100, 0, 0, .domain, .rw, .ro, .rw, 0, .any, false, false, false⟩,
  ⟨0x110, 0x110, 0, 0, .u8, .wo, .no, .wo, 0, (.nat 0 255), false, false, false⟩,
  ⟨0x200, 0x200, 0, 255, .word, .rw, .ro, .rw, 0, (.nat 0 1048575), false, false, false⟩,
  ⟨0x201, 0x201, 0, 255, .u16, .ro, .ro, .ro, 0, .any, false, false, false⟩,
  ⟨0x202, 0x202, 0, 255, .word, .ro, .ro, .ro, 0, .any, false, false, false⟩,
  ⟨0x203, 0x203, 0, 255, .u8, .ro, .ro, .ro, 0, .any, false, false, false⟩,
  ⟨0x204, 0x204, 0, 255, .bool, .ro, .ro, .ro, 0, .any, false, false, false⟩,
  ⟨0x300, 0x300, 0, 15, .domain, .wo, .no, .wo, 0, .any, false, false, false⟩,
  ⟨0x301, 0x301, 0, 15, .u8, .ro, .ro, .ro, 0, .any, false, true, false⟩,
  ⟨0x302, 0x302, 0, 15, .word, .ro, .ro, .ro, 0, .any, false, true, false⟩,
  ⟨0x303, 0x303, 0, 15, .word, .ro, .ro, .ro, 0, .any, false, true, false⟩,
  ⟨0x304, 0x304, 0, 15, .word, .ro, .ro, .ro, 0, .any, false, false, false⟩,
  ⟨0x305, 0x305, 0, 15, .domain, .ro, .ro, .ro, 0, .any, false, false, false⟩,
  ⟨0x306, 0x306, 0, 15, .u8, .ro, .ro, .ro, 0, .any, false, false, false⟩,
  ⟨0x307, 0x307, 0, 15, .u16, .rw, .ro, .rw, 100, (.nat 0 10000), true, false, false⟩,
  ⟨0x308, 0x308, 0, 15, .word, .rw, .ro, .rw, 16000000, (.int (1) (34359738367)), true, false, false⟩,
  ⟨0x309, 0x309, 0, 15, .word, .rw, .ro, .rw, 16, (.nat 0 1000000), true, false, false⟩,
  ⟨0x30A, 0x30A, 0, 15, .u16, .rw, .ro, .rw, 20, (.nat 1 1000), true, false, false⟩,
  ⟨0x30B, 0x30B, 0, 15, .u16, .rw, .ro, .rw, 10, (.nat 0 1000), true, false, false⟩,
  ⟨0x30C, 0x30C, 0, 15, .u8, .ro, .ro, .ro, 0, .any, false, false, false⟩,
  ⟨0x30D, 0x30D, 0, 15, .word, .ro, .ro, .ro, 0, .any, false, false, false⟩,
  ⟨0x30E, 0x30E, 0, 15, .word, .ro, .ro, .ro, 0, .any, false, false, false⟩,
  ⟨0x30F, 0x30F, 0, 15, .word, .ro, .ro, .ro, 0, .any, false, false, false⟩]

/-- Every object of area 0xB (CM_). -/
def objsCM : List ObjInfo := objsCM0

/-- Area 0xC (RS_), objects from 0x100. -/
def objsRS0 : List ObjInfo := [
  ⟨0x100, 0x100, 0, 0, .u8, .ro, .ro, .ro, 0, .any, false, false, false⟩,
  ⟨0x101, 0x101, 0, 0, .word, .ro, .ro, .ro, 0, .any, false, false, false⟩,
  ⟨0x102, 0x102, 0, 0, .u8, .ro, .ro, .ro, 0, .any, false, false, false⟩,
  ⟨0x103, 0x103, 0, 0, .u8, .ro, .ro, .ro, 0, .any, false, false, false⟩,
  ⟨0x104, 0x104, 0, 0, .word, .ro, .ro, .ro, 0, .any, false, false, false⟩,
  ⟨0x105, 0x105, 0, 0, .u16, .ro, .ro, .ro, 0, .any, false, false, false⟩,
  ⟨0x110, 0x110, 0, 0, .bool, .no, .no, .wo, 0, .any, false, false, false⟩,
  ⟨0x111, 0x111, 0, 0, .u16, .wo, .no, .wo, 0, .any, false, false, false⟩,
  ⟨0x112, 0x112, 0, 0, .u16, .ro, .ro, .ro, 0, .any, false, false, false⟩,
  ⟨0x113, 0x113, 0, 0, .word, .ro, .ro, .ro, 0, .any, false, false, false⟩]

/-- Every object of area 0xC (RS_). -/
def objsRS : List ObjInfo := objsRS0

/-- Area 0xD (CF_), objects from 0x040. -/
def objsCF0 : List ObjInfo := [
  ⟨0x040, 0x040, 0, 0, .word, .ro, .ro, .ro, 0, .any, false, true, false⟩,
  ⟨0x041, 0x041, 0, 0, .domain, .ro, .ro, .ro, 0, .any, false, false, false⟩,
  ⟨0x042, 0x042, 0, 0, .word, .ro, .ro, .ro, 0, .any, false, false, false⟩,
  ⟨0x100, 0x100, 0, 0, .bool, .ro, .ro, .ro, 0, .any, false, false, false⟩,
  ⟨0x101, 0x101, 0, 0, .u8, .ro, .ro, .ro, 0, .any, false, false, false⟩,
  ⟨0x102, 0x102, 0, 0, .u8, .ro, .ro, .ro, 0, .any, false, false, false⟩,
  ⟨0x103, 0x103, 0, 0, .word, .ro, .ro, .ro, 0, .any, false, false, false⟩,
  ⟨0x104, 0x104, 0, 0, .word, .ro, .ro, .ro, 0, .any, false, false, false⟩,
  ⟨0x105, 0x105, 0, 0, .word, .ro, .ro, .ro, 0, .any, false, false, false⟩,
  ⟨0x110, 0x110, 0, 0, .u8, .wo, .no, .wo, 0, (.nat 1 2), false, false, false⟩,
  ⟨0x111, 0x111, 0, 0, .domain, .rw, .ro, .rw, 0, .any, false, false, false⟩,
  ⟨0x112, 0x112, 0, 0, .domain, .rw, .ro, .rw, 0, .any, false, false, false⟩,
  ⟨0x113, 0x113, 0, 0, .bool, .wo, .no, .wo, 0, .any, false, false, false⟩,
  ⟨0x114, 0x114, 0, 0, .word, .ro, .ro, .ro, 0, .any, false, false, false⟩,
  ⟨0x115, 0x115, 0, 0, .u8, .ro, .ro, .ro, 0, .any, false, false, false⟩,
  ⟨0x116, 0x116, 0, 0, .u8, .no, .no, .wo, 0, .any, false, false, false⟩,
  ⟨0x200, 0x200, 0, 1, .word, .ro, .ro, .ro, 0, .any, false, false, false⟩,
  ⟨0x201, 0x201, 0, 1, .word, .ro, .ro, .ro, 0, .any, false, false, false⟩]

/-- Every object of area 0xD (CF_). -/
def objsCF : List ObjInfo := objsCF0

/-- Area 0xE (DG_), objects from 0x010. -/
def objsDG0 : List ObjInfo := [
  ⟨0x010, 0x010, 0, 0, .domain, .ro, .ro, .ro, 0, .any, false, false, false⟩]

/-- Every object of area 0xE (DG_). -/
def objsDG : List ObjInfo := objsDG0

/-- The objects of an area by its number (R14); area 0xF has none. -/
def objsOfArea : Nat → List ObjInfo
  | 0 => objsDV
  | 1 => objsNT
  | 2 => objsHS
  | 3 => objsAX
  | 4 => objsHP
  | 5 => objsFB
  | 6 => objsPW
  | 7 => objsEV
  | 8 => objsIO
  | 9 => objsSF
  | 10 => objsAQ
  | 11 => objsCM
  | 12 => objsRS
  | 13 => objsCF
  | 14 => objsDG
  | _ => []

end Sys2Proof.Machine
end

