-- ==== Sys2Proof/Machine/State.lean ====
section
/-! DEFINITION. The state of the DM64: plain data, holding every register, queue, buffer, counter, mode and pin the
spec gives the module. Sparse data (objects, instances, channels, memories) are `Map`s in canonical form: an unlisted
key holds the default. `State` has three parts: the queue of waiting commands, the main die with everything beside it
(line, field die, configuration store), and the safety die, which is a die of its own (chapter 14). -/

namespace Sys2Proof.Machine

/-! ### Fabric and ledger (chapter 2) -/

/-- One chain of the ledger map (R35, R36, R46): its owner (0-63 axes, 64-127 hoops, 128 refinement, 129-136 encoder
emulation outputs), kind (0 current, 1 outer, 2 hoop, 3 refinement, 4 emulation), period and phase in slots, deadline
in time units after the slot's start, and cost, tokens in flight and serial path in pu of its main release; an outer
or share chain also has a shorter release (velocity-only) every `subPer` slots, `subPer` 0 meaning none. -/
structure Chain where
  owner    : Nat := 0
  kind     : Nat := 0
  period   : Nat := 1
  phase    : Nat := 0
  deadline : Nat := 40000
  cost     : Nat := 0
  tokens   : Nat := 1
  serial   : Nat := 0
  subPer   : Nat := 0
  subCost  : Nat := 0
  subTok   : Nat := 0
  deriving DecidableEq, Repr

/-- The unit of work a token carries (chapter 2, Servo cells and tokens; R345). -/
inductive Task
  | speed | current | profile | position | velocity | masterEval | links | split | refine | emulation
  deriving DecidableEq, Repr

/-- A token (R33): destination task, instance, release sequence, step in its chain, table index, deadline and release
as extended times, and the items it takes of a fork. -/
structure Tok where
  task     : Task := .speed
  inst     : Nat := 0
  seq      : Nat := 0
  step     : Nat := 0
  index    : Nat := 0
  deadline : Nat := 0
  release  : Nat := 0
  items    : List Nat := []   -- the links, members or entries that a fork token takes (R345, R393)
  deriving DecidableEq, Repr

/-- Where the final answer of a request goes: the session and its ticket; S9 has one held request (R521). -/
structure Key where
  sess   : Nat := 0
  ticket : Nat := 0
  deriving DecidableEq, Repr

/-- A load-adding change that awaits the ledger or the commit (R49, R347, R390). -/
inductive Change
  /-- a write of an object that changes load (loop period, brim, refinement period, emulation enable) -/
  | objWrite (addr : Nat) (value : Nat)
  /-- a CONTROL write: enable, mode (R96) -/
  | control (inst : Nat) (value : Nat)
  /-- identification or auto-tune started by a CONTROL write (R225) -/
  | opStart (inst kind value : Nat)
  /-- LINK_CMD 1 (R356) -/
  | link (inst : Nat)
  /-- HP_ADD of a member whose chains change with its MODE (R24, R340) -/
  | join (hoop member : Nat)
  /-- an action entry armed by a host (R389) -/
  | action (entry : Nat) (words : List Word)
  /-- an action entry armed by a latch unit's rule (R403) -/
  | rule (unit entry : Nat) (words : List Word)
  deriving DecidableEq, Repr

/-- A change before the ledger: who asked and at what instant (R52), what object the write named, where the answer goes. -/
structure LReq where
  sess   : Nat := 0
  at_    : Nat := 0
  addr   : Nat := 0
  key    : Option Key := none
  change : Change
  deriving DecidableEq, Repr

/-- What a queued best-effort request does when it runs (R134, R521). -/
inductive QCmd | read | write | readAt | writeAt | readInc
  deriving DecidableEq, Repr

/-- A queued best-effort request (R58, R134): its checks 1 to 5 have passed; when it reached the dictionary, and with
which frame (R86). -/
structure BeItem where
  key    : Key := {}
  at_    : Nat := 0
  frame  : Nat := 0
  cmd    : QCmd := .read
  addr   : Nat := 0
  len    : Nat := 0
  data   : List Byte := []
  tokens : Nat := 1
  deriving DecidableEq, Repr

/-- The servo fabric, the ledger and the pace monitor. -/
structure Fabric where
  frame    : Nat := 0            -- R558: the ledger's own frame counter, 0-1199
  slotNo   : Nat := 0            -- slots since the time base started, for periods beyond the frame (R36)
  map      : List Chain := []    -- the ledger map in force
  staged   : Option (List Chain) := none   -- the map to commit at the next boundary
  commits  : List LReq := []     -- admitted changes awaiting the commit
  reqs     : List LReq := []     -- requests before the ledger, in order (R52)
  waiting  : List Tok := []      -- the token table's waiting real-time tokens
  cells    : Map Tok := []       -- the tokens in the 16 servo cells
  nextSeq  : Map Nat := []       -- release sequence per instance and task
  lastSeq  : Map Nat := []       -- last accepted SEQ per instance and task (R34)
  forks    : Map Nat := []       -- parts of a fork still outstanding per instance
  paceHist : List Nat := []      -- the last eight per-slot measurements (R44)
  okRun    : Nat := 0            -- consecutive slots at or below 390 (R45)
  holdRun  : Nat := 0            -- consecutive slots at or below DV_PACE_HOLD - 10 (R45)
  queue    : List BeItem := []   -- queued best-effort host requests, in order of arrival
  missRun  : Map Nat := []       -- consecutive missed releases per chain (R63, R64)
  deriving DecidableEq, Repr

/-! ### Time base and network time (chapter 5) -/

/-- R159: the accumulator (time word in [65:30]), the epoch word, the increment in force, and what waits for the
next slot boundary. -/
structure TimeBase where
  running : Bool := false
  acc     : BitVec 66 := 0
  epoch   : Word := 0
  inc     : Word := 0xA00000000
  refUsed : Nat := 0             -- R158: 0 TCXO, 1 XREF_IN
  slotDue : Nat := 40000         -- extended time of the next slot boundary
  step    : Option (Bool × Int) := none  -- R176: a step that awaits the next slot boundary: to a time (true) or by a difference
  deriving DecidableEq, Repr

/-- A master heard on a line port by its latest Announce: the local times of the latest and of the one before it. -/
structure Heard where
  port : Nat := 0
  at_  : Nat := 0
  prev : Option Nat := none
  msg  : PtpFrame := { frame := [] }
  deriving DecidableEq, Repr

/-- A Sync received in two steps, waiting for its Follow_Up: port, identity, corrected receive stamp, correction. -/
structure HeldSync where
  port   : Nat := 0
  master : List Byte := []
  seqId  : BitVec 16 := 0
  stamp  : Int := 0
  corr   : Int := 0
  interval : Nat := 0
  deriving DecidableEq, Repr

/-- A peer-delay exchange of one line port (R172). -/
structure Pdelay where
  waiting : Bool := false
  seqId   : BitVec 16 := 0
  sent    : Int := 0
  recv    : Option (Int × Int × Int) := none  -- a two-step response held: receive stamp, request receipt, correction
  results : List Int := []       -- the last eight results, newest first
  due     : Nat := 0             -- extended time of the next request
  deriving DecidableEq, Repr

/-- The IEEE 1588 slave (R173-R178). -/
structure Ptp where
  announces : List Heard := []                 -- the masters heard, for the best master clock algorithm
  master    : Option (List Byte) := none       -- the selected master: its port identity
  first     : Option (Nat × Int) := none       -- first Sync of a return: local time and offset (R177)
  deciding  : Bool := false                    -- R177 runs at the next measured offset
  held      : List HeldSync := []              -- the latest two-step Sync of each line port
  good      : Nat := 0                         -- consecutive Syncs within the lock threshold
  bad       : Nat := 0                         -- consecutive Syncs beyond it
  lastSync  : Nat := 0                         -- local extended time of the latest Sync used
  deriving DecidableEq, Repr

/-! ### Sessions (chapter 3) and the line (chapter 4) -/

/-- One answer place (R135-R137): 0 queued, 1 finished and waiting for the slot boundary, 2 ready. -/
structure Answer where
  ticket : Nat := 0
  stage  : Nat := 0
  status : Nat := 0
  len    : Nat := 0
  data   : List Byte := []
  ready  : Nat := 0
  deriving DecidableEq, Repr

/-- A session (R78): open or closed, service mode, the time of the last record, its answer places and next ticket. -/
structure Session where
  isOpen  : Bool := false
  service : Bool := false
  last    : Nat := 0
  ticket  : Nat := 0
  places  : List Answer := []
  deriving DecidableEq, Repr

/-- A claimant in a window: its session, the requests to answer, and whether it has withdrawn (R81, R84). -/
structure Claimant where
  sess      : Nat := 0
  keys      : List Key := []
  withdrawn : Bool := false
  deriving DecidableEq, Repr

/-- An open claim window (R81, R82). -/
structure Window where
  opened    : Nat := 0
  claimants : List Claimant := []
  deriving DecidableEq, Repr

/-- A line or service port's link (R106, R107, R148): PHY speed while its link is up (1 100 Mb/s, 2 1000 Mb/s),
declared up, held down for speed, and the end of the heal hold. -/
structure PortLink where
  phy     : Nat := 0
  up      : Bool := false
  held    : Bool := false
  healEnd : Option Nat := none
  deriving DecidableEq, Repr

/-- The line engine. -/
structure Line where
  ports  : Map PortLink := []          -- 0 LA, 1 LB, 2 SV
  seqs   : List (BitVec 16) := []      -- R149: FRAME_SEQ of the last 16 frames processed, newest first
  txq    : List EventEntry := []       -- R144: at most 32 queued entries of this node
  seen   : List (Nat × Nat × Nat) := []  -- R145: SOURCE, ID and time of the entries acted on
  cut    : List Nat := []        -- R152: the line ports with a frame in passage as bypass began or ended
  frames : Nat := 0              -- the model's own: frames and requests taken, so that those of one frame keep their order (R86)
  deriving DecidableEq, Repr

/-! ### Axes and hoops (chapters 6, 9, 10) -/

/-- Where an instance stands in its enabling, disabling, stopping or fault sequence (R190, R191, R204). -/
inductive Seq
  | none | await | settling | align1 | align2 | closing | closed | brakeRel | run
  | ramp | standstill | engage | powerOff
  deriving DecidableEq, Repr

/-- A blend of R305: from `v0` to `v1` (increments/s) over `dur` seconds from `t0` (seconds of extended time), starting
at position `p0`; after it the velocity holds at `v1`. -/
structure Blend where
  t0    : Rat := 0
  dur   : Rat := 0
  v0    : Rat := 0
  v1    : Rat := 0
  p0    : Rat := 0
  shape : Nat := 0
  deriving DecidableEq, Repr

/-- A captured move (R303): its target, as a continuous position, and the profile captured with it; `vIn` and `vOut`
are the pass-through speeds of R311. -/
structure Move where
  target : Rat := 0
  vel    : Rat := 0
  acc    : Rat := 0
  dec    : Rat := 0
  shape  : Nat := 0
  vIn    : Rat := 0
  vOut   : Rat := 0
  deriving DecidableEq, Repr

/-- The plan of the active move (R307): its blends in order, the start of the final deceleration, its end and the
re-plans that wait for the end of the blend in progress (R310). -/
structure Plan where
  move    : Move := {}
  blends  : List Blend := []
  tFinal  : Rat := 0
  tEnd    : Rat := 0
  replan  : Bool := false        -- a re-plan waits, from `replanT` on (seconds; 0: the next position-loop release)
  replanT : Rat := 0
  isVel   : Bool := false        -- a MODE 1 velocity blend: no target and no end
  deriving DecidableEq, Repr

/-- A stop ramp at constant deceleration (R198, R306): its start in seconds, speed and position there, deceleration. -/
structure Ramp where
  t0  : Rat := 0
  v0  : Rat := 0
  p0  : Rat := 0
  dec : Rat := 1
  deriving DecidableEq, Repr

/-- The state machine of an instance (R182-R208). -/
structure Core where
  st        : Nat := 0           -- STATE
  seq       : Seq := .none
  enPending : Bool := false      -- ENABLE_PENDING
  cmd       : Nat := 0           -- an ENABLE change that awaits the boundary: 0 none, 1 disable, 2 admitted enable
  stop      : Nat := 0           -- STOP in force
  react     : Nat := 0           -- the reaction in force in DISABLING or FAULT_REACTION
  raised    : Nat := 0           -- causes that have arisen since the last boundary, mask of R203
  raisedR   : Nat := 9           -- the most severe reaction they call for, where the cause decides it; 9 configured
  safe      : Bool := false      -- the safe-level signal acts on the instance
  ss1       : Bool := false      -- an SS1 announcement acts on it (R216)
  power     : Bool := false      -- the power stage is switching (ENABLED)
  chains    : Nat := 0           -- in the ledger: 0 none, 1 current chain only, 2 all chains of the mode
  brake     : Bool := false      -- brake released
  faultRst  : Bool := false      -- an accepted FAULT_RESET awaits the boundary
  admitRef  : Bool := false      -- ADMIT_REFUSED
  homed     : Bool := false      -- HOMED
  missT     : Option Nat := none -- time of the latest deadline miss (WARN_CAUSE bit 6)
  offPos    : Option Int := none -- ACTUAL_POS at power off (BRAKE_SLIP)
  winSince  : Option Nat := none -- since when the AT_TARGET condition has held
  rampT     : Nat := 0           -- the start of the timed step of a sequence: a ramp (R207), a brake command (R195), alignment (R250)
  still     : Option Nat := none -- since when |ACTUAL_VEL| has been at or below SS_VEL (R193)
  atTarget  : Bool := false
  movedAt   : Option Nat := none -- time of the latest transition: one at most at each boundary (R182)
  deriving DecidableEq, Repr

/-- The set-points and the profile generator of an instance (R305-R313). -/
structure Motion where
  posSp  : Rat := 0
  velSp  : Rat := 0
  accSp  : Rat := 0
  posT   : Nat := 0              -- the instant the set-points stand for
  plan   : Option Plan := none
  queue  : List Move := []
  ramp   : Option Ramp := none
  held   : Option Rat := none    -- the held position of R192, R198
  torque : Rat := 0              -- torque set-point of MODE 2 after its slope
  vHold  : Bool := false         -- a limit's ramped stop holds zero velocity in MODE 2 (R316)
  was    : Rat × Rat × Rat × Nat := (0, 0, 0, 0)  -- the set-points before the latest release, and their instant (R380)
  left   : Option (Rat × Rat × Nat) := none -- MODE 2: position and velocity that the latest velocity release left (R346)
  inst   : Option (Rat × Rat × Rat × Nat) := none -- set-point written by a parent or link: position, velocity, acceleration, its instant
  deriving DecidableEq, Repr

/-- The two delays of a filter of R223: of the low-pass its latest input and output, of the notch its inner ones. -/
structure Filt where
  a : Rat := 0
  b : Rat := 0
  deriving DecidableEq, Repr

/-- The loops of an instance (R214, R219, R222, R223). -/
structure Loop where
  xv     : Rat := 0
  xhi    : Rat := 0
  xlo    : Rat := 0
  xd     : Rat := 0
  xq     : Rat := 0
  id     : Rat := 0
  iq     : Rat := 0
  iqSp   : Rat := 0
  vCmd   : Rat := 0
  lpf    : Filt := {}
  notch  : Filt := {}
  lambda : Rat := 0              -- thermal level
  fold   : Bool := false         -- FOLDBACK
  wIq    : Bool := false
  wVel   : Bool := false
  wVmax  : Bool := false
  overC : Nat := 0              -- consecutive velocity-loop releases above AX_OVERSPEED
  relT   : Nat := 0              -- release of the latest completed current chain
  outT   : Nat := 0              -- release of the latest completed position or hoop release
  rawT   : Nat := 0              -- sampling instant of the newest bit the acquisition has had (R407)
  deriving DecidableEq, Repr

/-- The limits of an instance (R314-R322). -/
structure Limits where
  posLat  : Bool := false
  negLat  : Bool := false
  posVb   : Bool := false        -- side blocked by its virtual limit
  negVb   : Bool := false
  vRamp   : Bool := false        -- a virtual-limit ramp runs
  vEnd    : Option Rat := none   -- where the latest virtual-limit ramp ended
  deriving DecidableEq, Repr

/-- A homing operation (R323-R331). `step` is the step of R326 (0 for methods 0 and 1, 6 for the reversal of R328,
7 for method 7's search, 8 for the final move of step 5, 9 for the ramp to standstill on failure). -/
structure Homing where
  method    : Nat := 0
  neg       : Bool := false
  step      : Nat := 0
  started   : Nat := 0
  startCnt  : Int := 0
  stopping  : Bool := false      -- ramping to the standstill that ends the step
  cand      : Option (Int × Nat) := none  -- candidate: count and event time
  discarded : Nat := 0
  switchPos : Option Int := none
  event     : Option (Int × Nat) := none  -- home event: count and time
  indexPos  : Option Int := none
  reversed  : Bool := false
  sawActive : Bool := false
  failCode  : Option Nat := none
  hsSince   : Option Nat := none -- method 7: since when the current limit and standstill have held
  deriving DecidableEq, Repr

/-- A link (R353-R358): LINK_STATE, source position minus offset, cycles, the engage point, the version of its cam
table (directory entry as base and words), and a pending command for the next hoop-chain release. -/
structure Link where
  st      : Nat := 0
  cmd     : Nat := 0             -- 0 none, 1 engage, 2 disengage
  disArm  : Bool := false        -- LINK_CMD 3 armed
  xLast   : Rat := 0             -- continuous source position at the latest evaluation
  cycles  : Int := 0
  xe      : Rat := 0
  pe      : Rat := 0
  ve      : Rat := 0
  te      : Rat := 0
  table   : Option (Nat × Nat × Nat) := none  -- cam table, base and words of the version in use
  byEntry : Option Nat := none   -- the action entry that engages it (R390)
  deriving DecidableEq, Repr

/-- One axis or hoop (R189). -/
structure Inst where
  core    : Core := {}
  motion  : Motion := {}
  loop    : Loop := {}
  lim     : Limits := {}
  home    : Option Homing := none
  link    : Link := {}
  parent  : Option Nat := none
  isolated : Bool := false
  members : List Nat := []
  deriving DecidableEq, Repr

/-! ### Lanes, feedback ports and emulation outputs (chapters 7, 8) -/

/-- One set of three phase duties or shadow widths in the compare bank (R261), with the update point it is for. -/
structure CmpSet where
  u  : Word := 0
  v  : Word := 0
  w  : Word := 0
  at_ : Nat := 0
  period : Nat := 0              -- of a shadow set (R264); 0 for the loop's values
  deriving DecidableEq, Repr

/-- The PWM and current-sensing lane of an axis. -/
structure Lane where
  hold     : Bool := false       -- R240
  oc       : Bool := false       -- overcurrent qualified
  duty     : CmpSet := {}        -- the set in force
  pend     : Option CmpSet := none   -- the loop's values waiting for their update point
  shPend   : Option CmpSet := none   -- a shadow commit waiting for the period boundary
  wU       : Nat := 0            -- active widths in force, time units; 2^36 - 1 is HOLD
  wV       : Nat := 0
  wW       : Nat := 0
  wU0      : Nat := 0            -- the widths in force before them: c1 of a centre-aligned period (R258)
  wV0      : Nat := 0
  wW0      : Nat := 0
  period   : Nat := 80000        -- period in force
  mid      : Bool := false       -- the latest update point was a mid-period
  start    : Option Nat := none  -- S1 + L, the PWM start (R262), once the first release has been made
  upT      : Nat := 0            -- the latest update point; 0 before PWM start
  closed   : Bool := false       -- the loop's values have taken over from PW_START_DUTY (R262)
  shadow   : Bool := false       -- shadow mode in force
  shSet    : Option CmpSet := none   -- the set in force in shadow mode, its widths as committed (R265)
  shEnd    : Option Nat := none  -- time shadow mode ended; the loop's values return 10 us later (R266)
  angle    : Rat := 0            -- electrical angle at the latest release, turns
  c1       : Int := 0            -- count of alignment step 1
  deriving DecidableEq, Repr

/-- One counted edge of the edge ring (R290). -/
structure Edge where
  t   : Nat := 0                 -- extended time of the stamp
  acc : Nat := 0                 -- extended time at which the filter accepted it (R291)
  p   : Int := 0
  neg : Bool := false
  run : Nat := 0
  deriving DecidableEq, Repr

/-- A feedback port. -/
structure Port where
  lines   : BitVec 4 := 0        -- filtered levels, bit 0 FBA to bit 3 FBD
  count   : Int := 0             -- the count, as S36
  enc     : Int := 0             -- the count modulo PW_ENC_PER_REV that the commutation unit holds (R247)
  encS    : Int := 0             -- that count at the latest slot boundary
  ring    : List Edge := []      -- at most 64 counted edges, newest first
  run     : Nat := 0
  newRun  : Bool := true         -- the next edge begins a new run
  level   : Nat := 0             -- FB_ERR_LEVEL
  decT    : Nat := 0             -- its latest decay (R277)
  fsLevel : Bool := false
  fsAlarm : Bool := false
  zArmed  : Bool := false
  errT    : Nat := 0             -- time of the latest error of R277 (R380)
  idxSeen : Bool := false
  idxPrev : Option Int := none   -- FB_INDEX_POS of the index before, for R281
  dirNeg  : Bool := false
  sector  : Option Nat := none   -- last legal Hall sector
  hallInv : Bool := false
  illT    : Nat := 0             -- since when the Hall code that stands has been illegal
  edgeT   : Nat := 0             -- stamp of the latest counted edge, or time of the latest good read (FB_EDGE_TIME)
  newMode : Option Nat := none   -- a mode that takes effect at the next boundary (R272)
  vPrev   : Option Nat := none   -- value of the last good serial read
  reads   : List (Nat × Int) := []  -- time and position of the latest good reads, newest first, at most 64 (R292)
  reload  : Bool := true         -- the next good read loads FB_POS
  serOk   : Bool := false
  faulted : Bool := false        -- a feedback fault has come since the latest good read (R289)
  readT0  : Option Nat := none   -- a serial read in progress
  lastMono : Option Nat := none  -- monoflop check of the previous read made
  lastGood : Option Nat := none
  goods   : Nat := 0             -- good reads since mode entry or a fault
  speed   : Rat := 0
  valid   : Bool := false
  still   : Bool := true
  span    : Nat := 0
  deriving DecidableEq, Repr

/-- An encoder emulation output (R293-R296). -/
structure EeOut where
  on   : Bool := false
  acc  : Rat := 0
  rate : Rat := 0
  a    : Bool := false
  b    : Bool := false
  z    : Bool := false
  deriving DecidableEq, Repr

/-! ### Long operations (R97-R104) -/

/-- The long operation state of one instance; OP_RESULT as its records in order. -/
structure LongOp where
  seq     : Nat := 0
  prog    : Nat := 0
  kind    : Nat := 0
  partialR : Bool := false
  failed  : Bool := false
  finished : Bool := false
  busy    : Bool := false
  paused  : Bool := false
  err     : Nat := 0
  result  : List (List Word) := []
  param   : Nat := 0             -- what the start write named: table, source, unit; in auto-tune the reductions of BW so far
  startPos : Int := 0            -- ACTUAL_POS at the start, for MOVED (R228)
  started : Nat := 0
  pausedT : Nat := 0             -- when the pause in progress began (R60)
  heldT   : Nat := 0             -- time spent paused before it
  deriving DecidableEq, Repr

/-! ### Cams and virtual masters (chapter 10) -/

/-- A master segment (R365). -/
structure Segment where
  shape  : Nat := 0
  tStart : Nat := 0
  tEnd   : Nat := 0
  p0     : Int := 0
  v0     : Int := 0
  v1     : Int := 0
  acc    : Nat := 0
  raw    : List Word := []
  delta  : Rat := 0              -- merge of R367 at its handover
  tHand  : Nat := 0
  mergeT : Nat := 0              -- CM_VM_MERGE_T at the handover, time units
  deriving DecidableEq, Repr

/-- A cam table's directory entry (R363): its current image, retained image and version. -/
structure CamTable where
  ver      : Nat := 0
  base     : Nat := 0
  words    : Nat := 0
  retained : Option (Nat × Nat) := none
  deriving DecidableEq, Repr

/-- A virtual master (R364-R370). -/
structure Master where
  st      : Nat := 0             -- CM_VM_STATE
  force   : Option Segment := none
  queue   : List Segment := []
  placing : List (Nat × Segment) := []   -- received, and when, to be placed at the next slot boundary (R367)
  hist    : List Segment := []   -- the three most recently replaced
  overT   : Nat := 0             -- start of OVERRUN
  outT    : Nat := 0             -- start of RUNOUT
  outP    : Rat := 0
  outV    : Rat := 0
  deriving DecidableEq, Repr

/-! ### Events, latches and actions (chapter 11) -/

/-- An edge that awaits capture (R383): its event time and its level. -/
structure LatchEdge where
  t     : Nat := 0
  level : Bool := false
  vel   : Option Word := none    -- ACTUAL_VEL of the first current-chain release after t (R380)
  deriving DecidableEq, Repr

/-- A latch unit (R378-R383). -/
structure Latch where
  armed   : Option Nat := none   -- armed, with the acceptance time of the write
  waiting : List LatchEdge := []
  last    : List Word := [0, 0]
  ring    : List (List Word) := []
  deriving DecidableEq, Repr

/-- An action entry (R387, R388, R391). -/
structure Action where
  words   : List Word := [0, 0, 0, 0, 0, 0, 0, 0]
  st      : Nat := 0
  result  : Nat := 0
  lateRun : Bool := false
  stale   : Bool := false
  noPred  : Bool := false
  tag     : Nat := 0
  fire    : Option Nat := none
  word1   : Word := 0
  d0      : Int := 0             -- sign of d at the first refinement, 2 before it
  overdue : Bool := false        -- awaits execution at the next boundary
  overT   : Nat := 0             -- since when
  missed  : Bool := false        -- the latest refinement of it has missed (R400)
  charged : Bool := false        -- its load is in the ledger
  deriving DecidableEq, Repr

/-- The event and action unit. -/
structure Events where
  levels  : BitVec 48 := 0
  latches : Map Latch := []
  entries : Map Action := []
  pulses  : Map (Nat × Nat) := []     -- pending pulse off per channel: entry and time + 1
  moves   : List Nat := []            -- ACT 4 entries executed at the next slot boundary
  netrx   : List (List Word) := []
  tpl     : Map Word := []
  deriving DecidableEq, Repr

/-! ### Acquisition (chapter 12) -/

/-- A change record in memory with the extended time of its tag and its number in the order of writing since A. -/
structure AqRec where
  w0  : Word := 0
  w1  : Word := 0
  tag : Nat := 0
  no  : Nat := 0
  deriving DecidableEq, Repr

/-- A trigger cause found since the last boundary: cause number and instant. -/
structure AqCause where
  cause : Nat := 0
  t     : Nat := 0
  deriving DecidableEq, Repr

/-- An acquisition unit (R413-R422). -/
structure AqUnit where
  st      : Nat := 0
  recs    : List AqRec := []     -- the kept ring, oldest first
  post    : List AqRec := []     -- records after T
  waiting : List AqRec := []     -- records waiting for the record-memory arbiter, at most 64
  lostN   : Nat := 0             -- records lost since the queue filled
  lostTag : Nat := 0
  timeRec : Nat := 0             -- tag of the latest TIME record
  timed   : Bool := false        -- a TIME record has been written since arming
  lastVal : Map Word := []       -- last recorded value of each channel
  prevVal : Map (Bool × Word) := []   -- previous sample of each channel
  tails   : Map (Bool × Word) := []   -- tail values (R421)
  raw     : Map (List Bool) := []     -- bits of a KIND 3 channel not yet recorded
  causes  : List AqCause := []
  trigT   : Nat := 0
  cmdT    : Nat := 0             -- acceptance of the arm
  armT    : Nat := 0
  slots   : Nat := 0             -- slots since A
  deriving DecidableEq, Repr

/-! ### Field die (chapter 13) -/

/-- One field channel on the field die, with what the main die knows of it. -/
structure FieldCh where
  level   : Bool := false        -- IO_IN
  cmd     : Bool := false        -- commanded level at the field die
  wb      : Bool := false
  ol      : Bool := false
  short   : Bool := false
  hot     : Bool := false
  rb      : Bool := false
  demag   : Bool := false
  rbT     : Nat := 0             -- since when the readback is compared for the end of RB_ERR (R441)
  rbCmd   : Bool := false        -- a command has come since RB_ERR was set
  levT    : Nat := 0             -- the latest change of the level or of the diagnosis (R318)
  offDead : Bool := false        -- the pending pulse off has no further effect (R445)
  deriving DecidableEq, Repr

/-- The barrier link and the field die. -/
structure Field where
  link  : Nat := 0               -- IO_LINK
  reach : Bool := false          -- held in field reach
  chans : Map FieldCh := []
  uv    : Bool := false
  deriving DecidableEq, Repr

/-! ### Reset, boot, configuration store (chapter 15) -/

/-- The steps of boot (R494, R511). -/
inductive BootStep | trims | firmware | config | timebase | apply | run | recovery | haltTrim
  deriving DecidableEq, Repr

/-- A bank of the configuration store (R499): its record, its firmware slot and its configuration slot as far as
they are written. -/
structure BankSt where
  record : List Word := []
  fw     : List Byte := []
  cfg    : List Word := []
  fwGood  : Bool := false        -- verified since release of core reach (CF_BANK_INFO)
  cfgGood : Bool := false
  recGood : Bool := false
  deriving DecidableEq, Repr

/-- The reset supervisor, the straps and boot. -/
structure Sup where
  moduleHeld : Bool := false
  coreHeld   : Bool := false
  clk        : Nat := 0                 -- reference edges since the episode began, while the time base does not run
  asserted   : List ResetSource := []
  episode    : List (ResetSource × Nat) := []   -- sources of the episode in progress, each with its instant in `clk`
  early      : Bool := false            -- the episode began before the lock
  cause      : Nat := 0x01              -- RS_CAUSE storage
  episodes   : Word := 1
  straps     : Straps
  tryA       : Nat := 0
  tryB       : Nat := 0
  boot       : BootStep := .trims
  bypass     : Bool := true
  order      : List Bank := []          -- banks still to be tried
  fwBank     : Option Bank := none
  fw         : List Byte := []          -- the firmware that runs, and the GEN of its bank's record at boot
  gen        : Nat := 0
  image      : Option (List Word) := none
  soft       : Option Nat := none       -- a software full reset asserts 1 ms after its write, at this time
  otpDebug   : Bool := false
  secVer     : Nat := 0                 -- OTP minimum of R508
  mittens    : Map Nat := []            -- unit code: 1 requested, 2 closed and held, 3 hold ended
  mittenT    : Map Nat := []            -- the extended time before which the mitten's next move does not come (R490)
  deriving DecidableEq, Repr

/-- The MRAM store and the staging buffers. -/
structure Store where
  bankA   : BankSt := {}
  bankB   : BankSt := {}
  cfgStage : Map Word := []
  fwStage  : Map Byte := []
  deriving DecidableEq, Repr

/-! ### Local host port and peripheral masters (chapter 16) -/

/-- A reply of the local host port (R519): STATUS, SEQ and reply data. -/
structure HostReply where
  status : Nat := 0
  seq    : Nat := 0
  data   : List Byte := []
  deriving DecidableEq, Repr

/-- The local host port: the accepted request while it is unfinished, the held reply, a refusal waiting to be
presented. -/
structure HostPort where
  busy    : Bool := false
  seq     : Nat := 0
  reply   : HostReply := {}
  refusal : Option HostReply := none
  deriving DecidableEq, Repr

/-- A peripheral serial master (R527, R528). -/
structure Ps where
  busy : Bool := false
  tx   : List Byte := []
  rx   : List Byte := []
  key  : Option Key := none
  startT : Nat := 0              -- when the transfer was started
  deriving DecidableEq, Repr

/-! ### What a command sent out -/

/-- What the latest command sent out of the module. The model's own (log 2): the spec's replies, frames and commands
to other dies are outputs, held here so that a statement can name them. -/
structure Out where
  status : Option Nat := none          -- STATUS of a reply
  rlen   : Nat := 0                    -- RLEN, or the ticket for PENDING
  data   : List Byte := []             -- reply data
  frame  : Option (Nat × List Byte) := none  -- the port a frame left by, and the frame; of a PTP message its fields
  clash  : Bool := false
  taken  : Bool := false
  field  : List (Nat × Bool) := []     -- commands to field outputs, in order
  deriving DecidableEq, Repr

/-! ### The main die -/

/-- Everything but the queue and the safety die. -/
structure Main where
  sup    : Sup
  tb     : TimeBase := {}
  ptp    : Ptp := {}
  pdelay : Map Pdelay := []
  fab    : Fabric := {}
  objs   : Map Val := []               -- object values by address, unlisted at their default
  master8 : List Byte := []            -- NT_MASTER_ID
  sess   : Map Session := []
  owner  : Map Nat := []               -- owner per map index of R79, plus 1
  windows : Map Window := []
  prot   : List Word := []
  svcMask : Nat := 0x100
  locked : Bool := false               -- HS_PROT_LOCK
  line   : Line := {}
  inst   : Map Inst := []              -- 0-63 axes, 64-127 hoops
  lane   : Map Lane := []
  port   : Map Port := []
  ee     : Map EeOut := []
  op     : Map LongOp := []
  trips  : Nat := 0                    -- TRIP inputs qualified, bit mask
  tripOn : Nat := 0                    -- trip lines active, bit mask
  cam    : Map Word := []              -- cam memory
  tabs   : Map CamTable := []
  vm     : Map Master := []
  ev     : Events := {}
  aq     : Map AqUnit := []
  field  : Field := {}
  store  : Store := {}
  host   : HostPort := {}
  ps     : Map Ps := []
  sfT    : Nat := 0                    -- the latest status frame of the safety die (R478)
  out    : Out := {}
  fresh  : Nat := 0                    -- the model's own: count of free values used (log 15)
  deriving DecidableEq, Repr

/-! ### The safety die (chapter 14) -/

/-- One dual-channel input (R460-R463): channels at demand, latched fault, whether both have demanded together since it
latched, and the time of the latest change of a channel, from which a discrepancy and a restart pulse are timed. -/
structure SafeInput where
  a       : Bool := true
  b       : Bool := true
  latched : Bool := false
  both    : Bool := false
  chgT    : Nat := 0
  deriving DecidableEq, Repr

/-- The zone states of R467. -/
inductive ZoneSt | start | run | ss1 | sto | fault
  deriving DecidableEq, Repr

/-- The unit faults of R470. -/
inductive UnitFault | none | seal | gauntlet | chainOut | internal
  deriving DecidableEq, Repr

/-- One zone. -/
structure Zone where
  st      : ZoneSt := .start
  signal  : Bool := true               -- the safe-level signal acts
  closed  : Bool := false              -- the zone's gauntlets are commanded closed
  releasing : Bool := false            -- 20 ms to the withdrawal of the signal are running
  quiet   : Bool := false              -- in START: 100 ms have passed without a demand (R471)
  gtT     : Nat := 0                   -- the latest opening or closing of its gauntlets
  ss1T    : Nat := 0                   -- the latest entry to SS1
  freeT   : Nat := 0                   -- since when no input of it demands
  deriving DecidableEq, Repr

/-- The configuration read at release of field reach (R456). -/
structure SealCfg where
  sw      : Nat := 0                   -- SW11..SW0 as read
  invalid : Nat := 0                   -- switches invalid at that reading
  deriving DecidableEq, Repr

/-- The safety die. -/
structure SafetyDie where
  held    : Bool := false              -- field reach held
  clock   : Nat := 0                   -- microseconds of the safety oscillator since release of field reach
  cfg     : SealCfg := {}
  nowInvalid : Nat := 0
  testing : Bool := true               -- self-test runs
  si0     : SafeInput := {}
  si1     : SafeInput := {}
  si2     : SafeInput := {}
  si3     : SafeInput := {}
  chain   : SafeInput := {}
  pulse   : Nat := 0                   -- restart pulse on SI3: 0 none, 1 both at no demand, 2 ended with a valid length,
                                       -- 3 ended too short, 4 ignored until both channels have returned
  zone0   : Zone := {}
  zone1   : Zone := {}
  fault   : UnitFault := .none
  gtFault : Nat := 0
  demands : Word := 0                  -- SF_DEMAND_COUNT
  discs   : Word := 0                  -- SF_DISC_COUNT
  deriving DecidableEq, Repr

/-! ### The state -/

/-- The state of the module: the commands waiting, first in first out, the main die and the safety die. -/
structure State where
  pending : List Instr := []
  main    : Main
  safety  : SafetyDie := {}
  deriving DecidableEq, Repr

/-- Nothing of the model ends in a fault: the spec names no condition in which the module stops. The constructor
stands for none of them and no meaning raises it. -/
inductive Fault
  /-- Raised by no meaning. Safe. -/
  | none
  deriving DecidableEq, Repr

/-- Why a command has no meaning. -/
inductive Refusal
  /-- Raised by the dispatcher for a command without a meaning. Safe. -/
  | notModelled (mnemonic : String)
  deriving DecidableEq, Repr

/-- The straps as sampled with every strap land low (log 3). -/
def strapsLow : Straps :=
  { lineSpeed := 0, bootBank := false, fbDefault := 0, pwmPol := false, hostPort := false, addrMode := false,
    etypeAlt := false, test := false }

/-- The objects whose value at release of core reach is not the table's: DV_PACE_NOW and the best-effort budget at it,
before the first measurement (log 5), DV_PACE_HOLD with nothing admitted (R61), HS_LEASE of S8 and S9 (R105),
EV_IN_CORR of the field channels at Type 3 with no filter (R431), EV_OUT_CORR (R439), AQ_BASE of each unit (R424). -/
def defaultObjs : Map Val :=
  [(0x000201, 400), (0x000204, 0xFFFF), (0x00020B, 38000), (0x208002, 0), (0x209002, 0)] ++
  ((List.range 32).map (fun c => (0x700350 + c, 13320)) ++ (List.range 16).map (fun c => (0x7003A0 + c, 8000))) ++
  [(0xA01102, 65536), (0xA02102, 131072), (0xA03102, 196608), (0xA04102, 262144),
   (0xA05102, 327680), (0xA06102, 393216), (0xA07102, 458752)]

/-- The main die at the release of core reach that follows power-on reset: R78, R77, R488, R494. -/
def Main.reset : Main := { sup := { straps := strapsLow }, objs := defaultObjs }

/-- The module right after reset: core reach released after power-on, boot at its first step, no session open, the
configuration store with nothing written (log 4), the safety die in its own field reach (R454, log 6). -/
def State.reset : State := { main := Main.reset, safety := { held := true } }

end Sys2Proof.Machine
end

