-- ==== Sys2Proof/Machine/Store.lean ====
section
/-! DEFINITION. Sparse data in canonical form, the readings of a word as a number (R7, R8, R165), the packing of
words into bytes (R113) and the CRC-32 of IEEE 802.3 that the record checks use (R118, R132, R361, R501, R515). -/

namespace Sys2Proof.Machine

/-! ### Sparse data -/

/-- The value at key `k`; an unlisted key has the default `d`. -/
def mget {α : Type} (d : α) : Map α → Nat → α
  | [], _ => d
  | (j, v) :: r, k => if j = k then v else mget d r k

/-- The data without key `k`. -/
def merase {α : Type} (l : Map α) (k : Nat) : Map α := l.filter (fun p => p.1 != k)

/-- The data with `v` placed at key `k`, keys rising. -/
def mplace {α : Type} (k : Nat) (v : α) : Map α → Map α
  | [] => [(k, v)]
  | (j, w) :: r => if k < j then (k, v) :: (j, w) :: r
      else if k = j then (k, v) :: r else (j, w) :: mplace k v r

/-- The data after a write of `v` at key `k`: writing the default removes the entry. -/
def mset {α : Type} [DecidableEq α] (d : α) (l : Map α) (k : Nat) (v : α) : Map α :=
  if v = d then merase l k else mplace k v l

/-- Change the value at a key. -/
def mmod {α : Type} [DecidableEq α] (d : α) (l : Map α) (k : Nat) (f : α → α) : Map α :=
  mset d l k (f (mget d l k))

/-- Change the value of every listed key, keeping the canonical form. -/
def mmapAll {α : Type} [DecidableEq α] (d : α) (l : Map α) (f : α → α) : Map α :=
  (l.map (fun p => (p.1, f p.2))).filter (fun p => decide (p.2 ≠ d))

/-- The canonical form: keys strictly rising, and no entry equal to the default. -/
def mwf {α : Type} [DecidableEq α] (d : α) : Map α → Bool
  | [] => true
  | [(_, v)] => decide (v ≠ d)
  | (j, v) :: (k, w) :: r => decide (j < k) && decide (v ≠ d) && mwf d ((k, w) :: r)

/-! ### Readings of a word -/

/-- R7: a word as a two's-complement integer. -/
def sgn (w : Word) : Int := w.toInt

/-- The word of an integer, modulo 2^36. -/
def wordOf (i : Int) : Word := BitVec.ofInt 36 i

/-- The word of a natural number, modulo 2^36. -/
def wordN (n : Nat) : Word := BitVec.ofNat 36 n

/-- R165: the signed difference of two numbers modulo 2^36, from -2^35 to 2^35 - 1. -/
def sdiff (a b : Int) : Int := (BitVec.ofInt 36 (a - b)).toInt

/-- R165: time word `a` is at or after time word `b`. -/
def atOrAfter (a b : Word) : Bool := decide (0 ≤ (a - b).toInt)

/-- Field [hi:lo] of a word as a number (R5). -/
def fld (w : Word) (hi lo : Nat) : Nat := w.toNat / 2 ^ lo % 2 ^ (hi + 1 - lo)

/-- Bit `n` of a number. -/
def bitN (n b : Nat) : Bool := n.testBit b

/-- A Bool as 0 or 1 (R11). -/
def b2n (b : Bool) : Nat := if b then 1 else 0

/-- A number with bit `b` set or cleared. -/
def putBit (n b : Nat) (v : Bool) : Nat :=
  if v then (if n.testBit b then n else n + 2 ^ b) else (if n.testBit b then n - 2 ^ b else n)

/-- The one-word value of a stored object. -/
def wordVal (w : Word) : Val := w.setWidth 72

/-- The low word of a stored value. -/
def valWord (v : Val) : Word := v.setWidth 36

/-! ### Bytes (R113) -/

/-- The bits of a value, most significant first. -/
def bitsOf {w : Nat} (v : BitVec w) : List Bool := (List.range w).map (fun i => v.getLsbD (w - 1 - i))

/-- A bit string, first bit most significant, as a number. -/
def natOfBits (l : List Bool) : Nat := l.foldl (fun a b => 2 * a + b2n b) 0

/-- A bit string cut into bytes; a rest of fewer than eight bits is filled with zero bits (R113). -/
def bytesOfBits : List Bool → List Byte
  | a :: b :: c :: d :: e :: f :: g :: h :: r =>
      BitVec.ofNat 8 (natOfBits [a, b, c, d, e, f, g, h]) :: bytesOfBits r
  | [] => []
  | l => [BitVec.ofNat 8 (natOfBits l * 2 ^ (8 - l.length))]

/-- R113: n words as one bit string in ⌈9n/2⌉ bytes. -/
def bytesOfWords (l : List Word) : List Byte := bytesOfBits (l.flatMap bitsOf)

/-- Cut a bit string into whole words, structurally on the number of words. -/
def wordsOfBitsN : Nat → List Bool → List Word
  | 0, _ => []
  | n + 1, l => BitVec.ofNat 36 (natOfBits (l.take 36)) :: wordsOfBitsN n (l.drop 36)

/-- The words that a byte string of R113 carries: as many whole words as fit. -/
def wordsOfBytes (l : List Byte) : List Word := wordsOfBitsN (2 * l.length / 9) (l.flatMap bitsOf)

/-- A big-endian number of bytes. -/
def natOfBytes (l : List Byte) : Nat := l.foldl (fun a b => 256 * a + b.toNat) 0

/-- `n` big-endian bytes of a number. -/
def bytesOfNat (n v : Nat) : List Byte :=
  (List.range n).map (fun i => BitVec.ofNat 8 (v / 2 ^ (8 * (n - 1 - i))))

/-- R117: the bytes that `n` words occupy. -/
def bytesFor (n : Nat) : Nat := (9 * n + 1) / 2

/-! ### CRC-32 of IEEE 802.3 -/

/-- One bit step of the reflected CRC-32. -/
def crcBit (c : BitVec 32) : BitVec 32 :=
  if c.getLsbD 0 then (c >>> 1) ^^^ 0xEDB88320#32 else c >>> 1

/-- One byte step. -/
def crcByte (c : BitVec 32) (b : Byte) : BitVec 32 :=
  let x := c ^^^ b.setWidth 32
  crcBit (crcBit (crcBit (crcBit (crcBit (crcBit (crcBit (crcBit x)))))))

/-- The CRC-32 of IEEE 802.3 as a number. -/
def crc32 (l : List Byte) : BitVec 32 := ~~~ (l.foldl crcByte 0xFFFFFFFF#32)

/-- R118, R515: a record check, the low 16 bits of the CRC-32. -/
def check16 (l : List Byte) : Nat := (crc32 l).toNat % 65536

/-- The FCS of a frame in the order it is sent: least significant byte first (IEEE 802.3). -/
def fcsBytes (l : List Byte) : List Byte :=
  let c := (crc32 l).toNat
  [BitVec.ofNat 8 c, BitVec.ofNat 8 (c / 256), BitVec.ofNat 8 (c / 65536), BitVec.ofNat 8 (c / 16777216)]

/-- The CRC-32 over words sent as the bit string of R113 (R361, R500, R501). -/
def crcWords (l : List Word) : Nat := (crc32 (bytesOfWords l)).toNat

end Sys2Proof.Machine
end

