-- ==== Sys2Proof/Machine/Ops.lean ====
section
/-! DEFINITION. The named operations over the state: object addresses (R12), the object store, the time base
(R159-R166), access to instances, lanes, ports and sessions, and the answer of a request (R94, R136). -/

namespace Sys2Proof.Machine

/-! ### Object addresses (R12, R14) -/

/-- The address of object `num` of instance `i`: 0-63 the axes, 64-127 the hoops (R15). -/
def instAddr (i num : Nat) : Nat :=
  if i < 64 then 0x300000 + i * 4096 + num else 0x400000 + (i - 64) * 4096 + num
/-- An NT_ object of port `p` (0x00 for node-wide objects). -/
def ntAddr (p num : Nat) : Nat := 0x100000 + p * 4096 + num
/-- An HS_ object of session `n`. -/
def hsAddr (n num : Nat) : Nat := 0x200000 + n * 4096 + num
/-- An FB_ object. -/
def fbAddr (p num : Nat) : Nat := 0x500000 + p * 4096 + num
/-- A PW_ object. -/
def pwAddr (a num : Nat) : Nat := 0x600000 + a * 4096 + num
/-- An EV_ object. -/
def evAddr (u num : Nat) : Nat := 0x700000 + u * 4096 + num
/-- An IO_ object. -/
def ioAddr (c num : Nat) : Nat := 0x800000 + c * 4096 + num
/-- An SF_ object. -/
def sfAddr (z num : Nat) : Nat := 0x900000 + z * 4096 + num
/-- An AQ_ object. -/
def aqAddr (u num : Nat) : Nat := 0xA00000 + u * 4096 + num
/-- A CM_ object. -/
def cmAddr (t num : Nat) : Nat := 0xB00000 + t * 4096 + num
/-- An RS_ object. -/
def rsAddr (num : Nat) : Nat := 0xC00000 + num
/-- A CF_ object. -/
def cfAddr (b num : Nat) : Nat := 0xD00000 + b * 4096 + num

/-- The area of an address. -/
def areaOf (a : Nat) : Nat := a / 0x100000 % 16
/-- The instance of an address. -/
def instOf (a : Nat) : Nat := a / 0x1000 % 256
/-- The object number of an address. -/
def numOf (a : Nat) : Nat := a % 0x1000

/-- The table row of an address (R74): none where no object stands there. -/
def info? (a : Nat) : Option ObjInfo :=
  (objsOfArea (areaOf a)).find? (fun o =>
    o.numLo ≤ numOf a && numOf a ≤ o.numHi && o.instLo ≤ instOf a && instOf a ≤ o.instHi)

/-- The default of an address (R17). -/
def dflt (a : Nat) : Val := match info? a with | some o => BitVec.ofNat 72 o.dflt | none => 0

/-! ### The object store -/

/-- The stored value of an object as a number. -/
def Main.obj (m : Main) (a : Nat) : Nat := (mget (dflt a) m.objs a).toNat
/-- The stored value of a one-word object, as a word. -/
def Main.objW (m : Main) (a : Nat) : Word := BitVec.ofNat 36 (m.obj a)
/-- The stored value of a one-word object as a signed integer (R7). -/
def Main.objI (m : Main) (a : Nat) : Int := sgn (m.objW a)
/-- A stored BOOL. -/
def Main.objB (m : Main) (a : Nat) : Bool := m.obj a != 0
/-- Write an object. -/
def Main.setObj (m : Main) (a v : Nat) : Main :=
  { m with objs := mset (dflt a) m.objs a (BitVec.ofNat 72 v) }
/-- Write a signed value to a one-word object. -/
def Main.setObjI (m : Main) (a : Nat) (v : Int) : Main := m.setObj a (wordOf v).toNat
/-- Increment a U36 counter, modulo 2^36. -/
def Main.inc (m : Main) (a : Nat) : Main := m.setObj a ((m.obj a + 1) % 2 ^ 36)
/-- Set bits of an object. -/
def Main.orObj (m : Main) (a mask : Nat) : Main := m.setObj a (m.obj a ||| mask)

/-- Apply an operation for each element of a list, in order. -/
def forEach {α : Type} (l : List α) (f : α → Main → Main) (m : Main) : Main := l.foldl (fun m x => f x m) m

/-! ### The time base -/

/-- EXT72 (R10): the epoch word and the time word as one number. -/
def TimeBase.ext (t : TimeBase) : Nat := t.epoch.toNat * 2 ^ 36 + t.acc.toNat / 2 ^ 30
/-- The present extended time. -/
def Main.now (m : Main) : Nat := m.tb.ext
/-- The present time word. -/
def Main.timeW (m : Main) : Word := BitVec.ofNat 36 m.now

/-- R176: a step keeps the fraction bits of A and sets the time word and the epoch word. -/
def TimeBase.setExt (t : TimeBase) (e : Nat) : TimeBase :=
  { t with acc := BitVec.ofNat 66 (e % 2 ^ 36 * 2 ^ 30 + t.acc.toNat % 2 ^ 30), epoch := BitVec.ofNat 36 (e / 2 ^ 36) }

/-- The first slot boundary after an extended time: a slot begins where the time word is a multiple of 40 000, and so
at each wrap of the time word (chapter 2, Slots). -/
def nextBoundary (e : Nat) : Nat :=
  let w := e % 2 ^ 36
  let n := (w / unitsPerSlot + 1) * unitsPerSlot
  e - w + (if n < 2 ^ 36 then n else 2 ^ 36)

/-- The start of the slot that an extended time lies in. -/
def slotStart (e : Nat) : Nat := e - e % 2 ^ 36 % unitsPerSlot

/-- R162: the accumulator at the edge before an instant, and the stamp of the instant. NT_INC is taken to be the one in force
now at each of those edges (DESIGN CHOICE, log 9). -/
def TimeBase.stampOf (t : TimeBase) (i : Instant) : Nat :=
  let now : Int := t.epoch.toNat * 2 ^ 66 + t.acc.toNat
  ((((now - i.ago * t.inc.toNat : Int) : Rat) + i.phi * (t.inc.toNat : Rat)) / 2 ^ 30).floor.toNat

/-- R162: where an output edge due at extended time `due` is placed, by the inverse of the same rule: the number of reference
edges from the latest one to the edge before it, and the fraction of the period after that. -/
def TimeBase.placeOf (t : TimeBase) (due : Nat) : Int × Rat :=
  let left : Rat := (due : Rat) * 2 ^ 30 - ((t.epoch.toNat * 2 ^ 66 + t.acc.toNat : Nat) : Rat)
  let x := left / (t.inc.toNat : Rat)
  (x.floor, x - (x.floor : Rat))

/-- An extended time in seconds. -/
def secs (e : Nat) : Rat := (e : Rat) / 4000000000

/-! ### Instances, lanes, ports, sessions -/

/-- Instance `i`. -/
def Main.i (m : Main) (i : Nat) : Inst := mget {} m.inst i
/-- Change instance `i`. -/
def Main.modI (m : Main) (i : Nat) (f : Inst → Inst) : Main := { m with inst := mmod {} m.inst i f }
/-- Change the state-machine part of instance `i`. -/
def Main.modC (m : Main) (i : Nat) (f : Core → Core) : Main := m.modI i (fun x => { x with core := f x.core })
/-- Change the motion part of instance `i`. -/
def Main.modM (m : Main) (i : Nat) (f : Motion → Motion) : Main := m.modI i (fun x => { x with motion := f x.motion })
/-- Change the loop part of instance `i`. -/
def Main.modL (m : Main) (i : Nat) (f : Loop → Loop) : Main := m.modI i (fun x => { x with loop := f x.loop })
/-- Change the limits part of instance `i`. -/
def Main.modLim (m : Main) (i : Nat) (f : Limits → Limits) : Main := m.modI i (fun x => { x with lim := f x.lim })
/-- Change the link of instance `i`. -/
def Main.modLink (m : Main) (i : Nat) (f : Link → Link) : Main := m.modI i (fun x => { x with link := f x.link })
/-- An object of instance `i`. -/
def Main.io (m : Main) (i num : Nat) : Nat := m.obj (instAddr i num)
/-- An object of instance `i` as a signed integer. -/
def Main.ioI (m : Main) (i num : Nat) : Int := m.objI (instAddr i num)

/-- The lane of axis `a`. -/
def Main.ln (m : Main) (a : Nat) : Lane := mget {} m.lane a
/-- Change the lane of axis `a`. -/
def Main.modLn (m : Main) (a : Nat) (f : Lane → Lane) : Main := { m with lane := mmod {} m.lane a f }
/-- Feedback port `p`. -/
def Main.pt (m : Main) (p : Nat) : Port := mget {} m.port p
/-- Change feedback port `p`. -/
def Main.modPt (m : Main) (p : Nat) (f : Port → Port) : Main := { m with port := mmod {} m.port p f }
/-- The long operation of slot `k` (0-127 instances, 128-135 AQ units, 136 DV, 137 CM, 138 CF). -/
def Main.lop (m : Main) (k : Nat) : LongOp := mget {} m.op k
/-- Change a long operation. -/
def Main.modOp (m : Main) (k : Nat) (f : LongOp → LongOp) : Main := { m with op := mmod {} m.op k f }
/-- Session `n`. -/
def Main.se (m : Main) (n : Nat) : Session := mget {} m.sess n
/-- Change session `n`. -/
def Main.modSe (m : Main) (n : Nat) (f : Session → Session) : Main := { m with sess := mmod {} m.sess n f }
/-- Virtual master `v`. -/
def Main.vmst (m : Main) (v : Nat) : Master := mget {} m.vm v
/-- Change a virtual master. -/
def Main.modVm (m : Main) (v : Nat) (f : Master → Master) : Main := { m with vm := mmod {} m.vm v f }
/-- Latch unit `u`. -/
def Main.lt (m : Main) (u : Nat) : Latch := mget {} m.ev.latches u
/-- Change a latch unit. -/
def Main.modLt (m : Main) (u : Nat) (f : Latch → Latch) : Main :=
  { m with ev := { m.ev with latches := mmod {} m.ev.latches u f } }
/-- Action entry `e`. -/
def Main.act (m : Main) (e : Nat) : Action := mget {} m.ev.entries e
/-- Change an action entry. -/
def Main.modAct (m : Main) (e : Nat) (f : Action → Action) : Main :=
  { m with ev := { m.ev with entries := mmod {} m.ev.entries e f } }
/-- Acquisition unit `u`. -/
def Main.aqu (m : Main) (u : Nat) : AqUnit := mget {} m.aq u
/-- Change an acquisition unit. -/
def Main.modAq (m : Main) (u : Nat) (f : AqUnit → AqUnit) : Main := { m with aq := mmod {} m.aq u f }
/-- Field channel `c`. -/
def Main.fc (m : Main) (c : Nat) : FieldCh := mget {} m.field.chans c
/-- Change a field channel. -/
def Main.modFc (m : Main) (c : Nat) (f : FieldCh → FieldCh) : Main :=
  { m with field := { m.field with chans := mmod {} m.field.chans c f } }
/-- A port's link. -/
def Main.pl (m : Main) (p : Nat) : PortLink := mget {} m.line.ports p
/-- Change a port's link. -/
def Main.modPl (m : Main) (p : Nat) (f : PortLink → PortLink) : Main :=
  { m with line := { m.line with ports := mmod {} m.line.ports p f } }
/-- A peripheral serial master. -/
def Main.psm (m : Main) (n : Nat) : Ps := mget {} m.ps n
/-- Change a peripheral serial master. -/
def Main.modPs (m : Main) (n : Nat) (f : Ps → Ps) : Main := { m with ps := mmod {} m.ps n f }
/-- An emulation output. -/
def Main.eeo (m : Main) (o : Nat) : EeOut := mget {} m.ee o
/-- Change an emulation output. -/
def Main.modEe (m : Main) (o : Nat) (f : EeOut → EeOut) : Main := { m with ee := mmod {} m.ee o f }
/-- A cam table's directory entry. -/
def Main.tab (m : Main) (t : Nat) : CamTable := mget {} m.tabs t

/-- The mode of an instance: CONTROL MODE (R96). -/
def Main.mode (m : Main) (i : Nat) : Nat := fld (m.objW (instAddr i O.CONTROL)) 11 8
/-- CONTROL ENABLE as it stands (R96). -/
def Main.enable (m : Main) (i : Nat) : Bool := (m.io i O.CONTROL).testBit 0
/-- Set CONTROL ENABLE. -/
def Main.setEnable (m : Main) (i : Nat) (v : Bool) : Main :=
  m.setObj (instAddr i O.CONTROL) (putBit (m.io i O.CONTROL) 0 v)
/-- Set CONTROL MODE. -/
def Main.setMode (m : Main) (i md : Nat) : Main :=
  let c := m.io i O.CONTROL
  m.setObj (instAddr i O.CONTROL) (c - c / 256 % 16 * 256 + md % 16 * 256)

/-- R210: FOLLOW_ERR reads 0 in MODES 1 and 2; a follow hoop's is its members' (R342). -/
def Main.errMode (m : Main) (i : Nat) : Main :=
  if (m.mode i = 1 ∨ m.mode i = 2) ∧ (i < 64 ∨ m.io i O.HP_KIND = 2) then m.setObj (instAddr i O.FOLLOW_ERR) 0 else m

/-- Every axis number. -/
def axes : List Nat := List.range 64
/-- Every instance number. -/
def instances : List Nat := List.range 128

/-- The safety zone that an axis belongs to (R459): zone 0 AX0-AX31, zone 1 AX32-AX63; with one zone both take the
same state. -/
def zoneOf (ax : Nat) : Nat := ax / 32

/-- R490: the mitten of the unit is closed. -/
def Main.mittenClosed (m : Main) (code : Nat) : Bool := decide (2 ≤ mget 0 m.sup.mittens code)

/-! ### Free values -/

/-- A fresh free word, and the state with the count advanced (log 15). -/
def Main.freeWord (m : Main) : Word × Main := (Config.freeWord m.fresh, { m with fresh := m.fresh + 1 })

/-! ### Answers (R94, R136, R520) -/

/-- Abort codes of R93 that the model names. -/
abbrev aNoObject : Nat := 0x01
abbrev aSession : Nat := 0x02
abbrev aProtected : Nat := 0x03
abbrev aAccess : Nat := 0x04
abbrev aNotOwner : Nat := 0x05
abbrev aOwned : Nat := 0x06
abbrev aClaimLost : Nat := 0x07
abbrev aLength : Nat := 0x08
abbrev aType : Nat := 0x09
abbrev aRange : Nat := 0x0A
abbrev aState : Nat := 0x0B
abbrev aOpRunning : Nat := 0x0C
abbrev aBusy : Nat := 0x0D
abbrev aAdmit : Nat := 0x0E
abbrev aUnitReset : Nat := 0x0F
/-- R125: a request that is queued. -/
abbrev aPending : Nat := 0x80

/-- R94: an abort is recorded in HS_ABORT_LAST and HS_ABORT_COUNT of the session; the line codes of R125 and OK are
not aborts. -/
def Main.noteAbort (m : Main) (sess code addr : Nat) : Main :=
  if code = 0 ∨ 0x80 ≤ code then m
  else (m.setObj (hsAddr sess O.HS_ABORT_LAST) (code * 2 ^ 24 + addr % 2 ^ 24)).inc (hsAddr sess O.HS_ABORT_COUNT)

/-- The answer of a request given at once: noted, and shown as what the command answers. -/
def Main.reply (m : Main) (sess addr status : Nat) (data : List Byte := []) : Main :=
  let m := m.noteAbort sess status addr
  { m with out := { m.out with status := some status, rlen := data.length, data := data, taken := true } }

/-- R136, R520: the final answer of a pending request is placed with its session; for S9 the held request finishes. -/
def Main.deliver (m : Main) (k : Key) (addr status : Nat) (data : List Byte := []) : Main :=
  let m := m.noteAbort k.sess status addr
  if k.sess = 9 ∧ k.ticket < 256 then
    { m with host := { m.host with busy := false, reply := { status := status, seq := m.host.reply.seq, data := data } } }
  else m.modSe k.sess (fun s => { s with places := s.places.map (fun p =>
      if p.ticket = k.ticket ∧ p.stage = 0 then
        { p with stage := 1, status := status, len := data.length, data := data } else p) })

/-- The answer goes to the pending request if there is one, else it is the command's own reply. -/
def Main.answer (m : Main) (key : Option Key) (sess addr status : Nat) (data : List Byte := []) : Main :=
  match key with
  | some k => m.deliver k addr status data
  | none => m.reply sess addr status data

end Sys2Proof.Machine
end

