-- ==== Sys2Proof/Machine/Operands.lean ====
section
/-! DEFINITION. The operand forms: the fixed-point types of R8 as rational numbers and back, the duty codes of R9,
the trigonometric functions of the loops, and member, source and domain codes (R79, R293, R337). -/

namespace Sys2Proof.Machine

/-! ### Fixed-point readings (R7, R8) -/

/-- VEL36, s28.8: increments per second. -/
def velQ (w : Word) : Rat := (sgn w : Rat) / 256
/-- ACC36, s32.4: increments per second squared. -/
def accQ (w : Word) : Rat := (sgn w : Rat) / 16
/-- GAIN36, s12.24. -/
def gainQ (w : Word) : Rat := (sgn w : Rat) / 16777216
/-- FRAC36, s1.35: fraction of full scale. -/
def fracQ (w : Word) : Rat := (sgn w : Rat) / 34359738368
/-- POS36. -/
def posQ (w : Word) : Rat := (sgn w : Rat)

/-- R9: the duty a DUTY36 code calls for; every code from 0x800_000_001 to 0xFFF_FFF_FFE is 0x800_000_000. -/
def dutyCode (w : Word) : Word :=
  if 0x800000001 ≤ w.toNat ∧ w.toNat ≤ 0xFFFFFFFFE then 0x800000000#36 else w

/-- The HOLD code of R9. -/
abbrev hold36 : Nat := 2 ^ 36 - 1

/-! ### Results -/

/-- An exact result taken to an integer where the spec states no rounding (log 11). -/
def rnd (q : Rat) : Int := if q.den = 1 then q.num else if Config.roundUp q then q.floor + 1 else q.floor
/-- The nearest integer, halves up (DV_LOAD_RT_PM, DV_SLOT_FILL). -/
def nearest (q : Rat) : Int := (q + 1 / 2).floor
/-- A value the spec calls rounded (R291, R380): the nearest integer; which way a half goes no rule states (log 11). -/
def rounded (q : Rat) : Int := if (q * 2).den = 1 then rnd q else nearest q
/-- `q` held within `lo` and `hi`. -/
def clampQ (q lo hi : Rat) : Rat := if q < lo then lo else if hi < q then hi else q
/-- Magnitude. -/
def absQ (q : Rat) : Rat := if q < 0 then -q else q
/-- sign(x), with sign(0) = 0 (R243). -/
def signQ (q : Rat) : Int := if q < 0 then -1 else if 0 < q then 1 else 0
/-- The smaller. -/
def minQ (a b : Rat) : Rat := if a ≤ b then a else b
/-- The larger. -/
def maxQ (a b : Rat) : Rat := if a ≤ b then b else a

/-- A velocity as VEL36. -/
def velWord (q : Rat) : Word := wordOf (rnd (q * 256))
/-- An acceleration as ACC36. -/
def accWord (q : Rat) : Word := wordOf (rnd (q * 16))
/-- A position as POS36, modulo 2^36. -/
def posWord (q : Rat) : Word := wordOf (rnd q)
/-- A fraction of full scale as FRAC36, saturated (R8, R234). -/
def fracWord (q : Rat) : Word :=
  wordOf (max (-(34359738368 : Int)) (min 34359738367 (rnd (q * 34359738368))))
/-- A fraction of full scale held in the range of FRAC36 (R234). -/
def fracSat (q : Rat) : Rat := clampQ q (-1) (34359738367 / 34359738368)
/-- A duty from 0 to 1.0 as DUTY36. -/
def dutyWord (q : Rat) : Word := wordOf (rnd (clampQ q 0 1 * 34359738368))

/-! ### Functions of the loops -/

/-- The fractional part of a number of turns, from 0 up to 1. -/
def frac (q : Rat) : Rat := q - (q.floor : Rat)
/-- π to 50 digits. -/
def piQ : Rat := 314159265358979323846264338327950288419716939937510 / 10 ^ 50

/-- The 32 leading terms of the series of an odd (`k` = 1) or even (`k` = 0) function of `x`, from the term `t` on. -/
def seriesT (x2 : Rat) : Nat → Nat → Rat → Rat
  | 0, _, _ => 0
  | n + 1, k, t => t + seriesT x2 n (k + 2) (-t * x2 / (((k + 1) * (k + 2) : Nat) : Rat))

/-- A value known within 2^-80: `v` held within that distance of `q` (log 10). -/
def within (v q : Rat) : Rat := clampQ v (q - 1 / 2 ^ 80) (q + 1 / 2 ^ 80)

/-- The sine of an angle in turns: exact at the quarters, elsewhere within 2^-80 (log 10). -/
def sinT (q : Rat) : Rat :=
  let f := frac q
  if f = 0 then 0 else if f = 1 / 4 then 1 else if f = 1 / 2 then 0 else if f = 3 / 4 then -1
  else
    let x := 2 * piQ * (if f < 1 / 2 then f else f - 1)
    within (Config.sin f) (seriesT (x * x) 32 1 x)
/-- The cosine of an angle in turns. -/
def cosT (q : Rat) : Rat :=
  let f := frac q
  if f = 0 then 1 else if f = 1 / 4 then 0 else if f = 1 / 2 then -1 else if f = 3 / 4 then 0
  else
    let x := 2 * piQ * (if f < 1 / 2 then f else f - 1)
    within (Config.cos f) (seriesT (x * x) 32 0 1)

/-- The whole part of the square root of `n`, from the bit `b` - 1 down, above `r`. -/
def isqrtFrom (n : Nat) : Nat → Nat → Nat
  | 0, r => r
  | b + 1, r => isqrtFrom n b (if (r + 2 ^ b) * (r + 2 ^ b) ≤ n then r + 2 ^ b else r)
/-- The whole part of the square root. -/
def isqrt (n : Nat) : Nat := isqrtFrom n (Nat.log2 n / 2 + 1) 0

/-- A square root: exact where it is rational, elsewhere within a relative 2^-63 (log 10); of a negative number 0. -/
def sqrtQ (q : Rat) : Rat :=
  if q ≤ 0 then 0 else
  let n := q.num.toNat
  let a := isqrt n
  let b := isqrt q.den
  if a * a = n ∧ b * b = q.den then (a : Rat) / b
  else
    let r := isqrt (n * q.den * 2 ^ 128)
    let unit : Rat := (q.den * 2 ^ 64 : Nat)
    clampQ (Config.sqrt q) (r / unit) ((r + 1 : Nat) / unit)

/-- 1/(2π), within 2^-80 (log 10). -/
def invTwoPi : Rat := within Config.invTwoPi (1 / (2 * piQ))

/-! ### Codes -/

/-- The instance a member code names (R337): kind 0x01 axis, 0x02 hoop, numbers 0-63. -/
def memberOf (code : Nat) : Option Nat :=
  if code % 256 < 64 then
    (if code / 256 = 1 then some (code % 256) else if code / 256 = 2 then some (64 + code % 256) else none)
  else none
/-- The member code of an instance. -/
def codeOf (i : Nat) : Nat := if i < 64 then 256 + i else 512 + (i - 64)

/-- A source (R293). -/
inductive Src | none | inst (i : Nat) | master (v : Nat) | port (p : Nat) | undef
  deriving DecidableEq, Repr

/-- The source a code of R293 names. -/
def srcOf (code : Nat) : Src :=
  let n := code % 256
  if code / 256 = 0 then .none
  else if code / 256 = 1 then (if n < 64 then .inst n else .undef)
  else if code / 256 = 2 then (if n < 64 then .inst (64 + n) else .undef)
  else if code / 256 = 3 then (if n < 16 then .master n else .undef)
  else if code / 256 = 4 then (if n < 64 then .port n else .undef)
  else .undef

/-- R79: the map index of a domain code. -/
def domainOfCode (code : Nat) : Option Nat :=
  let n := code % 256
  match code / 256 with
  | 1 => if n < 64 then some n else none
  | 2 => if n < 64 then some (64 + n) else none
  | 3 => if n < 8 then some (128 + n) else none
  | 4 => if 16 ≤ n ∧ n < 32 then some (136 + (n - 16)) else none
  | 5 => if n = 0 then some 152 else none
  | 6 => if n = 0 then some 153 else none
  | 7 => if n = 0 then some 154 else none
  | _ => none

end Sys2Proof.Machine
end

