-- ==== Sys2Proof/Machine/Clock.lean ====
section
/-! DEFINITION. Edges of the 100 MHz reference with nothing commanded (R159): the accumulator of the time base advances by
NT_INC at each, and the emulation outputs advance by their rates (R294, R295). -/

namespace Sys2Proof.Machine

/-- The base address of emulation output `o` (R299): 0x0_00_5x0 with x = o + 1. -/
def eeBase (o : Nat) : Nat := O.DV_EEo_SRC + 16 * o

/-- R295: the lines of an output for its accumulator; Z by its period and position. -/
def EeOut.lines (x : EeOut) (zper zpos : Nat) : EeOut :=
  let n := x.acc.floor
  let k := n % 4
  { x with a := k == 1 || k == 2, b := k == 2 || k == 3, z := zper != 0 && n % (zper : Int) == (zpos : Int) }

/-- R294: `n` reference edges of a running output. -/
def EeOut.edges (x : EeOut) (n zper zpos : Nat) : EeOut :=
  if x.on then { x with acc := x.acc + (n : Rat) * x.rate }.lines zper zpos else x

/-- R159: `n` rising edges of the reference at one increment. -/
def TimeBase.edges (t : TimeBase) (n : Nat) : TimeBase :=
  let sum := t.epoch.toNat * 2 ^ 66 + t.acc.toNat + n * t.inc.toNat
  { t with acc := BitVec.ofNat 66 sum, epoch := BitVec.ofNat 36 (sum / 2 ^ 66) }

/-- The number of edges after which the extended time has reached `due`. -/
def TimeBase.edgesTo (t : TimeBase) (due : Nat) : Nat :=
  let left := due * 2 ^ 30 - (t.epoch.toNat * 2 ^ 66 + t.acc.toNat)
  (left + t.inc.toNat - 1) / max 1 t.inc.toNat

/-- `n` edges of the reference: the time base and the emulation outputs (R293-R295). -/
def Main.edges (m : Main) (n : Nat) : Main :=
  (List.range 8).foldl (fun m o =>
    if (m.eeo o).on then
      m.modEe o (fun x => x.edges n (m.obj (eeBase o + (O.DV_EEo_Z_PERIOD - O.DV_EEo_SRC))) (m.obj (eeBase o + (O.DV_EEo_Z_POS - O.DV_EEo_SRC))))
    else m) { m with tb := m.tb.edges n }

/-- R159: a rising edge of the reference. The accumulator runs from boot step 4 on (R494);
before that the edge only tells the instants of reset sources apart (R488, log 96). -/
def Main.tick (m : Main) : Main :=
  if m.tb.running then m.edges 1 else { m with sup := { m.sup with clk := m.sup.clk + 1 } }

/-- The module with one reference edge passed and no command (log 1). -/
def State.tick (s : State) : State := { s with main := s.main.tick }

end Sys2Proof.Machine
end

