-- ==== Sys2Proof/Machine/Lift.lean ====
section
/-! DEFINITION. How a meaning acts on the state: on the main die (and what belongs to it), on the safety die, or on the
main die with the safety die in view (the two dies meet only at the signals of chapter 14). -/

namespace Sys2Proof.Machine

/-- What a command answers. -/
abbrev Answered := Host.Outcome State Fault Refusal

/-- A command on the main die; what the previous command sent out is gone (log 2). -/
def State.onMain (s : State) (f : Main → Main) : Answered :=
  .next { s with main := f { s.main with out := {} } }

/-- A command on the safety die. -/
def State.onSafety (s : State) (f : SafetyDie → SafetyDie) : Answered :=
  .next { s with safety := f s.safety }

/-- A command that carries a signal or a frame of the safety die to the main die (R216, R474, R478). -/
def State.onSignal (s : State) (f : SafetyDie → Main → Main) : Answered :=
  .next { s with main := f s.safety { s.main with out := {} } }

end Sys2Proof.Machine
end

