-- ==== Sys2Proof/Machine/Flags.lean ====
section
/-! DEFINITION. The status words and the conditions they show: STATUS (R95), OP_STATUS (R98), FB_STATUS (R297),
LIM_STATUS (R336), WARN_CAUSE (R209), IO_DIAG (R450), the ready conditions (R183, R348), the commutation condition
(R246), the limit and virtual-limit conditions (R314, R315, R320) and the safe level of the PWM outputs (R267). -/

namespace Sys2Proof.Machine

/-! ### STATE codes (R182) -/

abbrev sOff : Nat := 0
abbrev sReady : Nat := 1
abbrev sEnabling : Nat := 2
abbrev sRun : Nat := 3
abbrev sStopping : Nat := 4
abbrev sDisabling : Nat := 5
abbrev sReaction : Nat := 6
abbrev sFault : Nat := 7
abbrev sSafeOff : Nat := 8

/-! ### FAULT_CAUSE bits (R203) -/

abbrev cTrip : Nat := 0
abbrev cDeadlineCl : Nat := 1
abbrev cDeadlineOuter : Nat := 2
abbrev cFeedback : Nat := 3
abbrev cCommutation : Nat := 4
abbrev cUnitReset : Nat := 5
abbrev cFollowErr : Nat := 6
abbrev cVelErr : Nat := 7
abbrev cOverspeed : Nat := 8
abbrev cStandstill : Nat := 9
abbrev cI2t : Nat := 10
abbrev cStopTimeout : Nat := 11
abbrev cBrake : Nat := 12
abbrev cLimit : Nat := 13
abbrev cHoop : Nat := 14

/-- OFF or READY. -/
def Main.atRest (m : Main) (i : Nat) : Bool := (m.i i).core.st == sOff || (m.i i).core.st == sReady

/-- The states in which an instance is active: ENABLING, RUN, STOPPING, DISABLING, FAULT_REACTION (R175, R345). -/
def Main.activeSt (m : Main) (i : Nat) : Bool := 2 ≤ (m.i i).core.st && (m.i i).core.st ≤ 6

/-- Reaction 3 holds the torque at zero until power off (R204). -/
def Main.zeroed (m : Main) (i : Nat) : Bool :=
  let c := (m.i i).core
  c.react == 3 && c.seq == .engage && (c.st == sReaction || c.st == sDisabling)

/-! ### OP_STATUS (R98) -/

/-- Bits [31:14] of OP_STATUS. -/
def LongOp.low (o : LongOp) : Nat :=
  o.prog % 1024 * 2 ^ 22 + o.kind % 16 * 2 ^ 18 + b2n o.partialR * 2 ^ 17 + b2n o.failed * 2 ^ 16
    + b2n o.finished * 2 ^ 15 + b2n o.busy * 2 ^ 14

/-- R98: OP_STATUS. -/
def LongOp.status (o : LongOp) : Nat := o.seq % 16 * 2 ^ 32 + o.low + o.err % 256

/-! ### Field inputs (R434, R435, R450) -/

/-- R435: the channel is diagnosed broken. -/
def Main.broken (m : Main) (c : Nat) : Bool := (m.fc c).wb || m.field.link != 2

/-- R450: IO_DIAG. -/
def Main.ioDiag (m : Main) (c : Nat) : Nat :=
  let f := m.fc c
  b2n f.wb + 2 * b2n f.ol + 4 * b2n f.short + 8 * b2n f.hot + 16 * b2n f.rb + 32 * b2n f.demag
    + 128 * b2n (m.broken c)

/-- IO_DIAG_LATCH keeps the bits of IO_DIAG but 5 and 7 (R450). -/
def Main.latchDiag (m : Main) (c : Nat) : Main := m.orObj (ioAddr c O.IO_DIAG_LATCH) (m.ioDiag c &&& 0x5F)

/-! ### Limits (R314, R315, R320, R336) -/

/-- The input channel of a limit side: the positive or the negative one (R314). -/
def Main.limCh (m : Main) (i : Nat) (neg : Bool) : Nat := m.io i (if neg then O.LIM_NEG_IN else O.LIM_POS_IN)

/-- R314: whether an input reads its active level, `bit` being its bit in LIM_POL. -/
def Main.inActive (m : Main) (i ch bit : Nat) : Bool :=
  ch < 32 && ((m.fc ch).level != (m.io i O.LIM_POL).testBit bit)

/-- The side's input is diagnosed broken. -/
def Main.limBroken (m : Main) (i : Nat) (neg : Bool) : Bool :=
  let ch := m.limCh i neg
  ch < 32 && m.broken ch

/-- R320: a virtual limit is in force on the side. -/
def Main.vlimOn (m : Main) (i : Nat) (neg : Bool) : Bool :=
  (m.i i).core.homed && m.io i O.MODULO == 0 &&
    (m.io i O.VLIM_MODE == 2 || (m.io i O.VLIM_MODE == 1 && (m.limCh i neg == 255 || m.limBroken i neg)))

/-- R315: the limit side is active. -/
def Main.limActive (m : Main) (i : Nat) (neg : Bool) : Bool :=
  let ch := m.limCh i neg
  m.inActive i ch (b2n neg) || (m.limBroken i neg && !m.vlimOn i neg)

/-- The side is latched or blocked by its virtual limit (R319, R322). -/
def Main.blocked (m : Main) (i : Nat) (neg : Bool) : Bool :=
  let l := (m.i i).lim
  if neg then l.negLat || l.negVb else l.posLat || l.posVb

/-- R336: LIM_STATUS. -/
def Main.limStatus (m : Main) (i : Nat) : Nat :=
  let l := (m.i i).lim
  b2n (m.limActive i false) + 2 * b2n (m.limActive i true) + 4 * b2n l.posLat + 8 * b2n l.negLat
    + 16 * b2n (m.limBroken i false) + 32 * b2n (m.limBroken i true) + 64 * b2n l.posVb + 128 * b2n l.negVb
    + 256 * b2n (m.vlimOn i false) + 512 * b2n (m.vlimOn i true)
    + 1024 * b2n (m.inActive i (m.io i O.HOME_IN) 2)

/-! ### Feedback (R279, R297) -/

/-- R279: the alarm is active. -/
def Main.alarm (m : Main) (p : Nat) : Bool :=
  m.objB (fbAddr p O.FB_ALARM_EN) && m.obj (fbAddr p O.FB_MODE) != 0 && (m.pt p).lines.getLsbD 3

/-- The port holds a feedback fault (R278). -/
def Port.fault (p : Port) : Bool := p.fsLevel || p.fsAlarm

/-- An FB_SER_ object of a port. -/
def Main.ser (m : Main) (p num : Nat) : Nat := m.obj (fbAddr p num)

/-- K of R284. -/
def Main.serK (m : Main) (p : Nat) : Nat := m.ser p O.FB_SER_LEAD + m.ser p O.FB_SER_BITS + m.ser p O.FB_SER_TRAIL

/-- The time from T0 to the monoflop check. -/
def Main.serMono (m : Main) (p : Nat) : Nat := (m.serK p + 1) * m.ser p O.FB_SER_PERIOD + m.ser p O.FB_SER_DLY

/-- R284: the clock output FBB of a port in mode 3 at extended time `t`: high, but for the low half of each cycle of the read in
progress. -/
def Main.serClock (m : Main) (p t : Nat) : Bool :=
  let per := max 1 (m.ser p O.FB_SER_PERIOD)
  match (m.pt p).readT0 with
  | some t0 => decide (t < t0 ∨ m.serK p * per ≤ t - t0 ∨ per / 2 ≤ (t - t0) % per)
  | none => true

/-- R484, R493: the main die's outputs are held: core reach holds, or STRAP_TEST is high. -/
def Main.outputsHeld (m : Main) : Bool := m.sup.coreHeld || m.sup.straps.test

/-- R271, R484: the level that port `p` drives on FBB: in mode 3 the clock; otherwise FBB is an input. -/
def Main.fbbOut (m : Main) (p : Nat) : Option Bool :=
  if m.obj (fbAddr p O.FB_MODE) = 3 ∧ ¬ m.outputsHeld then some (m.serClock p m.now) else none

/-- R278: what for R208 still holds of the feedback fault. -/
def Main.fbHolds (m : Main) (p : Nat) : Bool :=
  let q := m.pt p
  let lim := m.obj (fbAddr p O.FB_ERR_LIMIT)
  (lim != 0 && lim ≤ q.level) || m.alarm p || (m.obj (fbAddr p O.FB_MODE) == 3 && m.obj (fbAddr p O.FB_SER_ERR) != 0)

/-- R297: FB_STATUS. SPEED_VALID reads 0 while the axis's chains are not in the ledger (R291). -/
def Main.fbStatus (m : Main) (p : Nat) : Nat :=
  let q := m.pt p
  b2n (q.valid && (m.i p).core.chains != 0) + 2 * b2n q.still + 4 * b2n q.dirNeg + 8 * b2n q.fault
    + 16 * b2n q.hallInv + 32 * b2n q.zArmed + 64 * b2n q.idxSeen + 128 * b2n (m.alarm p) + 256 * b2n q.serOk
    + 4096 * b2n q.fsLevel + 8192 * b2n q.fsAlarm

/-! ### Commutation (R246, R251, R252) -/

/-- The Hall port of an axis (R246). -/
def Main.hallPort (m : Main) (a : Nat) : Nat :=
  let p := m.obj (pwAddr a O.PW_HALL_PORT)
  if p = 255 then a else p

/-- R30, R203: axis `a` uses the unit of port `p`: its own, or the port of its Hall signals. -/
def Main.usesPort (m : Main) (a p : Nat) : Bool :=
  let src := m.obj (pwAddr a O.PW_COMM_SRC)
  a == p || (m.io a O.AX_MOTOR_TYPE == 1 && (src == 1 || src == 2) && m.hallPort a == p)

/-- R246: a commutation source is configured. -/
def Main.commConfigured (m : Main) (a : Nat) : Bool :=
  let fm := fun p => m.obj (fbAddr p O.FB_MODE)
  let enc := m.obj (pwAddr a O.PW_ENC_PER_REV) != 0
  let own := fm a == 1 || fm a == 3
  match m.obj (pwAddr a O.PW_COMM_SRC) with
  | 1 => fm (m.hallPort a) == 2
  | 2 => own && m.obj (pwAddr a O.PW_HALL_PORT) != 255 && m.obj (pwAddr a O.PW_HALL_PORT) != a
      && fm (m.obj (pwAddr a O.PW_HALL_PORT)) == 2 && enc
  | 3 => own && enc && m.io a O.AX_BRAKE_OUT == 255
  | 4 => fm a == 3 && enc
  | _ => false

/-- R251: with source 4 PW_COMM_VALID is set while the own port delivers valid data. -/
def Main.commValid (m : Main) (a : Nat) : Bool :=
  if m.obj (pwAddr a O.PW_COMM_SRC) = 4 then (m.pt a).serOk && !(m.pt a).fault
  else m.objB (pwAddr a O.PW_COMM_VALID)

/-- The commutation angle is valid (R228): from the Hall sector where the source uses it, else under PW_COMM_VALID. -/
def Main.angleKnown (m : Main) (a : Nat) : Bool :=
  let h := m.pt (m.hallPort a)
  let hall := h.sector.isSome && !h.hallInv
  match m.obj (pwAddr a O.PW_COMM_SRC) with
  | 1 => hall
  | 2 => hall || m.commValid a
  | _ => m.commValid a

/-- R252: what for R208 still holds of the loss of commutation. -/
def Main.commLost (m : Main) (a : Nat) : Bool :=
  let s := m.obj (pwAddr a O.PW_COMM_SRC)
  ((s == 1 || s == 2) && (m.pt (m.hallPort a)).hallInv) || (s == 4 && m.fbHolds a)

/-! ### Fast trips (R239, R241) -/

/-- The trip lines that a state of TRIP inputs and overcurrents makes active (R239). -/
def Main.tripLines (m : Main) : Nat :=
  axes.foldl (fun t a => if (m.ln a).oc then t ||| m.obj (pwAddr a O.PW_OC_SPREAD) else t) m.trips % 256

/-- R239: a fast trip acts on the axis. -/
def Main.tripActs (m : Main) (a : Nat) : Bool :=
  (m.tripLines &&& m.obj (pwAddr a O.PW_TRIP_SEL)) != 0 || (m.ln a).oc

/-! ### The safe level (R267) -/

/-- R267: the outputs of an axis are at the safe level. -/
def Main.pwmSafe (m : Main) (a : Nat) : Bool :=
  !(m.i a).core.power || (m.ln a).hold || (m.i a).core.safe || m.outputsHeld || m.mittenClosed (0x100 + a)

/-! ### Ready conditions (R183, R348) -/

/-- R183: the ready conditions of an axis. -/
def Main.readyAxis (m : Main) (a : Nat) : Bool :=
  m.io a O.AX_MOTOR_TYPE != 0 && m.io a O.AX_I_FULL != 0 && m.io a O.AX_V_FULL != 0
    && decide (0 < m.ioI a O.AX_VEL_SCALE) && m.obj (fbAddr a O.FB_MODE) != 0
    && (m.io a O.AX_MOTOR_TYPE != 1 || m.commConfigured a) && m.io a O.FAULT_CAUSE == 0
    && !(m.i a).core.safe && !(m.ln a).hold && !m.tripActs a

/-- The sum of the members' weights (R344). -/
def Main.weights (m : Main) (l : List Nat) : Nat := l.foldl (fun s k => s + m.io k O.SHARE_WEIGHT) 0

/-- The instance holds a position at the end of a stop, or until its brake has engaged (R192, R198). -/
def Main.holding (m : Main) (i : Nat) : Bool :=
  let x := m.i i
  x.motion.held.isSome && (x.core.seq == .standstill || x.core.seq == .engage)

/-- A hoop's members that are not isolated: those that take part in the aggregation of R348 and R349 (R350). -/
def Main.joined (m : Main) (h : Nat) : List Nat := (m.i h).members.filter (fun k => !(m.i k).isolated)

/-- The ready conditions of an instance; a hoop's rest on its members' READY bits, down at most `d` levels of
nesting (R338 closes no cycle, so 64 levels reach every member). -/
def Main.readyD (m : Main) : Nat → Nat → Bool
  | 0, i => if i < 64 then m.readyAxis i else false
  | d + 1, i =>
    if i < 64 then m.readyAxis i else
    let x := m.i i
    m.io i O.HP_KIND != 0 && !x.members.isEmpty && (m.joined i).all (fun k => m.readyD d k)
      && m.io i O.FAULT_CAUSE == 0
      && (m.io i O.HP_KIND != 2 || (x.members.contains (m.io i O.HP_SHARE_FB) && m.io i O.HP_I_FULL != 0
          && decide (0 < m.ioI i O.HP_VEL_SCALE) && m.weights (m.joined i) != 0))
/-- The READY bit of an instance. -/
def Main.ready (m : Main) (i : Nat) : Bool := m.readyD 64 i

/-- ENABLED (R184, R348): the outputs of an axis are switching, not at the safe level. -/
def Main.enabledD (m : Main) : Nat → Nat → Bool
  | 0, i => !m.pwmSafe i
  | d + 1, i => if i < 64 then !m.pwmSafe i else
      !(m.i i).members.isEmpty && (m.joined i).all (fun k => m.enabledD d k)
/-- The ENABLED bit of an instance. -/
def Main.enabled (m : Main) (i : Nat) : Bool := m.enabledD 64 i

/-- GAUNTLET_OPEN (R478, R348): the status of the safety die's gauntlets as received, over the zone of the axis. -/
def Main.gauntletOpenD (m : Main) : Nat → Nat → Bool
  | 0, _ => true
  | d + 1, i => if i < 64 then
      let g := m.obj (sfAddr 0 O.SF_GAUNTLETS)
      let two := (m.obj (sfAddr 0 O.SF_SEAL)).testBit 4
      let mask := if two then (if zoneOf i = 0 then 0x0F else 0xF0) else 0xFF
      (g &&& mask) != mask
    else (m.joined i).any (fun k => m.gauntletOpenD d k)

/-! ### Warnings (R209) -/

/-- The axis's home of a hoop member's position: ACTUAL_POS of the instance. -/
def Main.actualPos (m : Main) (i : Nat) : Int := m.ioI i O.ACTUAL_POS

/-- R209: WARN_CAUSE. -/
def Main.warnCause (m : Main) (i : Nat) : Nat :=
  let x := m.i i
  let fe := (m.ioI i O.FOLLOW_ERR).natAbs
  let few := (m.ioI i O.FE_WARN).toNat
  let win := (m.ioI i O.SS_WINDOW).toNat
  b2n (few != 0 && few < fe)
    + 2 * b2n (i < 64 && 900 ≤ m.io i O.AX_I2T_LEVEL)
    + 4 * b2n x.loop.fold + 8 * b2n x.loop.wIq + 16 * b2n x.loop.wVel + 32 * b2n x.loop.wVmax
    + 64 * b2n (match x.core.missT with | some t => m.now < t + 100 * unitsPerMs | none => false)
    + 128 * b2n (m.obj O.DV_PACE_STATE != 0)
    + 256 * b2n (i < 64 && ((m.pt i).level != 0 || m.obj (fbAddr i O.FB_LATCH) != 0))
    + 512 * b2n (i < 64 && m.atRest i && m.io i O.AX_BRAKE_OUT != 255 && win != 0 &&
        (match x.core.offPos with | some p => win < (sdiff (m.actualPos i) p).natAbs | none => false))

/-! ### STATUS (R95) -/

/-- MOVING (R313, R359). -/
def Main.moving (m : Main) (i : Nat) : Bool :=
  let x := m.i i
  let mo := x.motion
  match m.mode i with
  | 2 => decide ((m.ioI i O.SS_VEL).natAbs < (m.ioI i O.ACTUAL_VEL).natAbs)
  | 0 => mo.plan.isSome || !mo.queue.isEmpty || mo.ramp.isSome
  | 1 => mo.velSp != 0 || mo.plan.isSome && !(match mo.plan with | some p => decide (p.tEnd ≤ secs m.now) | none => true)
      || mo.ramp.isSome
  | _ => mo.velSp != 0 || x.link.st == 2 || mo.ramp.isSome

/-- R95: STATUS. -/
def Main.status (m : Main) (i : Nat) : Nat :=
  let x := m.i i
  x.core.st * 2 ^ 32 + (m.lop i).low + b2n x.core.enPending * 2 ^ 13 + b2n (m.gauntletOpenD 65 i) * 2 ^ 12
    + b2n (x.lim.posVb || x.lim.negVb) * 2 ^ 11 + b2n (x.lim.posLat || x.lim.negLat) * 2 ^ 10
    + b2n x.core.homed * 2 ^ 9 + b2n x.core.atTarget * 2 ^ 8 + b2n (m.moving i) * 2 ^ 7 + b2n (x.link.st == 3) * 2 ^ 6
    + b2n (m.warnCause i != 0) * 2 ^ 5 + b2n (x.core.st == sReaction || x.core.st == sFault) * 2 ^ 4
    + b2n x.core.admitRef * 2 ^ 3 + b2n x.parent.isSome * 2 ^ 2 + b2n (m.enabled i) * 2 + b2n (m.ready i)

/-! ### Raising a fault cause (R203) -/

/-- A fault cause arises on instance `i`: it awaits the next slot boundary, where it is recorded. `r` is the reaction
where the cause decides it; a cause of the configured reaction leaves it out. -/
def Main.raise (m : Main) (i bit : Nat) (r : Option Nat := none) : Main :=
  m.modC i (fun c => { c with
    raised := c.raised ||| 2 ^ bit
    raisedR := match r with
      | some k => if c.raisedR = 9 then k else if k = 0 ∨ c.raisedR = 0 then 0 else if k = 3 ∨ c.raisedR = 3 then 3
          else min k c.raisedR
      | none => c.raisedR })

/-- COMMUTATION is raised on an axis: PW_COMM_VALID is cleared (R251, R252). -/
def Main.raiseComm (m : Main) (a : Nat) : Main :=
  (m.setObj (pwAddr a O.PW_COMM_VALID) 0).raise a cCommutation (some 0)

/-- ADMIT_REFUSED is set or cleared (R53, R54). -/
def Main.setAdmitRef (m : Main) (i : Nat) (v : Bool) : Main := m.modC i (fun c => { c with admitRef := v })

/-- HOMED is cleared (R302). -/
def Main.unhome (m : Main) (i : Nat) : Main := m.modC i (fun c => { c with homed := false })

end Sys2Proof.Machine
end

