-- ==== Sys2Proof/Machine/LongOps.lean ====
section
/-! DEFINITION. Long operations (R97-R104): accepting a start, appending a result record, the two ends. -/

namespace Sys2Proof.Machine

/-- The slot of a long operation's instance beside the axes and hoops. -/
abbrev opAQ (u : Nat) : Nat := 128 + u
abbrev opDV : Nat := 136
abbrev opCM : Nat := 137
abbrev opCF : Nat := 138

/-- The running long operations that are not paused: one token each (R58). -/
def Main.opTokens (m : Main) : Nat := (m.op.filter (fun p => p.2.busy && !p.2.paused)).length

/-- The best-effort entries of the token table in use (R33): one for each queued request and each running long operation
that is not paused (DEDUCED, log 24). -/
def Main.beEntries (m : Main) : Nat := m.fab.queue.length + m.opTokens

/-- R71: the entries in use in the token table. -/
def Main.tokensNow (m : Main) : Nat := m.fab.waiting.length + m.fab.cells.length + m.beEntries

/-- DV_TOKENS_PEAK follows DV_TOKENS_NOW. -/
def Main.notePeak (m : Main) : Main := m.setObj O.DV_TOKENS_PEAK (max (m.obj O.DV_TOKENS_PEAK) m.tokensNow)

/-- R99: an accepted start, in one update. `param` is what the start write names. -/
def Main.startOp (m : Main) (k kind param : Nat) : Main :=
  (m.modOp k (fun o => { seq := (o.seq + 1) % 16, kind := kind, busy := true, param := param, started := m.now,
                         startPos := if k < 128 then m.actualPos k else 0 })).notePeak

/-- R60: the time that an operation has run, without its pauses. -/
def LongOp.ranFor (o : LongOp) (now : Nat) : Nat :=
  now - o.started - o.heldT - (if o.paused then now - o.pausedT else 0)

/-- R59, R60: an operation is paused or resumes at `now`. -/
def LongOp.pause (o : LongOp) (now : Nat) (p : Bool) : LongOp :=
  if !o.busy || o.paused == p then o
  else if p then { o with paused := true, pausedT := now }
  else { o with paused := false, heldT := o.heldT + (now - o.pausedT) }

/-- R102: a result record is appended; its header is KIND, LEN (header included) and INDEX. An INDEX that no rule states is
a free value (log 42). -/
def Main.addResult (m : Main) (k kind : Nat) (index : Option Nat) (body : List Word) : Main :=
  let x : Nat × Main := match index with | some n => (n, m) | none => ((m.freeWord).1.toNat, (m.freeWord).2)
  x.2.modOp k (fun o => { o with
    partialR := true
    result := o.result ++ [BitVec.ofNat 36 (kind * 2 ^ 28 + (body.length + 1) * 2 ^ 16 + x.1 % 65536) :: body] })

/-- R101: completion, in one update. -/
def Main.opDone (m : Main) (k : Nat) : Main :=
  m.modOp k (fun o => { o with busy := false, finished := true, prog := 1000, paused := false })

/-- R101: failure, in one update; OP_PROGRESS keeps its value. -/
def Main.opFail (m : Main) (k err : Nat) : Main :=
  m.modOp k (fun o => if o.busy then { o with busy := false, failed := true, err := err, paused := false } else o)

/-- OP_PROGRESS never decreases, and reaches 1000 only with OP_DONE (R100); it holds while the operation is paused (R59). -/
def Main.opProgress (m : Main) (k p : Nat) : Main :=
  m.modOp k (fun o => if o.paused then o else { o with prog := max o.prog (min p 999) })

/-- Operation of `kind` runs on slot `k`. -/
def Main.opRuns (m : Main) (k kind : Nat) : Bool := (m.lop k).busy && (m.lop k).kind == kind

/-- OP_RESULT as one sequence of words (R102). -/
def LongOp.words (o : LongOp) : List Word := o.result.flatten

/-- The record boundaries of OP_RESULT: the offsets at which its records begin, and its length. -/
def LongOp.bounds (o : LongOp) : List Nat :=
  (o.result.foldl (fun (p : Nat × List Nat) r => (p.1 + r.length, p.2 ++ [p.1 + r.length])) (0, [0])).2

/-- R102: the whole records from a record boundary that fit into `n` words. -/
def LongOp.readFrom (o : LongOp) (off n : Nat) : List Word :=
  let ends := o.bounds.filter (fun b => off ≤ b && b ≤ off + n)
  ((o.words.drop off).take ((ends.foldl max off) - off))

end Sys2Proof.Machine
end

