-- ==== Sys2Proof/Machine/Ledger.lean ====
section
/-! DEFINITION. The deadline ledger (R46-R57): the chains that the admitted configuration calls for, their placement
(R50), the admission test (R49), the commit and the removal of load (R51), and the DV_ objects that report them. -/

namespace Sys2Proof.Machine

/-! ### The chains of a configuration (R35, R46, R220, R345, R390) -/

/-- `n` rounded up to whole parts of `k`. -/
def parts (n k : Nat) : Nat := (n + k - 1) / k

/-- The current-loop, velocity-loop and position-loop periods of an axis, in slots (R220). -/
def Main.curPeriod (m : Main) (a : Nat) : Nat := m.io a O.AX_CL_K
def Main.velPeriod (m : Main) (a : Nat) : Nat := m.curPeriod a * m.io a O.AX_VL_M
def Main.posPeriod (m : Main) (a : Nat) : Nat := m.velPeriod a * m.io a O.AX_PL_P
/-- The current-loop lead L, in time units (R220). -/
def Main.lead (m : Main) (a : Nat) : Nat := m.io a O.AX_CL_LEAD * 400

/-- The chains of an axis by its part in the ledger: current chain 254 pu; outer chain 286 pu with 92 pu at the
velocity-only releases, or 92 pu at every velocity release in MODE 2 (R46, R217). -/
def Main.axisChains (m : Main) (a : Nat) : List Chain :=
  let k := m.curPeriod a
  let v := m.velPeriod a
  let cur : Chain := { owner := a, kind := 0, period := k, deadline := m.lead a - 400, cost := 254, serial := 254 }
  let out : Chain := if m.mode a = 2 then { owner := a, kind := 1, period := v, cost := 92, serial := 92 }
    else { owner := a, kind := 1, period := m.posPeriod a, cost := 286, serial := 286,
           subPer := if m.posPeriod a = v then 0 else v, subCost := 92, subTok := 1 }
  match (m.i a).core.chains with
  | 0 => []
  | 1 => [cur]
  | _ => [cur, out]

/-- An armed cam engage that charges the link of instance `k` while that link is IDLE (R390). -/
def Main.linkCharged (m : Main) (k : Nat) : Bool :=
  (m.i k).link.st != 0 || m.ev.entries.any (fun p => p.2.charged &&
    fld (p.2.words.getD 0 0) 31 28 == 5 && memberOf (fld (p.2.words.getD 6 0) 15 0) == some k)

/-- The hoop chain (R345). -/
def Main.hoopChain (m : Main) (h : Nat) : List Chain :=
  let x := m.i h
  if x.core.chains = 0 then [] else
  let per := m.io h O.HP_PERIOD
  let md := m.mode h
  if m.io h O.HP_KIND = 1 then
    let e := (x.members.filter (fun k => m.linkCharged k)).length
    let f := parts e 3
    let first := if md = 3 then 32 else 122
    [{ owner := h, kind := 2, period := per, cost := first + 60 * e + 2 * f, tokens := max 1 f,
       serial := first + (if e = 0 then 0 else 60 * min e 3 + 2) }]
  else
    let n := (x.members.filter (fun k => !(m.i k).isolated)).length
    let f := parts n 5
    let fork := 40 * n + 2 * f
    let fs := if n = 0 then 0 else 40 * min n 5 + 2
    if md = 2 then [{ owner := h, kind := 2, period := per, cost := 92 + fork, tokens := max 1 f, serial := 92 + fs }]
    else
      let first := (if md = 3 then 32 else 122) + 72 + 92
      let p := m.io h O.HP_PL_P
      [{ owner := h, kind := 2, period := per * p, cost := first + fork, tokens := max 1 f, serial := first + fs,
         subPer := if p = 1 then 0 else per, subCost := 92 + fork, subTok := max 1 f }]

/-- The crossing entries that the refinement chain carries (R390, R393): charged entries that are ARMED or PREDICTED. -/
def Main.crossings (m : Main) : List Nat :=
  (m.ev.entries.filter (fun p => p.2.charged && (p.2.st == 1 || p.2.st == 2) &&
    fld (p.2.words.getD 0 0) 35 32 != 0)).map (fun p => p.1)

/-- The refinement chain: 40 pu per armed crossing entry, five entries to a token of one fork (R393). -/
def Main.refineChain (m : Main) : List Chain :=
  let n := m.crossings.length
  if n = 0 then [] else
  [{ owner := 128, kind := 3, period := m.obj (evAddr 0 O.EV_REF_PERIOD), cost := 40 * n + 2 * parts n 5,
     tokens := parts n 5, serial := 40 * min n 5 + 2 }]

/-- The emulation outputs that follow a virtual master: 30 pu with dispatch at every slot (R296). -/
def Main.eeChains (m : Main) : List Chain :=
  ((List.range 8).filter (fun o => (m.obj O.DV_EE_EN).testBit o && m.obj (eeBase o) / 256 == 3)).map (fun o =>
    { owner := 129 + o, kind := 4, period := 1, cost := 32, serial := 32 })

/-- Every chain that the configuration calls for, phases not yet chosen. -/
def Main.chainsOf (m : Main) : List Chain :=
  axes.flatMap m.axisChains ++ (List.range 64).flatMap (fun h => m.hoopChain (64 + h)) ++ m.refineChain ++ m.eeChains

/-! ### The map (R49, R50) -/

/-- A chain is placed exactly in the frame when its period divides 1200 or is a multiple of 1200. -/
def exactPer (p : Nat) : Bool := 1200 % p == 0 || p % 1200 == 0
/-- The chain is counted in the slots of its phase only. -/
def Chain.exact (c : Chain) : Bool := exactPer c.period && (c.subPer == 0 || exactPer c.subPer)

/-- Cost and tokens of a chain in frame slot `s`. -/
def Chain.load (c : Chain) (s : Nat) : Nat × Nat :=
  if !c.exact then (c.cost, c.tokens)
  else if (s + c.period - c.phase % c.period) % c.period = 0 then (c.cost, c.tokens)
  else if c.subPer ≠ 0 ∧ (s + c.period - c.phase % c.period) % c.subPer = 0 then (c.subCost, c.subTok)
  else (0, 0)

/-- The demand at deadline `d` (time units) of slot `s`. -/
def demand (map : List Chain) (s d : Nat) : Nat :=
  map.foldl (fun t c => if c.deadline ≤ d then t + (c.load s).1 else t) 0
/-- The real-time tokens in flight in slot `s`. -/
def tokensIn (map : List Chain) (s : Nat) : Nat := map.foldl (fun t c => t + (c.load s).2) 0

/-- A number placed in an ascending list without repeats. -/
def insertNat (x : Nat) : List Nat → List Nat
  | [] => [x]
  | y :: r => if x < y then x :: y :: r else if x = y then y :: r else y :: insertNat x r

/-- The distinct deadlines of slot `s`, ascending. -/
def deadlinesIn (map : List Chain) (s : Nat) : List Nat :=
  map.foldl (fun l c => if (c.load s).1 = 0 then l else insertNat c.deadline l) []

/-- The frame's slots. -/
def slots : List Nat := List.range 1200

/-- The larger of two fills, as demand over supply. -/
def maxFill (a b : Nat × Nat) : Nat × Nat := if a.1 * b.2 < b.1 * a.2 then b else a

/-- The largest fill (demand + 3232 over full supply) over the checks of the map at deadlines from `d0` on; the full
supply of 4000 pu/µs over a deadline of d time units is d pu. -/
def worstFill (map : List Chain) (d0 : Nat) : Nat × Nat :=
  slots.foldl (fun w s => (deadlinesIn map s).foldl (fun w d =>
    if d < d0 then w else maxFill w (demand map s d + 3232, d)) w) (0, 1)

/-- R50: of the candidate phases the one with the lowest worst fill, the lowest phase on a tie. -/
def bestPhase (map : List Chain) (c : Chain) : List Nat → Nat
  | [] => 0
  | p :: r => (r.foldl (fun (b : Nat × (Nat × Nat)) q =>
      let w := worstFill ({ c with phase := q } :: map) c.deadline
      if w.1 * b.2.2 < b.2.1 * w.2 then (q, w) else b)
      (p, worstFill ({ c with phase := p } :: map) c.deadline)).1

/-- The candidate phases: the slots of the period within the frame; for an outer chain those that also hold a release
of the axis's current chain (R36). -/
def phasesFor (map : List Chain) (c : Chain) : List Nat :=
  let all := List.range (min c.period 1200)
  if c.kind = 1 then
    match map.find? (fun x => x.owner == c.owner && x.kind == 0) with
    | some k => all.filter (fun p => p % k.period == k.phase % k.period)
    | none => all
  else all

/-- The same chain: owner, kind and period (a chain whose period changes counts as new, R50). -/
def Chain.same (a b : Chain) : Bool :=
  a.owner == b.owner && a.kind == b.kind && a.period == b.period && a.subPer == b.subPer

/-- Place the wanted chains: those already in the map keep their phases, new ones are placed in order (R50). -/
def placeAll (old want : List Chain) : List Chain :=
  let kept := want.filterMap (fun c => (old.find? (fun x => x.same c)).map (fun x => { c with phase := x.phase }))
  let fresh := want.filter (fun c => !(old.any (fun x => x.same c)))
  fresh.foldl (fun mp c => mp ++ [{ c with phase := bestPhase mp c (phasesFor mp c) }]) kept

/-- A refusal (R53, R55): code, number, slot and deadline in ns. -/
structure Refuse where
  code : Nat
  need : Nat
  slot : Nat := 0
  ns   : Nat := 0
  deriving DecidableEq, Repr

/-- The slot checks of R49 in ascending order of slot, and within a slot of deadline; the first failure. -/
def slotChecks (map : List Chain) (brim : Nat) : List Nat → Option Refuse
  | [] => none
  | s :: r =>
    if 224 < tokensIn map s then some { code := 0x02, need := tokensIn map s - 224, slot := s }
    else match (deadlinesIn map s).find? (fun d => (1000 - brim) * d / 1000 < demand map s d + 3232) with
      | some d => some { code := 0x01, need := demand map s d + 3232 - (1000 - brim) * d / 1000, slot := s, ns := d / 4 }
      | none => slotChecks map brim r

/-- The serial-path check of a new chain (R49): its longest sequence of tokens at 4.0 ns per pu within its deadline. -/
def serialCheck (c : Chain) : Option Refuse :=
  if c.deadline / 4 < c.serial * 4 then some { code := 0x03, need := c.serial * 4 - c.deadline / 4, ns := c.deadline / 4 }
  else none

/-- R51: the change only removes load: every wanted chain replaces one of the same period and phase that costs no less,
needs no shorter serial path, no fewer tokens and no later deadline. -/
def onlyRemoves (old want : List Chain) : Bool :=
  want.all (fun c => old.any (fun x => x.same c && c.cost ≤ x.cost && c.subCost ≤ x.subCost && c.serial ≤ x.serial
    && c.tokens ≤ x.tokens && c.subTok ≤ x.subTok && x.deadline ≤ c.deadline))

/-- R49: the admission test of a change from map `old` to the chains `want`, under a pace state, a pace and a brim:
the placed map, or the refusal. -/
def admission (old want : List Chain) (paceState paceNow brim : Nat) : Refuse ⊕ List Chain :=
  if onlyRemoves old want then .inr (placeAll old want)
  else if paceState ≠ 0 then .inl { code := 0x04, need := paceNow }
  else match (want.filter (fun c => !(old.any (fun x => x.same c)))).findSome? serialCheck with
    | some r => .inl r
    | none =>
      let map := placeAll old want
      match slotChecks map brim slots with
      | some r => .inl r
      | none => .inr map

/-! ### The objects that report the map (R57, R61, R71) -/

/-- R57: the best-effort budget at a pace in units of 0.01 ns. -/
def beBudget (map : List Chain) (pace : Nat) : Nat :=
  slots.foldl (fun b s => min b (15200000 / pace - demand map s 40000)) (15200000 / pace)

/-- The real-time load of a map in pu per second (DV_LOAD_RT). -/
def loadRt (map : List Chain) : Rat :=
  map.foldl (fun t c => t + (c.cost * 100000 : Rat) / c.period +
    (if c.subPer = 0 then 0 else (c.subCost * 100000 : Rat) / c.subPer - (c.subCost * 100000 : Rat) / c.period)) 0

/-- DV_BE_BUDGET is recomputed (R57). -/
def Main.setBudget (m : Main) : Main := m.setObj O.DV_BE_BUDGET (beBudget m.fab.map (m.obj O.DV_PACE_NOW))

/-- R61, R71: DV_LOAD_RT, DV_LOAD_RT_PM, DV_SLOT_FILL, DV_TOKENS_RT, DV_PACE_HOLD, AX_PHASE and the budget follow a
change of the map. -/
def Main.mapChanged (m : Main) (map : List Chain) : Main :=
  let m := { m with fab := { m.fab with map := map } }
  let load := loadRt map
  let w := worstFill map 0
  let m := m.setObj O.DV_LOAD_RT (rnd load).toNat
  let m := m.setObj O.DV_LOAD_RT_PM (nearest ((m.obj O.DV_LOAD_RT : Rat) / 4000000)).toNat
  let m := m.setObj O.DV_SLOT_FILL (if map.isEmpty then 0 else (nearest ((w.1 * 1000 : Rat) / w.2)).toNat)
  let m := m.setObj O.DV_TOKENS_RT (slots.foldl (fun t s => max t (tokensIn map s)) 0)
  let m := m.setObj O.DV_PACE_HOLD (if map.isEmpty then 0xFFFF else 400 * w.2 / w.1)
  let m := forEach axes (fun a m => m.setObj (instAddr a O.AX_PHASE)
    (match map.find? (fun c => c.owner == a && c.kind == 1) with
     | some c => if c.exact then c.phase % 1200 else 0xFFFF
     | none => 0xFFFF)) m
  m.setBudget

/-! ### Changes (R49, R96, R347) -/

/-- The members of an instance that an enable brings into the ledger: every member not already there; axes of a share
hoop with their current chain only (R347). -/
def Main.enterLedger (m : Main) : Nat → Nat → Bool → Main
  | 0, i, _ => m.modC i (fun c => if c.chains = 0 then { c with chains := 2 } else c)
  | d + 1, i, share =>
    let m := m.modC i (fun c => if c.chains = 0 then { c with chains := if i < 64 ∧ share then 1 else 2 } else c)
    if i < 64 then m else
      let sh := m.io i O.HP_KIND == 2
      (m.i i).members.foldl (fun m k => Main.enterLedger m d k sh) m

/-- The new set-points start from the actual values (R190, R218). -/
def Main.fromActual (m : Main) (i : Nat) : Main :=
  (m.modM i (fun x => { x with
    posSp := (m.actualPos i : Rat), velSp := if m.mode i = 2 then 0 else velQ (m.objW (instAddr i O.ACTUAL_VEL)),
    accSp := 0, plan := none, torque := 0, vHold := false, left := none, posT := m.now, held := some (m.actualPos i : Rat) })).errMode i

/-- The level fields of CONTROL (R96): ENABLE, RELATIVE, MODE and OP_KIND. -/
structure Levels where
  en   : Bool := false
  rel  : Bool := false
  mode : Nat := 0
  kind : Nat := 0
  deriving DecidableEq, Repr

/-- The level fields of a CONTROL value. -/
def levelsOf (v : Nat) : Levels :=
  { en := v.testBit 0, rel := v.testBit 5, mode := v / 256 % 16, kind := v / 65536 % 16 }

/-- A CONTROL value of level fields and command bits. -/
def Levels.word (l : Levels) (cmds : Nat) : Nat :=
  b2n l.en + 32 * b2n l.rel + 256 * l.mode + 65536 * l.kind + cmds

/-- A CONTROL write's level fields take their values (R96); command bits read 0. -/
def Main.setControl (m : Main) (i value : Nat) : Main :=
  m.setObj (instAddr i O.CONTROL) ((levelsOf value).word 0)

/-- The output correction of an entry (R392): of its channel for ACT 1 to 3, else 0. -/
def Main.outCorr (m : Main) (ws : List Word) : Nat :=
  let act := fld (ws.getD 0 0) 31 28
  let c := fld (ws.getD 6 0) 15 0
  if 1 ≤ act ∧ act ≤ 3 ∧ 16 ≤ c ∧ c < 32 then m.obj (evAddr 0 (O.EV_OUT_CORR + (c - 16))) else 0

/-- An EXT72 in two words of an entry. -/
def ext2 (ws : List Word) (k : Nat) : Nat := (ws.getD k 0).toNat * 2 ^ 36 + (ws.getD (k + 1) 0).toNat

/-- An entry is overdue (R398): counted, and awaiting execution at the next boundary, or discarded where LATE is 1. -/
def Main.overdue (m : Main) (e : Nat) : Main :=
  let m := m.inc (evAddr 0 O.EV_LATE_COUNT)
  m.modAct e (fun a =>
    if (a.words.getD 0 0).getLsbD 27 then { a with st := 6, result := 0x81, charged := false, fire := none }
    else { a with overdue := true, overT := m.now, fire := none })

/-- An entry is armed (R389, R392, R398): ARMED with its status word; a time entry holds its fire time. -/
def Main.armEntry (m : Main) (e : Nat) (ws : List Word) : Main :=
  let w0 := ws.getD 0 0
  let trig := fld w0 35 32
  let fire := ext2 ws 2 - m.outCorr ws
  let m := m.modAct e (fun _ => {
    words := ws, st := 1, tag := fld w0 15 0, charged := trig != 0 || fld w0 31 28 == 5, d0 := 2
    fire := if trig = 0 then some fire else none
    word1 := if trig = 0 then BitVec.ofNat 36 fire else 0 })
  if trig = 0 ∧ fire ≤ m.now then m.overdue e else m

/-- The isolated members of a hoop that ENABLE written 1 in RUN brings back (R349): those in READY. -/
def Main.toRejoin (m : Main) (h : Nat) : List Nat :=
  (m.i h).members.filter (fun k => (m.i k).isolated && (m.i k).core.st == 1)

/-- R349: ENABLE is set on every isolated member that is READY. -/
def Main.rejoin (m : Main) (h : Nat) : Main :=
  (m.toRejoin h).foldl (fun m k =>
    ((m.setEnable k true).enterLedger 64 k (m.io h O.HP_KIND == 2)).modI k (fun x => { x with
      isolated := false, core := { x.core with cmd := 2 } })) m

/-- ENABLE as written (R189): the change awaits the next boundary; in DISABLING it is ENABLE_PENDING (R196, R197). -/
def Main.enableWrite (m : Main) (i : Nat) (en : Bool) : Main :=
  m.modC i (fun c =>
    if c.st = sDisabling then { c with enPending := en }
    else if 2 ≤ c.st ∧ c.st ≤ 4 then { c with cmd := if en then 0 else 1 }
    else c)

/-- What membership changes in the chains (R340): the hoop's members, the member's parent and its MODE. A member that
leaves MODE 2 starts its set-point at its actual position. -/
def Main.joinCore (m : Main) (h k : Nat) : Main :=
  let was := m.mode k
  let m := m.modI h (fun x => { x with members := x.members ++ [k] })
  let m := (m.setMode k (if m.io h O.HP_KIND = 1 then 3 else 2)).modI k (fun x => { x with parent := some h, isolated := false })
  if was = 2 ∧ m.mode k ≠ 2 then m.fromActual k else m.errMode k

/-- The configuration with a change applied; at the commit this is its effect. -/
def Main.applyChange (m : Main) : Change → Main
  | .objWrite a v => m.setObj a v
  | .control i v =>
    let was := m.enable i
    let md := m.mode i
    let m := (m.setControl i v).enableWrite i (v.testBit 0)
    let m := if md ≠ m.mode i then m.fromActual i else m
    if 64 ≤ i ∧ (m.i i).core.st = 3 then (if v.testBit 0 then m.rejoin i else m)
    else if !was && v.testBit 0 then (m.enterLedger 64 i false).modC i (fun c => { c with cmd := 2 })
    else m
  | .opStart i kind v =>
    if (m.lop i).busy then m
    else (((m.setControl i v).modC i (fun c => { c with chains := 1 })).modL i (fun l => { l with xd := 0, xq := 0 })).startOp i kind 0
  | .link i => m.modLink i (fun l => { l with st := if m.io i O.ENG_MODE = 0 then 2 else 1, cmd := 1 })
  | .join h k => m.joinCore h k
  | .action e ws => m.armEntry e ws
  | .rule _ e ws => m.armEntry e ws

/-- The instance a change is made to, for ADMIT_REFUSED (R53, R54). -/
def Change.instance? : Change → Option Nat
  | .objWrite a _ => if areaOf a = 3 then some (instOf a) else if areaOf a = 4 then some (64 + instOf a) else none
  | .control i _ => some i
  | .opStart i _ _ => some i
  | .link i => some i
  | .join h _ => some h
  | .action _ _ => none
  | .rule _ _ _ => none

/-- The place of a request among those before the ledger: in order of arrival, two of one instant by session number
(R19, R42, R52). -/
def LReq.place (r : LReq) : List LReq → List LReq
  | [] => [r]
  | x :: l => if x.at_ = r.at_ ∧ r.sess < x.sess then r :: x :: l else x :: r.place l

/-- A request is placed before the ledger (R52). -/
def Main.askLedger (m : Main) (r : LReq) : Main :=
  { m with fab := { m.fab with reqs := { r with at_ := m.now }.place m.fab.reqs } }

/-! ### The brim (R47, R48) -/

/-- A change is a write of DV_BRIM. -/
def Change.isBrim : Change → Bool
  | .objWrite a _ => a == O.DV_BRIM
  | _ => false

/-- The brim as the admitted changes leave it: a raise that awaits the commit counts. -/
def Main.brimNow (m : Main) : Nat :=
  m.fab.commits.foldl (fun b c => match c.change with | .objWrite a v => if a = O.DV_BRIM then v else b | _ => b) (m.obj O.DV_BRIM)

/-- R48: a write that lowers the brim, always admitted: a raise that awaits the commit gives way to it. -/
def Main.lowerBrim (m : Main) (v : Nat) : Main :=
  let m := { m with fab := { m.fab with commits := m.fab.commits.filter (fun c => !c.change.isBrim) } }
  if m.obj O.DV_BRIM < v then
    { m with fab := { m.fab with commits := m.fab.commits ++ [{ change := .objWrite O.DV_BRIM v }], staged := some (m.fab.staged.getD m.fab.map) } }
  else m.setObj O.DV_BRIM v

/-- R53, R72: the objects of a refusal. -/
def Main.noteRefusal (m : Main) (r : LReq) (f : Refuse) : Main :=
  let m := m.setObj O.DV_ADMIT_CODE f.code
  let m := m.setObj O.DV_ADMIT_OBJ (r.sess % 16 * 2 ^ 24 + r.addr % 2 ^ 24)
  let m := m.setObj O.DV_ADMIT_NEED f.need
  let m := m.setObj O.DV_ADMIT_WHERE (f.slot * 65536 + f.ns)
  let m := m.inc O.DV_ADMIT_COUNT
  match r.change.instance? with
  | some i => m.setAdmitRef i true
  | none => m

/-- The refusal of a latch unit's rule (R403). -/
def Main.ruleFail (m : Main) (u : Nat) : Main :=
  (m.orObj (evAddr u O.EV_LT_FLAGS) 0x10).inc (evAddr 0 O.EV_RULE_FAIL_COUNT)

/-- The chain's work is in the token table or in a cell. -/
def Main.working (m : Main) (c : Chain) : Bool :=
  let mine := fun t : Tok => t.inst == c.owner && (match t.task with
    | .speed => c.kind == 0 | .current => c.kind == 0 | .refine => c.kind == 3 | .emulation => c.kind == 4
    | _ => c.kind == 1 || c.kind == 2)
  m.fab.waiting.any mine || m.fab.cells.any (fun p => mine p.2)

/-- LOAD_REMOVAL (R51): chains that the configuration no longer calls for leave the map once their last token has
completed; a chain that now costs less keeps its phase at its lower cost. -/
def Main.loadRemoval (m : Main) : Main :=
  let want := m.chainsOf
  let map := m.fab.map.filterMap (fun x => match want.find? (fun c => x.same c) with
    | some c => some (if c.cost ≤ x.cost then { c with phase := x.phase } else x)
    | none => if m.working x then some x else none)
  if map = m.fab.map then m else m.mapChanged map

end Sys2Proof.Machine
end

