-- ==== Sys2Proof/Machine/Blends.lean ====
section
/-! DEFINITION. Blends, ramps and move plans (R305-R311), the virtual masters' positions (R364-R368, R381), cam
interpolation (R361, R362) and the output of a link (R354): the functions of time and position that the loops, hoops,
actions, latches and encoder emulation evaluate. -/

namespace Sys2Proof.Machine

/-- A position, velocity and acceleration (increments, increments/s, increments/s²). -/
structure PVA where
  p : Rat := 0
  v : Rat := 0
  a : Rat := 0
  deriving DecidableEq, Repr

/-! ### Blends (R305, R306) -/

/-- The peak factor k of a shape (R305). -/
def shapeK (shape : Nat) : Rat := if shape = 1 then 2 else if shape = 2 then 15 / 8 else 1

/-- R305: the blend at `t` seconds; before it the start, after it the velocity reached. -/
def Blend.eval (b : Blend) (t : Rat) : PVA :=
  let tau := t - b.t0
  let dv := b.v1 - b.v0
  if tau < 0 then { p := b.p0 + b.v0 * tau, v := b.v0, a := 0 }
  else if b.dur ≤ tau then
    { p := b.p0 + b.dur * (b.v0 + b.v1) / 2 + b.v1 * (tau - b.dur), v := b.v1, a := 0 }
  else
    let s := tau / b.dur
    let w := invTwoPi
    if b.shape = 1 then
      { v := b.v0 + dv * (s - sinT s * w)
        a := dv / b.dur * (1 - cosT s)
        p := b.p0 + b.v0 * b.dur * s + dv * b.dur * (s * s / 2 + (cosT s - 1) * w * w) }
    else if b.shape = 2 then
      { v := b.v0 + dv * (10 * s ^ 3 - 15 * s ^ 4 + 6 * s ^ 5)
        a := dv / b.dur * (30 * s ^ 2 * (1 - s) ^ 2)
        p := b.p0 + b.v0 * b.dur * s + dv * b.dur * (5 / 2 * s ^ 4 - 3 * s ^ 5 + s ^ 6) }
    else
      { v := b.v0 + dv * s
        a := dv / b.dur
        p := b.p0 + b.v0 * b.dur * s + dv * b.dur * s * s / 2 }

/-- The end of a blend. -/
def Blend.tEnd (b : Blend) : Rat := b.t0 + b.dur

/-- R306: the blend's duration for an acceleration limit. -/
def blendDur (shape : Nat) (dv acc : Rat) : Rat := shapeK shape * absQ dv / acc

/-- The blend of a list that is in force at `t`: the last that has begun. -/
def blendAt : List Blend → Rat → Option Blend
  | [], _ => none
  | b :: r, t => match blendAt r t with
    | some c => some c
    | none => if b.t0 ≤ t then some b else none

/-- A plan's set-points at `t`. -/
def Plan.eval (p : Plan) (t : Rat) : PVA :=
  match blendAt p.blends t with
  | some b => b.eval t
  | none => match p.blends with
    | b :: _ => { p := b.p0, v := b.v0 }
    | [] => { p := p.move.target }

/-! ### Ramps (R198, R306) -/

/-- A ramp to zero at constant deceleration. -/
def Ramp.eval (r : Ramp) (t : Rat) : PVA :=
  let tau := maxQ 0 (t - r.t0)
  let sg : Rat := signQ r.v0
  let ts := absQ r.v0 / r.dec
  if ts ≤ tau then { p := r.p0 + r.v0 * ts / 2, v := 0, a := 0 }
  else { p := r.p0 + r.v0 * tau - sg * r.dec * tau * tau / 2, v := r.v0 - sg * r.dec * tau, a := -(sg * r.dec) }

/-! ### Plans (R307) -/

/-- R307: the plan of a move from position `p0` (moving at `vIn` along the direction) at `t0`. Speeds are magnitudes
along the direction of the move. -/
def planMove (t0 p0 : Rat) (mv : Move) : Plan :=
  let d := absQ (mv.target - p0)
  let sg : Rat := if mv.target < p0 then -1 else 1
  let k := shapeK mv.shape
  let acc := maxQ mv.acc (1 / 16)
  let dec := maxQ mv.dec (1 / 16)
  let vMax := absQ mv.vel
  let vin := mv.vIn
  -- the largest peak speed squared whose blends fit into the distance
  let p2 := (2 * d / k + vin * vin / acc + mv.vOut * mv.vOut / dec) / (1 / acc + 1 / dec)
  let vp := if vMax < vin then vMax else if vMax * vMax ≤ p2 then vMax else sqrtQ p2
  let vout := minQ mv.vOut vp
  let first : Blend :=
    if vMax < vin then { t0 := t0, dur := blendDur mv.shape (vin - vp) dec, v0 := sg * vin, v1 := sg * vp, p0 := p0, shape := mv.shape }
    else if vin < vp then { t0 := t0, dur := blendDur mv.shape (vp - vin) acc, v0 := sg * vin, v1 := sg * vp, p0 := p0, shape := mv.shape }
    else { t0 := t0, dur := 0, v0 := sg * vin, v1 := sg * maxQ vin vp, p0 := p0, shape := mv.shape }
  let vc := absQ first.v1
  let d1 := first.dur * (vin + vc) / 2
  let dF := k * (vc * vc - vout * vout) / (2 * dec)
  let cruise := maxQ 0 (d - d1 - dF)
  let tF := first.tEnd + (if vc = 0 then 0 else cruise / vc)
  let last : Blend := { t0 := tF, dur := blendDur mv.shape (vc - vout) dec, v0 := sg * vc, v1 := sg * vout,
                        p0 := p0 + sg * (d1 + cruise), shape := mv.shape }
  { move := { mv with vOut := vout }, blends := [first, last], tFinal := tF, tEnd := last.tEnd }

/-- R306, R309: the plan of a MODE 1 velocity change; a change of direction is two blends in succession. -/
def planVel (t0 p0 v0 : Rat) (mv : Move) : Plan :=
  let v1 := mv.vel
  let acc := maxQ mv.acc (1 / 16)
  let dec := maxQ mv.dec (1 / 16)
  let blends : List Blend :=
    if signQ v0 * signQ v1 < 0 then
      let a : Blend := { t0 := t0, dur := blendDur mv.shape v0 dec, v0 := v0, v1 := 0, p0 := p0, shape := mv.shape }
      let b : Blend := { t0 := a.tEnd, dur := blendDur mv.shape v1 acc, v0 := 0, v1 := v1,
                         p0 := p0 + a.dur * v0 / 2, shape := mv.shape }
      [a, b]
    else
      [{ t0 := t0, dur := blendDur mv.shape (v1 - v0) (if absQ v0 < absQ v1 then acc else dec), v0 := v0, v1 := v1,
         p0 := p0, shape := mv.shape }]
  { move := mv, blends := blends, tEnd := (blends.getLast?.map Blend.tEnd).getD t0, tFinal := t0, isVel := true }

/-- The direction of a move from a position. -/
def moveNeg (target start : Rat) : Bool := decide (target < start)

/-! ### Virtual masters (R364-R368) -/

/-- The blend of a segment (R365). -/
def Segment.blend (g : Segment) : Blend :=
  let v0 : Rat := (g.v0 : Rat) / 256
  let v1 : Rat := (g.v1 : Rat) / 256
  { t0 := secs g.tStart, dur := if g.acc = 0 then 0 else blendDur g.shape (v1 - v0) ((g.acc : Rat) / 16), v0 := v0, v1 := v1,
    p0 := (g.p0 : Rat), shape := g.shape }

/-- A master's position has 32 further fraction bits (R364). -/
def PVA.fine (x : PVA) : PVA := { x with p := (rnd (x.p * 4294967296) : Rat) / 4294967296 }

/-- The segment alone at an instant. -/
def Segment.eval (g : Segment) (t : Nat) : PVA := (g.blend.eval (secs t)).fine

/-- R367: the master on a segment, with the merge of its handover. -/
def Segment.merged (g : Segment) (t : Nat) : PVA :=
  let e := g.eval t
  if g.delta = 0 ∨ g.mergeT = 0 ∨ t < g.tHand ∨ g.tHand + g.mergeT ≤ t then e
  else
    let f : Rat := 1 - ((t - g.tHand : Nat) : Rat) / g.mergeT
    ({ e with p := e.p + g.delta * f, v := e.v - g.delta * 4000000000 / g.mergeT } : PVA).fine

/-- A difference of positions taken under R165: reduced modulo 2^36 into -2^35 .. 2^35. -/
def wrapDiff (q : Rat) : Rat :=
  let n : Int := (q / 68719476736 + 1 / 2).floor
  q - (n : Rat) * 68719476736

/-- A difference taken modulo `md` into (-md/2, md/2] (R332, R393). -/
def modDiff (q : Rat) (md : Nat) : Rat :=
  let k : Int := -((-(q / md) + 1 / 2).floor)
  q - (k : Rat) * md

/-- R367: `q` as it takes over from `g` at its T_START, with the merge of the handover over `mergeT`. -/
def Segment.after (g q : Segment) (mergeT : Nat) : Segment :=
  { q with delta := wrapDiff ((g.merged q.tStart).p - (q.eval q.tStart).p), tHand := q.tStart, mergeT := mergeT }

/-- CM_VM_MERGE_T in time units. -/
def Main.mergeTime (m : Main) (v : Nat) : Nat := m.obj (cmAddr v O.CM_VM_MERGE_T) * unitsPerMs

/-- The segment that is in force at `t`, of one in force and those queued after it, each taking over at its T_START. -/
def segAt (mergeT : Nat) (g : Segment) : List Segment → Nat → Segment
  | [], _ => g
  | q :: r, t => if q.tStart ≤ t then segAt mergeT (g.after q mergeT) r t else g

/-- A virtual master on the segment `g`, with `l` queued, at an instant. -/
def Main.vmOn (m : Main) (v : Nat) (g : Segment) (l : List Segment) (t : Nat) : PVA := (segAt (m.mergeTime v) g l t).merged t

/-- R346, R364, R368: a virtual master at an instant; not defined in EMPTY and WAIT. -/
def Main.vmAt (m : Main) (v t : Nat) : Option PVA :=
  let x := m.vmst v
  match x.st, x.force with
  | 2, some g => some (m.vmOn v g x.queue t)
  | 3, some g => some (m.vmOn v g x.queue t)
  | 4, _ => some (({ t0 := secs x.outT, v0 := x.outV, p0 := x.outP,
                     dec := maxQ (1 / 16) (accQ (m.objW (cmAddr v O.CM_VM_STOP_DEC))) } : Ramp).eval (secs t)).fine
  | _, _ => none

/-- R381: a virtual master as it stood at a past instant, from the segments kept with their handovers; none before the
oldest handover kept. -/
def Main.vmPast (m : Main) (v t : Nat) : Option PVA :=
  let x := m.vmst v
  let old := (x.hist.filter (fun g => decide (g.tHand ≤ t))).getLast?.map (fun g => g.merged t)
  if x.st = 4 ∧ x.outT ≤ t then m.vmAt v t
  else match x.force, x.queue with
    | some g, l => if g.tHand ≤ t then some (m.vmOn v g l t) else old
    | none, q :: l => if q.tStart ≤ t then some (m.vmOn v q l t) else old
    | none, [] => old

/-- A master is defined (R353). -/
def Main.vmDefined (m : Main) (v : Nat) : Bool := 2 ≤ (m.vmst v).st

/-! ### Cam tables (R361, R362) -/

/-- A word of cam memory: the content is undefined until written (log 86); the model reads 0 there. -/
def Main.camW (m : Main) (a : Nat) : Word := mget 0 m.cam a

/-- A cam table's header. -/
structure CamHead where
  interp : Nat
  cyclic : Bool
  n      : Nat
  len    : Nat
  lift   : Int
  deriving DecidableEq, Repr

/-- The header of the image at `base` (R361). -/
def Main.camHead (m : Main) (base : Nat) : CamHead :=
  let w := m.camW base
  { interp := fld w 27 24, cyclic := w.getLsbD 23, n := fld w 19 0, len := (m.camW (base + 1)).toNat,
    lift := sgn (m.camW (base + 2)) }

/-- The words of an image (R361). -/
def CamHead.words (h : CamHead) : Nat := if h.interp = 1 then 4 + 2 * h.n else 4 + h.n

/-- The spacing h of the points (R362). -/
def CamHead.step (h : CamHead) : Rat := if h.cyclic then (h.len : Rat) / h.n else (h.len : Rat) / (h.n - 1 : Nat)

/-- Point j of a table; the neighbours of a cyclic table wrap with LIFT, those of a one-shot table stop at its ends. -/
def Main.camPoint (m : Main) (base : Nat) (h : CamHead) (j : Int) : Rat :=
  let n : Int := h.n
  let stride : Nat := if h.interp = 1 then 2 else 1
  if h.cyclic then
    let c := j / n
    let k := (j % n).toNat
    posQ (m.camW (base + 4 + stride * k)) + (c : Rat) * h.lift
  else
    let k := (max 0 (min (n - 1) j)).toNat
    posQ (m.camW (base + 4 + stride * k))

/-- The slope at point j, in slave increments per source increment (R362). -/
def Main.camSlope (m : Main) (base : Nat) (h : CamHead) (j : Int) : Rat :=
  let n : Int := h.n
  if h.interp = 1 then
    let k := (if h.cyclic then j % n else max 0 (min (n - 1) j)).toNat
    gainQ (m.camW (base + 5 + 2 * k))
  else if !h.cyclic && (j ≤ 0) then (m.camPoint base h 1 - m.camPoint base h 0) / h.step
  else if !h.cyclic && (n - 1 ≤ j) then (m.camPoint base h (n - 1) - m.camPoint base h (n - 2)) / h.step
  else (m.camPoint base h (j + 1) - m.camPoint base h (j - 1)) / (2 * h.step)

/-- R362: y(u), its slope and its curvature. -/
def Main.camEval (m : Main) (base : Nat) (u : Rat) : PVA :=
  let h := m.camHead base
  let st := h.step
  let j : Int := if h.cyclic then (u / st).floor else min ((u / st).floor) ((h.n : Int) - 2)
  let s := u / st - (j : Rat)
  let y0 := m.camPoint base h j
  let y1 := m.camPoint base h (j + 1)
  if h.interp = 0 then { p := y0 + s * (y1 - y0), v := (y1 - y0) / st, a := 0 }
  else
    let m0 := st * m.camSlope base h j
    let m1 := st * m.camSlope base h (j + 1)
    { p := (2 * s ^ 3 - 3 * s ^ 2 + 1) * y0 + (s ^ 3 - 2 * s ^ 2 + s) * m0 + (3 * s ^ 2 - 2 * s ^ 3) * y1 + (s ^ 3 - s ^ 2) * m1
      v := ((6 * s ^ 2 - 6 * s) * y0 + (3 * s ^ 2 - 4 * s + 1) * m0 + (6 * s - 6 * s ^ 2) * y1 + (3 * s ^ 2 - 2 * s) * m1) / st
      a := ((12 * s - 6) * y0 + (6 * s - 4) * m0 + (6 - 12 * s) * y1 + (6 * s - 2) * m1) / (st * st) }

/-! ### Sources and links (R346, R353, R354) -/

/-- The source of an instance: its parent, HP_SRC of a hoop without one, none for an axis without one. -/
def Main.sourceOf (m : Main) (i : Nat) : Src :=
  match (m.i i).parent with
  | some p => .inst p
  | none => if i < 64 then .none else srcOf (m.io i O.HP_SRC)

/-- R346: an axis or hoop as a source at an instant, extrapolated from its latest completed release: in MODE 2 from the
values its latest velocity-loop release left, of an axis that runs its current chain alone from that chain's (DEDUCED,
log 131). -/
def Main.instAt (m : Main) (i t : Nat) : PVA :=
  let mo := (m.i i).motion
  let ofs : Rat := (m.ioI i O.POS_OFFSET : Rat)
  let dt := secs t - secs mo.posT
  if m.mode i = 2 then
    let v := velQ (m.objW (instAddr i O.ACTUAL_VEL))
    let p : Rat := (m.ioI i O.POS_CONT : Rat)
    let b : Rat × Rat × Nat := match (m.i i).core.chains with
      | 0 => (p, v, m.now)
      | 1 => (p, v, (m.i i).loop.relT)
      | _ => mo.left.getD (p, v, m.now)
    { p := b.1 - ofs + b.2.1 * (secs t - secs b.2.2), v := b.2.1, a := 0 }
  else { p := mo.posSp - ofs + mo.velSp * dt + mo.accSp * dt * dt / 2, v := mo.velSp + mo.accSp * dt, a := mo.accSp }

/-- A source at an instant; none where it is not defined (R353). -/
def Main.srcAt (m : Main) (s : Src) (t : Nat) : Option PVA :=
  match s with
  | .inst i => some (m.instAt i t)
  | .master v => m.vmAt v t
  | _ => none

/-- A defined source (R353). -/
def Main.srcDefined (m : Main) (s : Src) : Bool :=
  match s with
  | .inst _ => true
  | .master v => m.vmDefined v
  | _ => false

/-- R354: the output of a link for x, and its derivatives from the source's velocity and acceleration; `cyc` are the
cycles counted and `base` the image of the cam version in use. -/
def Main.linkOut (m : Main) (i : Nat) (base : Option Nat) (cyc : Int) (x : PVA) : PVA :=
  let g : Rat := (m.ioI i O.LINK_NUM : Rat) / (m.io i O.LINK_DEN : Rat)
  match base with
  | none => { p := g * x.p, v := g * x.v, a := g * x.a }
  | some b =>
    let h := m.camHead b
    if h.cyclic then
      let y := m.camEval b (x.p - (cyc : Rat) * h.len)
      { p := g * (y.p + (cyc : Rat) * h.lift), v := g * y.v * x.v, a := g * (y.a * x.v * x.v + y.v * x.a) }
    else
      let u := clampQ x.p 0 h.len
      let y := m.camEval b u
      if u = x.p then { p := g * y.p, v := g * y.v * x.v, a := g * (y.a * x.v * x.v + y.v * x.a) }
      else { p := g * y.p }

/-- w(σ) of R356. -/
def blendW (s : Rat) : Rat := 10 * s ^ 3 - 15 * s ^ 4 + 6 * s ^ 5

end Sys2Proof.Machine
end

