-- ==== Sys2Proof/Machine/Readout.lean ====
section
/-! DEFINITION. The values of the objects that show state held elsewhere than in the object store: what a read of
such an object returns (the Effect cells of the object tables). Every other object reads its stored value. -/

namespace Sys2Proof.Machine

/-- R235: the loop group delay of an axis, in time units. -/
def Main.groupDelay (m : Main) (a : Nat) : Nat :=
  3 * (m.obj (pwAddr a O.PW_OSR_LOOP) - 1) * m.obj (O.DV_MCLKc_PERIOD + m.obj (pwAddr a O.PW_SD_CLK)) / 2

/-- The axis that names field channel `c` in AX_BRAKE_OUT (R194). -/
def Main.brakeAxis (m : Main) (c : Nat) : Option Nat :=
  if c < 16 then none else axes.find? (fun a => m.io a O.AX_BRAKE_OUT == c)

/-- R437: the channel is an output. -/
def Main.isOut (m : Main) (c : Nat) : Bool :=
  16 ≤ c && c < 32 && (m.obj (ioAddr c O.IO_DIR) == 1 || (m.brakeAxis c).isSome)

/-- The position set-point as shown: modulo 2^36, or modulo M on a modulo axis (R308, R332). -/
def Main.posSpWord (m : Main) (i : Nat) : Word :=
  let p := rnd (m.i i).motion.posSp
  let md := m.io i O.MODULO
  if md = 0 then wordOf p else wordOf (p % md)

/-- An entry's state counts as armed (EV_ARMED). -/
def Action.live (a : Action) : Bool := a.st == 1 || a.st == 2 || a.st == 3

/-- R408: AQ_CH_AUTO of channel `c` of unit `u`. -/
def Main.aqAuto (m : Main) (u c : Nat) : Nat :=
  let src := m.obj (aqAddr u (O.AQ_CH_SRC + 16 * c))
  let a := src % 2 ^ 24
  let ax := instOf a
  let both := m.groupDelay ax + m.obj (pwAddr ax O.PW_SD_AGE)
  if src / 2 ^ 32 ≠ 1 then 0
  else if areaOf a = 6 ∧ (numOf a = O.PW_I_U ∨ numOf a = O.PW_I_V) then both
  else if areaOf a = 3 ∧ numOf a = O.ACTUAL_IQ then both
  else 0

/-- The links that use the current version of cam table `t` (CM_TAB_USERS). -/
def Main.tabUsers (m : Main) (t : Nat) : Nat :=
  let e := m.tab t
  (m.inst.filter (fun p => match p.2.link.table with
    | some (k, b, _) => k == t && b == e.base && e.ver != 0
    | none => false)).length

/-- The links that use the retained version of cam table `t`. -/
def Main.tabRetUsers (m : Main) (t : Nat) : Nat :=
  match (m.tab t).retained with
  | none => 0
  | some (base, _) => (m.inst.filter (fun p => match p.2.link.table with
      | some (k, b, _) => k == t && b == base
      | none => false)).length

/-- An object of an axis or hoop `i` that is not stored. -/
def Main.readInst (m : Main) (i num : Nat) : Option Nat :=
  let x := m.i i
  if num = O.STATUS then some (m.status i)
  else if num = O.OP_STATUS then some (m.lop i).status
  else if num = O.OP_RESULT_LEN then some (m.lop i).words.length
  else if num = O.WARN_CAUSE then some (m.warnCause i)
  else if num = O.LIM_STATUS then some (m.limStatus i)
  else if num = O.POS_SP then some (m.posSpWord i).toNat
  else if num = O.VEL_SP then some (velWord x.motion.velSp).toNat
  else if num = O.MQ_COUNT then some x.motion.queue.length
  else if num = O.PARENT then some (match x.parent with | some p => codeOf p | none => 0xFFFF)
  else if num = O.LINK_STATE then some x.link.st
  else if num = O.CYCLE then some (wordOf x.link.cycles).toNat
  else if 64 ≤ i ∧ num = O.HP_COUNT then some x.members.length
  else none

/-- An object of feedback port `p` that is not stored. -/
def Main.readPort (m : Main) (p num : Nat) : Option Nat :=
  let q := m.pt p
  if num = O.FB_STATUS then some (m.fbStatus p)
  else if num = O.FB_EDGE_TIME then some (q.edgeT % 2 ^ 36)
  else if num = O.FB_LINES then some (match m.fbbOut p with | some v => putBit q.lines.toNat 1 v | none => q.lines.toNat)
  else if num = O.FB_HALL_SECTOR then some (match q.sector with | some s => if q.hallInv then 0xFF else s | none => 0xFF)
  else if num = O.FB_ERR_LEVEL then some q.level
  else none

/-- An object of a lane that is not stored. -/
def Main.readLane (m : Main) (a num : Nat) : Option Nat :=
  let l := m.ln a
  if num = O.PW_FLAGS then some (m.obj (pwAddr a O.PW_FLAGS) % 8 + 8 * b2n l.shPend.isSome)
  else if num = O.PW_DUTY_U then some l.duty.u.toNat
  else if num = O.PW_DUTY_V then some l.duty.v.toNat
  else if num = O.PW_DUTY_W then some l.duty.w.toNat
  else if num = O.PW_GROUP_DELAY then some (m.groupDelay a)
  else if num = O.PW_COMM_VALID then some (b2n (m.commValid a))
  else none

/-- An EV_ object that is not stored. -/
def Main.readEv (m : Main) (u num : Nat) : Option Nat :=
  if u = 0 ∧ num = O.EV_ARMED then some (m.ev.entries.filter (fun p => p.2.live)).length
  else if u = 0 ∧ num = O.EV_CROSSING then some m.crossings.length
  else if num = O.EV_LT_FLAGS then some (m.obj (evAddr u num) % 128 + 128 * b2n (m.lt u).armed.isSome)
  else none

/-- An IO_ object that is not stored. -/
def Main.readIo (m : Main) (c num : Nat) : Option Nat :=
  if num = O.IO_IN then some (b2n (m.fc c).level)
  else if num = O.IO_DIAG then some (m.ioDiag c)
  else if num = O.IO_DIR then some (b2n (m.isOut c))
  else if c = 0 ∧ num = O.IO_LINK then some m.field.link
  else if c = 0 ∧ num = O.IO_FIELD_UV then some (b2n m.field.uv)
  else if c = 0 ∧ num = O.IO_VFIELD then some (Config.fieldMillivolts m.now % 65536)
  else if c = 0 ∧ num = O.IO_TEMP then some (wordOf (Config.dieTemperature m.now)).toNat
  else none

/-- An AQ_ object that is not stored. -/
def Main.readAq (m : Main) (u num : Nat) : Option Nat :=
  if num = O.AQ_STATE then some (m.aqu u).st
  else if num = O.OP_STATUS then some (m.lop (opAQ u)).status
  else if num = O.OP_RESULT_LEN then some (m.lop (opAQ u)).words.length
  else if O.AQ_CH_AUTO ≤ num ∧ num < O.AQ_CH_AUTO + 128 ∧ num % 16 = O.AQ_CH_AUTO % 16 then
    some (m.aqAuto u ((num - O.AQ_CH_AUTO) / 16))
  else none

/-- A CM_ object that is not stored. -/
def Main.readCm (m : Main) (t num : Nat) : Option Nat :=
  if t = 0 ∧ num = O.OP_STATUS then some (m.lop opCM).status
  else if t = 0 ∧ num = O.OP_RESULT_LEN then some (m.lop opCM).words.length
  else if num = O.CM_TAB_VER then some ((m.tab t).ver % 65536)
  else if num = O.CM_TAB_WORDS then some (m.tab t).words
  else if num = O.CM_TAB_USERS then some (m.tabUsers t)
  else if num = O.CM_TAB_RETAINED then some (b2n (m.tab t).retained.isSome)
  else if num = O.CM_VM_STATE then some (m.vmst t).st
  else if num = O.CM_VM_QUEUED then some (m.vmst t).queue.length
  else none

/-! ### Network, sessions, reset and configuration -/

/-- A line port forwards, or SV is up: declared up and not held down for speed (R107, R148). -/
def Main.portUp (m : Main) (p : Nat) : Bool := (m.pl p).up && !(m.pl p).held

/-- The corrections of R169 for the speed of a port's link; 0 while it has none (DEDUCED, log 25). -/
def Main.rxCorr (m : Main) (p : Nat) : Nat := match (m.pl p).phy with | 1 => 1728 | 2 => 784 | _ => 0
def Main.txCorr (m : Main) (p : Nat) : Nat := match (m.pl p).phy with | 1 => 992 | 2 => 288 | _ => 0

/-- An NT_ object that is not stored. -/
def Main.readNt (m : Main) (p num : Nat) : Option Nat :=
  if num = O.NT_LINK then some (if (m.pl p).held then 3 else if (m.pl p).up then (m.pl p).phy else 0)
  else if num = O.NT_TURNING then some (b2n (p < 2 && !m.sup.bypass && !m.portUp p))
  else if num = O.NT_RX_CORR then some (m.rxCorr p)
  else if num = O.NT_TX_CORR then some (m.txCorr p)
  else if p ≠ 0 then none
  else if num = O.NT_TIME then some m.timeW.toNat
  else if num = O.NT_TIME_EXT then some (m.now % 2 ^ 72)
  else if num = O.NT_INC then some m.tb.inc.toNat
  else if num = O.NT_REF_IN_USE then some m.tb.refUsed
  else if num = O.NT_ADDR_MODE then some (b2n m.sup.straps.addrMode)
  else if num = O.NT_ETYPE then some (if m.sup.straps.etypeAlt then 0x88B6 else 0x88B5)
  else if num = O.NT_SPEED_SEL then some m.sup.straps.lineSpeed.val
  else none

/-- An HS_ object that is not stored. -/
def Main.readHs (m : Main) (n num : Nat) : Option Nat :=
  if num = O.HS_STATE then some (b2n (m.se n).isOpen)
  else if num = O.HS_SERVICE then some (b2n (m.se n).service)
  else if num = O.HS_LAST_SEEN then some ((m.se n).last % 2 ^ 36)
  else if num = O.HS_PROT_LOCK then some (b2n m.locked)
  else if num = O.HS_PROT_COUNT then some (m.prot.length / 2)
  else if num = O.HS_SVC_MASK then some m.svcMask
  else none

/-- RS_BOOT_STATE (R511). -/
def BootStep.code : BootStep → Nat
  | .trims => 0 | .firmware => 1 | .config => 2 | .timebase => 3 | .apply => 4 | .run => 5 | .recovery => 6 | .haltTrim => 7

/-- RS_STRAPS (R511). -/
def strapsWord (s : Straps) : Nat :=
  2 * b2n s.bootBank + 4 * s.fbDefault.val + 16 * b2n s.pwmPol + 32 * b2n s.hostPort + 64 * b2n s.addrMode
    + 128 * b2n s.etypeAlt + 256 * b2n s.test

/-- An RS_ object that is not stored. -/
def Main.readRs (m : Main) (num : Nat) : Option Nat :=
  if num = O.RS_CAUSE then some m.sup.cause
  else if num = O.RS_EPISODES then some m.sup.episodes.toNat
  else if num = O.RS_BOOT_STATE then some m.sup.boot.code
  else if num = O.RS_STRAPS then some (strapsWord m.sup.straps)
  else none

/-- A bank of the store. -/
def Main.bank (m : Main) : Bank → BankSt
  | .bankA => m.store.bankA
  | .bankB => m.store.bankB

/-- GEN of a bank's record (R500). -/
def BankSt.gen (b : BankSt) : Nat := (b.record.getD 1 0).toNat

/-- RELEASE of a firmware image (R506). -/
def fwRelease (l : List Byte) : Nat := natOfBytes ((l.drop 2).take 3)

/-- The firmware that runs. -/
def Main.firmware (m : Main) : List Byte := m.sup.fw

/-- A CF_ object that is not stored. -/
def Main.readCf (m : Main) (inst num : Nat) : Option Nat :=
  let k := m.bank (if inst = 0 then .bankA else .bankB)
  if num = O.CF_BANK_INFO then some (b2n k.recGood + 2 * b2n k.fwGood + 4 * b2n k.cfgGood)
  else if num = O.CF_BANK_GEN then some (if k.recGood then k.gen else 0)
  else if inst ≠ 0 then none
  else if num = O.CF_BANK then some (match m.sup.fwBank with | some .bankB => 1 | _ => 0)
  else if num = O.CF_GEN then some m.sup.gen
  else if num = O.CF_FW_RELEASE then some (fwRelease m.firmware)
  else if num = O.CF_FW_SECVER then some m.sup.secVer
  else if num = O.OP_STATUS then some (m.lop opCF).status
  else if num = O.OP_RESULT_LEN then some (m.lop opCF).words.length
  else none

/-! ### Peripheral masters and GPIO (R527-R530) -/

/-- An object of peripheral master `n`. -/
def psAddr (n num : Nat) : Nat := num + 32 * n

/-- R527: bytes as they go over the wire, each written with its first bit as the most significant. -/
def wireBytes (lsbFirst : Bool) (l : List Byte) : List Byte := if lsbFirst then l.map BitVec.reverse else l

/-- R527: the clock period of a master, 100 MHz / PSn_DIV, in time units. -/
def Main.psPeriod (m : Main) (n : Nat) : Nat := 40 * m.obj (psAddr n O.PSn_DIV)

/-- The lines that the peripheral masters name as select. -/
def Main.selLines (m : Main) : Nat :=
  [0, 1].foldl (fun t n => let g := m.obj (psAddr n O.PSn_SEL); if g < 16 then t ||| 2 ^ g else t) 0

/-- DV_GPIO_DIR as it reads: a select line is an output (R530). -/
def Main.gpioDir (m : Main) : Nat := m.obj O.DV_GPIO_DIR ||| m.selLines

/-- The level of a GPIO line (R530): high-impedance until boot has applied the configuration; then its master's select level, its output level, or what stands at the land (log 18). -/
def Main.gpioLevel (m : Main) (g : Nat) : Bool :=
  if !m.locked then Config.gpioIn g m.now else
  match [0, 1].find? (fun n => m.obj (psAddr n O.PSn_SEL) == g) with
  | some n => (m.psm n).busy == (m.obj (psAddr n O.PSn_SEL_POL) == 1)
  | none => if m.gpioDir.testBit g then (m.obj O.DV_GPIO_OUT).testBit g else Config.gpioIn g m.now

/-- A DV_ object that is not stored. -/
def Main.readDv (m : Main) (num : Nat) : Option Nat :=
  if num = O.DV_TRIP_STATE then some m.tripLines
  else if num = O.DV_TOKENS_NOW then some m.tokensNow
  else if num = O.OP_STATUS then some (m.lop opDV).status
  else if num = O.OP_RESULT_LEN then some (m.lop opDV).words.length
  else if 0x510 ≤ num ∧ num < 0x590 ∧ num % 16 = 5 then some (wordOf (m.eeo ((num - 0x510) / 16)).acc.floor).toNat
  else if num = O.PSn_BUSY then some (b2n (m.psm 0).busy)
  else if num = psAddr 1 O.PSn_BUSY then some (b2n (m.psm 1).busy)
  else if num = O.DV_GPIO_DIR then some m.gpioDir
  else if num = O.DV_GPIO_IN then some ((List.range 16).foldl (fun t g => t + 2 ^ g * b2n (m.gpioLevel g)) 0)
  else none

/-- The number of an object of a one-word type as a read returns it. -/
def Main.readWord (m : Main) (a : Nat) : Nat :=
  let n := numOf a
  let i := instOf a
  let own : Option Nat := match areaOf a with
    | 0 => m.readDv n
    | 1 => m.readNt i n
    | 2 => m.readHs i n
    | 3 => m.readInst i n
    | 4 => m.readInst (64 + i) n
    | 5 => m.readPort i n
    | 6 => m.readLane i n
    | 7 => m.readEv i n
    | 8 => m.readIo i n
    | 10 => m.readAq i n
    | 11 => m.readCm i n
    | 12 => m.readRs n
    | 13 => m.readCf i n
    | _ => none
  own.getD (m.obj a)

end Sys2Proof.Machine
end

