-- ==== Sys2Proof/Machine/FieldOut.lean ====
section
/-! DEFINITION. Commands to field outputs (R397, R439-R447), the diagnosis bits and the BRAKE cause (R444), and the
positions of instances (R300, R301, R332). -/

namespace Sys2Proof.Machine

/-! ### Field outputs -/

/-- A command reaches output `c` of the field die. An off command clears SHORT (R442) and OPEN_LOAD (R443), OVERTEMP
where the junction has cooled (log 18), and starts demagnetisation where load current flows (R446, log 18); an on command
during demagnetisation ends it (R447). -/
def Main.cmdOut (m : Main) (c : Nat) (v : Bool) : Main :=
  if m.field.link ≠ 2 then m else
  let f := m.fc c
  let flows := f.cmd && !f.short && !f.hot && Config.freeBool m.fresh
  let cool := Config.freeBool (m.fresh + 1)
  let m := { m with fresh := m.fresh + 2, out := { m.out with field := m.out.field ++ [(c, v)] } }
  let m := m.modFc c (fun f => { f with
    cmd := v
    short := v && f.short
    hot := f.hot && (v || !cool)
    ol := v && f.ol
    demag := !v && (f.demag || flows)
    rbT := m.now
    rbCmd := true })
  m.setObj (ioAddr c O.IO_OUT) (b2n v)

/-- R444: a readback disagreement of channel `c` raises BRAKE on the axis that names it. -/
def Main.raiseBrake (m : Main) (c : Nat) : Main :=
  match m.brakeAxis c with
  | some a => m.raise a cBrake
  | none => m

/-- The brake output of instance `i` is commanded: released (on) or engaged. A hoop has no brake of its own (R189). -/
def Main.setBrake (m : Main) (i : Nat) (released : Bool) : Main :=
  let m := m.modC i (fun c => { c with brake := released })
  let ch := m.io i O.AX_BRAKE_OUT
  if i < 64 ∧ ch < 32 then m.cmdOut ch released else m

/-! ### Positions (R300, R301, R332) -/

/-- A position difference of instance `i`: modulo 2^36, or modulo M into (-M/2, M/2] on a modulo axis. -/
def Main.posDiff (m : Main) (i : Nat) (q : Rat) : Rat :=
  let md := m.io i O.MODULO
  if md = 0 then wrapDiff q else modDiff q md

/-- ACTUAL_POS and POS_CONT take a new raw position (R300, R332). -/
def Main.setActual (m : Main) (i : Nat) (raw : Int) : Main :=
  let new := sgn (wordOf (raw + m.ioI i O.POS_OFFSET))
  let old := m.ioI i O.POS_CONT
  let md := m.io i O.MODULO
  let m := m.setObjI (instAddr i O.POS_CONT) new
  if md = 0 then m.setObjI (instAddr i O.ACTUAL_POS) new
  else m.setObjI (instAddr i O.ACTUAL_POS) ((m.actualPos i + sdiff new old) % md)

/-- The position formed from a feedback count as ACTUAL_POS is formed (R380): on a modulo axis from the difference to
the present count. -/
def Main.formPos (m : Main) (a : Nat) (count : Int) : Int :=
  let md := m.io a O.MODULO
  let c := sgn (wordOf (count + m.ioI a O.POS_OFFSET))
  if md = 0 then c else (m.actualPos a + sdiff c (m.ioI a O.POS_CONT)) % md

/-- The raw position of an instance: the feedback count of an axis, POS_SP less POS_OFFSET of a follow hoop (R342), the
POS_CONT of the member HP_SHARE_FB of a share hoop. -/
def Main.rawPos (m : Main) (i : Nat) : Int :=
  if i < 64 then (m.pt i).count
  else if m.io i O.HP_KIND = 2 then m.ioI (m.io i O.HP_SHARE_FB) O.POS_CONT
  else sgn (wordOf (rnd (m.i i).motion.posSp - m.ioI i O.POS_OFFSET))

/-- R301: the set-points, the held position, every captured target and LINK_Y_OFS move by `d`. -/
def Main.shiftRef (m : Main) (i : Nat) (d : Int) : Main :=
  let q : Rat := d
  let m := m.modM i (fun x => { x with
    posSp := x.posSp + q
    held := x.held.map (· + q)
    plan := x.plan.map (fun p => { p with move := { p.move with target := p.move.target + q },
                                          blends := p.blends.map (fun b => { b with p0 := b.p0 + q }) })
    queue := x.queue.map (fun v => { v with target := v.target + q })
    ramp := x.ramp.map (fun r => { r with p0 := r.p0 + q })
    inst := x.inst.map (fun s => (s.1 + q, s.2)) })
  let m := m.modLim i (fun l => { l with vEnd := l.vEnd.map (· + q) })
  if (m.i i).link.st = 0 then m
  else (m.modLink i (fun l => { l with pe := l.pe + q })).setObjI (instAddr i O.LINK_Y_OFS) (m.ioI i O.LINK_Y_OFS + d)

/-- Homing writes POS_OFFSET (R329): the set-points of a closed position loop move with it, HOMED is set, and the
position of a modulo axis becomes HOME_POS (R332); by method 0, which sets no offset, it becomes that of the sensor
(DEDUCED, log 130). -/
def Main.writeOffset (m : Main) (i : Nat) (ofs : Int) : Main :=
  let d := sdiff ofs (m.ioI i O.POS_OFFSET)
  let old := m.actualPos i
  let raw := m.rawPos i
  let m := m.setObjI (instAddr i O.POS_OFFSET) ofs
  let m := m.setActual i raw
  let m := if m.io i O.MODULO = 0 then m
    else m.setObjI (instAddr i O.ACTUAL_POS)
      (if (m.i i).home.any (fun h => h.method == 0) then m.ioI i O.POS_CONT % m.io i O.MODULO else m.ioI i O.HOME_POS)
  let closed := (m.i i).core.chains != 0 || 64 ≤ i
  let shift := if m.io i O.MODULO = 0 then d else m.actualPos i - old
  let m := if closed then m.shiftRef i shift else m
  m.modC i (fun c => { c with homed := true })

end Sys2Proof.Machine
end

