-- ==== Sys2Proof/Machine/Acq.lean ====
section
/-! DEFINITION. The acquisition units (chapter 12): records, memory, samples, triggers and their evaluation; and the
queue of network entries (R144, R385) that triggers and actions use. -/

namespace Sys2Proof.Machine

/-- The units. -/
abbrev aqUnits : List Nat := List.range 8

/-- A write of AQ_FLAGS bit `b` by the module. -/
def Main.aqFlag (m : Main) (u b : Nat) : Main := m.orObj (aqAddr u O.AQ_FLAGS) (2 ^ b)

/-- AQ_SRC of channel `c`. -/
def Main.aqSrc (m : Main) (u c : Nat) : Nat := m.obj (aqAddr u (O.AQ_CH_SRC + 16 * c))

/-- The tag of an instant on channel `c` (R408). -/
def Main.aqTag (m : Main) (u c t : Nat) : Nat :=
  ((t : Int) - m.aqAuto u c - m.objI (aqAddr u (O.AQ_CH_SKEW + 16 * c))).toNat

/-! ### Writing records (R410-R413, R421) -/

/-- A record waits for the arbiter; with 64 waiting it is lost (R412). -/
def Main.aqPush (m : Main) (u : Nat) (r : AqRec) : Main :=
  if (m.aqu u).waiting.length < 64 then m.modAq u (fun x => { x with waiting := x.waiting ++ [r] })
  else (m.modAq u (fun x => { x with
      lostN := x.lostN + 1
      lostTag := if x.lostN = 0 then r.tag else x.lostTag })).inc (aqAddr u O.AQ_LOST)

/-- A record of `kind` on channel `ch` with tag `tag`, a TIME record before it where R411 asks for one. -/
def Main.aqPut (m : Main) (u kind ch tag : Nat) (w1 : Word) : Main :=
  let x := m.aqu u
  let far := !x.timed || 2 ^ 28 ≤ ((tag : Int) - x.timeRec).natAbs
  let room := decide (x.waiting.length < 64)
  let m := if far then
      (m.aqPush u { w0 := BitVec.ofNat 36 (2 ^ 33 + tag / 2 ^ 36 % 2 ^ 30), w1 := BitVec.ofNat 36 tag, tag := tag }).modAq u
        (fun x => { x with timed := x.timed || room, timeRec := if room then tag else x.timeRec })
    else m
  m.aqPush u { w0 := BitVec.ofNat 36 (kind * 2 ^ 33 + ch * 2 ^ 30 + tag % 2 ^ 30), w1 := w1, tag := tag }

/-- The kind and channel of a record. -/
def AqRec.kind (r : AqRec) : Nat := fld r.w0 35 33
def AqRec.ch (r : AqRec) : Nat := fld r.w0 32 30

/-- R421: an overwritten VALUE record becomes its channel's tail value. -/
def AqUnit.overwrite (x : AqUnit) (r : AqRec) : AqUnit :=
  if r.kind = 0 then { x with tails := mset (false, 0) x.tails r.ch (true, r.w1) } else x

/-- A record reaches record memory: in PRE the ring of AQ_DEPTH records, in POST the post part (R413, R414, R419). -/
def Main.aqStore (m : Main) (u : Nat) (r : AqRec) : Main :=
  let depth := m.obj (aqAddr u O.AQ_DEPTH)
  let cap := depth - m.obj (aqAddr u O.AQ_PRE)
  let fill := m.obj (aqAddr u O.AQ_FILL)
  let r := { r with no := fill }
  let m := m.setObj (aqAddr u O.AQ_FILL) (min (fill + 1) (2 ^ 36 - 1))
  match (m.aqu u).st with
  | 2 => m.modAq u (fun x =>
      match x.recs with
      | old :: rest => if x.recs.length < depth then { x with recs := x.recs ++ [r] }
          else { x.overwrite old with recs := rest ++ [r] }
      | [] => { x with recs := [r] })
  | 3 => if (m.aqu u).trigT < r.tag ∧ (m.aqu u).post.length < cap then
      (m.modAq u (fun x => { x with post := x.post ++ [r] })).inc (aqAddr u O.AQ_POST_GOT) else m
  | _ => m

/-- The waiting records reach memory, oldest first. -/
def Main.aqDrain (m : Main) (u : Nat) : Main :=
  ((m.aqu u).waiting).foldl (fun m r => m.aqStore u r) (m.modAq u (fun x => { x with waiting := [] }))

/-- The waiting records reach memory; after a loss one GAP record follows (R412). -/
def Main.aqFlush (m : Main) (u : Nat) : Main :=
  let m := m.aqDrain u
  let x := m.aqu u
  if x.lostN = 0 then m
  else (((m.modAq u (fun x => { x with lostN := 0, lostTag := 0 })).aqPut u 4 0 x.lostTag (BitVec.ofNat 36 x.lostN)).aqDrain u).aqFlag u 2

/-- A unit records (PRE or POST). -/
def Main.aqRecording (m : Main) (u : Nat) : Bool := (m.aqu u).st == 2 || (m.aqu u).st == 3

/-! ### Causes (R415, R416) -/

/-- A trigger cause becomes known. Causes 0-3 act only where enabled. -/
def Main.aqCause (m : Main) (u cause t : Nat) : Main :=
  if 4 ≤ cause || (m.obj (aqAddr u O.AQ_TRIG_EN)).testBit cause then
    m.modAq u (fun x => { x with causes := x.causes ++ [{ cause := cause, t := t }] })
  else m

/-- An edge of event source `s` at event time `t`: KIND 2 channels record it, cause EVENT arises (R407, R409, R415). -/
def Main.aqEdge (m : Main) (s : Nat) (level : Bool) (t : Nat) : Main :=
  forEach aqUnits (fun u m =>
    let m := if m.aqRecording u then
        ((List.range 8).foldl (fun m c =>
          if m.aqSrc u c = 2 * 2 ^ 32 + s then m.aqPut u 0 c (m.aqTag u c t) (BitVec.ofNat 36 (b2n level)) else m) m).aqFlush u
      else m
    let ev := m.obj (aqAddr u O.AQ_TRIG_EVT)
    if ev % 256 = s ∧ (ev / 256).testBit (if level then 0 else 1) then m.aqCause u 1 t else m) m

/-- A network trigger with ID `id` acts (R415 cause 3). -/
def Main.aqNet (m : Main) (id t : Nat) : Main :=
  forEach aqUnits (fun u m => if m.obj (aqAddr u O.AQ_NET_ID) = id then m.aqCause u 3 t else m) m

/-! ### Raw bits (R407, R409) -/

/-- Cut a list of bits into whole groups of 32. -/
def chunk32 : Nat → List Bool → List (List Bool)
  | 0, _ => []
  | n + 1, l => if 32 ≤ l.length then l.take 32 :: chunk32 n (l.drop 32) else []

/-- New bits of sigma-delta input `sd`, the last sampled at `s`, one each `per` time units: each KIND 3 channel that takes them
writes a RAW record per 32 bits sampled since the arm instant. -/
def Main.aqRaw (m : Main) (sd : Nat) (bits : List Bool) (s per : Nat) : Main :=
  forEach aqUnits (fun u m =>
    if !m.aqRecording u then m else
    let n := (s - (m.aqu u).armT + per - 1) / per
    ((List.range 8).foldl (fun m c =>
      if m.aqSrc u c = 3 * 2 ^ 32 + sd then
        let all := mget [] (m.aqu u).raw c ++ bits.drop (bits.length - n)
        let groups := chunk32 all.length all
        let rest := all.drop (32 * groups.length)
        let m := groups.zipIdx.foldl (fun m g =>
          let t := s - (all.length - 1 - 32 * g.2) * per
          m.aqPut u 6 c (m.aqTag u c t) (BitVec.ofNat 36 (natOfBits g.1))) m
        m.modAq u (fun x => { x with raw := mset [] x.raw c rest })
      else m) m).aqFlush u) m

/-! ### Samples (R407-R409, R415) -/

/-- The instant a KIND 1 object's value represents (R408). -/
def Main.aqInstant (m : Main) (a : Nat) : Nat :=
  let b := slotStart m.now
  let n := numOf a
  let i := instOf a
  match areaOf a with
  | 3 => if (m.i i).core.chains = 0 then b
         else if n = O.FOLLOW_ERR then (m.i i).loop.outT
         else if n = O.ACTUAL_IQ ∨ n = O.ACTUAL_POS ∨ n = O.ACTUAL_VEL then (m.i i).loop.relT else b
  | 4 => if n = O.FOLLOW_ERR ∨ n = O.ACTUAL_POS ∨ n = O.ACTUAL_VEL then (m.i (64 + i)).loop.outT else b
  | 5 => if n = O.FB_POS ∧ m.obj (fbAddr i O.FB_MODE) = 3 ∧ (m.i i).core.chains ≠ 0 then (m.i i).loop.relT else b
  | 6 => if n = O.PW_I_U ∨ n = O.PW_I_V then (m.i i).loop.relT
         else if n = O.PW_DUTY_U ∨ n = O.PW_DUTY_V ∨ n = O.PW_DUTY_W then (m.ln i).duty.at_ else b
  | _ => b

/-- One sample of KIND 1 channel `c`: deadband, record, LEVEL crossing. -/
def Main.aqSampleCh (m : Main) (u c : Nat) : Main :=
  let src := m.aqSrc u c
  if src / 2 ^ 32 ≠ 1 then m else
  let a := src % 2 ^ 24
  let v : Word := BitVec.ofNat 36 (m.readWord a)
  let tag := m.aqTag u c (let t := m.aqInstant a; if t = 0 then slotStart m.now else t)
  let x := m.aqu u
  let last := mget 0 x.lastVal c
  let m := if m.obj (aqAddr u (O.AQ_CH_DEADBAND + 16 * c)) < (sdiff (sgn v) (sgn last)).natAbs then
      (m.aqPut u 0 c tag v).modAq u (fun x => { x with lastVal := mset 0 x.lastVal c v })
    else m
  let lev := m.objI (aqAddr u O.AQ_TRIG_LEVEL)
  let slope := m.obj (aqAddr u O.AQ_TRIG_SLOPE)
  let m := match mget (false, 0) x.prevVal c with
    | (true, p) =>
      let up := decide (sgn p < lev) && decide (lev ≤ sgn v)
      let down := decide (lev ≤ sgn p) && decide (sgn v < lev)
      if m.obj (aqAddr u O.AQ_TRIG_CH) = c ∧ (up && slope.testBit 0 || down && slope.testBit 1) then m.aqCause u 0 tag else m
    | _ => m
  m.modAq u (fun x => { x with prevVal := mset (false, 0) x.prevVal c (true, v) })

/-- AQ_SAMPLE at a slot boundary: every AQ_PERIOD-th one after the arm instant. -/
def Main.aqSample (m : Main) (u : Nat) : Main :=
  if !m.aqRecording u || decide (slotStart m.now ≤ (m.aqu u).armT) then m else
  let m := m.modAq u (fun x => { x with slots := x.slots + 1 })
  if (m.aqu u).slots % max 1 (m.obj (aqAddr u O.AQ_PERIOD)) ≠ 0 then m
  else ((List.range 8).foldl (fun m c => m.aqSampleCh u c) m).aqFlush u

/-! ### Network entries (R144, R385) -/

/-- The entry can be queued: fewer than 32 entries of this node wait and its address is valid. -/
def Main.canQueue (m : Main) : Bool := m.line.txq.length < 32 && m.obj (ntAddr 0 O.NT_ADDR_VALID) != 0

/-- An entry of this node joins the queue for passing CARRIER records. It has been acted on once by that (DEDUCED,
log 31). -/
def Main.queueEntry (m : Main) (kind id t : Nat) (value : Word) : Main :=
  let e : EventEntry := { valid := true, kind := BitVec.ofNat 8 kind, source := BitVec.ofNat 12 (m.obj (ntAddr 0 O.NT_NODE_ADDR)),
                          id := BitVec.ofNat 12 id, time := t, value := value }
  { m with line := { m.line with txq := m.line.txq ++ [e], seen := (e.source.toNat, e.id.toNat, e.time) :: m.line.seen } }

/-! ### Evaluation (R416-R420) -/

/-- An accepted trigger: POST, the TRIGGER record, the cut, the bus and the line (R418, R419). -/
def Main.aqAccept (m : Main) (u t setter mask : Nat) : Main :=
  let pre := m.obj (aqAddr u O.AQ_PRE)
  let cap := m.obj (aqAddr u O.AQ_DEPTH) - pre
  let m := m.setObj (aqAddr u O.AQ_TRIG_TIME) t
  let m := m.setObj (aqAddr u O.AQ_TRIG_CAUSE) mask
  let m := (m.aqPut u 2 0 t (BitVec.ofNat 36 (setter * 256 + mask))).aqFlush u
  let x := m.aqu u
  let before := x.recs.filter (fun r => decide (r.tag ≤ t))
  let kept := before.drop (before.length - pre)
  let post := (x.recs.filter (fun r => decide (t < r.tag))).take cap
  let m := m.modAq u (fun x =>
    { (before.take (before.length - pre)).foldl AqUnit.overwrite x with st := 3, recs := kept, post := post, trigT := t })
  let m := m.setObj (aqAddr u O.AQ_PRE_GOT) kept.length
  let m := m.setObj (aqAddr u O.AQ_POST_GOT) post.length
  let m := if kept.length < pre then m.aqFlag u 0 else m
  if m.objB (aqAddr u O.AQ_NET_SEND) && !mask.testBit 3 then
    let id := m.obj (aqAddr u O.AQ_NET_ID)
    if m.canQueue then (m.queueEntry 0x20 id t (BitVec.ofNat 36 mask)).aqNet id t
    else (m.aqFlag u 4).inc (aqAddr u O.AQ_NET_DROPPED)
  else m

/-- One unit's evaluation of the causes known since the last boundary; the answer also tells the trigger it placed on the
bus. -/
def Main.aqEvaluate (m : Main) (u : Nat) (cs : List AqCause) : Main × Option Nat :=
  match cs with
  | [] => (m, none)
  | c :: r =>
    let t := r.foldl (fun t x => min t x.t) c.t
    let setter := (cs.filter (fun x => x.t == t)).foldl (fun b x => min b x.cause) 15
    let mask := cs.foldl (fun b x => b ||| 2 ^ x.cause) 0
    let x := m.aqu u
    if x.st = 2 ∧ x.armT ≤ t ∧ ¬ (m.objB (aqAddr u O.AQ_HOLDOFF) ∧ m.obj (aqAddr u O.AQ_FILL) < m.obj (aqAddr u O.AQ_PRE)) then
      (m.aqAccept u t setter mask, some t)
    else (m.inc (aqAddr u O.AQ_TRIG_IGNORED), none)

/-- AQ_TRIGGER_EVALUATION of every unit; a trigger on the bus is known to the others from here on (R415 cause 2). -/
def Main.aqEvaluateAll (m : Main) : Main :=
  let cs := aqUnits.map (fun u => (u, (m.aqu u).causes))
  let m := forEach aqUnits (fun u m => m.modAq u (fun x => { x with causes := [] })) m
  cs.foldl (fun m p =>
    match m.aqEvaluate p.1 p.2 with
    | (m, some t) => forEach aqUnits (fun w m =>
        if w ≠ p.1 ∧ (m.obj (aqAddr w O.AQ_TRIG_BUS)).testBit p.1 then m.aqCause w 2 t else m) m
    | (m, none) => m) m

/-- AQ_POST_FULL (R420). -/
def Main.aqPostFull (m : Main) (u : Nat) : Main :=
  if (m.aqu u).st = 3 ∧ m.obj (aqAddr u O.AQ_DEPTH) - m.obj (aqAddr u O.AQ_PRE) ≤ (m.aqu u).post.length then
    m.modAq u (fun x => { x with st := 4 }) else m

/-! ### States (R414, R420, R422) -/

/-- The arm instant (R414): an empty partition, a TIME record and one VALUE record for each KIND 1 channel. -/
def Main.aqArmNow (m : Main) (u t : Nat) : Main :=
  let m := m.modAq u (fun x => { st := 2, armT := t, causes := x.causes })
  let m := m.setObj (aqAddr u O.AQ_ARM_TIME) t
  let m := m.setObj (aqAddr u O.AQ_FILL) 0
  let m := m.setObj (aqAddr u O.AQ_FLAGS) 0
  let m := (m.aqPush u { w0 := BitVec.ofNat 36 (2 ^ 33 + t / 2 ^ 36 % 2 ^ 30), w1 := BitVec.ofNat 36 t, tag := t }).modAq u
    (fun x => { x with timed := true, timeRec := t })
  ((List.range 8).foldl (fun m c =>
    if m.aqSrc u c / 2 ^ 32 = 1 then
      let v : Word := BitVec.ofNat 36 (m.readWord (m.aqSrc u c % 2 ^ 24))
      (m.aqPut u 0 c (m.aqTag u c t) v).modAq u (fun x => { x with
        lastVal := mset 0 x.lastVal c v
        tails := mset (false, 0) x.tails c (true, v) })
    else m) m).aqFlush u

/-- AQ_STEP (R422): a STEP record, then a new arm instant in PRE, DONE in POST. -/
def Main.aqStep (m : Main) (u old new : Nat) : Main :=
  let rec_ := fun m : Main => m.aqPut u 3 0 old (BitVec.ofNat 36 new)
  match (m.aqu u).st with
  | 2 => ((rec_ m).aqFlush u).aqArmNow u new
  | 3 => (((rec_ m).aqFlush u).aqFlag u 3).modAq u (fun x => { x with st := 4 })
  | _ => m

end Sys2Proof.Machine
end

