-- ==== Sys2Proof/Machine/Motion.lean ====
section
/-! DEFINITION. The profile generator: stop ramps (R198, R306), moves and the move queue (R303-R312), changes while
moving (R310), virtual limits (R319-R322), the modulo distance (R333) and the idling of a link (R355, R358). -/

namespace Sys2Proof.Machine

/-- The boundary's instant in seconds. -/
def Main.t (m : Main) : Rat := secs m.now
/-- QSTOP_DEC and PROFILE_DEC of an instance. -/
def Main.qDec (m : Main) (i : Nat) : Rat := maxQ (1 / 16) (accQ (m.objW (instAddr i O.QSTOP_DEC)))
def Main.pDec (m : Main) (i : Nat) : Rat := maxQ (1 / 16) (accQ (m.objW (instAddr i O.PROFILE_DEC)))
/-- ACTUAL_VEL. -/
def Main.actualVel (m : Main) (i : Nat) : Rat := velQ (m.objW (instAddr i O.ACTUAL_VEL))

/-- The position-loop or hoop-chain position period of an instance in seconds (R220, R345). -/
def Main.posPer (m : Main) (i : Nat) : Rat :=
  let n := if i < 64 then m.posPeriod i
    else if m.io i O.HP_KIND = 2 then m.io i O.HP_PERIOD * m.io i O.HP_PL_P else m.io i O.HP_PERIOD
  (n : Rat) / 100000

/-! ### Links that become IDLE (R355, R358, R363) -/

/-- R363: a retained version that no link uses any more is released. -/
def Main.dropRetained (m : Main) : Main :=
  { m with tabs := m.tabs.map (fun p => if m.tabRetUsers p.1 = 0 then (p.1, { p.2 with retained := none }) else p) }

/-- The link of `i` becomes IDLE; the entry that engaged it stops charging for it (R390). -/
def Main.linkIdle (m : Main) (i : Nat) : Main :=
  let e := (m.i i).link.byEntry
  let m := m.modLink i (fun _ => {})
  let m := match e with | some k => m.modAct k (fun a => { a with charged := false }) | none => m
  m.dropRetained

/-! ### Ramps -/

/-- The set-points of an instance at `t` seconds, from its ramp, its plan or its latest set-points. -/
def Main.spAt (m : Main) (i : Nat) (t : Rat) : PVA :=
  let mo := (m.i i).motion
  match mo.ramp, mo.plan with
  | some r, _ => r.eval t
  | none, some p => if p.blends.isEmpty then { p := mo.posSp, v := mo.velSp } else p.eval t
  | none, none =>
    let dt := t - secs mo.posT
    { p := mo.posSp + mo.velSp * dt + mo.accSp * dt * dt / 2, v := mo.velSp + mo.accSp * dt, a := mo.accSp }

/-- A ramp to zero at deceleration `dec` from now on (R198): the active move and the queue are discarded. In MODE 2 it
starts from ACTUAL_VEL. -/
def Main.rampAt (m : Main) (i : Nat) (dec : Rat) : Main :=
  let t := m.t
  let cur := m.spAt i t
  let v := if m.mode i = 2 ∧ (m.i i).motion.ramp.isNone then m.actualVel i else cur.v
  m.modM i (fun x =>
    { x with plan := none, queue := [], held := none, inst := none
             ramp := some { t0 := t, v0 := v, p0 := cur.p, dec := dec } })

/-- The set-points of an instance at a past instant, from the release in force then (R327, R380). -/
def Main.spPast (m : Main) (i t : Nat) : PVA :=
  let mo := (m.i i).motion
  let b := if mo.posT ≤ t then (mo.posSp, mo.velSp, mo.accSp, mo.posT) else mo.was
  let dt := secs t - secs b.2.2.2
  { p := b.1 + b.2.1 * dt + b.2.2.1 * dt * dt / 2, v := b.2.1 + b.2.2.1 * dt, a := b.2.2.1 }

/-- A ramp that runs ends here, at the set-points it has reached: a blend goes on from them. -/
def Main.freeze (m : Main) (i : Nat) : Main :=
  if (m.i i).motion.ramp.isNone then m else
  let cur := m.spAt i m.t
  m.modM i (fun x => { x with
    was := (x.posSp, x.velSp, x.accSp, x.posT), posSp := cur.p, velSp := cur.v, accSp := 0, posT := m.now, ramp := none })

/-- A ramp to zero starts now; one that runs continues at the steeper deceleration (R199, R316). -/
def Main.startRamp (m : Main) (i : Nat) (dec : Rat) : Main :=
  m.rampAt i (match (m.i i).motion.ramp with | some r => maxQ r.dec dec | none => dec)

/-- R316 reaction 2: a ramped stop; in MODE 3 the instance leaves its source. In MODE 2 zero velocity is held after the ramp,
until TARGET_TORQUE is written: what ends the hold no rule states (DESIGN CHOICE, log 120). -/
def Main.limitStop (m : Main) (i : Nat) : Main :=
  let m := m.startRamp i (m.qDec i)
  let m := if m.mode i = 2 then m.modM i (fun x => { x with vHold := true, torque := 0 }) else m
  if (m.i i).link.st = 0 then m else m.linkIdle i

/-- The direction of motion of R316: the sign of the velocity set-point, of ACTUAL_VEL in MODE 2. -/
def Main.direction (m : Main) (i : Nat) : Int :=
  if m.mode i = 2 then signQ (m.actualVel i) else signQ (m.spAt i m.t).v

/-- The direction points towards the side. -/
def towards (dir : Int) (neg : Bool) : Bool := if neg then decide (dir < 0) else decide (0 < dir)

/-- A direction points towards a latched or blocked side (R319, R322). -/
def Main.dirBlocked (m : Main) (i : Nat) (dir : Int) : Bool :=
  towards dir false && m.blocked i false || towards dir true && m.blocked i true

/-! ### Starting a move (R303, R304, R309, R311, R333) -/

/-- The reference of a relative move (R303), as a continuous position. -/
def Main.moveRef (m : Main) (i : Nat) : Rat :=
  let mo := (m.i i).motion
  match mo.queue.getLast?, mo.plan with
  | some q, _ => q.target
  | none, some p => p.move.target
  | none, none => mo.posSp

/-- The continuous target of a move (R303, R333). -/
def Main.moveTarget (m : Main) (i : Nat) (target : Int) (relative : Bool) : Rat :=
  let r := m.moveRef i
  let md := m.io i O.MODULO
  if relative then r + target
  else if md = 0 then r + wrapDiff (target - r)
  else
    let q : Rat := (target : Rat) - r
    let pos := q - ((q / md).floor : Rat) * md
    match m.io i O.MOD_DIR with
    | 1 => r + pos
    | 2 => r - (if pos = 0 then 0 else md - pos)
    | _ => r + modDiff q md

/-- R321: the target lies beyond a virtual limit in force. -/
def Main.beyondVlim (m : Main) (i : Nat) (target : Rat) : Bool :=
  m.vlimOn i false && decide ((m.ioI i O.VLIM_POS : Rat) < target)
    || m.vlimOn i true && decide (target < (m.ioI i O.VLIM_NEG : Rat))

/-- The refusals of START_MOVE, in the order of R92: RANGE for a target outside its range (R321, R333), STATE (R303,
R304, R309, R311, R319), OP_RUNNING while homing runs. -/
def Main.moveRefusal (m : Main) (i : Nat) (target : Int) (queue relative : Bool) : Option Nat :=
  let mo := (m.i i).motion
  let md := m.mode i
  let tgt := m.moveTarget i target relative
  let dir := if md = 0 then signQ (tgt - m.moveRef i) else signQ (velQ (m.objW (instAddr i O.PROFILE_VEL)))
  let modBad := md == 0 && m.io i O.MODULO != 0 && !relative && (decide (target < 0) || decide ((m.io i O.MODULO : Int) ≤ target))
  if md = 0 ∧ (modBad || m.beyondVlim i tgt) then some aRange
  else if (m.i i).core.st ≠ sRun ∨ 2 ≤ md then some aState
  else if m.dirBlocked i dir then some aState
  else if m.opRuns i 1 then some aOpRunning
  else if md = 1 then (if queue then some aState else none)
  else if mo.ramp.isSome then some aState
  else if queue then (if 16 ≤ mo.queue.length then some aState else none)
  else if mo.plan.isSome || !mo.queue.isEmpty then some aState
  else none

/-- The profile as it stands (R303). -/
def Main.captured (m : Main) (i : Nat) (target : Rat) : Move :=
  { target := target, vel := velQ (m.objW (instAddr i O.PROFILE_VEL)), acc := accQ (m.objW (instAddr i O.PROFILE_ACC)),
    dec := m.pDec i, shape := m.io i O.BLEND_SHAPE }

/-- A plan that the next position-loop release makes. -/
def toPlan (mv : Move) (isVel : Bool) : Plan := { move := mv, replan := true, isVel := isVel }

/-- The largest v, up to `vmax`, with k·(v² − vs²)/(2·acc) ≤ d. -/
def reachable (shape : Nat) (vs d acc vmax : Rat) : Rat :=
  let v2 := vs * vs + 2 * d * acc / shapeK shape
  if vmax * vmax ≤ v2 then vmax else sqrtQ v2

/-- R311: the pass-through speed of a move `a` from speed `vs` over distance `da` into its successor `b` over `db`. -/
def passSpeed (a b : Move) (vs da db : Rat) : Rat :=
  let own := reachable a.shape vs da (maxQ a.acc (1 / 16)) (absQ a.vel)
  let stop := sqrtQ (2 * db * b.dec / shapeK b.shape)
  minQ own (minQ (absQ b.vel) stop)

/-- R310: the end of the blend in progress, 0 where none is. -/
def blendEnd (p : Plan) (t : Rat) : Rat :=
  match blendAt p.blends t with
  | some b => if t < b.tEnd then b.tEnd else 0
  | none => 0

/-- R311: the queue with `mv` appended; with MQ_BLEND the move before it passes through where the direction stays and
its final deceleration has not begun. -/
def Main.enqueue (m : Main) (i : Nat) (mv : Move) : Main :=
  let blend := m.objB (instAddr i O.MQ_BLEND)
  let cur := m.spAt i m.t
  m.modM i (fun x =>
    match x.queue.getLast? with
    | some q =>
      let before := x.queue.dropLast
      let start := match before.getLast?, x.plan with
        | some b, _ => b.target | none, some p => p.move.target | none, none => x.posSp
      if blend && moveNeg q.target start == moveNeg mv.target q.target then
        let v := passSpeed q mv q.vIn (absQ (q.target - start)) (absQ (mv.target - q.target))
        { x with queue := before ++ [{ q with vOut := v }, { mv with vIn := v }] }
      else { x with queue := x.queue ++ [mv] }
    | none => match x.plan with
      | some p =>
        if blend && moveNeg p.move.target cur.p == moveNeg mv.target p.move.target
            && (p.blends.isEmpty || decide (m.t < p.tFinal)) then
          let v := passSpeed p.move mv (absQ cur.v) (absQ (p.move.target - cur.p)) (absQ (mv.target - p.move.target))
          { x with plan := some { p with move := { p.move with vOut := v }, replan := true,
                                         replanT := blendEnd p m.t }
                   queue := [{ mv with vIn := v }] }
        else { x with queue := [mv] }
      | none => { x with plan := some (toPlan mv false) })

/-- START_MOVE takes effect: AT_TARGET clears (R313). -/
def Main.startMoveNow (m : Main) (i : Nat) (target : Int) (queue relative : Bool) : Main :=
  let m1 := m.modC i (fun c => { c with atTarget := false, winSince := none })
  if m.mode i = 1 then
    let mv := m.captured i 0
    (m1.freeze i).modM i (fun x =>
      let old := x.plan.getD {}
      { x with held := none, plan := some { toPlan mv true with blends := old.blends, replanT := blendEnd old m.t } })
  else
    let mv := m.captured i (m.moveTarget i target relative)
    let m1 := m1.modM i (fun x => { x with held := none })
    if queue then m1.enqueue i mv else m1.modM i (fun x => { x with plan := some (toPlan mv false) })

/-! ### Changes while moving (R310) -/

/-- R310: a velocity change takes a new PROFILE_ACC for those of its blends that start after `t`. -/
def Plan.retime (p : Plan) (t acc : Rat) : Plan :=
  let late := fun b : Blend => if t < b.t0 ∧ absQ b.v0 < absQ b.v1 then
      { b with dur := blendDur b.shape (b.v1 - b.v0) (maxQ acc (1 / 16)) } else b
  let bs := p.blends.map late
  { p with move := { p.move with acc := acc }, blends := bs, tEnd := (bs.getLast?.map Blend.tEnd).getD p.tEnd }

/-- The first position-loop release after `m.now`, in seconds. -/
def Main.nextRelease (m : Main) (i : Nat) : Rat :=
  let t0 := secs (m.i i).motion.posT
  let per := m.posPer i
  if per = 0 then m.t else t0 + (((m.t - t0) / per).floor + 1 : Int) * per

/-- R310: a write of a profile object while a move is active; `num` is the object number. A change acts at the end of the
blend in progress, else at the next position-loop release, and in MODE 0 only where the final deceleration has not begun
by then. -/
def Main.profileChange (m : Main) (i num : Nat) : Main :=
  let x := (m.i i).motion
  match x.plan with
  | none => m
  | some p =>
    let vel := velQ (m.objW (instAddr i O.PROFILE_VEL))
    let acc := accQ (m.objW (instAddr i O.PROFILE_ACC))
    let dec := m.pDec i
    let e := blendEnd p m.t
    let acts := if e = 0 then m.nextRelease i else e
    let at_ : PVA := if p.blends.isEmpty then { p := x.posSp, v := x.velSp } else p.eval acts
    let early := p.blends.isEmpty || decide (m.t < p.tFinal) && decide (acts ≤ p.tFinal)
    let set := fun q : Plan => m.modM i (fun x => { x with plan := some q })
    if p.isVel then
      if m.mode i ≠ 1 then m
      else if num = O.PROFILE_VEL then set { p with move := { p.move with vel := vel }, replan := true, replanT := e }
      else if num = O.PROFILE_ACC then set (p.retime m.t acc)
      else if num = O.PROFILE_DEC then set { p with move := { p.move with dec := dec } }
      else m
    else if num = O.PROFILE_VEL then
      if early then set { p with move := { p.move with vel := vel }, replan := true, replanT := e } else m
    else if num = O.PROFILE_ACC then set { p with move := { p.move with acc := acc } }
    else if num = O.PROFILE_DEC then
      let vo := p.move.vOut
      if early && decide (shapeK p.move.shape * (at_.v * at_.v - vo * vo) / (2 * dec) ≤ absQ (p.move.target - at_.p)) then
        set { p with move := { p.move with dec := dec }, replan := true, replanT := e }
      else m
    else m

/-! ### The profile step (R308, R311, R312, R321, R322) -/

/-- A new plan for `mv` from a state at `t0`. -/
def rePlan (t0 : Rat) (cur : PVA) (p : Plan) : Plan :=
  if p.isVel then planVel t0 cur.p cur.v p.move
  else planMove t0 cur.p { p.move with vIn := absQ cur.v }

/-- QUEUE_HEAD_START, QUEUE_DISCARD (R311, R312): the head of the queue at the end of a move at `s` seconds. -/
def Main.nextMove (m : Main) (i : Nat) (s : Rat) : Main :=
  let x := (m.i i).motion
  match x.queue with
  | [] => m
  | q :: rest =>
    let dir := signQ (q.target - x.posSp)
    let hard := towards dir false && (m.i i).lim.posLat || towards dir true && (m.i i).lim.negLat
    if hard || m.beyondVlim i q.target then
      (m.modM i (fun x => { x with queue := [], velSp := 0, accSp := 0, held := some x.posSp })).setObj
        (instAddr i O.MQ_DROPPED) ((m.io i O.MQ_DROPPED + x.queue.length) % 2 ^ 36)
    else
      let p := planMove s x.posSp q
      let e := p.eval s
      m.modM i (fun x => { x with queue := rest, plan := some p, held := none, velSp := e.v, accSp := e.a })

/-- R321: the virtual-limit check of one side at a position-loop release. -/
def Main.vlimHit (m : Main) (i : Nat) (neg : Bool) (p v : Rat) : Bool :=
  let lim : Rat := if neg then m.ioI i O.VLIM_NEG else m.ioI i O.VLIM_POS
  let stop := p + (signQ v : Rat) * (v * v / (2 * m.qDec i))
  m.vlimOn i neg && towards (signQ v) neg &&
    (decide (absQ (stop - lim) ≤ absQ v * m.posPer i) || (if neg then decide (stop < lim) else decide (lim < stop)))

/-- R321, R322: VIRTUAL_LIMIT_RAMP starts, and VLIMIT clears. -/
def Main.vlimStep (m : Main) (i : Nat) : Main :=
  let x := (m.i i).motion
  let m := if (m.i i).lim.vRamp ∧ x.ramp.isNone then
      m.modLim i (fun l => { l with vRamp := false, vEnd := some x.posSp }) else m
  let hit := fun neg => !(m.i i).lim.vRamp && m.vlimHit i neg x.posSp x.velSp
  let m := if hit false || hit true then
      (m.limitStop i).modLim i (fun l => { l with vRamp := true, posVb := l.posVb || hit false, negVb := l.negVb || hit true })
    else m
  let pos := (m.i i).motion.posSp
  m.modLim i (fun l =>
    let inside := decide (pos < (m.ioI i O.VLIM_POS : Rat)) && decide ((m.ioI i O.VLIM_NEG : Rat) < pos)
    { l with
      posVb := l.posVb && (l.vRamp || !inside || (match l.vEnd with | some e => decide (e ≤ pos) | none => false))
      negVb := l.negVb && (l.vRamp || !inside || (match l.vEnd with | some e => decide (pos ≤ e) | none => false)) })

/-- The set-points of a plan at the release `s` seconds: re-planned where a change waits, evaluated, completed. -/
def Main.planStep (m : Main) (i : Nat) (s : Rat) (p : Plan) : Main :=
  let x := (m.i i).motion
  let due := p.replan && decide (p.replanT ≤ s)
  let t0 := if p.replanT = 0 then s else p.replanT
  let cur : PVA := if p.blends.isEmpty then { p := x.posSp + x.velSp * (t0 - secs x.posT), v := x.velSp } else p.eval t0
  let p := if due then rePlan t0 cur p else p
  if p.blends.isEmpty then m
  else if !p.isVel && decide (p.tEnd ≤ s) then
    -- R307: where the pass-through speed has been lowered, the successor enters at the lower one
    let m := m.modM i (fun x => { x with
      posSp := p.move.target, velSp := 0, accSp := 0, plan := none, held := some p.move.target
      queue := match x.queue with | q :: r => { q with vIn := minQ q.vIn p.move.vOut } :: r | [] => [] })
    m.nextMove i s
  else
    let e := p.eval s
    m.modM i (fun x => { x with posSp := e.p, velSp := e.v, accSp := e.a, plan := some p })

/-- PROFILE_STEP of an instance at the release `s` (extended time): ramp, plan, the set-point a parent or link wrote
(R346), or a held position. -/
def Main.profileStep (m : Main) (i s : Nat) : Main :=
  let ts := secs s
  let x := (m.i i).motion
  let m := m.modM i (fun x => { x with was := (x.posSp, x.velSp, x.accSp, x.posT) })
  let m := match x.ramp with
    | some r =>
      let e := r.eval ts
      if e.v = 0 then m.modM i (fun x => { x with posSp := e.p, velSp := 0, accSp := 0, ramp := none, held := some e.p })
      else m.modM i (fun x => { x with posSp := e.p, velSp := e.v, accSp := e.a })
    | none => match x.plan with
      | some p => m.planStep i ts p
      | none => match x.inst with
        | some (p, v, a, t) =>
          if 2 ≤ (m.i i).link.st then
            let dt := ts - secs t
            m.modM i (fun x => { x with posSp := p + v * dt + a * dt * dt / 2, velSp := v + a * dt, accSp := a, held := none })
          else m
        | none => m
  let m := m.modM i (fun x => { x with posT := s })
  -- R319: a source that drives the instance towards a blocked side
  let m := if 2 ≤ (m.i i).link.st ∧ m.dirBlocked i (signQ (m.i i).motion.velSp) then m.limitStop i else m
  m.vlimStep i

end Sys2Proof.Machine
end

