-- ==== Sys2Proof/Machine/Links.lean ====
section
/-! DEFINITION. Links (R353-R358), the evaluation of a follow hoop and its members (R342, R345, R346) and the share split
(R344). -/

namespace Sys2Proof.Machine

/-- A link object of instance `i` as an integer. -/
def Main.lkI (m : Main) (i num : Nat) : Rat := (m.ioI i num : Rat)

/-- R357: a disengage: the link becomes IDLE and the velocity set-point ramps to 0 at PROFILE_DEC. -/
def Main.linkDrop (m : Main) (i : Nat) : Main := (m.linkIdle i).startRamp i (m.pDec i)

/-- R356, R357: the source position is at or past a point in its direction of motion. -/
def atOrPast (s : PVA) (point : Rat) : Bool :=
  let d := wrapDiff (s.p - point)
  if s.v = 0 then d == 0 else if 0 < s.v then decide (0 ≤ d) else decide (d ≤ 0)

/-- The cam version an engage takes (R363): table, base and words. -/
def Main.camNow (m : Main) (i : Nat) : Option (Nat × Nat × Nat) :=
  if m.io i O.LINK_TYPE = 1 then
    let k := m.io i O.LINK_TABLE
    some (k, (m.tab k).base, (m.tab k).words)
  else none

/-- The cycles counted at `x` (R354): whole lengths of a cyclic table, else 0. -/
def Main.cyclesAt (m : Main) (tbl : Option (Nat × Nat × Nat)) (x : Rat) : Int :=
  match tbl with
  | some (_, b, _) => let h := m.camHead b; if h.cyclic && h.len != 0 then (x / h.len).floor else 0
  | none => 0

/-- The engage point (R356): BLEND begins at source position `xe` at `te`, from the set-points of that instant; the ramp of
an earlier disengage ends there. -/
def Main.engage (m : Main) (i : Nat) (xe : Rat) (te : Nat) : Main :=
  let x0 := wrapDiff (xe - m.lkI i O.LINK_X_OFS)
  let tbl := m.camNow i
  let cyc := m.cyclesAt tbl x0
  let e := m.spAt i (secs te)
  m.modI i (fun x => { x with
    link := { x.link with
      st := 2, cmd := 0, xLast := x0, xe := x0, pe := e.p, ve := e.v, te := secs te, table := tbl, cycles := cyc }
    motion := { x.motion with ramp := none, inst := some (e.p, e.v, 0, te) } })

/-- A source at an instant that has passed. -/
def Main.srcThen (m : Main) (src : Src) (t : Nat) : Option PVA :=
  match src with
  | .inst k => if m.mode k = 2 then m.srcAt src t else
      let x := m.spPast k t
      some { x with p := x.p - m.lkI k O.POS_OFFSET }
  | .master v => m.vmPast v t
  | _ => none

/-- ENGAGE_POINT_REACHED for an ARMED link (R356); the release is at `s`, the source stands for `t`. A source that was not
defined at ENG_TIME engages where it stands once it is (DEDUCED, log 132). -/
def Main.engageTest (m : Main) (i : Nat) (sp : PVA) (src : Src) (s t : Nat) : Main :=
  match m.io i O.ENG_MODE with
  | 1 => if atOrPast sp (m.lkI i O.ENG_AT) then m.engage i (m.lkI i O.ENG_AT) t else m
  | 2 =>
    let at_ := m.io i O.ENG_TIME
    if s < at_ then m else
    match m.srcThen src at_ with
    | some q => m.engage i q.p at_
    | none => m.engage i sp.p t
  | _ => m.engage i sp.p t

/-- The set-point a link computes for the instant `t` (R354, R356): written for the instance, the state advanced. -/
def Main.linkSet (m : Main) (i : Nat) (sp : PVA) (t : Nat) : Main :=
  let x0 := (m.i i).link
  let x := x0.xLast + wrapDiff (sp.p - m.lkI i O.LINK_X_OFS - x0.xLast)
  let cyc := m.cyclesAt x0.table x
  -- R363: a cyclic link takes up a new version at its next wrap
  let tbl := if cyc ≠ x0.cycles then m.camNow i else x0.table
  let cyc := m.cyclesAt tbl x
  let out := m.linkOut i (tbl.map (fun b => b.2.1)) cyc { sp with p := x }
  let y := m.lkI i O.LINK_Y_OFS
  let mo := (m.i i).motion
  let dist := m.lkI i O.ENG_DIST
  let sg := if dist ≤ 0 then 1 else minQ 1 (absQ (x - x0.xe) / dist)
  let w := blendW sg
  let ds := if sg = 1 then 0 else absQ sp.v / dist
  let w1 := 30 * sg ^ 2 * (1 - sg) ^ 2 * ds
  let prev := mo.inst.getD (mo.posSp, mo.velSp, 0, mo.posT)
  let dt := secs t - secs prev.2.2.2
  let rel := m.objB (instAddr i O.LINK_REL)
  let res : PVA :=
    if x0.st = 3 then { p := y + out.p, v := out.v, a := out.a }
    else if rel then
      let v := (1 - w) * x0.ve + w * out.v
      { p := prev.1 + Config.integral dt prev.2.1 v sg, v := v, a := w * out.a + w1 * (out.v - x0.ve) }
    else
      let b := x0.pe + x0.ve * (secs t - x0.te)
      { p := (1 - w) * b + w * (y + out.p), v := (1 - w) * x0.ve + w * out.v + w1 * (y + out.p - b)
        a := w * out.a + 2 * w1 * (out.v - x0.ve) }
  let done_ := x0.st = 2 ∧ sg = 1
  let m := m.modI i (fun z => { z with
    link := { z.link with xLast := x, cycles := cyc, table := tbl, st := if done_ then 3 else z.link.st }
    motion := { z.motion with inst := some (res.p, res.v, res.a, t), held := none } })
  let m := if done_ ∧ rel then m.setObjI (instAddr i O.LINK_Y_OFS) (rnd (res.p - out.p)) else m
  m.dropRetained

/-- LINK_OUTPUT: one link at a release `s` for the instant `t`: disengage, engage, evaluation (R353-R358). -/
def Main.linkEval (m : Main) (i : Nat) (src : Src) (s t : Nat) : Main :=
  let l := (m.i i).link
  if l.st = 0 then m else
  match m.srcAt src t with
  | none => if 2 ≤ l.st then m.linkDrop i else if l.cmd = 2 then m.linkIdle i else m
  | some sp =>
    if l.cmd = 2 ∨ (l.disArm ∧ atOrPast sp (m.lkI i O.DIS_AT)) then (if l.st = 1 then m.linkIdle i else m.linkDrop i)
    else
      let m := if l.st = 1 then m.engageTest i sp src s t
        else if l.cmd = 1 then m.engage i sp.p t else m
      if 2 ≤ (m.i i).link.st then m.linkSet i sp t else m

/-! ### Hoops -/

/-- The engaged member whose FOLLOW_ERR has the largest magnitude gives the hoop's (R342). -/
def Main.hoopErr (m : Main) (h : Nat) : Int :=
  (m.i h).members.foldl (fun b k =>
    if (m.i k).link.st = 3 ∧ b.natAbs < (m.ioI k O.FOLLOW_ERR).natAbs then m.ioI k O.FOLLOW_ERR else b) 0

/-- R342: ACTUAL_POS, ACTUAL_VEL and FOLLOW_ERR of a follow hoop from its set-points, and its check of R213. -/
def Main.followActual (m : Main) (h s : Nat) : Main :=
  let mo := (m.i h).motion
  let m := m.setActual h (rnd mo.posSp - m.ioI h O.POS_OFFSET)
  let m := m.setObj (instAddr h O.ACTUAL_VEL) (velWord mo.velSp).toNat
  let e := m.hoopErr h
  let m := (m.setObjI (instAddr h O.FOLLOW_ERR) e).modL h (fun l => { l with outT := s })
  let win := m.ioI h O.SS_WINDOW
  if 0 < win ∧ m.holding h ∧ win.toNat < e.natAbs then m.raise h cStandstill else m

/-- R343: ACTUAL_POS and ACTUAL_VEL of a share hoop from the member HP_SHARE_FB. -/
def Main.shareActual (m : Main) (h : Nat) : Main :=
  let fb := m.io h O.HP_SHARE_FB
  (m.setActual h (m.ioI fb O.POS_CONT)).setObj (instAddr h O.ACTUAL_VEL) (m.io fb O.ACTUAL_VEL)

/-- MASTER_EVALUATION of hoop `h` at release `s` (R342, R346): its set-point for S + 10 µs, from its own link where it has
no parent, else from what its parent's release wrote. -/
def Main.masterEval (m : Main) (h s : Nat) : Main :=
  let t := s + unitsPerSlot
  let m := if (m.i h).parent.isSome then m else m.linkEval h (m.sourceOf h) s t
  m.profileStep h t

/-- The members whose links a release evaluates, in the order of joining (R345). -/
def Main.linkMembers (m : Main) (h : Nat) : List Nat := (m.i h).members.filter (fun k => (m.i k).link.st != 0)

/-- One fork token of a follow hoop: the links of the members it took (R345). -/
def Main.linksToken (m : Main) (h : Nat) (items : List Nat) (s : Nat) : Main :=
  (items.filter (fun k => (m.linkMembers h).contains k)).foldl (fun m k => m.linkEval k (.inst h) s (s + unitsPerSlot)) m

/-- The members whose share is active. -/
def Main.activeShare (m : Main) (h : Nat) : List Nat := (m.i h).members.filter (fun k => !(m.i k).isolated)

/-- SHARE_SPLIT (R344) for the members `sel` of hoop `h`, at most `d` levels of nesting down. -/
def Main.split (m : Main) : Nat → Nat → List Nat → Main
  | 0, _, _ => m
  | d + 1, h, sel =>
    let act := m.activeShare h
    let w := m.weights act
    let iq := (m.i h).loop.iqSp
    if w = 0 then
      let m := forEach sel (fun k m => m.modL k (fun l => { l with iqSp := 0 })) m
      if m.activeSt h then m.raise h cHoop (some 0) else m
    else sel.foldl (fun m k =>
        let wk : Rat := m.io k O.SHARE_WEIGHT
        if k < 64 then
          let raw := iq * (m.io h O.HP_I_FULL : Rat) * wk / ((w : Rat) * (m.io k O.AX_I_FULL : Rat))
          let lim := fracQ (m.objW (instAddr k O.AX_IQ_LIMIT))
          let v := clampQ raw (-lim) lim
          let m := m.modL k (fun l => { l with iqSp := if m.zeroed k then 0 else v })
          if v = raw then m else m.modL h (fun l => { l with wIq := true })
        else
          let m := m.modL k (fun l => { l with iqSp := iq * wk / w })
          Main.split m d k (m.activeShare k)) m

/-- One fork token of a share hoop: the members it took whose share is still active (R345). -/
def Main.splitToken (m : Main) (h : Nat) (items : List Nat) : Main :=
  m.split 64 h (items.filter (fun k => (m.activeShare h).contains k))

end Sys2Proof.Machine
end

