-- ==== Sys2Proof/Machine/Axis.lean ====
section
/-! DEFINITION. The state machine of axes and hoops (R182-R208, R348-R352): entering each state, the transition of one
instance at a slot boundary in the order of R187, and the commands that complete a timed step of a sequence. -/

namespace Sys2Proof.Machine

/-! ### Entering states -/

/-- R263, R266: shadow mode of an axis ends; the loop's values return 10 µs later. -/
def Main.endShadow (m : Main) (a : Nat) : Main :=
  if (m.ln a).shadow then
    (m.modLn a (fun l => { l with shadow := false, shEnd := some m.now, shPend := none, pend := none })).setObj (pwAddr a O.PW_OPMODE) 0
  else m

/-- The state field changes; the boundary's one transition is used up (R182). -/
def Main.goto (m : Main) (i st : Nat) : Main :=
  m.modC i (fun c => { c with st := st, movedAt := some m.now })

/-- Power off (R182): the PWM outputs go to the safe level, the position at power off is kept for BRAKE_SLIP (R209). -/
def Main.powerOff (m : Main) (i : Nat) : Main :=
  let m := if i < 64 then m.endShadow i else m
  let pos := m.actualPos i
  let m := m.modC i (fun c => { c with power := false, offPos := some pos })
  let m := m.modL i (fun l => { l with id := 0, iq := 0, iqSp := 0, vCmd := 0, overC := 0, wIq := false, wVel := false,
                                       wVmax := false })
  if i < 64 then
    (m.modLn i (fun l => { l with start := none, upT := 0, closed := false, pend := none, shPend := none, shEnd := none, shSet := none })).setObj (instAddr i O.ACTUAL_IQ) 0
  else m

/-- The motion of an instance ends: no move, no queue, no ramp; it holds where it stands. -/
def Main.endMotion (m : Main) (i : Nat) : Main :=
  m.modM i (fun x => { x with plan := none, queue := [], ramp := none, inst := none, held := none, velSp := 0, accSp := 0,
                              torque := 0, vHold := false })

/-- A long operation of the instance ends with a failure at once (R329); a homing that was failing already keeps the code
of its failure (DEDUCED, log 21). -/
def Main.homingOff (m : Main) (i err : Nat) : Main :=
  let code := match (m.i i).home with | some h => h.failCode.getD err | none => err
  (m.opFail i code).modI i (fun x => { x with home := none })

/-- ENABLE and ENABLE_PENDING clear (R188, R197). -/
def Main.clearEnable (m : Main) (i : Nat) : Main :=
  (m.setEnable i false).modC i (fun c => { c with enPending := false, cmd := 0 })

/-- The common part of FAULT and SAFE_OFF: power off, brake engaged, chains out, long operation ended with `err`. -/
def Main.allOff (m : Main) (i err : Nat) : Main :=
  let m := m.powerOff i
  let m := if (m.i i).core.brake then m.setBrake i false else m
  let m := m.homingOff i err
  let m := m.clearEnable i
  let m := m.endMotion i
  let m := if (m.i i).link.st = 0 then m else m.linkIdle i
  m.modC i (fun c => { c with chains := 0, seq := .none, react := 0, faultRst := false })

/-- Entry to FAULT (R204, R208). -/
def Main.toFault (m : Main) (i : Nat) : Main :=
  let m := m.allOff i 0x03
  let m := m.setObj (instAddr i O.FAULT_LAST) (m.io i O.FAULT_CAUSE)
  let m := m.setObj (instAddr i O.FAULT_TIME) m.now
  let m := m.inc (instAddr i O.FAULT_COUNT)
  m.goto i sFault

/-- Entry to SAFE_OFF (R215): any long operation ends with OP_ERROR 0x04, one that was failing too. -/
def Main.toSafeOff (m : Main) (i : Nat) : Main := ((m.opFail i 0x04).allOff i 0x04).goto i sSafeOff

/-- A member of a hoop with the group policy (R350). -/
def Main.grouped (m : Main) (i : Nat) : Bool :=
  match (m.i i).parent with
  | some p => m.io p O.HP_POLICY == 0
  | none => false

/-- The brake engage command (R191, R204): from it AX_BRAKE_ENGAGE_T runs; the position is held (R192). -/
def Main.brakeEngage (m : Main) (i : Nat) : Main :=
  (m.setBrake i false).modC i (fun c => { c with seq := .engage, rampT := m.now })

/-- Zero torque (reaction 3): iq set-point 0 and brake engage command at once. -/
def Main.zeroTorque (m : Main) (i : Nat) : Main :=
  ((m.endMotion i).modL i (fun l => { l with iqSp := 0, vCmd := 0, xv := 0 })).brakeEngage i

/-- The deceleration of a ramping reaction (R204): QSTOP_DEC for 1, PROFILE_DEC for 2. -/
def Main.reactDec (m : Main) (i r : Nat) : Rat := if r = 1 then m.qDec i else m.pDec i

/-- The deceleration of the stop in force, 0 without one (R191, R198). -/
def Main.stopDec (m : Main) (i : Nat) : Rat :=
  match (m.i i).core.stop with | 0 => 0 | 1 => m.pDec i | _ => m.qDec i

/-- A sequence that ramps at `dec` begins (R191, R204). -/
def Main.beginRamp (m : Main) (i : Nat) (dec : Rat) : Main :=
  (m.rampAt i dec).modC i (fun c => { c with seq := .ramp, rampT := m.now })

/-- R198, R201: a hold at the position reached, the torque of MODE 2 from zero. -/
def Main.holdHere (m : Main) (i : Nat) : Main :=
  m.modM i (fun x => { x with plan := none, queue := [], ramp := none, velSp := 0, accSp := 0, torque := 0, vHold := false,
                              held := if m.mode i = 2 then none else some x.posSp })

/-- Entry to FAULT_REACTION with reaction `r` (R204). A member under the group policy keeps its link or share and follows
its hoop: that is its reaction (R351). -/
def Main.toReaction (m : Main) (i r : Nat) : Main :=
  let m := if i < 64 then m.endShadow i else m
  let m := (m.homingOff i 0x03).clearEnable i
  let m := if m.grouped i then m.modC i (fun c => { c with seq := .ramp, rampT := m.now })
    else
      let m := if (m.i i).link.st = 0 then m else m.linkIdle i
      if r = 3 then m.zeroTorque i else m.beginRamp i (m.reactDec i r)
  (m.modC i (fun c => { c with react := r })).goto i sReaction

/-- R349: ENABLE of every member of a hoop is written 0; each disables from standstill by its hoop's reaction `r`. -/
def Main.handDown (m : Main) (h r : Nat) : Main :=
  (m.i h).members.foldl (fun m k => (m.setEnable k false).modC k (fun c =>
    if 2 ≤ c.st ∧ c.st ≤ 4 then { c with cmd := 4 + r }
    else if c.st = sDisabling then { c with enPending := false } else c)) m

/-- DISABLING without a ramp (R191, R200, R204): reaction 0 powers off at once, reaction 3 takes the torque away, any other
holds from the brake engage command on. A hoop's power stage and brake are its members' (R189, R349). -/
def Main.disableAt (m : Main) (i r : Nat) : Main :=
  let m := if i < 64 then m.endShadow i else m
  let m := m.homingOff i 0x03
  let m := if (m.i i).link.st = 0 then m else m.linkIdle i
  let m := match r with
    | 0 => if i < 64 then ((m.powerOff i).setBrake i false).modC i (fun c => { c with seq := .powerOff })
        else (m.endMotion i).brakeEngage i
    | 3 => m.zeroTorque i
    | _ => (m.holdHere i).brakeEngage i
  let m := if i < 64 then m else m.handDown i r
  (m.modC i (fun c => { c with react := r, cmd := 0 })).goto i sDisabling

/-- Entry to DISABLING (R191): the ramp of DISABLE_REACT, or that of the stop in force where it is steeper. -/
def Main.toDisabling (m : Main) (i : Nat) : Main :=
  let r := m.io i O.DISABLE_REACT
  if r = 0 ∨ r = 3 then m.disableAt i r
  else
    let m := if i < 64 then m.endShadow i else m
    let m := m.homingOff i 0x03
    let m := if (m.i i).link.st = 0 then m else m.linkIdle i
    let m := m.beginRamp i (maxQ (m.stopDec i) (m.reactDec i r))
    (m.modC i (fun c => { c with react := r, cmd := 0 })).goto i sDisabling

/-- DISABLING from the brake engage command on (R200). -/
def Main.toDisablingAtRest (m : Main) (i : Nat) : Main := (m.clearEnable i).disableAt i 1

/-- Entry to STOPPING (R198): the ramp of the stop in force. -/
def Main.toStopping (m : Main) (i : Nat) : Main :=
  let m := if i < 64 then m.endShadow i else m
  let m := m.homingOff i 0x03
  let m := if (m.i i).link.st = 0 then m else m.linkIdle i
  ((m.startRamp i (m.stopDec i)).modC i (fun c => { c with seq := .ramp, rampT := m.now })).goto i sStopping

/-- Entry to ENABLING (R190, R196): the loops start from zero, the set-points from the actual values. A hoop sets ENABLE of
every member at the same boundary (R349): of those in READY whose chains are in the ledger. -/
def Main.toEnabling (m : Main) (i : Nat) : Main :=
  let m := m.modC i (fun c => { c with seq := .await, enPending := false, cmd := 0 })
  let m := m.modL i (fun l => { l with xv := 0, xhi := 0, xlo := 0, xd := 0, xq := 0, lpf := {}, notch := {}, wIq := false,
                                       wVel := false, wVmax := false })
  let m := (m.endMotion i).fromActual i
  let m := if i < 64 then m else
    (m.i i).members.foldl (fun m k =>
      if (m.i k).core.st = sReady ∧ (m.i k).core.chains ≠ 0 then
        (m.setEnable k true).modI k (fun x => { x with core := { x.core with cmd := 2 }, isolated := false })
      else m) m
  (m.setEnable i true).goto i sEnabling

/-- Entry to RUN, and to STOPPING at the same boundary where a stop is in force (R202). -/
def Main.toRun (m : Main) (i : Nat) : Main :=
  let m := m.modC i (fun c => { c with seq := .none })
  let m := if 64 ≤ i ∧ m.io i O.HP_KIND = 2 then (m.shareActual i).fromActual i else m
  let m := m.goto i sRun
  if (m.i i).core.stop ≠ 0 then m.toStopping i else m

/-! ### Causes (R203-R206, R350) -/

/-- The causes whose reaction is FAULT_REACT; HOOP among them, where no rule gives it reaction 0 (R350). -/
abbrev configured : Nat :=
  2 ^ cFollowErr + 2 ^ cVelErr + 2 ^ cOverspeed + 2 ^ cStandstill + 2 ^ cI2t + 2 ^ cBrake + 2 ^ cHoop

/-- Severity of a reaction, the most severe first (R206): 0, 3, 1, 2. -/
def severity (r : Nat) : Nat := match r with | 0 => 3 | 3 => 2 | 1 => 1 | _ => 0

/-- The more severe of two reactions. -/
def worse (a b : Nat) : Nat := if severity a < severity b then b else a

/-- The reaction the causes raised since the last boundary call for. -/
def Main.raisedReaction (m : Main) (i : Nat) : Nat :=
  let c := (m.i i).core
  let conf := m.io i O.FAULT_REACT
  if c.raisedR = 9 then conf
  else if (c.raised &&& configured) != 0 then worse c.raisedR conf else c.raisedR

/-- R215, R352: the safe-level signal acts on the instance: on a hoop where it acts on every member that is not isolated, and
until none of these is left in SAFE_OFF; at most `d` levels of nesting down. -/
def Main.safeD (m : Main) : Nat → Nat → Bool
  | 0, i => (m.i i).core.safe
  | d + 1, i =>
    if i < 64 then (m.i i).core.safe
    else
      let on := fun k => (m.i k).core.st == sSafeOff || m.safeD d k
      if (m.i i).core.st = sSafeOff then (m.joined i).any on else !(m.joined i).isEmpty && (m.joined i).all on
/-- The safe-level signal acts on the instance. -/
def Main.safeActs (m : Main) (i : Nat) : Bool := m.safeD 64 i

/-- R350: a member's new cause, or its entry to SAFE_OFF, reaches its hoop by HP_POLICY. -/
def Main.handUp (m : Main) (k : Nat) : Main :=
  let x := m.i k
  let safeNew := m.safeActs k && x.core.st != sSafeOff
  match x.parent with
  | none => m
  | some p =>
    if x.core.raised = 0 ∧ safeNew = false then m
    else if m.io p O.HP_POLICY = 0 then m.raise p cHoop (if safeNew then some 0 else none)
    else
      let m := m.modI k (fun x => { x with isolated := true, core := { x.core with
        raisedR := if x.core.raised ≠ 0 ∧ m.io p O.HP_KIND = 2 then 0 else x.core.raisedR } })
      if (m.i k).link.st = 0 then m else m.linkDrop k

/-- Levels of hoops above an instance. -/
def Main.depth (m : Main) : Nat → Nat → Nat
  | 0, _ => 0
  | d + 1, i => match (m.i i).parent with | some p => Main.depth m d p + 1 | none => 0

/-- The hoops in use, outermost first. -/
def Main.hoopsDown (m : Main) : List Nat :=
  let l := (m.inst.map Prod.fst).filter (fun i => 64 ≤ i)
  (List.range 65).flatMap (fun d => l.filter (fun i => m.depth 64 i == d))

/-- R350: every new cause of a member is handed up, innermost members first. -/
def Main.handUpAll (m : Main) : Main :=
  let hoops := m.hoopsDown.reverse
  let axs := (m.inst.map Prod.fst).filter (fun i => i < 64)
  (axs ++ hoops).foldl (fun m k => m.handUp k) m

/-- R351: member `k` has a cause of its own, recorded or arising at this boundary. -/
def Main.ownCause (m : Main) (k : Nat) : Bool :=
  (m.io k O.FAULT_CAUSE &&& (2 ^ 36 - 1 - 2 ^ cHoop)) != 0 || (m.i k).core.raised != 0

/-- The instance's power stage goes on switching past this boundary; of a hoop that of a member that is not isolated
(R189, R351). -/
def Main.stillOnD (m : Main) : Nat → Nat → Bool
  | 0, _ => false
  | d + 1, i =>
    let c := (m.i i).core
    if i < 64 then c.power && !c.safe && !(c.raised != 0 && m.raisedReaction i == 0)
    else (m.joined i).any (fun k => m.stillOnD d k)
/-- A power stage of the instance is left switching. -/
def Main.stillOn (m : Main) (i : Nat) : Bool := m.stillOnD 65 i

/-- R351: reaction 0 has ended the instance: FAULT, or, for a hoop, FAULT_REACTION until no member is left switching. -/
def Main.endNow (m : Main) (i : Nat) : Main :=
  if 64 ≤ i ∧ m.stillOn i then
    let m := ((m.homingOff i 0x03).clearEnable i).endMotion i
    let m := if (m.i i).link.st = 0 ∨ m.grouped i then m else m.linkIdle i
    (m.modC i (fun c => { c with seq := .engage, react := 0 })).goto i sReaction
  else m.toFault i

/-- The reaction `r` takes over in FAULT_REACTION at standstill: the brake engage command, with zero torque for 3 (R351). -/
def Main.reactAtRest (m : Main) (k r : Nat) : Main :=
  let m := (m.homingOff k 0x03).clearEnable k
  let m := if r = 3 then m.zeroTorque k else m.brakeEngage k
  let m := m.modC k (fun c => { c with react := if r = 3 then 3 else 1 })
  if (m.i k).core.st = sReaction then m else m.goto k sReaction

/-- R351: a hoop's reaction reaches the members that have no cause of their own: HOOP is recorded, and they enter FAULT or
FAULT_REACTION. `r` is the reaction of the hoop; 1 and 2 reach them at its standstill. -/
def Main.memberReact (m : Main) (d h r : Nat) : Main :=
  match d with
  | 0 => m
  | d + 1 => (m.i h).members.foldl (fun m k =>
      let c := (m.i k).core
      if (m.i k).isolated || m.ownCause k || c.st == sFault || c.st == sSafeOff then m
      else if c.st == sReaction && (r == 1 || r == 2 || severity r ≤ severity c.react) then m
      else
        let m := m.orObj (instAddr k O.FAULT_CAUSE) (2 ^ cHoop)
        if r = 0 ∨ c.st ≤ sReady then (Main.memberReact m d k 0).endNow k
        else Main.memberReact (m.reactAtRest k r) d k r) m

/-- R350: the SS1 demand that reaches the instance: a hoop under the group policy takes that of its members. -/
def Main.ss1D (m : Main) : Nat → Nat → Bool
  | 0, i => (m.i i).core.ss1
  | d + 1, i =>
    if i < 64 then (m.i i).core.ss1
    else m.io i O.HP_POLICY == 0 && (m.joined i).any (fun k => m.ss1D d k)
/-- R216, R350: an SS1 demand acts on the instance as a quick stop: not on a grouped member, which follows its hoop. -/
def Main.ss1Acts (m : Main) (i : Nat) : Bool := m.ss1D 64 i && !m.grouped i

/-- The stop that acts: STOP, or a quick stop for an SS1 demand (R91, R216). -/
def Main.stopNow (m : Main) (i : Nat) : Nat := if m.ss1Acts i then 2 else m.io i O.STOP

/-- The sequence that ends DISABLING or FAULT_REACTION is over: power off for an axis, no member switching or left in
DISABLING for a hoop (R349, R351). -/
def Main.seqOver (m : Main) (i : Nat) : Bool :=
  if i < 64 then (m.i i).core.seq == .powerOff
  else (m.i i).core.seq != .ramp && !m.stillOn i &&
    (m.joined i).all (fun k => (m.i k).core.st != sDisabling && (m.i k).core.cmd < 4)

/-- R349: a hoop above the instance is to enable again after its shut-down, so that the instance's chains stay in the
ledger. -/
def Main.pendingAbove (m : Main) : Nat → Nat → Bool
  | 0, _ => false
  | d + 1, i => match (m.i i).parent with
    | some p => ((m.i p).core.st == sDisabling && (m.i p).core.enPending) || m.pendingAbove d p
    | none => false

/-- The chains of an instance at rest leave the ledger, and with a hoop's those of its members at rest (R191, R349). -/
def Main.dropChains (m : Main) : Nat → Nat → Main
  | 0, i => m.modC i (fun c => { c with chains := 0 })
  | d + 1, i =>
    let m := m.modC i (fun c => { c with chains := 0 })
    if i < 64 then m else (m.i i).members.foldl (fun m k => if m.atRest k then Main.dropChains m d k else m) m

/-- DISABLING is over (R191, R196): READY or OFF, or ENABLING again. -/
def Main.disabled (m : Main) (i : Nat) : Main :=
  if (m.i i).core.enPending then m.toEnabling i
  else
    let m := (m.endMotion i).modC i (fun c => { c with seq := .none, power := false })
    let m := m.modL i (fun l => { l with wIq := false, wVel := false, wVmax := false })
    let m := if m.pendingAbove 64 i then m else m.dropChains 64 i
    m.goto i (if m.ready i then sReady else sOff)

/-- Completion of a sequence, the last event of R187. A hoop that has come to standstill passes its shut-down or reaction on
to its members (R349, R351). -/
def Main.completion (m : Main) (i : Nat) : Main :=
  let c := (m.i i).core
  let passOn := fun m : Main => m.modC i (fun c => { c with seq := .engage })
  if c.st = sOff then (if m.ready i then m.goto i sReady else m)
  else if c.st = sReady then (if m.ready i || m.opRuns i 2 || m.opRuns i 3 then m else m.goto i sOff)
  else if c.st = sEnabling then
    (if i < 64 then (if c.seq = .run then m.toRun i else m)
     else if (m.joined i).all (fun k => (m.i k).core.st == sRun) then m.toRun i else m)
  else if c.st = sStopping then
    (if c.seq ≠ .standstill then m
     else if c.stop = 0 then ((m.holdHere i).modC i (fun c => { c with seq := .none })).goto i sRun
     else if 2 ≤ m.io i O.STOP ∧ m.io i O.QSTOP_REACT = 1 then m.toDisablingAtRest i
     else m)
  else if c.st = sDisabling then
    (if c.seq = .standstill then passOn (m.handDown i 1)
     else if m.seqOver i then m.disabled i else m)
  else if c.st = sReaction then
    (if c.seq = .standstill then passOn (m.memberReact 64 i c.react)
     else if m.seqOver i then m.toFault i else m)
  else if c.st = sFault then
    (if c.faultRst then
      let m := m.modC i (fun c => { c with faultRst := false })
      if m.io i O.FAULT_CAUSE = 0 then m.goto i sOff else m
     else m)
  else m

/-- A more severe reaction `r` takes over in FAULT_REACTION (R206): zero torque, on a hoop's members too, or the steeper ramp
of an instance that is still ramping by itself. -/
def Main.escalate (m : Main) (i r : Nat) : Main :=
  let m := if m.grouped i then m
    else if r = 3 then
      let m := m.zeroTorque i
      if i < 64 then m else m.memberReact 64 i 3
    else if (m.i i).core.seq = .ramp then m.rampAt i (m.reactDec i r) else m
  m.modC i (fun c => { c with react := r })

/-- The transition of one instance at a slot boundary: new causes are recorded, and the first applicable event in the order
of R187 is taken, at most one (R182). -/
def Main.transition (m : Main) (i : Nat) : Main :=
  let c := (m.i i).core
  let r := m.raisedReaction i
  let new := c.raised
  let m := if new = 0 then m
    else (m.orObj (instAddr i O.FAULT_CAUSE) new).modC i (fun c => { c with raised := 0, raisedR := 9 })
  if c.movedAt = some m.now then
    -- the boundary's transition is spent: a cause passed over is taken at the next one
    (if new = 0 then m else m.modC i (fun c => { c with raised := new, raisedR := r }))
  else if m.safeActs i ∧ c.st ≠ sSafeOff then m.toSafeOff i
  else if c.st = sSafeOff then
    (if m.safeActs i then m
     else if m.io i O.FAULT_CAUSE = 0 then m.goto i sOff else m.toFault i)
  else if new ≠ 0 ∧ c.st ≠ sFault ∧ (r = 0 ∨ c.st = sOff ∨ c.st = sReady) then
    (if i < 64 then m else m.memberReact 64 i 0).endNow i
  else if new ≠ 0 ∧ 2 ≤ c.st ∧ c.st ≤ 5 then
    let m := m.toReaction i r
    if 64 ≤ i ∧ r = 3 ∧ m.grouped i = false then m.memberReact 64 i 3 else m
  else if new ≠ 0 ∧ c.st = sReaction ∧ severity c.react < severity r then m.escalate i r
  else if c.cmd = 1 ∧ (c.st = sEnabling ∨ c.st = sRun ∨ c.st = sStopping) then m.toDisabling i
  else if 4 ≤ c.cmd ∧ (c.st = sEnabling ∨ c.st = sRun ∨ c.st = sStopping) then m.disableAt i (c.cmd - 4)
  else if c.cmd = 2 ∧ c.st = sReady then m.toEnabling i
  else if c.st = sRun ∧ c.stop ≠ 0 then m.toStopping i
  else m.completion i

/-- The transitions of a list of instances, in order. -/
def Main.transitionAll (m : Main) (l : List Nat) : Main := l.foldl (fun m i => m.transition i) m

/-! ### Steps of the sequences (R190, R191, R193, R349, R351) -/

/-- R190: the steps of enabling that follow at a slot boundary: closing of a share member, brake release, RUN. -/
def Main.enableStep (m : Main) (i : Nat) : Main :=
  let c := (m.i i).core
  if c.st ≠ sEnabling ∨ 64 ≤ i then m
  else
    let m := if c.seq = .closing ∧ c.chains = 1 then m.modC i (fun c => { c with seq := .closed }) else m
    if (m.i i).core.seq = .closed then
      (if m.io i O.AX_BRAKE_OUT = 0xFF then (m.modC i (fun c => { c with seq := .run, brake := true }))
       else (m.setBrake i true).modC i (fun c => { c with seq := .brakeRel, rampT := m.now }))
    else m

/-- Standstill is reached (R193): the stop, disable or reaction goes on at the next slot boundary (R182); an axis that is
shutting down gives its brake engage command now and holds (R191, R192, R204). -/
def Main.standstill (m : Main) (i : Nat) : Main :=
  let c := (m.i i).core
  if c.st = sStopping ∨ 64 ≤ i then (m.holdHere i).modC i (fun c => { c with seq := .standstill })
  else if c.st = sDisabling ∨ c.st = sReaction then
    let m := if m.grouped i ∧ c.st = sReaction then m else m.holdHere i
    m.brakeEngage i
  else m

/-- The ramp that the instance follows has reached zero velocity: its own, or in FAULT_REACTION under the group policy its
hoop's (R351). -/
def Main.rampDone (m : Main) : Nat → Nat → Bool
  | 0, i => (m.i i).motion.ramp.isNone
  | d + 1, i => (m.i i).motion.ramp.isNone &&
      (match (m.i i).parent with
       | some p => !((m.i i).core.st == sReaction && m.grouped i) || m.rampDone d p
       | none => true)

/-- A condition has held since `t` for `ms` milliseconds. -/
def since (t : Option Nat) (ms now : Nat) : Bool := t.any (fun t => decide (t + ms * unitsPerMs ≤ now))

/-- The ramp of a sequence has reached zero, and the speed has stayed at or below SS_VEL for SS_TIME (R193). -/
def Main.atStandstill (m : Main) (i : Nat) : Bool :=
  m.rampDone 64 i && decide ((m.ioI i O.ACTUAL_VEL).natAbs ≤ m.io i O.SS_VEL) &&
    since (m.i i).core.still (m.io i O.SS_TIME) m.now

/-- AX_BRAKE_RELEASE_T or AX_BRAKE_ENGAGE_T (the object at `o`) has run since the brake command (R195). -/
def Main.brakeTime (m : Main) (i o : Nat) : Bool :=
  decide ((m.i i).core.rampT + m.io i o * unitsPerMs ≤ m.now)

/-- BRAKE_RELEASE_END (R190): AX_BRAKE_RELEASE_T after the command the axis enters RUN at the next slot boundary. -/
def execBrakeReleaseEnd (i : InstId) (s : State) : Answered :=
  s.onMain (fun m => if (m.i i).core.st = sEnabling ∧ (m.i i).core.seq = .brakeRel ∧ m.brakeTime i O.AX_BRAKE_RELEASE_T then
    m.modC i (fun c => { c with seq := .run }) else m)

/-- BRAKE_ENGAGE_END (R191, R204): AX_BRAKE_ENGAGE_T after the command power is switched off; the sequence completes at the next slot boundary. -/
def execBrakeEngageEnd (i : InstId) (s : State) : Answered :=
  s.onMain (fun m => if (m.i i).core.seq = .engage ∧ i.val < 64 ∧ m.brakeTime i O.AX_BRAKE_ENGAGE_T then
    (m.powerOff i).modC i (fun c => { c with seq := .powerOff })
   else m)

/-- STOP_TIMEOUT (R207): a ramp has run for AX_STOP_TMAX; the cause acts at the next slot boundary. -/
def execStopTimeout (i : InstId) (s : State) : Answered :=
  s.onMain (fun m =>
    let c := (m.i i).core
    if m.io i O.STOP_TMAX ≠ 0 ∧ (c.st = sStopping ∨ c.st = sDisabling ∨ c.st = sReaction) ∧ c.seq = .ramp
        ∧ c.rampT + m.io i O.STOP_TMAX * unitsPerMs ≤ m.now then
      m.raise i cStopTimeout (some 0) else m)

/-- FOLLOW_ERR (R210). -/
def execFollowErr (i : InstId) (s : State) : Answered :=
  s.onMain (fun m =>
    let lim := m.ioI i O.FE_LIMIT
    let suspended := m.opRuns i 1 && (match (m.i i).home with | some h => h.method == 7 | none => false)
    if 0 < lim ∧ (m.mode i = 0 ∨ m.mode i = 3) ∧ lim.toNat < (m.ioI i O.FOLLOW_ERR).natAbs ∧ suspended = false then
      m.raise i cFollowErr else m)

/-- VEL_ERR (R211). -/
def execVelErr (i : InstId) (s : State) : Answered :=
  s.onMain (fun m =>
    let lim := velQ (m.objW (instAddr i O.VE_LIMIT))
    if 0 < lim ∧ m.mode i = 1 ∧ lim < absQ ((m.i i).loop.vCmd - m.actualVel i) then m.raise i cVelErr else m)

/-- The axes of a safety zone as the main die takes the signal (R459, R476): each zone's line reaches its 32 axes. -/
def zoneAxes (z : Fin 2) : List Nat := (List.range 32).map (fun k => 32 * z.val + k)

/-- SAFE_LEVEL_SIGNAL (R215, R476): while the signal acts, the outputs of the zone's axes are at the safe level; the axes
enter SAFE_OFF at the next slot boundary. -/
def execSafeLevelSignal (zone : Fin 2) (s : State) : Answered :=
  s.onSignal (fun d m =>
    if d.held || (if zone = 0 then d.zone0.signal else d.zone1.signal) then
      forEach (zoneAxes zone) (fun a m => m.modC a (fun c => { c with safe := true, ss1 := false })) m
    else m)

/-- SAFE_LEVEL_SIGNAL_WITHDRAWN (R186, R352): the axes leave SAFE_OFF for FAULT or OFF at the next slot boundary. -/
def execSafeLevelSignalWithdrawn (zone : Fin 2) (s : State) : Answered :=
  s.onSignal (fun d m =>
    if d.held || (if zone = 0 then d.zone0.signal else d.zone1.signal) then m
    else forEach (zoneAxes zone) (fun a m => m.modC a (fun c => { c with safe := false })) m)

/-- SS1_ANNOUNCEMENT (R216, R350, R467): a quick stop of the zone's axes; under the group policy it is handed up. -/
def execSs1Announcement (zone : Fin 2) (s : State) : Answered :=
  s.onSignal (fun d m =>
    if d.held || (if zone = 0 then d.zone0.st else d.zone1.st) != .run then
      forEach (zoneAxes zone) (fun a m => m.modC a (fun c => { c with ss1 := true })) m
    else m)

end Sys2Proof.Machine
end

