-- ==== Sys2Proof/Machine/Loops.lean ====
section
/-! DEFINITION. The loops of the fabric: speed estimation (R291, R292), the electrical angle (R246-R252), the current
chain with its decimators (R234, R243-R245, R222), the position and velocity loops with their monitoring (R210-R214, R217,
R219, R222, R223). Each step is what one token does when it completes. -/

namespace Sys2Proof.Machine

/-- A fraction as the FRAC36 value that holds it. -/
def q36 (q : Rat) : Rat := fracQ (fracWord q)

/-! ### Speed (R291, R292) -/

/-- A speed estimate: speed, SPEED_VALID, STANDSTILL and the span used. -/
structure SpeedEst where
  speed : Rat := 0
  valid : Bool := false
  still : Bool := false
  span  : Nat := 0
  deriving DecidableEq, Repr

/-- The speed over the interval from `ti` to `tk`, in increments per second. -/
def interval (d : Int) (tk ti : Nat) : Rat := (d : Rat) * 4000000000 / ((tk - ti : Nat) : Rat)

/-- R291: the speed at release `s` from the edges of the ring, newest first. -/
def edgeSpeed (ring : List Edge) (s tmax win mtch : Nat) : SpeedEst :=
  match ring.filter (fun e => decide (e.acc ≤ s)) with
  | [] => { still := true }
  | k :: rest =>
    if tmax < s - k.t then { still := true } else
    let run := rest.takeWhile (fun e => e.run == k.run)
    let fits := fun (w : Nat) (e : Edge) => decide (k.t - e.t ≤ w) && sdiff k.p e.p % (max 1 mtch : Nat) == 0
    match run with
    | [] => {}
    | near :: _ =>
      let i := match (run.filter (fits win)).getLast? with
        | some e => e
        | none => match run.find? (fits tmax) with | some e => e | none => near
      let v := interval (sdiff k.p i.p) k.t i.t
      let bound := if s ≤ k.t then absQ v else minQ (absQ v) (4000000000 / ((s - k.t : Nat) : Rat))
      { speed := (signQ v : Rat) * bound, valid := true, span := k.t - i.t }

/-- R292: the estimate in mode 3 from the good reads, newest first. -/
def readSpeed (reads : List (Nat × Int)) (goods s tmax win : Nat) : SpeedEst :=
  match reads with
  | k :: near :: rest =>
    let i := match ((near :: rest).filter (fun e => decide (k.1 - e.1 ≤ win))).getLast? with
      | some e => e
      | none => near
    let v := interval (sdiff k.2 i.2) k.1 i.1
    { speed := v, valid := decide (2 ≤ goods) && decide (s - k.1 ≤ tmax), still := v == 0, span := k.1 - i.1 }
  | _ => { still := true }

/-- R290: a standstill found at release `s` ends the run: the first edge accepted after it begins a new one, an edge that has
come since as much as one still to come. -/
def Port.endRun (q : Port) (s : Nat) : Port :=
  if q.ring.any (fun e => decide (s < e.acc)) then
    { q with run := q.run + 1, ring := q.ring.map (fun e => if s < e.acc then { e with run := e.run + 1 } else e) }
  else { q with newRun := true }

/-- The axis whose feedback gives the target of latch unit `u` (R380): the axis itself, or of a share hoop HP_SHARE_FB. -/
def Main.latchAxis (m : Main) (u : Nat) : Option Nat :=
  match srcOf (m.obj (evAddr u O.EV_LT_TGT)) with
  | .inst i =>
    if i < 64 then some i
    else if m.io i O.HP_KIND = 2 then (memberOf (codeOf (m.io i O.HP_SHARE_FB))).filter (fun a => decide (a < 64))
    else none
  | _ => none

/-- R380: the release `s` of axis `a` gives the velocity of the edges that await capture on it and came before it. -/
def Main.latchVel (m : Main) (a s : Nat) : Main :=
  forEach (List.range 32) (fun u m =>
    if (m.lt u).waiting.isEmpty ∨ m.latchAxis u ≠ some a then m
    else m.modLt u (fun x => { x with waiting := x.waiting.map (fun e =>
      if e.vel.isNone ∧ e.t < s then { e with vel := some (m.objW (instAddr a O.ACTUAL_VEL)) } else e) })) m

/-- SPEED_ESTIMATION of an axis at release `s`: the position and the speed of its port, the nearest VEL36 value (R291). -/
def Main.speedStep (m : Main) (a s : Nat) : Main :=
  let q := m.pt a
  let win := m.obj (fbAddr a O.FB_SPD_WIN) * unitsPerUs
  let tmax := m.obj (fbAddr a O.FB_SPD_TMAX) * unitsPerMs
  let e : SpeedEst := match m.obj (fbAddr a O.FB_MODE) with
    | 1 => edgeSpeed q.ring s tmax win (m.obj (fbAddr a O.FB_SPD_MATCH))
    | 2 => edgeSpeed q.ring s tmax win (m.obj (fbAddr a O.FB_SPD_MATCH))
    | 3 => readSpeed q.reads q.goods s tmax win
    | _ => { still := true }
  let w : Word := wordOf (max (-(2 ^ 35)) (min (2 ^ 35 - 1) (rounded (e.speed * 256))))
  let m := m.modPt a (fun p => { (if e.still then p.endRun s else p) with
    speed := velQ w, valid := e.valid, still := e.still, span := e.span })
  let m := m.setObj (instAddr a O.ACTUAL_VEL) w.toNat
  let m := m.setObj (fbAddr a O.FB_SPD_SPAN) (e.span % 2 ^ 36)
  (m.setActual a (m.objI (fbAddr a O.FB_POS))).latchVel a s

/-! ### The electrical angle (R246-R252) -/

/-- ω_e in turns per second (R243). -/
def Main.elecSpeed (m : Main) (a : Nat) : Rat :=
  let n := m.obj (pwAddr a O.PW_ENC_PER_REV)
  let p := m.io a O.AX_POLE_PAIRS
  if n = 0 then Config.elecSpeed (m.actualVel a) p else m.actualVel a * p / n

/-- R247: the encoder angle of a count modulo PW_ENC_PER_REV, in units of 1/65 536 turn. -/
def Main.encAngle (m : Main) (a : Nat) (count : Int) : Int :=
  let n := m.obj (pwAddr a O.PW_ENC_PER_REV)
  if n = 0 then 0
  else ((count - m.obj (pwAddr a O.PW_COMM_OFFSET)) * m.io a O.AX_POLE_PAIRS % n) * 65536 / n

/-- R248: the Hall angle in turns at release `s`; none while no legal sector is known. -/
def Main.hallAngle (m : Main) (a s : Nat) : Option Rat :=
  let h := m.hallPort a
  let q := m.pt h
  let ofs : Rat := (m.obj (pwAddr a O.PW_HALL_OFFSET) : Rat) / 65536
  match q.sector with
  | none => none
  | some k =>
    let lo : Rat := (k : Rat) / 6 + ofs
    let mid := lo + 1 / 12
    if m.objB (pwAddr a O.PW_HALL_INTERP) then
      match q.ring with
      | [] => some mid
      | e :: _ =>
        -- the edge into the sector: at its lower end where the sectors rise
        let up := e.neg == m.objB (fbAddr h O.FB_DIR)
        let edge := if up then lo else lo + 1 / 6
        some (clampQ (edge + m.elecSpeed a * (secs s - secs e.t)) lo (lo + 1 / 6))
    else some mid

/-- The angle θ(S) by PW_COMM_SRC (R246, R249, R251); where none is known the angle of the release before stands. -/
def Main.theta (m : Main) (a s : Nat) : Rat :=
  let enc : Rat := (m.encAngle a (m.pt a).encS : Rat) / 65536
  let hall := match m.hallAngle a s with | some h => frac h | none => (m.ln a).angle
  match m.obj (pwAddr a O.PW_COMM_SRC) with
  | 1 => hall
  | 2 => if m.objB (pwAddr a O.PW_COMM_VALID) then enc else hall
  | 3 => enc
  | 4 => enc
  | _ => 0

/-! ### Decimators (R234-R236) -/

/-- `n` choose 2. -/
def choose2 (n : Nat) : Int := (n * (n - 1) / 2 : Nat)

/-- The weight of bit `k` of the 3M − 2 bits of a sinc3 filter with ratio `M`. -/
def sinc3 (ratio k : Nat) : Int :=
  choose2 (k + 2) - (if ratio ≤ k then 3 * choose2 (k + 2 - ratio) else 0)
    + (if 2 * ratio ≤ k then 3 * choose2 (k + 2 - 2 * ratio) else 0)

/-- R234: r = 2δ − 1 over the newest 3M − 2 of the bits given, oldest first. -/
def decimate (ratio : Nat) (bits : List Bool) : Rat :=
  let n := 3 * ratio - 2
  let used := bits.drop (bits.length - n)
  let ones := used.zipIdx.foldl (fun t b => if b.1 then t + sinc3 ratio b.2 else t) (0 : Int)
  2 * (ones : Rat) / ((ratio : Rat) ^ 3) - 1

/-- R234: the current of one phase, saturated to FRAC36. -/
def Main.phaseCurrent (m : Main) (a ratio ofs : Nat) (bits : List Bool) : Rat :=
  let r := q36 (decimate ratio bits)
  q36 (gainQ (m.objW (pwAddr a O.PW_SD_GAIN)) * (r - fracQ (m.objW (pwAddr a ofs))))

/-- The modulator clock period of an axis. -/
def Main.mclk (m : Main) (a : Nat) : Nat := m.obj (O.DV_MCLKc_PERIOD + m.obj (pwAddr a O.PW_SD_CLK))

/-- R233: how far into its period clock `c` stands at extended time `t`, its rising edge being 0. An aligned clock rises DLY
before each slot boundary, another from the release of core reach on, where the time base stands at 0 (log 123). -/
def Main.mclkPhase (m : Main) (c t : Nat) : Nat :=
  let p := max 1 (m.obj (O.DV_MCLKc_PERIOD + c))
  if 40000 % p = 0 then (t + m.obj (O.DV_MCLKc_DLY + c)) % 2 ^ 36 % p else t % p

/-- R232, R234: the output age at release `s`: from the newest sampling instant, the edge of PW_SD_EDGE plus DLY. -/
def Main.sdAge (m : Main) (a s : Nat) : Nat :=
  let c := m.obj (pwAddr a O.PW_SD_CLK)
  let p := max 1 (m.mclk a)
  let after := m.obj (O.DV_MCLKc_DLY + c) + (if m.obj (pwAddr a O.PW_SD_EDGE) = 0 then 0 else p / 2)
  ((m.mclkPhase c s : Int) - after).emod p |>.toNat

/-- The bits that the decimators of axis `a` take up to `t`, oldest first: those sampled since the bits before them go to the
acquisition (R407); SD(2n+1) is not used where AX_MOTOR_TYPE is 2 (R232). -/
def Main.takeRaw (m : Main) (a t : Nat) (bitsU bitsV : List Bool) : Main :=
  let per := max 1 (m.mclk a)
  let newest := t - m.sdAge a t
  let n := (newest - (m.i a).loop.rawT) / per
  let new := fun (b : List Bool) => b.drop (b.length - n)
  let m := (m.modL a (fun l => { l with rawT := max l.rawT newest })).aqRaw (2 * a) (new bitsU) newest per
  if m.io a O.AX_MOTOR_TYPE = 2 then m else m.aqRaw (2 * a + 1) (new bitsV) newest per

/-! ### The current chain (R243-R245, R222, R250) -/

/-- R227: KP and KI of an axis of the current loop for its inductance `l`, after `n` reductions of the bandwidth by 20%. -/
def Main.tuned (m : Main) (a l n : Nat) : Rat × Rat :=
  let bw : Rat := (m.io a O.AX_AT_BW : Rat) * (4 / 5) ^ n / invTwoPi
  let unit : Rat := (m.io a O.AX_I_FULL : Rat) / (m.io a O.AX_V_FULL : Rat)
  (bw * ((l : Rat) / 1000000000) * unit, bw * ((m.io a O.AX_RS : Rat) / 1000000) * unit / 1000)

/-- The references and gains of the current loop at one release: of d, then of q. -/
structure CurLoop where
  refD : Rat
  refQ : Rat
  kpD  : Rat
  kiD  : Rat
  kpQ  : Rat
  kiQ  : Rat

/-- The references and gains in force: alignment imposes its own current (R250); auto-tune steps the current of the axis under
test between plus and minus AX_AT_LEVEL with the gains of its present try (R227): which way a step goes at a release no rule
states (log 13). -/
def Main.curLoop (m : Main) (a : Nat) : CurLoop :=
  let c := (m.i a).core
  let g := fun n => gainQ (m.objW (instAddr a n))
  let own : CurLoop := { refD := fracQ (m.objW (instAddr a O.AX_ID_REF)), refQ := (m.i a).loop.iqSp, kpD := g O.AX_CD_KP,
                         kiD := g O.AX_CD_KI, kpQ := g O.AX_CQ_KP, kiQ := g O.AX_CQ_KI }
  if m.opRuns a 3 then
    let o := m.lop a
    let lvl := fracQ (m.objW (instAddr a O.AX_AT_LEVEL))
    let ref := if Config.freeBool m.fresh then lvl else -lvl
    let t := m.tuned a (m.io a (if o.result.isEmpty then O.AX_LD else O.AX_LQ)) o.param
    if o.result.isEmpty then { own with refD := ref, refQ := 0, kpD := t.1, kiD := t.2 }
    else { own with refD := 0, refQ := ref, kpQ := t.1, kiQ := t.2 }
  else if c.seq = .align1 ∨ c.seq = .align2 then { own with refD := fracQ (m.objW (pwAddr a O.PW_ALIGN_LEVEL)), refQ := 0 }
  else if c.seq = .closing ∨ c.seq = .await ∨ c.seq = .settling then { own with refQ := 0 }
  else own

/-- The values of the chain released at `s` reach the compare bank and its integrators move: they are for an update point at
or after PWM start plus AX_GATE_SETTLE (R262), outside shadow mode and 10 µs after its end (R263, R266). Identification and
auto-tune, which are no enabling sequence, need the power stage only. -/
def Main.loopCloses (m : Main) (a s : Nat) : Bool :=
  let l := m.ln a
  let at_ := s + m.lead a
  (if m.opRuns a 2 || m.opRuns a 3 then (m.i a).core.power
   else match l.start with
    | some t0 => decide (t0 + m.io a O.AX_GATE_SETTLE * unitsPerUs ≤ at_)
    | none => false) &&
    !l.shadow && (match l.shEnd with | some e => decide (e + 40000 ≤ at_) | none => true)

/-- One integrating regulator of R222: the unclamped output and the new integrator. -/
def regulator (kp ki tc ref act x lim : Rat) : Rat × Rat :=
  let e := ref - act
  let u := kp * e + x
  (u, if absQ u ≤ lim ∨ signQ e ≠ signQ u then x + ki * e * tc else x)

/-- The current loop of R222: v_d, v_q, the integrators, and whether the voltage limit acts. -/
def Main.dqLoop (m : Main) (a : Nat) (id iq : Rat) : Rat × Rat × Rat × Rat × Bool :=
  let p := m.curLoop a
  let l := (m.i a).loop
  let tc : Rat := (m.curPeriod a : Rat) / 100
  let vmax := fracQ (m.objW (instAddr a O.AX_VMAX))
  let dc := m.io a O.AX_MOTOR_TYPE = 2
  let d := if dc then (0, l.xd) else regulator p.kpD p.kiD tc p.refD id l.xd vmax
  let we := m.elecSpeed a
  let scale : Rat := (m.io a O.AX_I_FULL : Rat) / (m.io a O.AX_V_FULL : Rat) / 1000000000
  let dec := m.io a O.AX_DECOUPLE = 1 ∧ ¬ dc
  let ud := if dec then d.1 - we * m.io a O.AX_LQ * iq * scale else d.1
  let vd := q36 (clampQ ud (-vmax) vmax)
  let lim := sqrtQ (vmax * vmax - vd * vd)
  let lim := if vd = 0 then vmax else lim
  let q := regulator p.kpQ p.kiQ tc p.refQ iq l.xq lim
  let uq := if dec then q.1 + we * m.io a O.AX_LD * id * scale else q.1
  let vq := q36 (clampQ uq (-lim) lim)
  (vd, vq, d.2, q.2, decide (vmax < absQ ud ∨ lim < absQ uq))

/-- 1/√3 and √3/2 as the loops use them. -/
def root3 : Rat := sqrtQ 3

/-- R243: the three duties of a PMSM axis from v_d and v_q. -/
def Main.focDuties (m : Main) (a : Nat) (th vd vq iu iv : Rat) : Rat × Rat × Rat :=
  let va := vd * cosT th - vq * sinT th
  let vb := vd * sinT th + vq * cosT th
  let vfull : Rat := m.io a O.AX_V_FULL
  let vdt : Rat := m.obj (pwAddr a O.PW_VDT)
  let comp := fun (u i : Rat) => u + (signQ i : Rat) * vdt / vfull
  let uu := comp va iu
  let uv := comp (-va / 2 + vb * root3 / 2) iv
  let uw := comp (-va / 2 - vb * root3 / 2) (-(iu + iv))
  let z := if m.obj (pwAddr a O.PW_MOD) = 1 then -(maxQ uu (maxQ uv uw) + minQ uu (minQ uv uw)) / 2 else 0
  let duty := fun (u : Rat) => clampQ (1 / 2 + (u + z) * vfull / (m.obj (pwAddr a O.PW_VBUS) : Rat)) 0 1
  (duty uu, duty uv, duty uw)

/-- CURRENT_LOOP of axis `a` released at `s`, with the bits of its two sigma-delta inputs up to `s`, oldest first. -/
def Main.currentStep (m : Main) (a s : Nat) (bitsU bitsV : List Bool) : Main :=
  let dc := m.io a O.AX_MOTOR_TYPE = 2
  let ratio := m.obj (pwAddr a O.PW_OSR_LOOP)
  let iu := m.phaseCurrent a ratio O.PW_SD_OFS_U bitsU
  let iv := if dc then 0 else m.phaseCurrent a ratio O.PW_SD_OFS_V bitsV
  let age := m.sdAge a s
  let m := m.setObj (pwAddr a O.PW_SD_AGE) age
  let m := m.setObj (pwAddr a O.PW_I_U) (fracWord iu).toNat
  let m := if dc then m else m.setObj (pwAddr a O.PW_I_V) (fracWord iv).toNat
  let m := m.takeRaw a s bitsU bitsV
  -- the angle
  let c := (m.i a).core
  let th : Rat := if dc then 0 else if c.seq = .align1 then 1 / 4 else if c.seq = .align2 then 0 else m.theta a s
  let comp := m.objB (pwAddr a O.PW_ANGLE_COMP) && c.seq != .align1 && c.seq != .align2
  let we := m.elecSpeed a
  let ths := if comp then th - we * secs (m.groupDelay a) else th
  let thu := if comp then th + we * (secs (m.lead a) + secs (m.obj (pwAddr a O.PW_PERIOD)) / 2) else th
  let ib := if dc then 0 else (iu + 2 * iv) / root3
  let id := if dc then 0 else q36 (iu * cosT ths + ib * sinT ths)
  let iq := if dc then iu else q36 (-iu * sinT ths + ib * cosT ths)
  -- the voltages: the loop's, or those of identification (log 13)
  let probing := m.opRuns a 2
  let r := m.dqLoop a id iq
  let pr := Config.probe (m.objW (instAddr a O.AX_ID_LEVEL)) m.fresh
  let v := if probing then (q36 pr.1, q36 pr.2) else (r.1, r.2.1)
  let m := if probing || m.opRuns a 3 then { m with fresh := m.fresh + 1 } else m
  let closes := m.loopCloses a s
  let m := m.modL a (fun l => { l with
    id := id, iq := iq, relT := s
    xd := if closes && !probing then r.2.2.1 else l.xd
    xq := if closes && !probing then r.2.2.2.1 else l.xq
    wVmax := closes && !probing && r.2.2.2.2 })
  let m := m.setObj (instAddr a O.ACTUAL_IQ) (if c.power then (fracWord iq).toNat else 0)
  let m := m.setObj (pwAddr a O.PW_ANGLE) ((frac th * 65536).floor.toNat % 65536)
  let m := m.modLn a (fun l => { l with angle := frac th })
  if !closes then m else
  let at_ := s + m.lead a
  let set : CmpSet := if dc then
      let du := clampQ (1 / 2 + v.2 * (m.io a O.AX_V_FULL : Rat) / (2 * (m.obj (pwAddr a O.PW_VBUS) : Rat))) 0 1
      let w := dutyWord du
      { u := w, v := BitVec.ofNat 36 (2 ^ 35 - w.toNat), w := 0, at_ := at_ }
    else
      let d := m.focDuties a thu v.1 v.2 iu iv
      { u := dutyWord d.1, v := dutyWord d.2.1, w := dutyWord d.2.2, at_ := at_ }
  m.modLn a (fun l => { l with pend := some set })

/-! ### Position and velocity loops (R210-R214, R217, R219, R222, R223, R230, R343) -/

/-- A loop parameter: the axis's object, or the share hoop's. -/
def Main.par (m : Main) (i ax hp : Nat) : Word := m.objW (instAddr i (if i < 64 then ax else hp))

/-- The velocity-loop period in ms (R220, R345). -/
def Main.velMs (m : Main) (i : Nat) : Rat :=
  ((if i < 64 then m.velPeriod i else m.io i O.HP_PERIOD : Nat) : Rat) / 100

/-- R213: STANDSTILL_CHECK. -/
def Main.standstillCheck (m : Main) (i : Nat) : Main :=
  let win := m.ioI i O.SS_WINDOW
  match (m.i i).motion.held with
  | some h =>
    if 0 < win ∧ m.holding i ∧ (win : Rat) < absQ (m.posDiff i ((m.actualPos i : Rat) - h)) then
      m.raise i cStandstill else m
  | none => m

/-- POSITION_LOOP at release `s` (R222, R210). -/
def Main.positionStep (m : Main) (i s : Nat) : Main :=
  let mo := (m.i i).motion
  let e := m.posDiff i (mo.posSp - m.actualPos i)
  let kp := gainQ (m.par i O.AX_PP_KP O.HP_PP_KP)
  let vff := gainQ (m.par i O.AX_PP_VFF O.HP_PP_VFF)
  let lim := velQ (m.objW (instAddr i O.VEL_LIMIT))
  -- MODE 1 too: R222 runs the position loop in modes 0, 1 and 3; R217 has it for holding only (DEDUCED, log 121)
  let raw := kp * e + vff * mo.velSp
  let v := clampQ raw (-lim) lim
  let md := m.mode i
  let m := m.setObjI (instAddr i O.FOLLOW_ERR) (if md = 0 ∨ md = 3 then rnd e else 0)
  let m := m.modL i (fun l => { l with vCmd := v, wVel := v != raw, outT := s })
  m.standstillCheck i

/-- R214: I2T_UPDATE with λ's decay over `t` ms; `i2` is the square of the relative current. -/
def Main.i2tStep (m : Main) (a : Nat) (t i2 : Rat) : Main :=
  let tau := m.io a O.AX_I2T_TAU
  let lam := if tau = 0 then 0 else let l := (m.i a).loop.lambda; l + t / tau * (i2 - l)
  let level := min (1000 * lam).floor.toNat 65535
  let m := m.setObj (instAddr a O.AX_I2T_LEVEL) level
  let fault := decide (1000 ≤ level) && m.io a O.AX_I2T_MODE != 0
  let m := m.modL a (fun l => { l with
    lambda := lam
    fold := if level < 950 then false else l.fold || (decide (1000 ≤ level) && m.io a O.AX_I2T_MODE == 0) })
  if fault then m.raise a cI2t else m

/-- R212: OVERSPEED at two consecutive velocity-loop releases. -/
def Main.overspeedStep (m : Main) (i : Nat) : Main :=
  let lim := m.ioI i O.OVERSPEED
  let fast := decide (0 < lim) && decide (lim.toNat < (m.ioI i O.ACTUAL_VEL).natAbs)
  let n := (m.i i).loop.overC
  let m := m.modL i (fun l => { l with overC := if fast then min 2 (n + 1) else 0 })
  if fast && decide (1 ≤ n) then m.raise i cOverspeed else m

/-- One run of the velocity loop of R222: the clamped output, the new integrator, whether the clamp acts. -/
def Main.velocityRun (m : Main) (i : Nat) (cmd x lim aff : Rat) : Rat × Rat × Bool :=
  let scale := velQ (m.par i O.AX_VEL_SCALE O.HP_VEL_SCALE)
  let e := if scale = 0 then 0 else (cmd - m.actualVel i) / scale
  let kp := gainQ (m.par i O.AX_VP_KP O.HP_VP_KP)
  let ki := gainQ (m.par i O.AX_VP_KI O.HP_VP_KI)
  let u := kp * e + x + aff
  let x' := if absQ u < lim ∨ signQ e ≠ signQ u then clampQ (x + ki * e * m.velMs i) (-lim) lim else x
  (clampQ u (-lim) lim, x', decide (lim < absQ u))

/-- The pole of the low-pass of R223 that has its zero coefficient at `z` and its -3 dB point where the cosine of the angle
per sample is `c`. -/
def lpfPole (z c : Rat) : Rat :=
  let h := 2 * (1 - 2 * z * (1 - z) * (1 - c)) - 1
  if h = 0 then 0 else (h + 1 - c - sqrtQ ((h + 1 - c) * (h + 1 - c) - h * h)) / h

/-- R223: a first-order low-pass with unit gain at rest and its -3 dB point at `turns` of a turn per sample. Where its zero
lies no rule states: a free value from 0 to 1/2 (log 12). -/
def lowPass (turns : Rat) (f : Filt) (u : Rat) : Rat × Filt :=
  let z := clampQ Config.lpfZero 0 (1 / 2)
  let p := lpfPole z (cosT turns)
  let y := p * f.b + (1 - p) * ((1 - z) * u + z * f.a)
  (y, { a := u, b := y })

/-- R223: a second-order notch of infinite depth at `turns` per sample, its -3 dB points `bw` turns per sample apart: half the
input and half its all-pass, which agrees with it everywhere but turns it over at the notch. -/
def notchFilter (turns bw : Rat) (f : Filt) (u : Rat) : Rat × Filt :=
  let k2 := (cosT (bw / 2) - sinT (bw / 2)) / (cosT (bw / 2) + sinT (bw / 2))
  let k := -cosT turns * (1 + k2)
  let w := u - k * f.a - k2 * f.b
  ((u + (k2 * w + k * f.a + f.b)) / 2, { a := w, b := f.a })

/-- The filters of R223 on the velocity-loop output of an axis: each is left out where its frequency is 0. -/
def Main.iqFilter (m : Main) (i : Nat) (u : Rat) : Rat × Loop :=
  let l := (m.i i).loop
  if 64 ≤ i then (u, l) else
  let turns := fun num => (m.io i num : Rat) * m.velPeriod i / 100000
  let a := if m.io i O.AX_IQ_LPF = 0 then (u, l.lpf) else lowPass (turns O.AX_IQ_LPF) l.lpf u
  let b := if m.io i O.AX_NOTCH_F = 0 then (a.1, l.notch)
    else notchFilter (turns O.AX_NOTCH_F) (turns O.AX_NOTCH_BW) l.notch a.1
  (b.1, { l with lpf := a.2, notch := b.2 })

/-- R319, R321: the velocity limiter's bound towards a side is 0 in MODE 2. -/
def Main.bound0 (m : Main) (i : Nat) (neg : Bool) : Bool :=
  m.blocked i neg || (m.vlimOn i neg &&
    (if neg then decide (m.actualPos i ≤ m.ioI i O.VLIM_NEG) else decide (m.ioI i O.VLIM_POS ≤ m.actualPos i)))

/-- A member of a share hoop, whose q-current set-point is the split's (R343). -/
def Main.shareMember (m : Main) (i : Nat) : Bool :=
  match (m.i i).parent with
  | some h => m.io h O.HP_KIND == 2
  | none => false

/-- VELOCITY_LOOP of axis or share hoop `i` (R222; in MODE 2 R219, R230, outside RUN a zero or ramping set-point, R190,
R198). -/
def Main.velocityStep (m : Main) (i s : Nat) : Main :=
  if m.shareMember i then m else
  let m := if m.mode i = 2 then m.modM i (fun x => { x with left := some (m.ioI i O.POS_CONT, m.actualVel i, s) }) else m
  let x0 := (m.i i).loop
  let icont := fracQ (m.objW (instAddr i O.AX_I_CONT))
  let sq := (x0.id * x0.id + x0.iq * x0.iq) / (icont * icont)
  let m := if i < 64 then m.i2tStep i (m.velMs i) sq else m
  let m := m.overspeedStep i
  let lim := if i < 64 ∧ (m.i i).loop.fold then icont else fracQ (m.par i O.AX_IQ_LIMIT O.HP_IQ_LIMIT)
  let lim := match (m.i i).home with
    | some h => if h.step = 7 then minQ lim (fracQ (m.objW (instAddr i O.HOME_IQ))) else lim
    | none => lim
  let mo := (m.i i).motion
  let torque := m.mode i == 2 && (m.i i).core.st == sRun && mo.ramp.isNone && !mo.vHold
  if torque then
    let vl := velQ (m.objW (instAddr i O.VEL_LIMIT))
    let hi := m.velocityRun i (if m.bound0 i false then 0 else vl) x0.xhi lim 0
    let lo := m.velocityRun i (if m.bound0 i true then 0 else -vl) x0.xlo lim 0
    let step : Rat := (m.io i O.TORQUE_SLOPE : Rat) / 1000 * m.velMs i
    let tgt := fracQ (m.objW (instAddr i O.TARGET_TORQUE))
    let tq := clampQ tgt (mo.torque - step) (mo.torque + step)
    let iq := q36 (clampQ tq lo.1 hi.1)
    let m := m.modM i (fun x => { x with torque := tq })
    m.modL i (fun l => { l with xhi := hi.2.1, xlo := lo.2.1, iqSp := iq, vCmd := 0, wIq := hi.2.2 && lo.2.2, wVel := iq != q36 tq })
  else
    -- in MODE 2 a stop or disable ramps the velocity set-point itself
    let m := if m.mode i = 2 then
        (match mo.ramp with
         | some r =>
           let e := r.eval (secs s)
           (m.modM i (fun x => { x with velSp := e.v, posT := s, ramp := if e.v = 0 then none else x.ramp })).modL i
             (fun l => { l with vCmd := e.v, wVel := false })
         | none => m.modL i (fun l => { l with vCmd := 0, wVel := false }))
      else m
    let accFull := accQ (m.objW (instAddr i O.AX_ACC_FULL))
    let aff := if 64 ≤ i ∨ accFull = 0 then 0
      else gainQ (m.objW (instAddr i O.AX_VP_AFF)) * (m.i i).motion.accSp / accFull
    let r := m.velocityRun i (m.i i).loop.vCmd x0.xv lim aff
    let f := m.iqFilter i r.1
    m.modL i (fun _ => { f.2 with xv := r.2.1, wIq := r.2.2, iqSp := if m.zeroed i then 0 else q36 f.1 })

end Sys2Proof.Machine
end

