-- ==== Sys2Proof/Machine/Drive.lean ====
section
/-! DEFINITION. The PWM generator (R253-R267), the steps of enabling that belong to it (R190, R250, R262), the fast trips
(R236-R242) and the handling of missed deadlines (R63-R66). -/

namespace Sys2Proof.Machine

/-! ### Widths (R257-R259, R265) -/

/-- R257: the active width of a duty for a period, and whether REFRESH_CLAMP is set. -/
def compareWidth (period refresh : Nat) (duty : Word) : Nat × Bool :=
  let d := (dutyCode duty).toNat
  if d = 0 then (0, false)
  else if d = hold36 then (hold36, false)
  else
    let c := (d * period + 2 ^ 34) / 2 ^ 35
    if period - refresh < c then (period - refresh, decide (d < 0x800000000)) else (c, false)

/-- R265: a shadow width against the period in force: the width, SH_CLAMP and REFRESH_CLAMP. -/
def shadowWidth (period refresh w : Nat) : Nat × Nat :=
  if w = hold36 then (w, 0)
  else if period ≤ w then (period - refresh, 1)
  else if period - refresh < w then (period - refresh, 2)
  else (w, 0)

/-- R258: the active time of a centre-aligned or edge-aligned pulse between widths `c1` and `c2`. -/
def pulseWidth (align period c1 c2 : Nat) : Nat :=
  if align = 0 then c1 else period - (period - c1) / 2 - (period - c2) / 2

/-- R259: the pulse of one phase is removed. -/
def tooNarrow (align period minPulse c1 c2 : Nat) : Bool :=
  c1 != hold36 && c2 != hold36 && !(c1 == 0 && c2 == 0) && decide (pulseWidth align period c1 c2 < minPulse)

/-- A width as the duty it stands for (R260, in shadow mode). -/
def widthDuty (period w : Nat) : Word :=
  if w = hold36 then BitVec.ofNat 36 hold36 else dutyWord ((w : Rat) / period)

/-- The update interval U (R254). -/
def Main.updInterval (m : Main) (a : Nat) : Nat :=
  let t := m.obj (pwAddr a O.PW_PERIOD)
  if m.obj (pwAddr a O.PW_UPDATE) = 1 then t / 2 else t

/-- Set PW_FLAGS bits. -/
def Main.pwFlag (m : Main) (a mask : Nat) : Main := if mask = 0 then m else m.orObj (pwAddr a O.PW_FLAGS) mask

/-- The widths of a lane take new values; the ones before become c1 of the period in progress (R258). -/
def Main.setWidths (m : Main) (a u v w : Nat) : Main :=
  m.modLn a (fun l => { l with wU0 := l.wU, wV0 := l.wV, wW0 := l.wW, wU := u, wV := v, wW := w })

/-- R259 at the update point that completes a pulse: a mid-period with PW_UPDATE 1 in normal service, else the boundary. -/
def Main.pulseCheck (m : Main) (a : Nat) : Main :=
  let l := m.ln a
  let half := decide (m.obj (pwAddr a O.PW_UPDATE) = 1) && !l.shadow && l.shEnd.isNone
  let t := tooNarrow (m.obj (pwAddr a O.PW_ALIGN)) l.period (m.obj (pwAddr a O.PW_MIN_PULSE))
  if half && !l.mid then m
  else
    let c := fun (c0 c1 : Nat) => if l.mid then t c0 c1 else t c1 c1
    if c l.wU0 l.wU ∨ c l.wV0 l.wV ∨ c l.wW0 l.wW then m.pwFlag a 4 else m

/-- A value set is in force from an update point of normal service on: its widths, and the duties shown (R256, R257, R260). -/
def Main.takeSet (m : Main) (a : Nat) (c : CmpSet) : Main :=
  let t := (m.ln a).period
  let r := m.obj (pwAddr a O.PW_REFRESH)
  let u := compareWidth t r c.u
  let v := compareWidth t r c.v
  let w := compareWidth t r c.w
  let m := m.pwFlag a (if u.2 || v.2 || w.2 then 2 else 0)
  (m.setWidths a u.1 v.1 w.1).modLn a (fun l => { l with duty := { c with
    u := dutyCode c.u, v := dutyCode c.v, w := dutyCode c.w } })

/-- The loop's values waiting for an update point up to `t` take effect there (R256); else the duties in force stay, and
R257 applies to them again. -/
def Main.takeLoop (m : Main) (a t : Nat) : Main :=
  let l := m.ln a
  match l.pend with
  | some c => if c.at_ ≤ t then (m.modLn a (fun l => { l with pend := none, closed := true })).takeSet a c
      else m.takeSet a l.duty
  | none => m.takeSet a l.duty

/-- A shadow boundary at `t` (R264, R265): the set committed last takes effect, and the widths of the set in force are limited
to the period. A set complete less than 40 ns before the boundary lands there or at the next one (R261, log 15). Output W of a
motor of type 2 does not switch (R245). -/
def Main.shadowBoundary (m : Main) (a t : Nat) : Main :=
  let late := match (m.ln a).shPend with | some c => decide (t < c.at_ + 160) | none => false
  let skip := match (m.ln a).shPend with
    | some c => decide (t < c.at_) || (late && Config.freeBool m.fresh)
    | none => true
  let m := if late then { m with fresh := m.fresh + 1 } else m
  let m := if skip then m else
    match (m.ln a).shPend with
    | some c => m.modLn a (fun l => { l with period := c.period, shPend := none, shSet := some c })
    | none => m
  let l := m.ln a
  let set := l.shSet.getD { u := BitVec.ofNat 36 l.wU, v := BitVec.ofNat 36 l.wV, w := BitVec.ofNat 36 l.wW }
  let r := m.obj (pwAddr a O.PW_REFRESH)
  let u := shadowWidth l.period r set.u.toNat
  let v := shadowWidth l.period r set.v.toNat
  let w := if m.io a O.AX_MOTOR_TYPE = 2 then (0, 0) else shadowWidth l.period r set.w.toNat
  let m := (m.pwFlag a (u.2 ||| v.2 ||| w.2)).setWidths a u.1 v.1 w.1
  m.modLn a (fun l => { l with
    duty := { u := widthDuty l.period u.1, v := widthDuty l.period v.1, w := widthDuty l.period w.1, at_ := t } })

/-- R262: PWM start: PW_START_DUTY on every switching phase, or the loop's values where they take over at once. -/
def Main.pwmStart (m : Main) (a t : Nat) : Main :=
  let d := m.objW (pwAddr a O.PW_START_DUTY)
  let m := m.modLn a (fun l => { l with
    upT := t, mid := false, closed := false, period := m.obj (pwAddr a O.PW_PERIOD), wU := 0, wV := 0, wW := 0
    duty := { u := d, v := d, w := if m.io a O.AX_MOTOR_TYPE = 2 then 0 else d, at_ := t } })
  ((m.takeLoop a t).pulseCheck a).modC a (fun c => { c with power := true, seq := if c.seq = .await then .settling else c.seq })

/-- The instant of the lane's next update point (R256, R262, R264, R266). After shadow mode its boundaries go on until the
loop's values return. -/
def Main.nextUpdate (m : Main) (a : Nat) : Nat :=
  let l := m.ln a
  let bound := l.upT + (if l.mid then l.period / 2 else l.period)
  if l.upT = 0 then l.start.getD 0
  else match l.shEnd, l.pend with
  | some _, some p => min bound p.at_
  | some _, none => bound
  | none, _ => if l.shadow then bound else l.upT + m.updInterval a

/-- UPDATE_POINT of axis `a` at `t` (R256, R261, R265, R266). Where the loop's values return at a mid-period, both halves of
that pulse have their widths (log 124). -/
def Main.updateAt (m : Main) (a t : Nat) : Main :=
  let l := m.ln a
  let resumes := l.shEnd.isSome && (match l.pend with | some p => decide (p.at_ ≤ t) | none => false)
  if l.shadow || (l.shEnd.isSome && !resumes) then
    ((m.modLn a (fun l => { l with upT := t, mid := false })).shadowBoundary a t).pulseCheck a
  else
    let per := m.obj (pwAddr a O.PW_PERIOD)
    let mid := match l.start with | some s => (t - s) % max 1 per != 0 | none => false
    let m := (m.modLn a (fun l => { l with upT := t, mid := mid, period := per, shEnd := none })).takeLoop a t
    let m := if resumes then m.modLn a (fun l => { l with wU0 := l.wU, wV0 := l.wV, wW0 := l.wW, shSet := none }) else m
    m.pulseCheck a

/-- UPDATE_POINT (R256, R262): at the lane's next update point, once that instant has come (R166). -/
def execUpdatePoint (ax : Ax) (s : State) : Answered :=
  s.onMain (fun m =>
    let t := m.nextUpdate ax
    if (m.ln ax).start.isNone ∨ m.now < t then m
    else if (m.ln ax).upT = 0 then m.pwmStart ax t else m.updateAt ax t)

/-! ### Enabling (R190, R250) -/

/-- GATE_SETTLE_END (R190, R262): once the loop's values have taken over the current loop is closed; alignment follows where
source 3 has no valid angle. -/
def execGateSettleEnd (ax : Ax) (s : State) : Answered :=
  s.onMain (fun m =>
    if (m.i ax).core.st = sEnabling ∧ (m.i ax).core.seq = .settling ∧ (m.ln ax).closed then
      let al := m.io ax O.AX_MOTOR_TYPE == 1 && m.obj (pwAddr ax O.PW_COMM_SRC) == 3 && !m.commValid ax
      m.modC ax (fun c => { c with seq := if al then .align1 else .closing, rampT := m.now })
    else m)

/-- R250: the check of the movement between the two alignment steps. -/
def alignGood (n pairs tol : Nat) (c1 c2 : Int) : Bool :=
  let mv : Rat := modDiff ((c2 - c1 : Int) : Rat) n
  let want : Rat := -((n : Rat) / (4 * pairs))
  decide (absQ (mv - want) ≤ (n : Rat) * tol / (360 * pairs))

/-- ALIGN_STEP_END (R250): at the end of PW_ALIGN_TIME. -/
def execAlignStepEnd (ax : Ax) (s : State) : Answered :=
  s.onMain (fun m =>
    let count := (m.pt ax).enc
    if m.now < (m.i ax).core.rampT + m.obj (pwAddr ax O.PW_ALIGN_TIME) * unitsPerMs then m
    else if (m.i ax).core.seq = .align1 then
      (m.modLn ax (fun l => { l with c1 := count })).modC ax (fun c => { c with seq := .align2, rampT := m.now })
    else if (m.i ax).core.seq = .align2 then
      let n := m.obj (pwAddr ax O.PW_ENC_PER_REV)
      if alignGood n (m.io ax O.AX_POLE_PAIRS) (m.obj (pwAddr ax O.PW_COMM_TOL)) (m.ln ax).c1 count then
        let m := m.setObj (pwAddr ax O.PW_COMM_OFFSET) (count % n).toNat
        (m.setObj (pwAddr ax O.PW_COMM_VALID) 1).modC ax (fun c => { c with seq := .closing })
      else m.raiseComm ax
    else m)

/-! ### Fast trips (R237-R242) -/

/-- The trip lines follow their inputs and overcurrents: activations are latched and counted (R242), and each axis on which
a line or its own overcurrent newly acts is held at the safe level with TRIP raised (R240). -/
def Main.tripsFollow (m : Main) : Main :=
  let lines := m.tripLines
  let new := (List.range 8).filter (fun t => lines.testBit t && !m.tripOn.testBit t)
  let m := forEach new (fun t m => (m.orObj O.DV_TRIP_LATCH (2 ^ t)).inc (O.DV_TRIPt_COUNT + t)) { m with tripOn := lines }
  forEach axes (fun a m =>
    let src := (lines &&& m.obj (pwAddr a O.PW_TRIP_SEL)) + 256 * b2n (m.ln a).oc
    let had := m.obj (pwAddr a O.PW_TRIP_SRC)
    if (src ||| had) = had then m
    else (((m.orObj (pwAddr a O.PW_TRIP_SRC) src).modLn a (fun l => { l with hold := true })).raise a cTrip (some 0))) m

/-- TRIP_INPUT_QUALIFIED (R238): only an armed input qualifies. -/
def execTripInputQualified (t : Fin 8) (s : State) : Answered :=
  s.onMain (fun m => if (m.obj O.DV_TRIP_EN).testBit t then { m with trips := m.trips ||| 2 ^ t.val }.tripsFollow else m)

/-- TRIP_INPUT_UNQUALIFIED (R238). -/
def execTripInputUnqualified (t : Fin 8) (s : State) : Answered :=
  s.onMain (fun m => { m with trips := putBit m.trips t false }.tripsFollow)

/-- TRIP_DECIMATOR_OUTPUT (R236, R237): the overcurrent comparators test one output of the axis's trip decimators. Their bits
are those of the loop decimators, so a KIND 3 channel takes the new ones (R407). -/
def execTripDecimatorOutput (ax : Ax) (bitsU bitsV : List Bool) (s : State) : Answered :=
  s.onMain (fun m =>
    let ratio := m.obj (pwAddr ax O.PW_OSR_TRIP)
    let lim := fracQ (m.objW (pwAddr ax O.PW_OC_LIMIT))
    let iu := m.phaseCurrent ax ratio O.PW_SD_OFS_U bitsU
    let iv := m.phaseCurrent ax ratio O.PW_SD_OFS_V bitsV
    let type := m.io ax O.AX_MOTOR_TYPE
    let oc := type != 0 && lim != 0 &&
      (decide (lim < absQ iu) || (type == 1 && (decide (lim < absQ iv) || decide (lim < absQ (iu + iv)))))
    ((m.takeRaw ax m.now bitsU bitsV).modLn ax (fun l => { l with oc := oc })).tripsFollow)

/-! ### Missed deadlines (R63-R66) -/

/-- The key of a chain in the count of consecutive misses. -/
def missKey (owner kind : Nat) : Nat := owner * 8 + kind

/-- R66: a miss of a chain of instance `i` is counted and shown. -/
def Main.noteMiss (m : Main) (i kind : Nat) : Main :=
  let m := (m.inc O.DV_MISS_COUNT).setObj O.DV_MISS_LAST (instAddr i O.STATUS)
  let m := m.modC i (fun c => { c with missT := some m.now })
  { m with fab := { m.fab with missRun := mmod 0 m.fab.missRun (missKey i kind) (· + 1) } }

/-- The chain of an instance is in the ledger map. -/
def Main.hasChain (m : Main) (i kind : Nat) : Bool := m.fab.map.any (fun c => c.owner == i && c.kind == kind)

/-- CURRENT_CHAIN_MISS (R63): at the second consecutive miss the outputs are forced to the safe level, PW_TRIP_SRC bit 9
and DEADLINE_CL. -/
def execCurrentChainMiss (ax : Ax) (s : State) : Answered :=
  s.onMain (fun m =>
    if m.hasChain ax 0 then
      let m := m.noteMiss ax 0
      if 2 ≤ mget 0 m.fab.missRun (missKey ax 0) then
        ((m.orObj (pwAddr ax O.PW_TRIP_SRC) 512).modLn ax (fun l => { l with hold := true })).raise ax cDeadlineCl (some 0)
      else m
    else m)

/-- OUTER_CHAIN_MISS (R64): the third consecutive miss of an outer or hoop chain raises DEADLINE_OUTER. -/
def execOuterChainMiss (i : InstId) (s : State) : Answered :=
  s.onMain (fun m =>
    let kind := if i.val < 64 then 1 else 2
    if m.hasChain i kind then
      let m := m.noteMiss i kind
      if 3 ≤ mget 0 m.fab.missRun (missKey i kind) then m.raise i cDeadlineOuter (some 3) else m
    else m)

/-- REFINEMENT_CHAIN_MISS (R65, R66, R400): the affected entries keep their predictions. -/
def execRefinementChainMiss (entries : List (Fin 1024)) (s : State) : Answered :=
  s.onMain (fun m =>
    match entries with
    | [] => m
    | e :: _ =>
      if m.hasChain 128 3 then
        let m := (m.inc O.DV_MISS_COUNT).setObj O.DV_MISS_LAST (e.val * 2 ^ 24 + evAddr 0 O.EV_QUEUE)
        forEach entries (fun e m => m.modAct e.val (fun a => { a with missed := true })) m
      else m)

end Sys2Proof.Machine
end

