-- ==== Sys2Proof/Machine/Homing.lean ====
section
/-! DEFINITION. Hard limits (R314-R319) and homing (R323-R332). -/

namespace Sys2Proof.Machine

/-! ### The count at an instant (R327, R380) -/

/-- The first read at or before `t` and the one after it, from reads newest first. -/
def bracket : List (Nat × Int) → Nat → Option ((Nat × Int) × (Nat × Int))
  | b :: a :: r, t => if a.1 ≤ t then (if t ≤ b.1 then some (a, b) else none) else bracket (a :: r) t
  | _, _ => none

/-- The feedback count of axis `a` at a past instant, and whether it is extrapolated; none where the port gives none (yet)
(R380). -/
def Main.countAt (m : Main) (a t : Nat) : Option (Int × Bool) :=
  let q := m.pt a
  match m.obj (fbAddr a O.FB_MODE) with
  | 3 => match bracket q.reads t with
    | some (r0, r1) =>
      let d : Rat := sdiff r1.2 r0.2
      some (sgn (wordOf (r0.2 + rounded (if r1.1 = r0.1 then 0 else d * ((t - r0.1 : Nat) : Rat) / ((r1.1 - r0.1 : Nat) : Rat)))), false)
    | none => none
  | 0 => none
  | _ =>
    let before := q.ring.find? (fun e => decide (e.t ≤ t))
    match before with
    | some e => if q.errT < t ∨ q.errT = 0 then some (e.p, false)
        else some (sgn (wordOf (q.count - rounded (m.actualVel a * (secs m.now - secs t)))), true)
    | none => some (sgn (wordOf (q.count - rounded (m.actualVel a * (secs m.now - secs t)))), true)

/-- The raw position of an instance at an instant, for homing (R327, R342, R343): of a share hoop from the axis
HP_SHARE_FB, of a follow hoop from its set-points. -/
def Main.rawAt (m : Main) (i t : Nat) : Int :=
  let count := fun a => ((m.countAt a t).map Prod.fst).getD (m.pt a).count
  if i < 64 then count i
  else if m.io i O.HP_KIND = 2 then
    let a := m.io i O.HP_SHARE_FB
    sgn (wordOf (count a + m.ioI a O.POS_OFFSET))
  else sgn (wordOf (rnd (m.spPast i t).p - m.ioI i O.POS_OFFSET))

/-! ### Motion of homing (R326) -/

/-- Change the homing operation of an instance. -/
def Main.modHome (m : Main) (i : Nat) (f : Homing → Homing) : Main := m.modI i (fun x => { x with home := x.home.map f })

/-- HOME_ACC. -/
def Main.homeAcc (m : Main) (i : Nat) : Rat := maxQ (1 / 16) (accQ (m.objW (instAddr i O.HOME_ACC)))

/-- A trapezoid velocity blend to `v` at HOME_ACC from the next position-loop release on. -/
def Main.homeMove (m : Main) (i : Nat) (v : Rat) : Main :=
  let mv : Move := { vel := v, acc := m.homeAcc i, dec := m.homeAcc i }
  (m.freeze i).modM i (fun x => { x with plan := some (toPlan mv true), held := none })

/-- The speed along HOME_DIR, or against it. -/
def Main.homeVel (m : Main) (i obj : Nat) (neg : Bool) : Rat :=
  let v := absQ (velQ (m.objW (instAddr i obj)))
  if neg then -v else v

/-- The search direction of a homing is the negative one. -/
def Main.homeNeg (m : Main) (i : Nat) : Bool := m.io i O.HOME_DIR == 1

/-- A ramp to standstill at HOME_ACC ends the step. -/
def Main.homeStop (m : Main) (i : Nat) : Main :=
  (m.startRamp i (m.homeAcc i)).modHome i (fun h => { h with stopping := true })

/-- The signal E of R323 is active. -/
def Main.homeE (m : Main) (i : Nat) : Bool :=
  match m.io i O.HOME_METHOD with
  | 2 => m.inActive i (m.io i O.HOME_IN) 2
  | 3 => m.inActive i (m.io i O.HOME_IN) 2
  | _ => m.limActive i (m.homeNeg i)

/-- The channel of E. -/
def Main.homeChan (m : Main) (i : Nat) : Nat :=
  match m.io i O.HOME_METHOD with
  | 2 => m.io i O.HOME_IN
  | 3 => m.io i O.HOME_IN
  | 4 => m.limCh i (m.homeNeg i)
  | 5 => m.limCh i (m.homeNeg i)
  | _ => 255

/-! ### Ends (R329-R331) -/

/-- R331: success, with its record. -/
def Main.homeDone (m : Main) (i : Nat) : Main :=
  match (m.i i).home with
  | none => m
  | some h =>
    let c := h.event.getD (0, 0)
    let toIdx := match h.indexPos, h.switchPos with | some p, some s => sdiff p s | _, _ => 0
    let m := m.addResult i 0x10 none [wordOf c.1, wordOf (m.ioI i O.POS_OFFSET),
      if h.method ≤ 1 then 0 else BitVec.ofNat 36 c.2, wordOf toIdx, BitVec.ofNat 36 h.discarded]
    (m.opDone i).modI i (fun x => { x with home := none })

/-- R329: a failure; in RUN with motion the axis first ramps to standstill. -/
def Main.homeFail (m : Main) (i code : Nat) : Main :=
  match (m.i i).home with
  | none => m.opFail i code
  | some h =>
    if h.failCode.isSome then m
    else if (m.i i).core.st = sRun ∧ h.step ≠ 0 then
      (m.startRamp i (m.homeAcc i)).modHome i (fun h => { h with step := 9, stopping := true, failCode := some code })
    else m.homingOff i code

/-- The move of step 5 to HOME_POS with the instance's own profile, or the end where HOME_GOTO is 0. -/
def Main.homeFinish (m : Main) (i : Nat) : Main :=
  if m.io i O.HOME_GOTO = 1 then
    let mv := m.captured i (m.moveTarget i (m.ioI i O.HOME_POS) false)
    (m.modM i (fun x => { x with held := none, plan := some (toPlan mv false) })).modHome i
      (fun h => { h with step := 8, stopping := false })
  else m.homeDone i

/-- The offset of R329 for the event count. -/
def Main.homeOffset (m : Main) (i : Nat) (c : Int) : Main := m.writeOffset i (sgn (wordOf (m.ioI i O.HOME_POS - c)))

/-- The home event of methods 2 to 6: the ramp of step 5 begins. -/
def Main.homeEvent (m : Main) (i : Nat) (c : Int) (t : Nat) : Main :=
  (m.modHome i (fun h => { h with step := 5, event := some (c, t) })).homeStop i

/-- R327: an accepted switch edge. -/
def Main.homeSwitch (m : Main) (i : Nat) (c : Int) (t : Nat) : Main :=
  let m := (m.opProgress i 700).modHome i (fun h => { h with switchPos := some c, cand := none })
  let md := m.io i O.HOME_METHOD
  if md = 3 ∨ md = 5 then m.modHome i (fun h => { h with step := 4 }) else m.homeEvent i c t

/-- Step 4 of R326: the index must come within this distance of the switch edge; 0 is no limit. -/
def Main.indexDist (m : Main) (i : Nat) : Nat :=
  if m.io i O.HOME_INDEX_DIST = 0 ∧ i < 64 then m.obj (fbAddr i O.FB_INDEX_PERIOD) else m.io i O.HOME_INDEX_DIST

/-- The count `c` lies further from the switch edge than step 4 allows. -/
def Main.pastIndex (m : Main) (i : Nat) (h : Homing) (c : Int) : Bool :=
  match h.switchPos with
  | some p => h.step == 4 && m.indexDist i != 0 && decide (m.indexDist i < (sdiff c p).natAbs)
  | none => false

/-- An index during step 4 (R326). -/
def Main.homeIndex (m : Main) (i : Nat) (c : Int) (t : Nat) : Main :=
  match (m.i i).home with
  | some h =>
    if h.step ≠ 4 ∨ h.stopping then m
    else if m.pastIndex i h c then m.homeFail i 0x84
    else (m.modHome i (fun h => { h with indexPos := some c })).homeEvent i c t
  | none => m

/-! ### Start (R323-R326) -/

/-- The Needs column of R323, and HOME_POS on a modulo axis (R324). -/
def Main.homeNeeds (m : Main) (i : Nat) : Bool :=
  let fm := if i < 64 then m.obj (fbAddr i O.FB_MODE) else 0
  let md := m.io i O.MODULO
  let pos := m.ioI i O.HOME_POS
  (md == 0 || (decide (0 ≤ pos) && decide (pos < md))) &&
  (match m.io i O.HOME_METHOD with
   | 0 => fm == 3
   | 1 => true
   | 2 => m.io i O.HOME_IN != 255
   | 3 => m.io i O.HOME_IN != 255 && fm == 1
   | 4 => m.homeChan i != 255 && md == 0
   | 5 => m.homeChan i != 255 && md == 0 && fm == 1
   | 6 => fm == 1
   | _ => md == 0)

/-- Step 2, or step 3 where E is active at the start. -/
def Main.homeSearch (m : Main) (i : Nat) : Main :=
  let neg := m.homeNeg i
  if m.homeE i then (m.modHome i (fun h => { h with step := 3, stopping := false })).homeMove i (m.homeVel i O.HOME_VEL_SLOW (!neg))
  else (m.modHome i (fun h => { h with step := 2, stopping := false })).homeMove i (m.homeVel i O.HOME_VEL_FAST neg)

/-- The reversal of R328. -/
def Main.homeReverse (m : Main) (i : Nat) : Main :=
  (m.modHome i (fun h => { h with step := 6, stopping := false, sawActive := m.homeE i })).homeMove i
    (m.homeVel i O.HOME_VEL_FAST (!(m.homeNeg i)))

/-- E, or the port of the index line, is broken or faulted (R330). -/
def Main.homeBroken (m : Main) (i : Nat) : Bool :=
  let md := m.io i O.HOME_METHOD
  (m.homeChan i < 32 && m.broken (m.homeChan i)) ||
    ((md == 3 || md == 5 || md == 6) && ((m.pt i).fsLevel || (m.pt i).fsAlarm))

/-- A homing operation starts; its refusals have been tested (R324). -/
def Main.homeStart (m : Main) (i : Nat) : Main :=
  let md := m.io i O.HOME_METHOD
  let neg := m.homeNeg i
  let m := (m.startOp i 1 md).unhome i
  let m := m.modI i (fun x => { x with home := some { method := md, neg := neg, started := m.now, startCnt := m.rawPos i } })
  if !m.homeNeeds i then m.homingOff i 0x06
  else if m.homeBroken i then m.homingOff i 0x80
  else match md with
  | 0 => m
  | 1 =>
    let c := m.rawPos i
    ((m.modHome i (fun h => { h with event := some (c, 0) })).homeOffset i c).homeDone i
  | _ =>
    let m := m.opProgress i 100
    let latched := if neg then (m.i i).lim.negLat else (m.i i).lim.posLat
    if md = 4 ∨ md = 5 then m.homeSearch i
    else if md = 2 ∨ md = 3 then
      if latched then
        if m.homeE i then (m.modHome i (fun h => { h with reversed := true })).homeSearch i
        else if m.io i O.HOME_REVERSE = 1 then (m.modHome i (fun h => { h with reversed := true })).homeReverse i
        else m.homingOff i 0x81
      else m.homeSearch i
    else if latched then m.homingOff i 0x81
    else if md = 6 then
      (m.modHome i (fun h => { h with step := 4 })).homeMove i (m.homeVel i O.HOME_VEL_SLOW neg)
    else (m.modHome i (fun h => { h with step := 7 })).homeMove i (m.homeVel i O.HOME_VEL_SLOW neg)

/-! ### Inputs, releases and standstill -/

/-- An edge of the channel of E at corrected time `t` (R326, R327, R328); `act` tells whether E is now active. -/
def Main.homeEdge (m : Main) (i t : Nat) (act : Bool) : Main :=
  match (m.i i).home with
  | none => m
  | some h =>
    if h.stopping then m
    else if h.step = 2 then
      if !act then m
      else if h.method ≤ 3 then m.homeStop i
      -- E of methods 4 and 5 on a side still latched; else LIMIT_LATCH stops the search
      else if if h.neg then (m.i i).lim.negLat else (m.i i).lim.posLat then
        (m.startRamp i (m.qDec i)).modHome i (fun h => { h with stopping := true })
      else m
    else if h.step = 3 then
      if act then
        match h.cand with
        | some _ =>
          let m := m.modHome i (fun h => { h with cand := none, discarded := h.discarded + 1 })
          if 8 < h.discarded + 1 then m.homeFail i 0x83 else m
        | none => m
      else m.modHome i (fun h => { h with cand := some (m.rawAt i t, t) })
    else if h.step = 6 then
      if act then m.modHome i (fun h => { h with sawActive := true })
      else if h.sawActive then m.homeStop i else m
    else m

/-- A position-loop release during homing: the end of the move to HOME_POS, which a virtual limit makes a failure (R329),
the distance checks of R330 and R326 step 4, and OP_PROGRESS 900, shown from the first release of step 5 (DEDUCED, log 129). -/
def Main.homeRelease (m : Main) (i : Nat) : Main :=
  match (m.i i).home with
  | none => m
  | some h =>
    let c := m.rawPos i
    let far := m.ioI i O.HOME_DIST
    if h.step = 8 then
      if (m.i i).motion.plan.isSome then m
      else if (m.i i).motion.ramp.isSome ∨ (m.i i).lim.vRamp then m.homingOff i 0x81
      else m.homeDone i
    else if h.step = 5 then m.opProgress i 900
    else if h.step = 0 ∨ h.step = 9 ∨ h.event.isSome then m
    else if far ≠ 0 ∧ far.natAbs < (sdiff c h.startCnt).natAbs then m.homeFail i 0x82
    else if m.pastIndex i h c then m.homeFail i 0x84
    else m

/-- Standstill at the end of a step (R326, R328, R329). -/
def Main.homeStandstill (m : Main) (i : Nat) : Main :=
  match (m.i i).home with
  | none => m
  | some h =>
    if h.stopping = false then m
    else if h.step = 2 then
      ((m.opProgress i 400).modHome i (fun h => { h with step := 3, stopping := false })).homeMove i
        (m.homeVel i O.HOME_VEL_SLOW (!h.neg))
    else if h.step = 6 then
      (if h.sawActive then m.homeSearch i else m.homeReverse i)
    else if h.step = 5 then
      ((m.modHome i (fun h => { h with stopping := false })).homeOffset i (h.event.getD (0, 0)).1).homeFinish i
    else if h.step = 9 then m.homingOff i (h.failCode.getD 0)
    else m

/-- STANDSTILL_REACHED (R191, R193, R198, R326): the ramp of a sequence, or of a homing step, has ended. -/
def execStandstillReached (i : InstId) (s : State) : Answered :=
  s.onMain (fun m =>
    let c := (m.i i).core
    if m.atStandstill i then
      if c.seq = .ramp ∧ 4 ≤ c.st ∧ c.st ≤ 6 then m.standstill i
      else if c.st = sRun then m.homeStandstill i
      else m
    else m)

/-- HOME_CANDIDATE_ACCEPTED (R327). -/
def execHomeCandidateAccepted (i : InstId) (s : State) : Answered :=
  s.onMain (fun m =>
    match (m.i i).home with
    | some h => match h.step, h.cand with
      | 3, some c =>
        if m.now < c.2 + m.io i O.HOME_DEBOUNCE * unitsPerMs then m else
        let pos := if i.val < 64 ∧ m.obj (fbAddr i O.FB_MODE) = 3 then m.rawAt i c.2 else c.1
        m.homeSwitch i pos c.2
      | _, _ => m
    | none => m)

/-- The condition of method 7's home event (R326). -/
def Main.hardStop (m : Main) (i : Nat) : Bool :=
  decide (fracQ (m.objW (instAddr i O.HOME_IQ)) ≤ absQ (m.i i).loop.iqSp) &&
    decide ((m.ioI i O.ACTUAL_VEL).natAbs ≤ m.io i O.SS_VEL)

/-- At a slot boundary: since when the instance has stood still (R193), and since when method 7's condition has held. -/
def Main.stillStep (m : Main) (i : Nat) : Main :=
  let hold := fun (ok : Bool) (t : Option Nat) => if ok then some (t.getD m.now) else none
  (m.modC i (fun c => { c with still := hold (decide ((m.ioI i O.ACTUAL_VEL).natAbs ≤ m.io i O.SS_VEL)) c.still })).modHome i
    (fun h => { h with hsSince := hold (h.step == 7 && m.hardStop i) h.hsSince })

/-- HARD_STOP_HOME_EVENT (R326 method 7): the current limit and standstill have held for HOME_HS_T. -/
def execHardStopHomeEvent (i : InstId) (s : State) : Answered :=
  s.onMain (fun m =>
    match (m.i i).home with
    | some h =>
      if h.step == 7 && m.hardStop i && since h.hsSince (m.io i O.HOME_HS_T) m.now then
        let c := m.rawPos i
        let pos : Rat := m.actualPos i
        let m := m.modM i (fun x => { x with plan := none, ramp := none, posSp := pos, velSp := 0, accSp := 0, held := some pos })
        let m := m.modHome i (fun h => { h with event := some (c, m.now), stopping := false })
        (m.homeOffset i c).homeFinish i
      else m
    | none => m)

/-- HOME_NO_SENSOR_TIMEOUT (R325): 100 ms without a good read. -/
def execHomeNoSensorTimeout (i : InstId) (s : State) : Answered :=
  s.onMain (fun m => match (m.i i).home with
    | some h => if h.method = 0 ∧ h.started + 100 * unitsPerMs ≤ m.now then m.homeFail i 0x85 else m
    | none => m)

/-- HOMING_TIMEOUT (R330): HOME_TMAX has passed. -/
def execHomingTimeout (i : InstId) (s : State) : Answered :=
  s.onMain (fun m =>
    if m.opRuns i 1 ∧ m.io i O.HOME_TMAX * 1000 * unitsPerMs ≤ (m.lop i).ranFor m.now then m.homeFail i 0x05 else m)

/-! ### Hard limits (R316-R319, R328) -/

/-- The reaction of LIM_REACT (R316). -/
def Main.limitReact (m : Main) (i : Nat) : Main :=
  match m.io i O.LIM_REACT with
  | 2 => m.limitStop i
  | r => m.raise i cLimit (some r)

/-- A limit on the side of HOME_DIR that has been latched during homing (R328); `reacts` says that the state and the
direction of motion call for a reaction. -/
def Main.limitHoming (m : Main) (i : Nat) (h : Homing) (reacts : Bool) : Main :=
  if (h.method = 4 ∨ h.method = 5) ∧ h.step = 2 then
    if h.stopping then m else (m.startRamp i (m.qDec i)).modHome i (fun h => { h with stopping := true })
  else if !reacts then m
  else if h.step = 2 ∨ h.step = 7 ∨ (h.step = 4 ∧ h.method = 6) then
    let m := m.limitStop i
    if h.method ≤ 3 ∧ m.io i O.HOME_REVERSE = 1 ∧ h.reversed = false then
      m.modHome i (fun h => { h with step := 6, stopping := true, sawActive := false, reversed := true })
    else m.homingOff i 0x81
  else (m.homingOff i 0x81).limitReact i

/-- LIMIT_LATCH (R316): a side that has become active is latched, with its reaction where the motion points towards it. -/
def execLimitLatch (i : InstId) (side : Side) (s : State) : Answered :=
  s.onMain (fun m =>
    let neg := side == .neg
    let l := (m.i i).lim
    if !m.limActive i neg || (if neg then l.negLat else l.posLat) then m else
    let m := m.modLim i (fun l => if neg then { l with negLat := true } else { l with posLat := true })
    let st := (m.i i).core.st
    let reacts := (st == sEnabling || st == sRun || st == sStopping) && towards (m.direction i) neg
    match (m.i i).home with
    | some h =>
      if h.neg = neg ∧ 2 ≤ h.method then m.limitHoming i h reacts
      else if reacts then (m.homingOff i 0x81).limitReact i else m
    | none => if reacts then m.limitReact i else m)

/-- LIMIT_RELEASE (R318): the limit has been inactive for LIM_REL_T, counted from the latest change of its input. -/
def execLimitRelease (i : InstId) (side : Side) (s : State) : Answered :=
  s.onMain (fun m =>
    let neg := side == .neg
    let ch := m.limCh i neg
    if m.limActive i neg || decide (ch < 32) && decide (m.now < (m.fc ch).levT + m.io i O.LIM_REL_T * unitsPerMs) then m
    else m.modLim i (fun l => if neg then { l with negLat := false } else { l with posLat := false }))

end Sys2Proof.Machine
end

