-- ==== Sys2Proof/Machine/Feedback.lean ====
section
/-! DEFINITION. The feedback ports (R270-R292): edges, quadrature and Hall decoding, errors and faults, the index, serial
reads, and the Hall-edge check of commutation (R249, R252). -/

namespace Sys2Proof.Machine

/-! ### Errors and faults (R277-R279) -/

/-- POS_SUSPECT is set (R277, R289); in modes 1 and 2 it clears HOMED (R302). -/
def Main.posSuspect (m : Main) (p : Nat) : Main :=
  let m := m.orObj (fbAddr p O.FB_LATCH) 1
  let md := m.obj (fbAddr p O.FB_MODE)
  if md = 1 ∨ md = 2 then m.unhome p else m

/-- R278: the port raises a feedback fault; by its level or by the alarm. -/
def Main.fbFault (m : Main) (p : Nat) (alarm : Bool) : Main :=
  let q := m.pt p
  let new := !(if alarm then q.fsAlarm else q.fsLevel)
  if !new then m else
  let m := m.modPt p (fun q => { q with
    fsAlarm := q.fsAlarm || alarm, fsLevel := q.fsLevel || !alarm, reload := true, faulted := true, goods := 0 })
  let m := (m.unhome p).raise p cFeedback (some 0)
  let m := m.setObj (pwAddr p O.PW_COMM_VALID) 0
  let m := if m.obj (pwAddr p O.PW_COMM_SRC) = 4 then m.raiseComm p else m
  match (m.i p).home with
  | some h => if h.method = 3 ∨ h.method = 5 ∨ h.method = 6 then m.homeFail p 0x80 else m
  | none => m

/-- FEEDBACK_ERROR (R277). -/
def Main.fbError (m : Main) (p : Nat) : Main :=
  let m := m.inc (fbAddr p O.FB_ERR_COUNT)
  let m := m.modPt p (fun q => { q with level := min (q.level + 1) 255, newRun := true, idxPrev := none, errT := m.now })
  let m := m.posSuspect p
  let lim := m.obj (fbAddr p O.FB_ERR_LIMIT)
  if lim ≠ 0 ∧ lim ≤ (m.pt p).level then m.fbFault p false else m

/-! ### Counted edges (R276, R283, R290) -/

/-- A counted edge with stamp `t`: the count steps, the edge joins the ring, a new run begins where R290 says so. -/
def Main.fbStep (m : Main) (p : Nat) (up : Bool) (t : Nat) : Main :=
  let neg := up == m.objB (fbAddr p O.FB_DIR)
  let n := m.obj (pwAddr p O.PW_ENC_PER_REV)
  m.modPt p (fun q =>
    let d : Int := if neg then -1 else 1
    let c := sgn (wordOf (q.count + d))
    let fresh := q.newRun || (match q.ring with | e :: _ => e.neg != neg | [] => true)
    let r := if fresh then q.run + 1 else q.run
    { q with
      count := c, enc := (q.enc + d).emod n, run := r, newRun := false, edgeT := t
      idxPrev := if q.dirNeg = neg then q.idxPrev else none
      dirNeg := neg
      ring := ({ t := t, acc := m.now, p := c, neg := neg, run := r } :: q.ring).take 64 })

/-- QUADRATURE_STEP (R276): the change of (A, B) seen in one sample. -/
def Main.quadStep (m : Main) (p : Nat) (old new : BitVec 4) (t : Nat) : Main :=
  let a0 := old.getLsbD 0
  let b0 := old.getLsbD 1
  let a1 := new.getLsbD 0
  let b1 := new.getLsbD 1
  if a0 = a1 ∧ b0 = b1 then m
  else if a0 ≠ a1 ∧ b0 ≠ b1 then m.fbError p
  else
    -- A changes to the complement of B, or B changes to A: a step of +1
    let up := if a0 ≠ a1 then a1 != b1 else b1 == a1
    m.fbStep p up t

/-! ### Index (R280, R281, R326) -/

/-- INDEX (R280): a rising FBC; with the gate met it is acted on by FB_Z_MODE, and by a homing that searches it. -/
def Main.fbIndex (m : Main) (p t : Nat) : Main :=
  let q := m.pt p
  let gate := m.obj (fbAddr p O.FB_Z_GATE)
  let ab := 2 * b2n (q.lines.getLsbD 0) + b2n (q.lines.getLsbD 1)
  if gate ≠ 4 ∧ gate ≠ ab then m else
  let md := m.obj (fbAddr p O.FB_Z_MODE)
  let m := if md = 1 ∨ (md = 2 ∧ q.zArmed) then
      let per := m.obj (fbAddr p O.FB_INDEX_PERIOD)
      let bad := md == 1 && per != 0 && (match q.idxPrev with
        | some b => decide (m.obj (fbAddr p O.FB_INDEX_TOL) < ((sdiff q.count b).natAbs - per : Int).natAbs)
        | none => false)
      let m := if bad then m.orObj (fbAddr p O.FB_LATCH) 2 else m
      let m := m.setObjI (fbAddr p O.FB_INDEX_POS) q.count
      let m := (m.setObj (fbAddr p O.FB_INDEX_TIME) (t % 2 ^ 36)).inc (fbAddr p O.FB_INDEX_COUNT)
      m.modPt p (fun q => { q with idxSeen := true, zArmed := if md = 2 then false else q.zArmed, idxPrev := some q.count })
    else m
  m.homeIndex p q.count t

/-! ### Hall (R249, R252, R282, R283) -/

/-- R282: the sector of a code, U in bit 0. -/
def hallSector (l : BitVec 4) : Option Nat :=
  match l.getLsbD 0, l.getLsbD 1, l.getLsbD 2 with
  | true, false, false => some 0
  | true, true, false => some 1
  | false, true, false => some 2
  | false, true, true => some 3
  | false, false, true => some 4
  | true, false, true => some 5
  | _, _, _ => none

/-- HALL_EDGE_CHECK (R249) of axis `a` at the edge between sector `k` and `k + 1`. -/
def Main.hallEdge (m : Main) (a k : Nat) : Main :=
  let n := m.obj (pwAddr a O.PW_ENC_PER_REV)
  let edge : Rat := frac (((k : Rat) + 1) / 6 + (m.obj (pwAddr a O.PW_HALL_OFFSET) : Rat) / 65536)
  if n = 0 then m
  else if m.objB (pwAddr a O.PW_COMM_VALID) then
    let enc : Rat := (m.encAngle a (m.pt a).enc : Rat) / 65536
    if (m.obj (pwAddr a O.PW_COMM_TOL) : Rat) / 360 < absQ (modDiff (enc - edge) 1) then m.raiseComm a else m
  else if (m.i a).core.power then
    let ofs := ((m.pt a).enc - rnd (edge * n / (m.io a O.AX_POLE_PAIRS : Rat))) % n
    (m.setObj (pwAddr a O.PW_COMM_OFFSET) ofs.toNat).setObj (pwAddr a O.PW_COMM_VALID) 1
  else m

/-- The axes whose commutation takes its Hall signals from port `p` with one of the sources `l`. -/
def Main.hallUsers (m : Main) (p : Nat) (l : List Nat) : List Nat :=
  axes.filter (fun a => l.contains (m.obj (pwAddr a O.PW_COMM_SRC)) && m.hallPort a == p)

/-- HALL_SECTOR_CHANGE (R283): a new code accepted by the filter, with the stamp of the edge that completed it. -/
def Main.hallStep (m : Main) (p : Nat) (old new : BitVec 4) (t : Nat) : Main :=
  let q := m.pt p
  match hallSector new with
  | none => if (hallSector old).isNone then m else m.modPt p (fun q => { q with illT := m.now })
  | some k =>
    let m := m.modPt p (fun q => { q with hallInv := false, sector := some k })
    if q.hallInv then m
    else match q.sector with
    | none => m
    | some s =>
      let d := (k + 6 - s) % 6
      if d = 0 then m
      else if d = 1 ∨ d = 5 then
        let m := m.fbStep p (d == 1) t
        forEach (m.hallUsers p [2]) (fun a m => m.hallEdge a (if d = 1 then s else k)) m
      else m.fbError p

/-- HALL_ILLEGAL_TIMEOUT (R283, R252): an illegal code has been held for FB_HALL_ILL_T, since mode entry where it stood there. -/
def execHallIllegalTimeout (port : Ax) (s : State) : Answered :=
  s.onMain (fun m =>
    if m.obj (fbAddr port O.FB_MODE) = 2 ∧ (hallSector (m.pt port).lines).isNone ∧
        (m.pt port).illT + m.obj (fbAddr port O.FB_HALL_ILL_T) * unitsPerUs ≤ m.now then
      let m := m.modPt port (fun q => { q with hallInv := true })
      let m := forEach (m.hallUsers port [1]) (fun a m => m.raiseComm a) m
      forEach (m.hallUsers port [2]) (fun a m => if m.objB (pwAddr a O.PW_COMM_VALID) then m else m.raiseComm a) m
    else m)

/-! ### Line levels (R273, R274, R279) -/

/-- R279: the alarm has become active. -/
def Main.alarmCheck (m : Main) (p : Nat) : Main := if m.alarm p then m.fbFault p true else m

end Sys2Proof.Machine

namespace Sys2Proof

/-- The run of line `k`. -/
def LineRuns.line (r : LineRuns) (k : Nat) : Instant := match k with | 0 => r.a | 1 => r.b | 2 => r.c | _ => r.d

end Sys2Proof

namespace Sys2Proof.Machine

/-- R273: the filtered levels of port `p` once its lines have stood at the lands at `raw` for the runs given: a line takes the
level, after FB_POL, that its last FB_FILT_N samples have shown. The data input of mode 3 bypasses the filter; its clock output
is no input. -/
def Main.filtered (m : Main) (p : Nat) (raw : BitVec 4) (r : LineRuns) : BitVec 4 :=
  let held := (m.pt p).lines
  let in_ := raw ^^^ BitVec.ofNat 4 (m.obj (fbAddr p O.FB_POL))
  let ser := m.obj (fbAddr p O.FB_MODE) == 3
  (List.range 4).foldl (fun v k =>
    let n := if ser && k == 0 then 1 else m.obj (fbAddr p O.FB_FILT_N)
    if (ser && k == 1) || (r.line k).ago < n then v
    else BitVec.ofNat 4 (putBit v.toNat k (in_.getLsbD k))) held

/-- FB_LEVEL_CHANGE (R273, R274): the lines of the port as they stand at the lands, with the run of each. What the filter accepts
at this sample is decoded; each edge carries the time of the raw transition that began its run (R162), a Hall code that of the
latest of its lines that changed (DEDUCED, log 126). -/
def execFbLevelChange (port : Ax) (levels : BitVec 4) (runs : LineRuns) (s : State) : Answered :=
  s.onMain (fun m =>
    let old := (m.pt port).lines
    let new := m.filtered port levels runs
    let stamp := fun (k : Nat) => if new.getLsbD k = old.getLsbD k then 0 else m.tb.stampOf (runs.line k)
    let m := m.modPt port (fun q => { q with lines := new })
    if m.mittenClosed (0x100 + port.val) then m else
    let m := match m.obj (fbAddr port O.FB_MODE) with
      | 1 =>
        let m := m.quadStep port old new (max (stamp 0) (stamp 1))
        if new.getLsbD 2 && !old.getLsbD 2 then m.fbIndex port (stamp 2) else m
      | 2 => if old.extractLsb' 0 3 = new.extractLsb' 0 3 then m
          else m.hallStep port old new (max (stamp 0) (max (stamp 1) (stamp 2)))
      | _ => m
    if new.getLsbD 3 && !old.getLsbD 3 then m.alarmCheck port else m)

/-- ERR_LEVEL_DECAY (R277): FB_ERR_LEVEL above 0 falls by one, FB_ERR_DECAY after its latest decay and not before. -/
def execErrLevelDecay (port : Ax) (s : State) : Answered :=
  s.onMain (fun m =>
    if m.now < (m.pt port).decT + m.obj (fbAddr port O.FB_ERR_DECAY) * unitsPerUs then m
    else m.modPt port (fun q => { q with level := q.level - 1, decT := m.now }))

/-! ### Serial sensor (R284-R289) -/

/-- A failed read (R287): its code, SER_OK cleared, an error of R277. -/
def Main.serFail (m : Main) (p code : Nat) : Main :=
  let m := (m.setObj (fbAddr p O.FB_SER_ERR) code).modPt p (fun q => { q with serOk := false, readT0 := none })
  m.fbError p

/-- SERIAL_READ_START (R286): the read due at boundary S starts at T0 = S − F, the latest such instant that has come, unless the
sensor's monoflop time has not passed; FBA low at T0 fails it with BUSY. -/
def execSerialReadStart (port : Ax) (fba : Bool) (s : State) : Answered :=
  s.onMain (fun m =>
    if m.obj (fbAddr port O.FB_MODE) ≠ 3 ∨ m.mittenClosed (0x100 + port.val) then m else
    let f := m.serMono port + 400
    let t0 := slotStart (m.now + f) - f
    let free := match (m.pt port).lastMono with
      | some c => decide (c + m.ser port O.FB_SER_TM * unitsPerUs ≤ t0)
      | none => true
    if !free then m
    else if !fba then m.serFail port 0x01
    else m.modPt port (fun q => { q with readT0 := some t0, lastMono := some (t0 + m.serMono port) }))

/-- R288: the check register over bits, first bit first. -/
def serCrc (n poly : Nat) (bits : List Bool) : Nat :=
  bits.foldl (fun r b =>
    let top := r.testBit (n - 1) != b
    let r := r * 2 % 2 ^ n
    if top then r ^^^ poly else r) 0

/-- R289: Gray code to binary, most significant bit first. -/
def fromGray (bits : List Bool) : List Bool :=
  (bits.foldl (fun (acc : List Bool × Bool) b => let v := acc.2 != b; (acc.1 ++ [v], v)) ([], false)).1

/-- The signed difference of two values of `n` bits (R289). -/
def diffBits (n v w : Nat) : Int := (BitVec.ofInt n ((v : Int) - w)).toInt

/-- The first failing check of R287 after the last bit, for the value `v` read. -/
def Main.serCheck (m : Main) (p : Nat) (body : List Bool) (v : Nat) (mono : Bool) : Option Nat :=
  let nb := m.ser p O.FB_SER_BITS
  let cl := m.ser p O.FB_SER_CRC_LEN
  let trail := body.drop nb
  let ns := m.ser p O.FB_SER_TRAIL - cl
  let status := trail.take ns
  let chk := trail.drop ns
  let got := natOfBits (if m.objB (fbAddr p O.FB_SER_CRC_INV) then chk.map (!·) else chk)
  let jump := m.ser p O.FB_SER_JUMP
  let q := m.pt p
  let delta := match q.vPrev with | some w => (diffBits nb v w).natAbs | none => 0
  if mono then some 0x02
  else if cl ≠ 0 ∧ got ≠ serCrc cl (m.ser p O.FB_SER_CRC_POLY) (body.take nb ++ status) then some 0x03
  else if status.zipIdx.any (fun b => b.1 && (m.ser p O.FB_SER_ERRMASK).testBit b.2) then some 0x04
  else if jump ≠ 0 ∧ q.reload = false ∧ jump < delta then some 0x05
  else none

/-- SERIAL_POSITION_UPDATE (R289): FB_POS is loaded or advanced; the read joins the ring with time T0 + D/2. -/
def Main.serGood (m : Main) (p t0 v : Nat) : Main :=
  let q := m.pt p
  let nb := m.ser p O.FB_SER_BITS
  let d := match q.vPrev with | some w => diffBits nb v w | none => 0
  let loads := q.reload || q.vPrev.isNone
  let d := if m.objB (fbAddr p O.FB_DIR) then -d else d
  let pos := if loads then sgn (BitVec.ofNat 36 v) else sgn (wordOf (q.count + d))
  let enc := ((if loads then pos else q.enc + d)).emod (m.obj (pwAddr p O.PW_ENC_PER_REV))
  let t := t0 + m.ser p O.FB_SER_DLY / 2
  let m := m.setObj (fbAddr p O.FB_SER_ERR) 0
  let m := (m.setObj (fbAddr p O.FB_SER_RAW) v).setObjI (fbAddr p O.FB_POS) pos
  let m := m.modPt p (fun q => { q with
    count := pos, enc := enc, encS := enc, vPrev := some v, reload := false, faulted := false, serOk := true, readT0 := none
    lastGood := some t, edgeT := t, goods := q.goods + 1, reads := ((t, pos) :: q.reads).take 64 })
  let m := if q.faulted then m.posSuspect p else m
  match (m.i p).home with
  | some h =>
    if h.method = 0 ∧ h.failCode.isNone then
      ((m.modHome p (fun h => { h with event := some (pos, 0) })).writeOffset p (m.ioI p O.POS_OFFSET)).homeDone p
    else m
  | none => m

/-- SERIAL_READ_END (R287): the frame's bits, first bit first, and the level at the monoflop check, which has been made. -/
def execSerialReadEnd (port : Ax) (bits : List Bool) (mono : Bool) (s : State) : Answered :=
  s.onMain (fun m =>
    match (m.pt port).readT0 with
    | none => m
    | some t0 =>
      if m.now < t0 + m.serMono port then m else
      let body := bits.drop (m.ser port O.FB_SER_LEAD)
      let nb := m.ser port O.FB_SER_BITS
      let data := body.take nb
      let v := natOfBits (if m.ser port O.FB_SER_CODE = 1 then fromGray data else data)
      match m.serCheck port body v mono with
      | some code => m.serFail port code
      | none => m.serGood port t0 v)

/-! ### A change of mode (R272) and FAULT_RESET (R278, R290) -/

/-- R272: a new FB_MODE takes effect at the slot boundary after its write. A level of FBD that stood while the mode was off
makes the alarm active with the mode (R278, R279). -/
def Main.fbModeApply (m : Main) (p : Nat) : Main :=
  match (m.pt p).newMode with
  | none => m
  | some md =>
    let had := m.alarm p
    let m := m.setObj (fbAddr p O.FB_MODE) md
    let m := m.modPt p (fun q => { q with
      newMode := none, level := 0, fsLevel := false, fsAlarm := false, ring := [], reads := [], newRun := true
      valid := false, still := true, sector := none, hallInv := false, illT := m.now, zArmed := false, idxSeen := false
      idxPrev := none, vPrev := none, reload := true, faulted := false, serOk := false, readT0 := none, lastMono := none
      lastGood := none, goods := 0 })
    let m := m.setObj (pwAddr p O.PW_COMM_VALID) 0
    if had then m else m.alarmCheck p

/-- R278: an accepted FAULT_RESET of the axis clears the port's fault and its error level; the next edge begins a run (R290). -/
def Main.fbReset (m : Main) (p : Nat) : Main :=
  m.modPt p (fun q => { q with fsLevel := false, fsAlarm := false, level := 0, newRun := true })

end Sys2Proof.Machine
end

