-- ==== Sys2Proof/Machine/Masters.lean ====
section
/-! DEFINITION. Virtual masters: checking, placing and taking over segments, and the ends of a master (R364-R370). -/

namespace Sys2Proof.Machine

/-! ### Segments (R365, R366) -/

/-- The words of a segment as they are held: the reserved bits of word 0 read 0 (R6, R365). -/
def segmentWords : List Word → List Word
  | w :: r => BitVec.ofNat 36 (fld w 35 32 * 2 ^ 32) :: r
  | [] => []

/-- A segment from its nine words (R365). -/
def segmentOf (ws : List Word) : Segment :=
  let w := fun n => ws.getD n 0
  { shape := fld (w 0) 35 32
    tStart := (w 1).toNat * 2 ^ 36 + (w 2).toNat
    tEnd := (w 3).toNat * 2 ^ 36 + (w 4).toNat
    p0 := sgn (w 5), v0 := sgn (w 6), v1 := sgn (w 7), acc := (w 8).toNat, raw := segmentWords ws }

/-- Every segment a master holds, received ones included. -/
def Master.held (x : Master) : List Segment := x.force.toList ++ x.queue ++ x.placing.map Prod.snd

/-- The end of a RUNOUT ramp (R368). -/
def Main.runoutEnd (m : Main) (v : Nat) : Nat :=
  let x := m.vmst v
  let dec := maxQ (1 / 16) (accQ (m.objW (cmAddr v O.CM_VM_STOP_DEC)))
  x.outT + (absQ x.outV / dec * 4000000000).ceil.toNat

/-- R366: the refusal of a segment in frame: its code and abort. -/
def Main.segRefusal (m : Main) (v : Nat) (g : Segment) : Option (Nat × Nat) :=
  let x := m.vmst v
  let accBad := decide (2 ^ 35 ≤ g.acc) || (g.acc == 0 && g.v0 != g.v1)
  let sync := m.obj (ntAddr 0 O.NT_SYNC_STATE)
  let lateMax := m.obj (cmAddr v O.CM_VM_LATE_MAX) * unitsPerMs
  if 2 < g.shape ∨ accBad ∨ (g.tEnd ≠ 0 ∧ g.tEnd ≤ g.tStart) then some (1, aRange)
  else if m.obj (ntAddr 0 O.NT_SYNC_MODE) = 0 ∧ (sync = 0 ∨ sync = 4) then some (2, aState)
  else if g.tStart + lateMax < m.now ∨ (x.st = 4 ∧ g.tStart < m.runoutEnd v) then some (3, aRange)
  else if m.now < g.tStart ∧ 8 ≤ ((x.queue ++ x.placing.map Prod.snd).filter (fun q => decide (q.tStart < g.tStart))).length then some (5, aBusy)
  else none

/-- A refusal's objects (R366). -/
def Main.noteSegRefusal (m : Main) (v code : Nat) : Main :=
  (m.setObj (cmAddr v O.CM_VM_REF_CODE) code).inc (cmAddr v O.CM_VM_REF_COUNT)

/-- A segment write to master `v`: the abort it is answered with, 0 for success, and the master with the segment received. -/
def Main.segWrite (m : Main) (v : Nat) (ws : List Word) : Nat × Main :=
  let g := segmentOf ws
  if (m.vmst v).held.any (fun q => q.raw == g.raw) then (0, m)
  else match m.segRefusal v g with
  | some (code, abort) => (abort, m.noteSegRefusal v code)
  | none => (0, m.modVm v (fun x => { x with placing := x.placing ++ [(m.now, g)] }))

/-! ### Handover (R367, R368) -/

/-- The segment `g` takes over at `th`: Δ against the master as it stood, the merge, the history (R367, R381). -/
def Main.takeOver (m : Main) (v : Nat) (g : Segment) (th : Nat) : Main :=
  let x := m.vmst v
  let delta : Rat := match x.st, m.vmAt v th with
    | 2, some p => wrapDiff (p.p - (g.eval th).p)
    | 3, some p => wrapDiff (p.p - (g.eval th).p)
    | _, _ => 0
  let g := { g with delta := delta, tHand := th, mergeT := m.mergeTime v }
  let m := m.modVm v (fun x =>
    let h := x.hist ++ x.force.toList
    { x with st := 2, force := some g, hist := h.drop (h.length - 3) })
  m.setObjI (cmAddr v O.CM_VM_MERGE_LAST) (rnd delta)

/-- R367: the queued segments whose T_START has come by `b` take over, each at its own. -/
def Main.takeDue (m : Main) (v b : Nat) : List Segment → Main
  | [] => m
  | g :: rest =>
    if g.tStart ≤ b ∧ (m.vmst v).st ≠ 4 then
      Main.takeDue ((m.modVm v (fun x => { x with queue := rest })).takeOver v g g.tStart) v b rest
    else m

/-- The predecessor's position at `th` for the continuity check (R367): of the latest queued segment that starts before
`tStart`, else of the segment in force; none where the master has none. -/
def Main.predAt (m : Main) (v tStart th : Nat) : Option Rat :=
  let x := m.vmst v
  let before := x.queue.filter (fun q => decide (q.tStart < tStart))
  match x.st, x.force, before with
  | 2, some g, l => some (m.vmOn v g l th).p
  | 3, some g, l => some (m.vmOn v g l th).p
  | _, _, q :: l => some (m.vmOn v q l th).p
  | _, _, [] => none

/-- One received segment is placed at the slot boundary `b` (R367). A late one finds the segments whose T_START has come in
force. -/
def Main.placeSeg (m : Main) (v b : Nat) (g : Segment) : Main :=
  let late := decide (g.tStart ≤ b)
  let m := if late then m.takeDue v b (m.vmst v).queue else m
  let th := if late then b else g.tStart
  let jump : Bool := match m.predAt v (if late then 0 else g.tStart) th with
    | some p => decide ((m.objI (cmAddr v O.CM_VM_JUMP_TOL) : Rat) < absQ (wrapDiff (p - (g.eval th).p)))
    | none => false
  if jump then m.noteSegRefusal v 4
  else if late then (m.modVm v (fun x => { x with queue := [] })).takeOver v g th
  else m.modVm v (fun x => { x with
    queue := x.queue.filter (fun q => decide (q.tStart < g.tStart)) ++ [g]
    st := if x.st = 0 then 1 else x.st })

/-- SEGMENT_PLACE (R367): the segments received before the latest slot boundary are placed at it. -/
def execSegmentPlace (vm : Fin 16) (s : State) : Answered :=
  s.onMain (fun m =>
    let b := slotStart m.now
    let due := fun (p : Nat × Segment) => decide (p.1 < b)
    let gs := (m.vmst vm).placing.filter due
    gs.foldl (fun m p => m.placeSeg vm b p.2) (m.modVm vm (fun x => { x with placing := x.placing.filter (fun p => !due p) })))

/-- SEGMENT_TAKEOVER (R367, R368): the T_START of the first queued segment has come. -/
def execSegmentTakeover (vm : Fin 16) (s : State) : Answered :=
  s.onMain (fun m =>
    match (m.vmst vm).queue with
    | g :: rest =>
      if g.tStart ≤ m.now ∧ (m.vmst vm).st ≠ 4 then
        (m.modVm vm (fun x => { x with queue := rest })).takeOver vm g g.tStart
      else m
    | [] => m)

/-! ### Ends (R368, R369) -/

/-- MASTER_OVERRUN (R368): from the T_END that has passed, or from the handover of a segment that took over after its own. -/
def execMasterOverrun (vm : Fin 16) (s : State) : Answered :=
  s.onMain (fun m =>
    let x := m.vmst vm
    match x.st, x.force with
    | 2, some g => if g.tEnd ≠ 0 ∧ g.tEnd ≤ m.now ∧ x.queue.isEmpty then
        m.modVm vm (fun x => { x with st := 3, overT := max g.tEnd g.tHand }) else m
    | _, _ => m)

/-- MASTER_RUNOUT (R368): OVERRUN has lasted CM_VM_GRACE. The ramp begins at that instant, or at present where a shorter
CM_VM_GRACE has put it more than a slot back (DEDUCED, log 136). -/
def execMasterRunout (vm : Fin 16) (s : State) : Answered :=
  s.onMain (fun m =>
    let x := m.vmst vm
    let due := x.overT + m.obj (cmAddr vm O.CM_VM_GRACE) * unitsPerMs
    if x.st = 3 ∧ x.queue.isEmpty ∧ due ≤ m.now then
      let t := if m.now ≤ due + unitsPerSlot then due else m.now
      let p := (m.vmAt vm t).getD {}
      (m.modVm vm (fun x => { x with st := 4, outT := t, outP := p.p, outV := p.v })).inc (cmAddr vm O.CM_VM_RUNOUT_COUNT)
    else m)

/-- LINK_END of the links in BLEND or ENGAGED on a source that is no longer defined (R358, R369). -/
def Main.endLinksOf (m : Main) (src : Src) : Main :=
  forEach (m.inst.map Prod.fst) (fun i m =>
    if 2 ≤ (m.i i).link.st ∧ m.sourceOf i = src then m.linkDrop i else m) m

/-- MASTER_EMPTY (R368, R369): the RUNOUT ramp has ended. -/
def execMasterEmpty (vm : Fin 16) (s : State) : Answered :=
  s.onMain (fun m =>
    let x := m.vmst vm
    if x.st = 4 ∧ m.runoutEnd vm ≤ m.now then
      let p := (m.vmAt vm m.now).getD {}
      let m := (m.setObj (cmAddr vm O.CM_VM_POS) (posWord p.p).toNat).setObj (cmAddr vm O.CM_VM_VEL) 0
      let m := m.setObj (cmAddr vm O.CM_VM_ACC) 0
      let m := m.modVm vm (fun x => { x with
        st := if x.queue.isEmpty then 0 else 1, force := none, hist := (x.hist ++ x.force.toList).drop
          ((x.hist ++ x.force.toList).length - 3) })
      m.endLinksOf (.master vm)
    else m)

/-- MASTER_STEP (R370): after a step of the time base each master takes as its segment in force the latest one it holds
whose T_START is at or before the new time, without a merge. -/
def Main.masterStep (m : Main) (v : Nat) : Main :=
  let x := m.vmst v
  let all := x.force.toList ++ x.queue
  if all.isEmpty then m.modVm v (fun x => { x with hist := [], outT := 0 }) else
  let m := m.modVm v (fun x => { x with outT := 0 })
  let past := all.filter (fun g => decide (g.tStart ≤ m.now))
  match past.getLast? with
  | none => m.modVm v (fun x => { x with st := 1, force := none, queue := all, hist := [] })
  | some g =>
    let g := { g with delta := 0, tHand := g.tStart }
    let queue := all.filter (fun q => decide (m.now < q.tStart))
    let overN := g.tEnd != 0 && decide (g.tEnd ≤ m.now) && queue.isEmpty
    m.modVm v (fun x => { x with st := if overN then 3 else 2, force := some g, queue := queue, hist := [], overT := m.now })

/-- CM_VM_POS, CM_VM_VEL and CM_VM_ACC at a slot boundary (R364). -/
def Main.masterShow (m : Main) (v : Nat) : Main :=
  match m.vmAt v (slotStart m.now) with
  | some p =>
    let m := m.setObj (cmAddr v O.CM_VM_POS) (posWord p.p).toNat
    let m := m.setObj (cmAddr v O.CM_VM_VEL) (velWord p.v).toNat
    m.setObj (cmAddr v O.CM_VM_ACC) (accWord p.a).toNat
  | none => m

/-! ### The first instant at which a source reaches a position (R393) -/

/-- The smallest τ > 0 with d = v·τ + a·τ²/2. -/
def reachTime (d v a : Rat) : Option Rat :=
  let pos := fun (l : List Rat) => (l.filter (fun x => decide (0 < x))).foldl
    (fun (b : Option Rat) x => match b with | some y => some (minQ x y) | none => some x) none
  if a = 0 then (if v = 0 then none else pos [d / v])
  else
    let disc := v * v + 2 * a * d
    if disc < 0 then none
    else let r := sqrtQ disc; pos [(-v + r) / a, (-v - r) / a]

/-- The first instant in (`lo`, `hi`] from which on `p` holds, `hi` where there is none before it, by halving 64 times at most. -/
def firstIn (p : Nat → Bool) : Nat → Nat → Nat → Nat
  | 0, _, hi => hi
  | n + 1, lo, hi =>
    if hi ≤ lo + 1 then hi
    else let mid := (lo + hi) / 2
      if p mid then firstIn p n lo mid else firstIn p n mid hi

/-- The first instant in (`lo`, `hi`] at which a position has been reached (`there`), for a source whose velocity `v` changes its
sign at most once in between. -/
def crossIn (v : Nat → Rat) (there : Nat → Bool) (lo hi : Nat) : Option Nat :=
  let turn := if signQ (v lo) = signQ (v hi) then hi else firstIn (fun t => signQ (v t) != signQ (v lo)) 64 lo hi
  if there turn then some (firstIn there 64 lo turn)
  else if there hi then some (firstIn there 64 turn hi) else none

/-- The instants after `tr` up to `last` that part a master's motion into stretches of one law: the starts of segments, the ends
of blends and of merges, each with the instant before it. -/
def Main.vmCuts (m : Main) (v tr last : Nat) : List Nat :=
  let x := m.vmst v
  let ends := fun (g : Segment) => [g.tStart, (g.blend.tEnd * 4000000000).ceil.toNat]
  let l := (x.force.toList.flatMap (fun g => (g.tHand + g.mergeT) :: ends g)) ++
    x.queue.flatMap (fun g => (g.tStart + m.mergeTime v) :: ends g)
  ((l.flatMap (fun t => [t - 1, t])).filter (fun t => decide (tr < t) && decide (t < last))).foldl (fun l t => insertNat t l) [last]

/-- A master's first crossing of the position `d` ahead, after `tr` and up to `last`, by its exact evaluation (R393). -/
def Main.vmCross (m : Main) (v tr last : Nat) (d : Rat) : Option Nat :=
  let at_ := fun t => (m.vmAt v t).getD {}
  let start := (at_ tr).p
  let there := fun t =>
    let left := d - wrapDiff ((at_ t).p - start)
    if 0 < d then decide (left ≤ 0) else decide (0 ≤ left)
  let cuts := m.vmCuts v tr last
  ((tr :: cuts).zip cuts).findSome? (fun p => crossIn (fun t => (at_ t).v) there p.1 p.2)

end Sys2Proof.Machine
end

