-- ==== Sys2Proof/Machine/Events.lean ====
section
/-! DEFINITION. Event edges and latch units (R374-R386), the rules stored in the node (R402, R403), and the action queue:
refinement, execution, overdue entries, expiry and cancellation (R387-R401). -/

namespace Sys2Proof.Machine

/-! ### Edges and network events (R377, R378, R383, R386) -/

/-- Set a flag of a latch unit. -/
def Main.ltFlag (m : Main) (u b : Nat) : Main := m.orObj (evAddr u O.EV_LT_FLAGS) (2 ^ b)

/-- An edge of source kind `k`, number `n`, with event time `t` reaches the latch units (R378, R379, R383). -/
def Main.latchEdges (m : Main) (k n : Nat) (level : Bool) (t : Nat) : Main :=
  forEach (List.range 32) (fun u m =>
    let src := m.obj (evAddr u O.EV_LT_SRC)
    let edge := m.obj (evAddr u O.EV_LT_EDGE)
    let x := m.lt u
    let fits := src == k * 4096 + n && (k == 3 || edge.testBit (if level then 0 else 1))
    let ready := match m.obj (evAddr u O.EV_LT_MODE) with
      | 1 => x.waiting.isEmpty && (match x.armed with | some t0 => decide (t0 ≤ t) | none => false)
      | 2 => true
      | _ => false
    if !(fits && ready) then m
    else if x.waiting.length < 4 then m.modLt u (fun x => { x with waiting := x.waiting ++ [{ t := t, level := level }] })
    else m.ltFlag u 0) m

/-- NETWORK_EVENT_RECEIVE (R386): the event joins EV_NETRX and is an edge for the latch units. -/
def Main.netEvent (m : Main) (kind source id t : Nat) (value : Word) : Main :=
  let w0 : Word := BitVec.ofNat 36 (2 ^ 35 + kind * 2 ^ 24 + source * 2 ^ 12 + id)
  let ws := [w0, BitVec.ofNat 36 (t / 2 ^ 36), BitVec.ofNat 36 t, value]
  let all := m.ev.netrx ++ [ws]
  let m := { m with ev := { m.ev with netrx := all.drop (all.length - 16) } }
  (m.inc (evAddr 0 O.EV_NETRX_COUNT)).latchEdges 3 id true t

/-- NETWORK_EVENT_QUEUE (R385): an event of the node's own is queued and taken in; false where it cannot be queued. -/
def Main.netSend (m : Main) (kind id t : Nat) (value : Word) : Bool × Main :=
  if m.canQueue then (true, (m.queueEntry kind id t value).netEvent kind (m.obj (ntAddr 0 O.NT_NODE_ADDR)) id t value)
  else (false, m.inc (evAddr 0 O.EV_NET_DROPPED))

/-- An edge of event source `s` (0-47) with its raw stamp (R374-R377). -/
def Main.sourceEdge (m : Main) (s : Nat) (level : Bool) (raw : Nat) : Main :=
  let t := raw - m.obj (evAddr 0 (O.EV_SRC_DLY + s))
  let m := { m with ev := { m.ev with levels := BitVec.ofNat 48 (putBit m.ev.levels.toNat s level) } }
  let m := if m.mittenClosed 0x1000 then m else if s < 16 then m.latchEdges 1 s level t else m.latchEdges 2 (s - 16) level t
  m.aqEdge s level t

/-- EVENT_EDGE (R374, R375): an EVT input has shown `level` since the raw transition at `rawStamp`, whose `ago` edges of the
100 MHz reference have all sampled it. Its filter accepts the level, where it is a new one, at the EV_EVT_FILT_N-th of them. -/
def execEventEdge (src : Fin 16) (level : Bool) (rawStamp : Instant) (s : State) : Answered :=
  s.onMain (fun m =>
    if rawStamp.ago < m.obj (evAddr 0 (O.EV_EVT_FILT_N + src)) ∨ m.ev.levels.getLsbD src = level then m
    else m.sourceEdge src level (m.tb.stampOf rawStamp))

/-! ### Captures (R380-R382) -/

/-- The outcome of a capture: position, velocity, EXTRAP; a failure flag; or not yet possible. -/
inductive Captured
  | good (pos vel : Word) (extrap : Bool)
  | timeOnly
  | fail (flag : Nat)
  | later
  deriving DecidableEq, Repr

/-- The position of instance `i` from the feedback of axis `a` at `t` (R380). The velocity of FB_MODE 1 and 2 is `vel` once a
release after `t` has given it, of an axis whose chains are not in the ledger the ACTUAL_VEL it shows (DEDUCED, log 133). A
serial sensor whose reads kept all came after `t` leaves position and velocity free (DESIGN CHOICE, log 133). -/
def Main.captureAxis (m : Main) (i a t : Nat) (vel : Option Word) : Captured :=
  let form := fun c => if i = a then m.formPos a c else m.formPos i (sgn (wordOf (c + m.ioI a O.POS_OFFSET)))
  match m.obj (fbAddr a O.FB_MODE) with
  | 0 => .fail 1
  | 3 => match bracket (m.pt a).reads t with
    | some (r0, r1) =>
      let v := if r1.1 = r0.1 then 0 else interval (sdiff r1.2 r0.2) r1.1 r0.1
      .good (wordOf (form ((m.countAt a t).getD (0, false)).1)) (velWord v) false
    | none => match (m.pt a).reads with
      | r :: _ => if t < r.1 then .good (Config.freeWord m.fresh) (Config.freeWord (m.fresh + 1)) false else .later
      | [] => .later
  | _ =>
    let v := if (m.i a).core.chains = 0 then some (m.objW (instAddr a O.ACTUAL_VEL)) else vel
    match m.countAt a t, v with
    | some (c, x), some v => .good (wordOf (form c)) v x
    | _, _ => .later

/-- The position of a virtual master at a past instant (R381). -/
def Main.captureMaster (m : Main) (v t : Nat) : Captured :=
  let x := m.vmst v
  let good := fun (p : PVA) => Captured.good (posWord p.p) (velWord p.v) false
  -- a run-out that has ended: its ramp, then EMPTY and WAIT until a segment has taken over
  let since := (x.force.toList ++ x.hist).any (fun g => decide (x.outT ≤ g.tHand) && decide (g.tHand ≤ t)) ||
    x.queue.any (fun q => decide (q.tStart ≤ t))
  if x.st ≠ 4 ∧ x.outT ≠ 0 ∧ x.outT ≤ t ∧ !since then
    if t < m.runoutEnd v then
      good (({ t0 := secs x.outT, v0 := x.outV, p0 := x.outP
               dec := maxQ (1 / 16) (accQ (m.objW (cmAddr v O.CM_VM_STOP_DEC))) : Ramp }).eval (secs t))
    else .fail 1
  else match m.vmPast v t with
    | some p => good p
    | none => if x.st ≤ 1 ∧ x.hist.isEmpty then .fail 1 else .fail 2

/-- The capture of a latch unit's target at `t` (R380). -/
def Main.captureAt (m : Main) (tgt t : Nat) (vel : Option Word) : Captured :=
  match srcOf tgt with
  | .none => .timeOnly
  | .inst i =>
    if i < 64 then m.captureAxis i i t vel
    else if m.io i O.HP_KIND = 2 then
      (match memberOf (codeOf (m.io i O.HP_SHARE_FB)) with
       | some a => if a < 64 then m.captureAxis i a t vel else .fail 1
       | none => .fail 1)
    else
      let x := m.spPast i t
      let md := m.io i O.MODULO
      .good (wordOf (if md = 0 then rnd x.p else rnd x.p % md)) (velWord x.v) false
  | .master v => m.captureMaster v t
  | _ => .fail 1

/-! ### Rules (R402, R403) -/

/-- The entries that a change before the ledger will fill. -/
def Main.entriesPending (m : Main) : List Nat :=
  (m.fab.reqs ++ m.fab.commits).filterMap (fun r => match r.change with
    | .action e _ => some e | .rule _ e _ => some e | _ => none)

/-- The entry an accepted capture of a rule fills (R403). -/
def Main.freeEntry (m : Main) : Option Nat :=
  let base := m.obj (evAddr 0 O.EV_RULE_BASE)
  let taken := m.entriesPending
  ((List.range 1024).drop base).find? (fun e =>
    let st := (m.act e).st
    (st == 0 || (decide (4 ≤ st) && !(m.act e).overdue)) && !taken.contains e)

/-- The words of an entry that template `r` gives for a capture (R402, R403). -/
def Main.fromTemplate (m : Main) (r tag tgt t : Nat) (pos : Word) : List Word :=
  let w := fun n => mget 0 m.ev.tpl (8 * r + n)
  let w0 : Word := BitVec.ofNat 36 ((w 0).toNat / 65536 * 65536 + tag)
  let trig := fld (w 0) 35 32
  let when_ := ext2 [0, 0, w 2, w 3] 2 + t
  let src : Word := if trig ≠ 0 ∧ fld (w 1) 15 0 = 0 then BitVec.ofNat 36 tgt else w 1
  let exp_ := ext2 [0, 0, 0, 0, w 4, w 5] 4
  let exp_ := if exp_ = 0 then 0 else exp_ + t
  [w0, src, (if trig = 0 then BitVec.ofNat 36 (when_ / 2 ^ 36) else w 2 + pos), (if trig = 0 then BitVec.ofNat 36 when_ else w 3),
   BitVec.ofNat 36 (exp_ / 2 ^ 36), BitVec.ofNat 36 exp_, w 6, w 7]

/-- The entry adds load and needs the ledger (R390): a crossing, or a cam engage. -/
def needsLedger (ws : List Word) : Bool := fld (ws.getD 0 0) 35 32 != 0 || fld (ws.getD 0 0) 31 28 == 5

/-- RULE_ARM (R403). No session writes the entry: the request before the ledger, and so DV_ADMIT_OBJ of a refusal, has
SESSION 0 and the address of EV_QUEUE (DESIGN CHOICE, log 108). -/
def Main.ruleArm (m : Main) (u t : Nat) (pos : Word) : Main :=
  let r := m.obj (evAddr u O.EV_LT_RULE)
  if 16 ≤ r then m else
  match m.freeEntry with
  | none => m.ruleFail u
  | some e =>
    let ws := m.fromTemplate r (m.obj (evAddr u O.EV_LT_COUNT) % 65536) (m.obj (evAddr u O.EV_LT_TGT)) t pos
    if needsLedger ws then m.askLedger { sess := 0, addr := evAddr 0 O.EV_QUEUE, change := .rule u e ws }
    else m.armEntry e ws

/-! ### LATCH_CAPTURE -/

/-- A successful capture (R382, R385, R403). -/
def Main.capture (m : Main) (u t : Nat) (pos vel : Word) (extrap : Bool) : Main :=
  let tw : Word := BitVec.ofNat 36 t
  let m := m.modLt u (fun x =>
    let ring := x.ring ++ [[BitVec.ofNat 36 (t / 2 ^ 36), tw, pos, vel]]
    { x with last := [pos, tw], ring := ring.drop (ring.length - 16), armed := none })
  let m := m.inc (evAddr u O.EV_LT_COUNT)
  let m := if extrap then m.ltFlag u 3 else m
  let m := if m.objB (evAddr u O.EV_LT_NETSEND) then
      let r := m.netSend 0x41 (m.obj (evAddr u O.EV_LT_NETID)) t pos
      if r.1 then r.2 else r.2.ltFlag u 5
    else m
  m.ruleArm u t pos

/-- The earliest of the edges awaiting capture. -/
def earliest : List LatchEdge → Option LatchEdge
  | [] => none
  | e :: r => match earliest r with
    | some f => if f.t < e.t then some f else some e
    | none => some e

/-- LATCH_CAPTURE (R379-R383): the earliest waiting edge of a unit is captured. -/
def execLatchCapture (unit : Fin 32) (s : State) : Answered :=
  s.onMain (fun m =>
    match earliest (m.lt unit).waiting with
    | none => m
    | some e =>
      let drop := fun m : Main => m.modLt unit (fun x => { x with waiting := x.waiting.erase e })
      match m.captureAt (m.obj (evAddr unit O.EV_LT_TGT)) e.t e.vel with
      | .later => m
      | .fail f => (drop m).ltFlag unit f
      | .timeOnly => (drop m).capture unit e.t 0 0 false
      | .good p v x => { (drop m).capture unit e.t p v x with fresh := m.fresh + 2 })

/-- LATCH_STEP_DISCARD (R383): a step of the time base discards the edges that await capture. -/
def Main.latchStep (m : Main) (u : Nat) : Main :=
  if (m.lt u).waiting.isEmpty then m else (m.modLt u (fun x => { x with waiting := [] })).ltFlag u 6

/-! ### Commands the queue executes (R395) -/

/-- R356: the refusal of LINK_CMD 1, in the order of R92. -/
def Main.linkRefusal (m : Main) (i : Nat) : Option Nat :=
  let x := m.i i
  if (m.io i O.LINK_TYPE = 1 ∧ (m.tab (m.io i O.LINK_TABLE)).ver = 0) ∨ m.io i O.LINK_DEN = 0 then some aRange
  else if x.core.st ≠ sRun ∨ m.mode i ≠ 3 ∨ x.core.stop ≠ 0 ∨ x.link.st ≠ 0 then some aState
  else match m.sourceOf i with
    | .none => some aState
    | .undef => some aState
    | .port _ => some aState
    | _ => none

/-- The pulse that holds the pending off of a channel becomes DONE (R396). -/
def Main.endPulse (m : Main) (c : Nat) : Main :=
  match mget (0, 0) m.ev.pulses c with
  | (_, 0) => m
  | (e, _) => (({ m with ev := { m.ev with pulses := merase m.ev.pulses c } } : Main)).modAct e (fun a => { a with st := 4 })

/-- An entry ends DONE, or FAILED with a result; a crossing no longer charges the ledger. -/
def Main.actDone (m : Main) (e : Nat) : Main :=
  (m.modAct e (fun a => { a with st := 4, result := 0, charged := a.charged && fld (a.words.getD 0 0) 31 28 == 5 })).inc
    (evAddr 0 O.EV_DONE_COUNT)
def Main.actFailed (m : Main) (e result : Nat) : Main :=
  m.modAct e (fun a => { a with st := 7, result := result, charged := false })

/-- The executor commands an output, where no later command of the same instant on the channel supersedes it (R397): with
IO_LINK not 2 the command is not sent but counted (R440). -/
def Main.actOut (m : Main) (c : Nat) (v superseded : Bool) : Main :=
  if superseded then m
  else if m.field.link = 2 then m.cmdOut c v else m.inc (ioAddr 0 O.IO_CMD_DROPPED)

/-! ### The order of execution (R397, R398) -/

/-- The reference edge, counted from the latest one, at which an instant falls due (R166). -/
def TimeBase.edgeOf (t : TimeBase) (due : Nat) : Int :=
  -(((((t.epoch.toNat * 2 ^ 66 + t.acc.toNat : Nat) : Rat) - (due : Rat) * 2 ^ 30) / (t.inc.toNat : Rat)).floor)

/-- The instant at which a waiting entry is to be executed: its fire time, of an overdue one the slot boundary after it was
found so. -/
def Action.dueAt (a : Action) : Option Nat :=
  if a.st ≠ 1 ∧ a.st ≠ 2 then none
  else if a.overdue then some ((a.overT / unitsPerSlot + 1) * unitsPerSlot) else a.fire

/-- What the executor is to carry out by now: the edge at which each fell due, with 0 for a pulse off and 1 + index for an
entry, and the channel of an output command. -/
def Main.dueNow (m : Main) : List (Int × Nat × Option Nat) :=
  (m.ev.pulses.filterMap (fun p =>
    if 0 < p.2.2 ∧ p.2.2 - 1 ≤ m.now then some (m.tb.edgeOf (p.2.2 - 1), 0, some p.1) else none)) ++
  m.ev.entries.filterMap (fun p => match p.2.dueAt with
    | some t => if t ≤ m.now then
        let act := fld (p.2.words.getD 0 0) 31 28
        some (m.tb.edgeOf t, 1 + p.1, if 1 ≤ act ∧ act ≤ 3 then some (fld (p.2.words.getD 6 0) 15 0) else none) else none
    | none => none)

/-- Everything that is due before `k` has been executed: by instant, pulse offs first, then entries in ascending index. -/
def Main.itsTurn (m : Main) (edge : Int) (k : Nat) : Bool :=
  m.dueNow.all (fun x => decide (edge < x.1) || (x.1 == edge && decide (k ≤ x.2.1)))

/-- A later command of the same instant acts on channel `c`. -/
def Main.superseded (m : Main) (edge : Int) (k c : Nat) : Bool :=
  m.dueNow.any (fun x => x.1 == edge && decide (k < x.2.1) && x.2.2 == some c)

/-- Execution of entry `e` at `t` (R395, R396); `sup` where a later command supersedes its own on the channel. -/
def Main.execute (m : Main) (e t : Nat) (late sup : Bool) : Main :=
  let a := m.act e
  let m := m.modAct e (fun a => { a with
    fire := none, word1 := BitVec.ofNat 36 t, lateRun := late, overdue := false, stale := a.missed && !late })
  let tgt := fld (a.words.getD 6 0) 15 0
  let param := a.words.getD 7 0
  let act := fld (a.words.getD 0 0) 31 28
  -- R194: an output named as a brake after the entry was armed (DESIGN CHOICE, log 122)
  if 1 ≤ act ∧ act ≤ 3 ∧ (m.brakeAxis tgt).isSome then m.actFailed e aState else
  match act with
  | 1 => ((m.endPulse tgt).actOut tgt true sup).actDone e
  | 2 => ((m.endPulse tgt).actOut tgt false sup).actDone e
  | 3 =>
    let m := ((m.endPulse tgt).actOut tgt true sup).modFc tgt (fun f => { f with offDead := false })
    let m := { m with ev := { m.ev with pulses := mset (0, 0) m.ev.pulses tgt (e, t + param.toNat * unitsPerUs + 1) } }
    (m.modAct e (fun a => { a with st := 3, result := 0, charged := false })).inc (evAddr 0 O.EV_DONE_COUNT)
  | 4 => { m with ev := { m.ev with moves := m.ev.moves ++ [e] } }
  | 5 =>
    match memberOf tgt with
    | none => m.actFailed e aRange
    | some i => match m.linkRefusal i with
      | some r => m.actFailed e r
      | none => (m.modLink i (fun l => { l with st := 2, cmd := 1, byEntry := some e })).actDone e
  | 6 => (m.aqCause tgt 4 t).actDone e
  | 7 =>
    let r := m.netSend 0x40 tgt t param
    if r.1 then r.2.actDone e else r.2.actFailed e 0x80
  | _ => m

/-- The moves of ACT 4 at a slot boundary (R395). -/
def Main.runMoves (m : Main) : Main :=
  let l := m.ev.moves
  let m := { m with ev := { m.ev with moves := [] } }
  forEach l (fun e m =>
    let a := m.act e
    if a.st ≠ 1 ∧ a.st ≠ 2 then m else
    match memberOf (fld (a.words.getD 6 0) 15 0) with
    | none => m.actFailed e aRange
    | some i =>
      let tgt := sgn (a.words.getD 7 0)
      match m.moveRefusal i tgt false false with
      | some r => m.actFailed e r
      | none => (m.startMoveNow i tgt false false).actDone e) m

/-- Entry `e` is executed once it is due and its turn has come (R166, R397), at `t`. -/
def Main.runDue (m : Main) (e t : Nat) : Main :=
  let a := m.act e
  match a.dueAt with
  | some due =>
    let edge := m.tb.edgeOf due
    if due ≤ m.now ∧ m.itsTurn edge (1 + e) then
      m.execute e t a.overdue (m.superseded edge (1 + e) (fld (a.words.getD 6 0) 15 0))
    else m
  | none => m

/-- ACTION_FIRE (R392, R395, R397): at its fire time, in its turn. -/
def execActionFire (entry : Fin 1024) (s : State) : Answered :=
  s.onMain (fun m =>
    let a := m.act entry.val
    match a.overdue, a.fire with
    | false, some t => m.runDue entry.val t
    | _, _ => m)

/-- PULSE_OFF (R395-R397); one that was pending when the barrier link was lost has no effect on its channel (R445), nor one
on a channel that an axis has named as its brake since (R194, log 122). -/
def execPulseOff (ch : Fin 32) (s : State) : Answered :=
  s.onMain (fun m =>
    let p := mget (0, 0) m.ev.pulses ch.val
    let edge := m.tb.edgeOf (p.2 - 1)
    if 0 < p.2 ∧ p.2 - 1 ≤ m.now ∧ m.itsTurn edge 0 then
      if (m.fc ch.val).offDead || (m.brakeAxis ch.val).isSome then (m.endPulse ch.val).modFc ch.val (fun f => { f with offDead := false })
      else (m.endPulse ch.val).actOut ch.val false (m.superseded edge 0 ch.val)
    else m)

/-- ACTION_EXPIRE (R399): at the slot boundary at which EXPIRE has been reached, of an entry that has not fallen due before it
(DEDUCED, log 135). -/
def execActionExpire (entry : Fin 1024) (s : State) : Answered :=
  s.onMain (fun m =>
    let a := m.act entry.val
    let exp_ := ext2 a.words 4
    let b := slotStart m.now
    let due : Bool := match a.dueAt with | some t => decide (t ≤ b) | none => false
    if (a.st = 1 ∨ a.st = 2) ∧ a.overdue = false ∧ due = false ∧ ¬ m.ev.moves.contains entry.val ∧
        fld (a.words.getD 0 0) 35 32 ≠ 0 ∧ exp_ ≠ 0 ∧ exp_ ≤ b then
      (m.modAct entry.val (fun a => { a with st := 6, result := 0x82, charged := false, fire := none })).inc
        (evAddr 0 O.EV_EXPIRED_COUNT)
    else m)

/-- OVERDUE_EXECUTE (R398): an overdue entry with LATE 0 is executed at the next slot boundary. -/
def execOverdueExecute (entry : Fin 1024) (s : State) : Answered :=
  s.onMain (fun m => if (m.act entry.val).overdue then m.runDue entry.val (slotStart m.now) else m)

/-! ### Refinement (R393) -/

/-- The present position of a crossing entry's source and the modulus of a modulo source; none where it is not defined. -/
def Main.crossPos (m : Main) (src : Src) (tr : Nat) : Option (Rat × Nat) :=
  match src with
  | .inst i => if (m.i i).core.chains = 0 then none else some ((m.actualPos i : Rat), m.io i O.MODULO)
  | .master v => (m.vmAt v tr).map (fun p => (p.p, 0))
  | _ => none

/-- R393: the first instant after `tr` at which the source reaches the position `d` ahead. -/
def Main.crossTime (m : Main) (src : Src) (tr : Nat) (d : Rat) : Option Nat :=
  match src with
  | .master v => m.vmCross v tr (tr + m.obj (evAddr 0 O.EV_PRED_HORIZON) * unitsPerMs) d
  | .inst i =>
    let mo := (m.i i).motion
    let r := if i < 64 ∧ m.mode i = 2 then reachTime d (m.actualVel i) 0 else reachTime d mo.velSp mo.accSp
    r.map (fun tau => tr + (tau * 4000000000).ceil.toNat)
  | _ => none

/-- R393: the position is crossed. -/
def crossed (trig : Nat) (d : Rat) (d0 : Int) : Bool :=
  match trig with
  | 1 => decide (d ≤ 0)
  | 2 => decide (0 ≤ d)
  | _ => d == 0 || (d0 != 2 && signQ d != d0)

/-- An entry for which no time is predicted. -/
def Main.noPred (m : Main) (e : Nat) : Main := m.modAct e (fun a => { a with noPred := true, st := 1, fire := none })

/-- REFINE_ENTRY (R393). An entry that is due fires on the fire time it holds (R394). -/
def Main.refineEntry (m : Main) (e tr : Nat) : Main :=
  let a := m.act e
  if (a.st ≠ 1 ∧ a.st ≠ 2) ∨ a.overdue ∨ m.ev.moves.contains e ∨ a.fire.any (fun t => decide (t ≤ m.now)) then m else
  let m := m.modAct e (fun a => { a with missed := false })
  let trig := fld (a.words.getD 0 0) 35 32
  let src := srcOf (fld (a.words.getD 1 0) 15 0)
  match m.crossPos src tr with
  | none => m.noPred e
  | some (pos, md) =>
    let q : Rat := posQ (a.words.getD 2 0) - pos
    let d := if md = 0 then wrapDiff q else modDiff q md
    if crossed trig d a.d0 then m.overdue e else
    let m := m.modAct e (fun a => { a with d0 := if a.d0 = 2 then signQ d else a.d0 })
    match m.crossTime src tr d with
    | none => m.noPred e
    | some tc =>
      if m.obj (evAddr 0 O.EV_PRED_HORIZON) * unitsPerMs < tc - tr then m.noPred e else
      let tf := tc - (a.words.getD 3 0).toNat - m.outCorr a.words
      if tf ≤ tr then m.overdue e
      else m.modAct e (fun a => { a with noPred := false, st := 2, fire := some tf, word1 := BitVec.ofNat 36 tf })

/-- One fork token of the refinement chain: the entries it took that are still to be refined (R393). -/
def Main.refineToken (m : Main) (items : List Nat) (tr : Nat) : Main :=
  (items.filter (fun e => m.crossings.contains e)).foldl (fun m e => m.refineEntry e tr) m

/-! ### Cancellation (R401) -/

/-- The effect of a cancel on one entry: nothing in states it does not act on. -/
def Main.cancelEntry (m : Main) (e : Nat) : Main :=
  let a := m.act e
  if a.st = 1 ∨ a.st = 2 then m.modAct e (fun a => { a with st := 5, charged := false, fire := none, overdue := false })
  else if a.st = 3 then
    let c := fld (a.words.getD 6 0) 15 0
    let m := { m with ev := { m.ev with pulses := merase m.ev.pulses c } }
    let m := if (m.brakeAxis c).isSome then m else m.cmdOut c false
    m.modAct e (fun a => { a with st := 5 })
  else m

end Sys2Proof.Machine
end

