-- ==== Sys2Proof/Machine/FieldIo.lean ====
section
/-! DEFINITION. What the field I/O die does across the barrier (chapter 13), and the timed steps of the acquisition units
(R414, R420). -/

namespace Sys2Proof.Machine

/-- The channels. -/
abbrev channels : List Nat := List.range 32

/-- A channel has become diagnosed broken: a homing whose signal E it is fails with INPUT_BROKEN (R330). -/
def Main.inputBroken (m : Main) (c : Nat) : Main :=
  forEach (m.inst.map Prod.fst) (fun i m =>
    if (m.i i).home.isSome ∧ m.homeChan i = c then m.homeFail i 0x80 else m) m

/-- IO_LINK leaves 2 (R427, R435, R444, R445): outputs off, IO_OUT 0, BRAKE where a brake was commanded on. -/
def Main.linkDown (m : Main) : Main :=
  if m.field.link = 0 then m else
  let was := m.field.link
  let m := { m with field := { m.field with link := 0 } }.inc (ioAddr 0 O.IO_LINK_LOSS_COUNT)
  let m := forEach channels (fun c m =>
    if 16 ≤ c ∧ m.isOut c then
      let m := if m.objB (ioAddr c O.IO_OUT) && was == 2 then m.raiseBrake c else m
      (m.modFc c (fun f => { f with cmd := false, rbT := m.now, offDead := true })).setObj (ioAddr c O.IO_OUT) 0
    else m) m
  if was = 2 then forEach channels (fun c m => m.inputBroken c) m else m

/-- BARRIER_LINK_LOSS (R427). -/
def execBarrierLinkLoss (s : State) : Answered := s.onMain Main.linkDown

/-- BARRIER_LINK_RETURN (R427): frames arrive again; the main die sends the configuration. -/
def execBarrierLinkReturn (s : State) : Answered :=
  s.onMain (fun m => if m.field.link = 0 ∧ m.field.reach = false ∧ !m.mittenClosed 0x3000 then { m with field := { m.field with link := 1 } } else m)

/-- LIMIT_CHATTER (R318): a latched limit's input becomes active again. -/
def Main.chatter (m : Main) (c : Nat) : Main :=
  forEach (m.inst.map Prod.fst) (fun i m =>
    let one := fun (neg : Bool) (m : Main) =>
      if m.limCh i neg = c ∧ (if neg then (m.i i).lim.negLat else (m.i i).lim.posLat) ∧ m.inActive i c (b2n neg) then
        m.inc (instAddr i O.LIM_CHATTER) else m
    one true (one false m)) m

/-- The level a channel takes without a stamped edge (R436). -/
def Main.takeLevel (m : Main) (c : Nat) (level : Bool) : Main :=
  if (m.fc c).level = level then m else
  let m := (m.modFc c (fun f => { f with level := level, rbT := m.now })).inc (ioAddr c O.IO_EDGE_COUNT)
  let m := m.chatter c
  { m with ev := { m.ev with levels := BitVec.ofNat 48 (putBit m.ev.levels.toNat (16 + c) level) } }

/-- BARRIER_CONFIG_ACK (R427, R436): IO_LINK becomes 2, IO_IN takes the levels then present. -/
def execBarrierConfigAck (levels : BitVec 32) (s : State) : Answered :=
  s.onMain (fun m =>
    if m.field.link = 1 then
      forEach channels (fun c m => (m.takeLevel c (levels.getLsbD c)).modFc c (fun f => { f with levT := m.now, rbT := m.now })) { m with field := { m.field with link := 2 } }
    else m)

/-- FIELD_INPUT_CHANGE (R376, R429): a channel's new level arrives at the main die once the comparator has held it for
IO_IN_FILT microseconds; while the link is not up it is not stamped (R436). -/
def execFieldInputChange (ch : Fin 32) (level : Bool) (arrival : FieldArrival) (s : State) : Answered :=
  s.onMain (fun m =>
    if arrival.held = 0 ∨ arrival.held * 20 < m.obj (ioAddr ch.val O.IO_IN_FILT) * 1000 then m
    else if m.field.link ≠ 2 ∨ (m.fc ch.val).level = level then m
    else
      let raw := m.tb.stampOf arrival.at_ - m.obj (evAddr 0 (O.EV_IN_CORR + 16 + ch.val))
      let t := raw - m.obj (evAddr 0 (O.EV_SRC_DLY + 16 + ch.val))
      let m := (m.modFc ch.val (fun f => { f with level := level, rbT := m.now, levT := m.now })).inc (ioAddr ch.val O.IO_EDGE_COUNT)
      let m := m.sourceEdge (16 + ch.val) level raw
      let m := m.chatter ch.val
      forEach (m.inst.map Prod.fst) (fun i m =>
        if (m.i i).home.isSome ∧ m.homeChan i = ch.val then m.homeEdge i t (m.homeE i) else m) m)

/-- WIRE_BREAK (R434, R435): the input current has stayed below the break threshold for IO_WB_T. -/
def execWireBreak (ch : ChannelHeld) (s : State) : Answered :=
  s.onMain (fun m =>
    let c := ch.ch.val
    if m.objB (ioAddr c O.IO_WB_EN) ∧ m.field.link = 2 ∧ m.obj (ioAddr c O.IO_WB_T) * 1000000 ≤ ch.held * 20 then
      ((m.modFc c (fun f => { f with wb := true })).latchDiag c).inputBroken c
    else m)

/-- WIRE_BREAK_END (R434). -/
def execWireBreakEnd (ch : Fin 32) (s : State) : Answered :=
  s.onMain (fun m => m.modFc ch.val (fun f => { f with wb := false, levT := if f.wb then m.now else f.levT }))

/-- READBACK_ERROR (R441, R444): the readback has differed from the command for IO_RB_T. -/
def execReadbackError (ch : Fin 32) (s : State) : Answered :=
  s.onMain (fun m =>
    let f := m.fc ch.val
    if m.isOut ch.val && m.field.link == 2 && !f.demag && !f.short && !f.hot && f.level != f.cmd &&
        decide (f.rbT + m.obj (ioAddr ch.val O.IO_RB_T) * unitsPerMs ≤ m.now) then
      ((m.modFc ch.val (fun f => { f with rb := true, rbCmd := false })).latchDiag ch.val).raiseBrake ch.val
    else m)

/-- OUTPUT_SHORT (R442, R444): the output has stayed in current limit for 200 us. -/
def execOutputShort (ch : ChannelHeld) (s : State) : Answered :=
  s.onMain (fun m =>
    let c := ch.ch.val
    if m.isOut c ∧ m.field.link = 2 ∧ (m.fc c).cmd ∧ 200000 ≤ ch.held * 20 then
      ((m.modFc c (fun f => { f with short := true })).latchDiag c).raiseBrake c
    else m)

/-- OUTPUT_OVERTEMP (R442, R444). -/
def execOutputOvertemp (ch : Fin 32) (s : State) : Answered :=
  s.onMain (fun m =>
    if m.isOut ch.val ∧ m.field.link = 2 ∧ (m.fc ch.val).cmd then
      ((m.modFc ch.val (fun f => { f with hot := true })).latchDiag ch.val).raiseBrake ch.val
    else m)

/-- OPEN_LOAD (R443): the current of an output that is on has stayed below the open-load threshold for 50 ms. -/
def execOpenLoad (ch : ChannelHeld) (s : State) : Answered :=
  s.onMain (fun m =>
    let c := ch.ch.val
    let f := m.fc c
    if m.objB (ioAddr c O.IO_OL_EN) && m.isOut c && f.cmd && !f.short && !f.hot && m.field.link == 2 &&
        decide (50000000 ≤ ch.held * 20) then
      (m.modFc c (fun f => { f with ol := true })).latchDiag c
    else m)

/-- OPEN_LOAD_END (R443): the current exceeds 6 mA. -/
def execOpenLoadEnd (ch : Fin 32) (s : State) : Answered :=
  s.onMain (fun m => m.modFc ch.val (fun f => { f with ol := false }))

/-- DEMAG_END (R446): the readback check runs from here (R441). -/
def execDemagEnd (ch : Fin 32) (s : State) : Answered :=
  s.onMain (fun m =>
    if (m.fc ch.val).demag then m.modFc ch.val (fun f => { f with demag := false, rbT := m.now }) else m)

/-- FIELD_UNDERVOLTAGE (R448): VFIELD, in mV, has fallen below the threshold. -/
def execFieldUndervoltage (mv : Nat) (s : State) : Answered :=
  s.onMain (fun m => if mv ≤ 17000 then { m with field := { m.field with uv := true } } else m)

/-- FIELD_UNDERVOLTAGE_END (R448): VFIELD has risen above 17.5 V. -/
def execFieldUndervoltageEnd (mv : Nat) (s : State) : Answered :=
  s.onMain (fun m => if 17500 < mv then { m with field := { m.field with uv := false } } else m)

/-- FIELD_IO_REACH (R449): every output is off, the link is down, the die's own diagnosis starts anew. -/
def Main.fieldReach (m : Main) : Main :=
  if m.field.reach then m else
  let m := m.linkDown.inc (ioAddr 0 O.IO_FIELD_RESETS)
  let m := { m with field := { m.field with reach := true } }
  forEach channels (fun c m => m.modFc c (fun f => { f with
    cmd := false, wb := false, ol := false, short := false, hot := false, rb := false, demag := false, rbCmd := false })) m

/-- FIELD_IO_REACH (R449). -/
def execFieldIoReach (s : State) : Answered := s.onMain Main.fieldReach

/-- FIELD_IO_REACH_RELEASE (R449). -/
def execFieldIoReachRelease (s : State) : Answered :=
  s.onMain (fun m => { m with field := { m.field with reach := false } })

/-! ### Acquisition -/

/-- AQ_ARM_INSTANT (R414): the first slot boundary after an accepted arm. -/
def execAqArmInstant (unit : Fin 8) (s : State) : Answered :=
  s.onMain (fun m => if (m.aqu unit).st = 1 ∧ (m.aqu unit).cmdT < slotStart m.now then m.aqArmNow unit (slotStart m.now) else m)

/-- AQ_POST_TIMEOUT (R420): AQ_POST_T milliseconds have passed since T. -/
def execAqPostTimeout (unit : Fin 8) (s : State) : Answered :=
  s.onMain (fun m =>
    let t := m.obj (aqAddr unit O.AQ_POST_T)
    if (m.aqu unit).st = 3 ∧ t ≠ 0 ∧ (m.aqu unit).trigT + t * unitsPerMs ≤ m.now then
      (m.aqFlag unit 1).modAq unit (fun x => { x with st := 4 })
    else m)

end Sys2Proof.Machine
end

