-- ==== Sys2Proof/Machine/Slot.lean ====
section
/-! DEFINITION. The parts of a slot boundary (R558), the tokens of the chains it releases (R33-R37) and their completion,
and the decision of the ledger (R49). -/

namespace Sys2Proof.Machine

/-! ### Best-effort work and the pace (R44, R45, R57-R60) -/

/-- R58: queued best-effort work in pu, 202 for each token. -/
def Main.queuedWork (m : Main) : Nat := 202 * (m.fab.queue.foldl (fun t q => t + q.tokens) 0 + m.opTokens)

/-- PACE_MEASUREMENT (R44): the slowest of the eight replicas, the largest of the last eight slots. -/
def Main.paceMeasure (m : Main) (reps : List Nat) : Main :=
  let hist := if reps.isEmpty then m.fab.paceHist else ((min 0xFFFF (reps.foldl max 0)) :: m.fab.paceHist).take 8
  if hist.isEmpty then m else
  let now := hist.foldl max 0
  let m := { m with fab := { m.fab with paceHist := hist } }
  (m.setObj O.DV_PACE_NOW now).setObj O.DV_PACE_MAX (max now (m.obj O.DV_PACE_MAX))

/-- R45: the state that follows `st` at pace `now` and hold `hold`, after `okRun` and `holdRun` good slots. -/
def paceNext (st now hold okRun holdRun : Nat) : Nat :=
  if hold < now then 2
  else match st with
    | 0 => if 400 < now then 1 else 0
    | 1 => if 100 ≤ okRun then 0 else 1
    | _ => if 100 ≤ holdRun then 1 else 2

/-- PACE_STATE_CHANGE (R45) and BE_BUDGET_UPDATE (R57). Slots at 390 or less that pass in CRITICAL count towards the 100 that
lead from OVER to OK: which slots count is stated nowhere (DESIGN CHOICE, log 110). -/
def Main.paceState (m : Main) : Main :=
  let now := m.obj O.DV_PACE_NOW
  let hold := m.obj O.DV_PACE_HOLD
  let ok := if now ≤ 390 then min 100 (m.fab.okRun + 1) else 0
  let hd := if now + 10 ≤ hold then min 100 (m.fab.holdRun + 1) else 0
  let m := { m with fab := { m.fab with okRun := ok, holdRun := hd } }
  let st := paceNext (m.obj O.DV_PACE_STATE) now hold ok hd
  ((m.setObj O.DV_PACE_STATE st).setObj O.DV_WARN_PACE (if st = 0 then 0 else 1)).setBudget

/-- R59: the shed level. -/
def Main.shedLevel (m : Main) : Nat :=
  if m.obj O.DV_PACE_STATE = 2 then 3
  else if m.obj O.DV_PACE_STATE = 1 ∨ m.obj O.DV_BE_BUDGET < 1000 then 2
  else if 1000 * m.obj O.DV_BE_BUDGET < m.queuedWork then 1
  else 0

/-- SHED_LEVEL_CHANGE, LONG_OP_PAUSE, LONG_OP_RESUME (R59, R60): at level 3 the queued host requests are answered BUSY. -/
def Main.shed (m : Main) : Main :=
  let lv := m.shedLevel
  let m := m.setObj O.DV_BE_SHED lv
  let m := { m with op := mmapAll {} m.op (fun x => x.pause m.now (decide (2 ≤ lv))) }
  if lv < 3 then m else
  let q := m.fab.queue
  q.foldl (fun m r => m.deliver r.key r.addr aBusy) { m with fab := { m.fab with queue := [] } }

/-- R100: OP_PROGRESS of a running operation other than homing moves on; by how much no rule states: a free value (log 40). -/
def Main.progressStep (m : Main) : Main :=
  m.op.foldl (fun m p =>
    if p.2.busy && !p.2.paused && p.2.kind != 1 then
      (m.freeWord).2.modOp p.1 (fun o => { o with prog := o.prog + (m.freeWord).1.toNat % (1000 - o.prog) })
    else m) m

/-! ### Tokens (R33-R37) -/

/-- The number of a task, for the release sequences. -/
def Task.code : Task → Nat
  | .speed => 0 | .current => 1 | .profile => 2 | .position => 3 | .velocity => 4 | .masterEval => 5 | .links => 6
  | .split => 7 | .refine => 8 | .emulation => 9

/-- The key of a release sequence. -/
def seqKey (inst : Nat) (t : Task) : Nat := inst * 16 + t.code

/-- The lowest entry of the token table that no token holds. -/
def Main.freeIndex (m : Main) : Nat :=
  ((List.range 256).find? (fun k => !(m.fab.waiting.any (fun t => t.index == k)) &&
    !(m.fab.cells.any (fun p => p.2.index == k)))).getD 255

/-- Tokens of one release of a task: one for each list of items, with one release sequence, the next modulo 256. -/
def Main.enterAll (m : Main) (task : Task) (inst step deadline release : Nat) (items : List (List Nat)) : Main :=
  let key := seqKey inst task
  let sq := mget 0 m.fab.nextSeq key
  let m := { m with fab := { m.fab with nextSeq := mset 0 m.fab.nextSeq key ((sq + 1) % 256) } }
  items.foldl (fun m l =>
    let t : Tok := { task := task, inst := inst, seq := sq, step := step, index := m.freeIndex, deadline := deadline,
                     release := release, items := l }
    { m with fab := { m.fab with waiting := m.fab.waiting ++ [t] } }) m

/-- The one token of a release that is no fork. -/
def Main.enter (m : Main) (task : Task) (inst step deadline release : Nat) : Main :=
  m.enterAll task inst step deadline release [[]]

/-- A fork of parallel tokens, which take the items in order, `per` to a token; none where there is no item. -/
def Main.fork (m : Main) (task : Task) (inst step per deadline release : Nat) (items : List Nat) : Main :=
  let n := parts items.length per
  ({ m with fab := { m.fab with forks := mset 0 m.fab.forks inst n } }).enterAll task inst step deadline release
    ((List.range n).map (fun p => (items.drop (per * p)).take per))

/-- R37: the order of dispatch: deadline, then INST, then STEP. -/
def Tok.before (a b : Tok) : Bool :=
  decide (a.deadline < b.deadline) || (a.deadline == b.deadline && (decide (a.inst < b.inst) ||
    (a.inst == b.inst && decide (a.step < b.step))))

/-- The waiting token to dispatch next. -/
def firstTok : List Tok → Option Tok
  | [] => none
  | t :: r => some (r.foldl (fun b x => if x.before b then x else b) t)

/-- R37, R38: every free cell takes the waiting token that goes first. -/
def Main.dispatch (m : Main) : Main :=
  (List.range 16).foldl (fun m c =>
    if m.fab.cells.any (fun p => p.1 == c) then m else
    match firstTok m.fab.waiting with
    | none => m
    | some t => { m with fab := { m.fab with waiting := m.fab.waiting.erase t, cells := mplace c t m.fab.cells } }) m

/-! ### Releases (R35, R36, R345) -/

/-- A chain's phase of the present slot: 0 no release, 1 its main release, 2 its shorter one. -/
def Chain.due (c : Chain) (slot : Nat) : Nat :=
  let r := (slot + c.period * (c.phase / max 1 c.period + 1) - c.phase) % max 1 c.period
  if r = 0 then 1 else if c.subPer ≠ 0 ∧ r % c.subPer = 0 then 2 else 0

/-- The axis's power stage is wanted: it is being enabled, or identification or auto-tune runs. -/
def Main.stageWanted (m : Main) (a : Nat) : Bool :=
  (m.i a).core.st == sEnabling || m.opRuns a 2 || m.opRuns a 3

/-- RT_CHAIN_RELEASE (R35) of one chain at the slot that starts at `s`; `how` is 1 for its main release, 2 for the
shorter one. A chain that the configuration no longer calls for is not released. -/
def Main.release (m : Main) (c : Chain) (how s : Nat) : Main :=
  let d := s + c.deadline
  let k := c.owner
  let ch := (m.i k).core.chains
  match c.kind with
  | 0 =>
    if k < 64 ∧ ch ≠ 0 then
      let m := m.enter .speed k 0 d s
      -- R30, R203: a unit that the axis uses answers with an error while its mitten is closed
      let m := if m.mittenClosed (0x100 + k) || m.mittenClosed (0x100 + m.hallPort k) && m.usesPort k (m.hallPort k) then
          m.raise k cUnitReset (some 0) else m
      -- R190, R262: the PWM starts at the first update point, S1 + L
      if m.stageWanted k && (m.ln k).start.isNone then m.modLn k (fun l => { l with start := some (s + m.lead k) }) else m
    else m
  | 1 =>
    if k < 64 ∧ ch = 2 then
      (if m.mode k = 2 ∨ how = 2 then m.enter .velocity k 2 d s else m.enter .profile k 0 d s)
    else m
  | 2 =>
    if ch = 0 then m
    else if m.io k O.HP_KIND = 2 then
      (if m.mode k = 2 ∨ how = 2 then m.enter .velocity k 2 d s
       else if m.mode k = 3 then m.enter .masterEval k 0 d s else m.enter .profile k 0 d s)
    else if m.mode k = 3 then m.enter .masterEval k 0 d s
    else m.enter .profile k 0 d s
  | 3 => m.fork .refine 128 0 5 d s m.crossings
  | _ => if (m.obj O.DV_EE_EN).testBit (k - 129) then m.enter .emulation k 0 d s else m

/-- The releases of a slot: chains in the order of the map. A chain that has come into the map `old` at this boundary was
admitted less than 10 µs ago and is first released in a later slot (R56). -/
def Main.releases (m : Main) (old : List Chain) (slot s : Nat) : Main :=
  m.fab.map.foldl (fun m c =>
    if c.due slot = 0 || !old.any (fun x => x.same c) then m else m.release c (c.due slot) s) m

/-! ### Emulation (R294, R296) -/

/-- The position, in source units, that output `o` is to show 10 µs from the boundary; none where the source is not defined.
Of a modulo axis it is taken from POS_CONT (R332), which on a linear axis is ACTUAL_POS. -/
def Main.eeSource (m : Main) (o : Nat) : Option Rat :=
  let dt : Rat := 1 / 100000
  match srcOf (m.obj (eeBase o)) with
  | .inst i => some ((m.ioI i O.POS_CONT : Rat) + m.actualVel i * dt)
  | .master v => (m.vmAt v (slotStart m.now + unitsPerSlot)).map (fun p => p.p)
  | .port p => some ((m.objI (fbAddr p O.FB_POS) : Rat) + (m.pt p).speed * dt)
  | _ => none

/-- EE_RATE_UPDATE (R294, R296) of output `o`. A source position stands for the value nearest to the accumulator
(DEDUCED, log 22). -/
def Main.eeRate (m : Main) (o : Nat) : Main :=
  if !(m.obj O.DV_EE_EN).testBit o || m.mittenClosed (0x800 + o) then m else
  let ratio : Rat := (m.objI (eeBase o + 1) : Rat) / (m.obj (eeBase o + 2) : Rat)
  let zper := m.obj (eeBase o + 3)
  let zpos := m.obj (eeBase o + 4)
  let flag := fun (m : Main) (num : Nat) (v : Bool) => m.setObj num (putBit (m.obj num) o v)
  match m.eeSource o with
  | none => (flag m O.DV_EE_NOSRC true).modEe o (fun x => { x with on := true, rate := 0 } |>.lines zper zpos)
  | some p =>
    let m := flag m O.DV_EE_NOSRC false
    let fix := fun (q : Rat) => (rnd (q * 1073741824) : Rat) / 1073741824
    let x := m.eeo o
    if !x.on then
      (flag m O.DV_EE_LAG false).modEe o (fun x => { x with on := true, acc := fix (p * ratio), rate := 0 } |>.lines zper zpos)
    else
      let own := if ratio = 0 then 0 else x.acc / ratio
      let q := fix ((own + wrapDiff (p - own)) * ratio)
      let r := (q - x.acc) / 1000
      let lag := decide ((1 : Rat) / 10 < absQ r)
      (flag m O.DV_EE_LAG lag).modEe o (fun x => { x with rate := if lag then (signQ r : Rat) / 10 else r })

/-! ### What the boundary evaluates -/

/-- The stop in force follows STOP and the SS1 demand at the boundary (R91, R216). A running ramp steepens (R191, R199); in
DISABLING it takes its own deceleration again once no stop acts (R191). -/
def Main.stopApply (m : Main) (i : Nat) : Main :=
  let v := m.stopNow i
  let c := (m.i i).core
  if v = c.stop then m else
  let m := m.modC i (fun c => { c with stop := v })
  if c.seq ≠ .ramp ∨ (m.i i).motion.ramp.isNone then m
  else if v ≠ 0 then (if c.st = sStopping ∨ c.st = sDisabling then m.startRamp i (m.stopDec i) else m)
  else if c.st = sDisabling then m.rampAt i (m.reactDec i c.react) else m

/-- R313, R359: the condition of AT_TARGET. -/
def Main.targetCond (m : Main) (i : Nat) : Bool :=
  let mo := (m.i i).motion
  let win := m.ioI i O.TGT_WIN
  match m.mode i with
  | 0 => mo.plan.isNone && mo.queue.isEmpty && decide (absQ (m.posDiff i ((m.actualPos i : Rat) - mo.posSp)) ≤ win)
  | 1 => !(match mo.plan with | some p => decide (m.t < p.tEnd) || p.replan | none => false) &&
      decide (absQ (m.actualVel i - mo.velSp) ≤ velQ (m.objW (instAddr i O.SS_VEL)))
  | 3 => (m.i i).link.st == 3 && decide ((m.ioI i O.FOLLOW_ERR).natAbs ≤ win.toNat)
  | _ => false

/-- AT_TARGET: the condition has stood for TGT_TIME without a break. -/
def Main.targetStep (m : Main) (i : Nat) : Main :=
  let ok := m.targetCond i
  let t0 := if ok then some ((m.i i).core.winSince.getD m.now) else none
  let hit := match t0 with | some t => decide (t + m.io i O.TGT_TIME * unitsPerMs ≤ m.now) | none => false
  m.modC i (fun c => { c with winSince := t0, atTarget := hit })

/-- R209: WARN_LATCH keeps what WARN_CAUSE shows. -/
def Main.warnStep (m : Main) (i : Nat) : Main :=
  let w := m.warnCause i
  if w = 0 then m else m.orObj (instAddr i O.WARN_LATCH) w

/-- R185, R214: an axis that is not in the ledger copies its position, its speed reads 0, and its thermal level decays. A
share hoop shows its member's values (R343). -/
def Main.idleStep (m : Main) (i : Nat) : Main :=
  if (m.i i).core.chains ≠ 0 then m
  else if i < 64 then
    let m := (m.setActual i (m.objI (fbAddr i O.FB_POS))).setObj (instAddr i O.ACTUAL_VEL) 0
    if (m.i i).loop.lambda = 0 then m else m.i2tStep i (1 / 100) 0
  else if m.io i O.HP_KIND = 2 then m.shareActual i
  else m

/-- The ports at the boundary: FB_POS takes the count (R275), then a new mode takes effect, by which FB_POS stands (R272). -/
def Main.portStep (m : Main) (p : Nat) : Main :=
  let md := m.obj (fbAddr p O.FB_MODE)
  let m := if md = 1 ∨ md = 2 then (m.setObjI (fbAddr p O.FB_POS) (m.pt p).count).modPt p (fun q => { q with encS := q.enc }) else m
  m.fbModeApply p

/-- R441: RB_ERR clears once the readback has matched a new command for IO_RB_T; the latch of IO_DIAG follows (R450). -/
def Main.chanStep (m : Main) (c : Nat) : Main :=
  let f := m.fc c
  let m := if f.rb && f.rbCmd && f.level == f.cmd && decide (f.rbT + m.obj (ioAddr c O.IO_RB_T) * unitsPerMs ≤ m.now) then
      m.modFc c (fun f => { f with rb := false, rbCmd := false })
    else m
  if (m.ioDiag c &&& 0x5F) = 0 then m else m.latchDiag c

/-- R136: answers that finished before the boundary are ready from it on. -/
def Main.answersReady (m : Main) : Main :=
  { m with sess := m.sess.map (fun p => (p.1, { p.2 with
      places := p.2.places.map (fun a => if a.stage = 1 then { a with stage := 2, ready := m.now } else a) })) }

/-- The transitions of the boundary (R182, R187): causes handed up first, then the hoops, outermost first, and the axes. -/
def Main.transitions (m : Main) : Main :=
  let m := forEach instances (fun i m => m.stopApply i) m
  let m := forEach axes (fun a m => m.enableStep a) m
  let m := m.handUpAll
  m.transitionAll (m.hoopsDown ++ axes)

/-- The time of the boundary: the first edge at or after it; the counter of R558 advances. -/
def Main.toBoundary (m : Main) : Main :=
  let m := m.edges (m.tb.edgesTo m.tb.slotDue)
  { m with tb := { m.tb with slotDue := nextBoundary m.now }
           fab := { m.fab with slotNo := m.fab.slotNo + 1, frame := m.fab.slotNo % 1200 } }

/-! ### Completion (R34, R37) -/

/-- The last token of a chain has completed: its misses are no longer consecutive (R63, R64). -/
def Main.chainDone (m : Main) (inst kind : Nat) : Main :=
  { m with fab := { m.fab with missRun := merase m.fab.missRun (missKey inst kind) } }

/-- One part of a fork has completed; with the last one the chain has. -/
def Main.joinPart (m : Main) (inst kind : Nat) : Main :=
  let m := { m with fab := { m.fab with forks := mmod 0 m.fab.forks inst (· - 1) } }
  if mget 0 m.fab.forks inst = 0 then m.chainDone inst kind else m

/-- The loops of an axis are not yet closed (R190), or a share hoop's members are still being enabled (R349). -/
def Main.open (m : Main) (i : Nat) : Bool :=
  let c := (m.i i).core
  c.st == sEnabling && ((64 ≤ i && m.io i O.HP_KIND == 2) || c.seq == .await || c.seq == .settling || c.seq == .align1 || c.seq == .align2)

/-- R190: the position loop, or the velocity loop in MODE 2, closes at its first release after the angle is valid. -/
def Main.closeLoop (m : Main) (i : Nat) : Main :=
  if i < 64 ∧ (m.i i).core.st = sEnabling ∧ (m.i i).core.seq = .closing then
    (m.fromActual i).modC i (fun c => { c with seq := .closed })
  else m

/-- The fork that follows the first tokens of a hoop chain; with no link or member the chain is done. A split without an
active member raises HOOP (R344). -/
def Main.hoopFork (m : Main) (t : Tok) : Main :=
  let h := t.inst
  let share := m.io h O.HP_KIND = 2
  let l := if share then m.activeShare h else m.linkMembers h
  if l.isEmpty then (if share then m.split 64 h [] else m).chainDone h 2
  else m.fork (if share then .split else .links) h 3 (if share then 5 else 3) t.deadline t.release l

/-- What an accepted token does when it completes, with the token it starts (chapter 2, Slots, chains and releases). -/
def Main.runToken (m : Main) (t : Tok) (bitsU bitsV : List Bool) : Main :=
  let i := t.inst
  let s := t.release
  let next := fun (m : Main) (task : Task) => m.enter task i (t.step + 1) t.deadline s
  match t.task with
  | .speed => next (m.speedStep i s) .current
  | .current => (m.currentStep i s bitsU bitsV).chainDone i 0
  | .profile =>
    let m := (if m.open i then m else m.profileStep i s).homeRelease i
    if i < 64 ∨ m.io i O.HP_KIND = 2 then next m .position else (m.followActual i s).hoopFork t
  | .position =>
    let m := if 64 ≤ i then m.shareActual i else m.closeLoop i
    next (if m.open i then m else m.positionStep i s) .velocity
  | .velocity =>
    let m := if 64 ≤ i then m.shareActual i else if m.mode i = 2 then m.closeLoop i else m
    let m := if m.open i then m else m.velocityStep i s
    if i < 64 then m.chainDone i 1 else m.hoopFork t
  | .masterEval =>
    let m := (m.masterEval i s).homeRelease i
    if m.io i O.HP_KIND = 2 then next m .position else (m.followActual i (s + unitsPerSlot)).hoopFork t
  | .links => (m.linksToken i t.items s).joinPart i 2
  | .split => (m.splitToken i t.items).joinPart i 2
  | .refine => (m.refineToken t.items s).joinPart 128 3
  | .emulation => m.chainDone i 4

/-- R34: a sequence number older than the last one accepted, modulo 256. -/
def seqOlder (last sq : Nat) : Bool := decide (0 < (last + 256 - sq) % 256) && decide ((last + 256 - sq) % 256 < 128)

/-- TOKEN_COMPLETE (R34, R37): the cell's token is accepted or discarded, and free cells take the waiting tokens. A token
that arrives exactly at its deadline counts as late (DESIGN CHOICE, log 109). -/
def Main.tokenComplete (m : Main) (cell : Nat) (bitsU bitsV : List Bool) : Main :=
  match m.fab.cells.find? (fun p => p.1 == cell) with
  | none => m
  | some (_, t) =>
    let m := { m with fab := { m.fab with cells := merase m.fab.cells cell } }
    let key := seqKey t.inst t.task
    let m :=
      if t.deadline ≤ m.now || seqOlder (mget 0 m.fab.lastSeq key) t.seq then m
      else ({ m with fab := { m.fab with lastSeq := mset 0 m.fab.lastSeq key t.seq } }).runToken t bitsU bitsV
    m.notePeak.dispatch

/-- TOKEN_COMPLETE (R37). The bits are those of the axis's two sigma-delta inputs up to the release, oldest first; they
are used by a current-loop token only. -/
def execTokenComplete (cell : Fin 16) (bitsU bitsV : List Bool) (s : State) : Answered :=
  s.onMain (fun m => m.tokenComplete cell bitsU bitsV)

end Sys2Proof.Machine
end

