-- ==== Sys2Proof/Machine/Access.lean ====
section
/-! DEFINITION. Who may do what: the session's class for an object (R80), claim domains (R79), the protection table
(R87, R88), checks 1 to 5 of R92, the type and range checks 6 and 7 that the object tables state, and the best-effort
check 10 (R58). -/

namespace Sys2Proof.Machine

/-! ### Classes (R16, R79, R80) -/

/-- The session classes. -/
inductive Cls | own | obs | svc
  deriving DecidableEq, Repr

/-- R16: the code allows a write. -/
def Access.writes : Access → Bool
  | .rw => true | .wo => true | .w1c => true | .ro => false | .no => false
/-- R16: the code allows a read; of a write-only object it returns 0. -/
def Access.reads : Access → Bool
  | .no => false | _ => true

/-- The Access cell of a class. -/
def ObjInfo.cell (o : ObjInfo) : Cls → Access
  | .own => o.own | .obs => o.obs | .svc => o.svc

/-- R79: the map index of the domain that an address stands in; field channels 0-15, the safety status and the HS objects
but HS_CLAIM_WINDOW stand in none. -/
def domainOf (a : Nat) : Option Nat :=
  let i := instOf a
  match areaOf a with
  | 3 => some i
  | 5 => some i
  | 6 => some i
  | 4 => some (64 + i)
  | 10 => some (128 + i)
  | 8 => if 16 ≤ i then some (136 + (i - 16)) else none
  | 7 => some 152
  | 11 => some 153
  | 2 => if numOf a = O.HS_CLAIM_WINDOW then some 154 else none
  | 9 => none
  | _ => some 154

/-- A control object (R78, R80): the owner class may write it, the observer class may not, and it stands in a domain. -/
def ObjInfo.isControl (o : ObjInfo) (a : Nat) : Bool := o.own.writes && !o.obs.writes && (domainOf a).isSome

/-- The owner of a domain. -/
def Main.ownerOf (m : Main) (d : Nat) : Option Nat := match mget 0 m.owner d with | 0 => none | n + 1 => some n
/-- A claim window is open on the domain (R81). -/
def Main.windowOpen (m : Main) (d : Nat) : Bool := m.windows.any (fun p => p.1 == d)
/-- The session owns the domain. -/
def Main.owns (m : Main) (sess d : Nat) : Bool := m.ownerOf d == some sess

/-- R80: the class of a session for an object. -/
def Main.cls (m : Main) (sess a : Nat) (o : ObjInfo) : Cls :=
  let sv := (m.se sess).service
  if areaOf a = 2 ∧ numOf a < 0x100 then (if instOf a = sess then .own else .obs)
  else if areaOf a = 2 ∧ numOf a ≠ O.HS_CLAIM_WINDOW then (if sv then .svc else .obs)
  else if !o.isControl a then (if sv then .svc else .obs)
  else match domainOf a with
    | none => .obs
    | some d =>
      if m.owns sess d then .own
      else if sv && (m.ownerOf d).isNone && !m.windowOpen d then .svc
      else .obs

/-! ### Protection (R87, R88) -/

/-- An entry of the protection table covers the address. -/
def covers (w0 : Word) (a : Nat) : Bool :=
  fld w0 35 32 == areaOf a && decide (fld w0 31 20 ≤ numOf a) && decide (numOf a ≤ fld w0 19 8)
    && (fld w0 7 0 == 255 || fld w0 7 0 == instOf a)

/-- R88: every entry that covers the address lets the session pass. -/
def passes (sess a : Nat) (write : Bool) : List Word → Bool
  | w0 :: w1 :: r => (!covers w0 a || w1.getLsbD (if write then sess else 10 + sess)) && passes sess a write r
  | _ => true

/-! ### Length (R73, R117, check 5) -/

/-- Whether a DOMAIN object's data is bytes (R117, R507, R528). -/
def byteDomain (a : Nat) : Bool :=
  a == cfAddr 0 O.CF_FW_STAGE || a == psAddr 0 O.PSn_XFER || a == psAddr 1 O.PSn_XFER || a == psAddr 0 O.PSn_RX
    || a == psAddr 1 O.PSn_RX || a == hsAddr 0 O.HS_OWNER_MAP || a == ntAddr 0 O.NT_MASTER_ID

/-- The largest number of words (or bytes) of a DOMAIN object that can be written (R360, R365, R387, R402, R505, R507,
R528). -/
def domainMax (a : Nat) : Nat :=
  if a = cmAddr 0 O.CM_MEM then 1048576
  else if areaOf a = 11 then 9
  else if a = evAddr 0 O.EV_QUEUE then 8192
  else if a = evAddr 0 O.EV_TPL then 128
  else if a = cfAddr 0 O.CF_CFG_STAGE then 116494
  else if a = cfAddr 0 O.CF_FW_STAGE then 1572864
  else if areaOf a = 0 then 256
  else 0

/-- The data of a write: the offset, the words and the bytes it carries. -/
structure WData where
  offset : Nat := 0
  words  : List Word := []
  bytes  : List Byte := []
  deriving DecidableEq, Repr

/-- The value of a write of a one-word or EXT72 object. -/
def WData.value (d : WData) : Nat := d.words.foldl (fun t w => t * 2 ^ 36 + w.toNat) 0

/-- Check 5 for a write, and the data as words: a WRITE, or a WRITE_AT with its offset word in front (R117, R122). The
number of words must fill the bytes given. Of DOMAIN objects, a master segment has nine words, an action entry eight, a
write of templates whole templates (DEDUCED, log 26), and a transfer at least one byte. -/
def parseWrite (a : Nat) (o : ObjInfo) (at_ : Bool) (data : List Byte) : Option WData :=
  let ws := wordsOfBytes data
  let whole := bytesFor ws.length == data.length
  match o.ty with
  | .domain =>
    if at_ && data.length < 5 then none
    else if byteDomain a then
      let d : WData := if at_ then { offset := (ws.headD 0).toNat, bytes := data.drop 5 } else { bytes := data }
      if d.offset + d.bytes.length ≤ domainMax a ∧ (areaOf a ≠ 0 ∨ (d.bytes ≠ [] ∧ d.offset = 0)) then some d else none
    else if !whole then none
    else
      let d : WData := if at_ then { offset := (ws.headD 0).toNat, words := ws.tail } else { words := ws }
      let n := d.words.length
      if domainMax a < d.offset + n then none
      else if areaOf a = 11 ∧ a ≠ cmAddr 0 O.CM_MEM ∧ (n ≠ 9 ∨ d.offset ≠ 0) then none
      else if a = evAddr 0 O.EV_QUEUE ∧ n ≠ 8 then none
      else if a = evAddr 0 O.EV_TPL ∧ (n = 0 ∨ n % 8 ≠ 0) then none
      else some d
  | .ext => if data.length = 9 then some { words := ws } else none
  | _ => if data.length = 5 then some { words := ws } else none

/-! ### Checks 1 to 5 -/

/-- Checks 1 to 4 of R92 for one access. `at_` marks READ_AT and WRITE_AT, which address DOMAIN objects only (R122). -/
def Main.access (m : Main) (sess a : Nat) (write at_ : Bool) : Nat ⊕ ObjInfo :=
  match info? a with
  | none => .inl aNoObject
  | some o =>
    if !(m.se sess).isOpen then .inl aSession
    else if !passes sess a write m.prot then .inl aProtected
    else if at_ && o.ty != .domain then .inl aAccess
    else
      let ok := fun c : Access => if write then c.writes else c.reads
      if ok (o.cell (m.cls sess a o)) then .inr o
      else if ok o.own then .inl aNotOwner else .inl aAccess

/-- Checks 1 to 5 for a read: it is never refused for its LEN (R117). -/
def Main.frontRead (m : Main) (sess a : Nat) (at_ : Bool) : Option Nat :=
  match m.access sess a false at_ with
  | .inl c => some c
  | .inr _ => none

/-- The claim domain beside the action queue's that an action entry needs (R389): the field output or the instance. -/
def entryDomain (ws : List Word) : Option Nat :=
  let act := fld (ws.getD 0 0) 31 28
  let tgt := fld (ws.getD 6 0) 15 0
  if 1 ≤ act ∧ act ≤ 3 then (if 16 ≤ tgt ∧ tgt < 32 then some (136 + (tgt - 16)) else none)
  else if act = 4 ∨ act = 5 then memberOf tgt
  else none

/-- The ownership that a write needs beyond its own object's (R339, R389, R402): of an entry's or template's output or
instance, of a hoop and its member. It belongs to check 4, and is made once the data has its length (DEDUCED, log 29). -/
def Main.othersOwned (m : Main) (sess a : Nat) (d : WData) : Bool :=
  if a = evAddr 0 O.EV_QUEUE ∨ a = evAddr 0 O.EV_TPL then
    m.owns sess 152 && (List.range ((d.words.length + 7) / 8)).all (fun k =>
      match entryDomain (d.words.drop (8 * k)) with | some x => m.owns sess x | none => true)
  else if areaOf a = 4 ∧ (numOf a = O.HP_ADD ∨ numOf a = O.HP_REMOVE) then
    match memberOf d.value with
    | some k => m.owns sess (64 + instOf a) && m.owns sess k
    | none => true
  else true

/-- Checks 1 to 5 for a write. -/
def Main.frontWrite (m : Main) (sess a : Nat) (at_ : Bool) (data : List Byte) : Option Nat :=
  match m.access sess a true at_ with
  | .inl c => some c
  | .inr o => match parseWrite a o at_ data with
    | none => some aLength
    | some d => if m.othersOwned sess a d then none else some aNotOwner

/-! ### Checks 6 and 7 (R11, the Effect cells) -/

/-- A word lies in the range an Effect cell states. -/
def Range.ok (r : Range) (w : Word) : Bool :=
  let n := w.toNat
  match r with
  | .any => true
  | .nat lo hi => decide (lo ≤ n) && decide (n ≤ hi)
  | .zeroOr lo hi => n == 0 || decide (lo ≤ n) && decide (n ≤ hi)
  | .ffOr lo hi => n == 255 || decide (lo ≤ n) && decide (n ≤ hi)
  | .even lo hi => n % 2 == 0 && decide (lo ≤ n) && decide (n ≤ hi)
  | .oneOf l => l.contains n
  | .int lo hi => decide (lo ≤ sgn w) && decide (sgn w ≤ hi)
  | .intNonzero lo hi => decide (lo ≤ sgn w) && decide (sgn w ≤ hi) && n != 0

/-- Checks 6 and 7 by the object table. -/
def ObjInfo.valueRefusal (o : ObjInfo) (w : Word) : Option Nat :=
  match o.ty with
  | .bool => if w.toNat ≤ 1 then none else some aType
  | .u8 => if w.toNat < 256 ∧ o.range.ok w then none else some aRange
  | .u16 => if w.toNat < 65536 ∧ o.range.ok w then none else some aRange
  | .word => if o.range.ok w then none else some aRange
  | .ext => none
  | .domain => none

/-! ### Check 10 (R58, R99) -/

/-- R58: a new best-effort request can be accepted. -/
def Main.beRoom (m : Main) : Bool :=
  decide (m.queuedWork ≤ 1000 * m.obj O.DV_BE_BUDGET) && m.obj O.DV_BE_SHED == 0 && decide (m.beEntries < 32)

/-- The tokens of a queued request (R58): one for each started 64 words or 288 bytes. -/
def beTokens (bytes : Nat) : Nat := max 1 ((bytes + 287) / 288)

end Sys2Proof.Machine
end

