-- ==== Sys2Proof/Machine/ReadData.lean ====
section
/-! DEFINITION. What a read returns: one word, the two words of an EXT72 object (R75), or the part of a DOMAIN object that
the space of the reply holds (R102, R117). -/

namespace Sys2Proof.Machine

/-! ### DOMAIN objects of words -/

/-- EV_STATUS word 0 of an entry (R391). -/
def Action.status (x : Action) : Word :=
  wordN (x.st * 2 ^ 32 + x.result % 256 * 2 ^ 24 + b2n x.lateRun * 2 ^ 23 + b2n x.stale * 2 ^ 22 + b2n x.noPred * 2 ^ 21
    + x.tag % 65536)

/-- The addresses of the rind objects (R90), ascending. -/
def rindOf (area : Nat) : List Nat :=
  (List.range 256).flatMap (fun i => (objsOfArea area).flatMap (fun o =>
    if o.rind && decide (o.instLo ≤ i) && decide (i ≤ o.instHi) then
      (List.range (o.numHi + 1 - o.numLo)).map (fun k => area * 0x100000 + i * 0x1000 + o.numLo + k)
    else []))

/-- DG_RIND_MAP. -/
def rindMap : List Word := (List.range 15).flatMap (fun area => (rindOf area).map wordN)

/-- The long operation that an OP_ object belongs to. -/
def opSlot (a : Nat) : Nat :=
  match areaOf a with
  | 3 => instOf a
  | 4 => 64 + instOf a
  | 10 => opAQ (instOf a)
  | 11 => opCM
  | 13 => opCF
  | _ => opDV

/-- The number of words of a word-typed DOMAIN object as it stands. -/
def Main.domainSize (m : Main) (a : Nat) : Nat :=
  let n := numOf a
  let i := instOf a
  match areaOf a with
  | 2 => 128
  | 4 => if n = O.HP_MEMBERS then (m.i (64 + i)).members.length else 0
  | 7 => if n = O.EV_QUEUE then 8192 else if n = O.EV_STATUS then 2048 else if n = O.EV_TPL then 128
         else if n = O.EV_NETRX then 4 * m.ev.netrx.length else if n = O.EV_LT_LAST then 2 else 4 * (m.lt i).ring.length
  | 11 => if n = O.CM_MEM then 1048576 else (match (m.vmst i).force with | some g => g.raw.length | none => 0)
  | 13 => 116494
  | 14 => rindMap.length
  | _ => 0

/-- Word `k` of a word-typed DOMAIN object. -/
def Main.domainWord (m : Main) (a k : Nat) : Word :=
  let n := numOf a
  let i := instOf a
  match areaOf a with
  | 2 => m.prot.getD k 0
  | 4 => wordN (codeOf ((m.i (64 + i)).members.getD k 0))
  | 7 =>
    if n = O.EV_QUEUE then (m.act (k / 8)).words.getD (k % 8) 0
    else if n = O.EV_STATUS then (if k % 2 = 0 then (m.act (k / 2)).status else (m.act (k / 2)).word1)
    else if n = O.EV_TPL then mget 0 m.ev.tpl k
    else if n = O.EV_NETRX then (m.ev.netrx.getD (k / 4) []).getD (k % 4) 0
    else if n = O.EV_LT_LAST then (m.lt i).last.getD k 0
    else ((m.lt i).ring.getD (k / 4) []).getD (k % 4) 0
  | 11 => if n = O.CM_MEM then m.camW k else (match (m.vmst i).force with | some g => g.raw.getD k 0 | none => 0)
  | 13 => mget 0 m.store.cfgStage k
  | 14 => rindMap.getD k 0
  | _ => 0

/-! ### DOMAIN objects of bytes -/

/-- HS_OWNER_MAP (R79, R83, R105). -/
def Main.ownerByte (m : Main) (d : Nat) : Byte :=
  if m.windowOpen d then 0xFE else match m.ownerOf d with | some n => BitVec.ofNat 8 n | none => 0xFF

/-- The bytes of a byte-typed DOMAIN object from an offset, at most `n` of them. -/
def Main.domainBytes (m : Main) (a off n : Nat) : List Byte :=
  if a = hsAddr 0 O.HS_OWNER_MAP then (((List.range 155).map m.ownerByte).drop off).take n
  else if a = ntAddr 0 O.NT_MASTER_ID then
    ((if m.master8.isEmpty then List.replicate 8 0 else m.master8).drop off).take n
  else if a = cfAddr 0 O.CF_FW_STAGE then
    (List.range (min n (1572864 - off))).map (fun k => mget 0 m.store.fwStage (off + k))
  else ((m.psm (if a = psAddr 1 O.PSn_RX then 1 else 0)).rx.drop off).take n

/-! ### The data of a read -/

/-- The answer to a read of object `a` with `len` bytes of space from `off`: the data, or RANGE for an offset into
OP_RESULT that is no record boundary (R102). An object that the class may only write reads 0 (R16). -/
def Main.readData (m : Main) (sess a off len : Nat) : Nat ⊕ List Byte :=
  match info? a with
  | none => .inl aNoObject
  | some o =>
    let wo := o.cell (m.cls sess a o) == .wo
    match o.ty with
    | .domain =>
      if numOf a = O.OP_RESULT ∧ (areaOf a ≠ 2) then
        let x := m.lop (opSlot a)
        if x.bounds.contains off then .inr (bytesOfWords (x.readFrom off (2 * len / 9))) else .inl aRange
      else if byteDomain a then
        .inr (if wo then List.replicate len 0 else m.domainBytes a off len)
      else
        let n := min ((2 * len + 8) / 9) (if wo then (2 * len + 8) / 9 else m.domainSize a - off)
        .inr ((bytesOfWords ((List.range n).map (fun k => if wo then 0 else m.domainWord a (off + k)))).take len)
    | .ext =>
      let v := if wo then 0 else m.readWord a
      .inr ((bytesOfWords [wordN (v / 2 ^ 36), wordN v]).take len)
    | _ => .inr ((bytesOfWords [if wo then 0 else wordN (m.readWord a)]).take len)

end Sys2Proof.Machine
end

