-- ==== Sys2Proof/Machine/Control.lean ====
section
/-! DEFINITION. A write of CONTROL (R96): what refuses it and what it does. The ten rows of the table that are CONTROL
writes and every other CONTROL write go through these definitions. -/

namespace Sys2Proof.Machine

/-! ### FAULT_RESET (R208, R349) -/

/-- R208: what raised TRIP, FEEDBACK or COMMUTATION on an axis still holds. -/
def Main.axisHolds (m : Main) (a : Nat) : Bool :=
  let f := m.io a O.FAULT_CAUSE
  f.testBit cTrip && m.tripActs a || f.testBit cFeedback && m.fbHolds a || f.testBit cCommutation && m.commLost a

/-- R208, R349: FAULT_RESET of an instance in FAULT would be refused; a hoop asks its members in FAULT. -/
def Main.resetHolds (m : Main) : Nat → Nat → Bool
  | 0, i => i < 64 && m.axisHolds i
  | d + 1, i =>
    if i < 64 then m.axisHolds i
    else (m.i i).members.any (fun k => (m.i k).core.st == sFault && m.resetHolds d k)

/-- R208, R240, R278: an accepted FAULT_RESET of one instance: FAULT_CAUSE is 0 and the hold of the outputs and the port's
fault end; the instance enters OFF at the next boundary. -/
def Main.resetOne (m : Main) (i : Nat) : Main :=
  let m := (m.setObj (instAddr i O.FAULT_CAUSE) 0).modC i (fun c => { c with faultRst := true })
  if i < 64 then
    ((m.modLn i (fun l => { l with hold := false })).setObj (pwAddr i O.PW_TRIP_SRC) 0).fbReset i
  else m

/-- R349: an accepted FAULT_RESET acts on a hoop and on every member in FAULT. -/
def Main.resetAll (m : Main) : Nat → Nat → Main
  | 0, i => m.resetOne i
  | d + 1, i =>
    let m := m.resetOne i
    if i < 64 then m
    else (m.i i).members.foldl (fun m k => if (m.i k).core.st = sFault then Main.resetAll m d k else m) m

/-- FAULT_RESET (R208): outside FAULT it has no effect. A fast trip that still acts holds the outputs again (R240). -/
def Main.faultReset (m : Main) (i : Nat) : Main :=
  if (m.i i).core.st = sFault then (m.resetAll 64 i).tripsFollow else m

/-! ### Long operations of CONTROL (R103, R225) -/

/-- R225: identification or auto-tune ends: power off, the current chain out of the ledger. -/
def Main.probeOff (m : Main) (a : Nat) : Main :=
  (m.powerOff a).modC a (fun c => { c with chains := 0, seq := .none })

/-- OP_ABORT (R103): the running operation ends with ABORTED; homing in motion ramps to standstill first (R329). -/
def Main.opAbort (m : Main) (i : Nat) : Main :=
  if !(m.lop i).busy then m
  else if (m.lop i).kind = 1 then m.homeFail i 0x01
  else (m.opFail i 0x01).probeOff i

/-! ### Refusals -/

/-- R340: the write sets FAULT_RESET and no other command bit, and leaves every level field as it is. -/
def Main.onlyReset (m : Main) (i v : Nat) : Bool :=
  v.testBit 3 && !v.testBit 4 && !v.testBit 6 && !v.testBit 20 && !v.testBit 21 && (levelsOf v).word 0 == m.io i O.CONTROL

/-- R324: homing by the instance's method can start. The motion of a homing that runs is no move (DEDUCED, log 27). -/
def Main.homeState (m : Main) (i md : Nat) : Bool :=
  let x := m.i i
  let idle := (x.motion.plan.isNone && x.motion.queue.isEmpty) || m.opRuns i 1
  idle && (if m.io i O.HOME_METHOD ≤ 1 then m.atRest i || x.core.st == sRun else x.core.st == sRun && md == 0)

/-- The RANGE refusals of a CONTROL write: R96, R97, R342 (MODE 2 on a follow hoop), and those of START_MOVE. -/
def Main.controlRange (m : Main) (i v : Nat) (mv : Option Nat) : Bool :=
  let md := v / 256 % 16
  let kind := v / 65536 % 16
  v.testBit 20 && v.testBit 21 || decide (3 < md) || (64 ≤ i && m.io i O.HP_KIND == 1 && md == 2)
    || v.testBit 20 && !(kind == 1 || (i < 64 && (kind == 2 || kind == 3))) || mv == some aRange

/-- The STATE refusals: R340, R96, R189, R218, R208, R225, R324, and those of START_MOVE. -/
def Main.controlState (m : Main) (i v : Nat) (mv : Option Nat) : Bool :=
  let st := (m.i i).core.st
  let md := v / 256 % 16
  let kind := v / 65536 % 16
  let en := v.testBit 0
  (m.i i).parent.isSome && !m.onlyReset i v
    || v.testBit 20 && en != m.enable i
    || en && (st == sOff || st == sFault || st == sReaction || st == sSafeOff)
    || md != m.mode i && !(m.atRest i || (st == sRun && !m.moving i && (m.i i).link.st != 3))
    || v.testBit 3 && st == sFault && m.resetHolds 64 i
    || v.testBit 20 && (if kind = 1 then !m.homeState i md else st != sReady)
    || mv == some aState

/-- The OP_RUNNING refusals: R189 and R225 (while identification or auto-tune runs ENABLE is locked; a write that sets
OP_ABORT and leaves ENABLE as it is passes: DEDUCED, log 28), R103, R99, R303. -/
def Main.controlRunning (m : Main) (i v : Nat) (mv : Option Nat) : Bool :=
  (m.opRuns i 2 || m.opRuns i 3) && (!v.testBit 21 || v.testBit 0 != m.enable i)
    || (m.lop i).busy && (v / 256 % 16 != m.mode i || v.testBit 20)
    || mv == some aOpRunning

/-- What refuses a CONTROL write, in the order of R92. START_MOVE is judged with the MODE of the same write. -/
def Main.controlRefusal (m : Main) (i v : Nat) : Option Nat :=
  let mv := if v.testBit 4 then
      (m.setMode i (v / 256 % 16)).moveRefusal i (m.ioI i O.TARGET_POS) (v.testBit 6) (v.testBit 5) else none
  if m.controlRange i v mv then some aRange
  else if m.controlState i v mv then some aState
  else if m.controlRunning i v mv then some aOpRunning
  else if v.testBit 20 && !m.beRoom then some aBusy
  else none

/-! ### Effects -/

/-- The command bits of an accepted CONTROL write, in the order FAULT_RESET, OP_ABORT, START_MOVE, OP_START of homing, which
replaces a move just started: the order in which several bits of one write act is stated nowhere (DESIGN CHOICE, log 106). -/
def Main.controlCommands (m : Main) (i v : Nat) : Main :=
  let m := if v.testBit 3 then m.faultReset i else m
  let m := if v.testBit 21 then m.opAbort i else m
  let m := if v.testBit 4 then m.startMoveNow i (m.ioI i O.TARGET_POS) (v.testBit 6) (v.testBit 5) else m
  if v.testBit 20 ∧ v / 65536 % 16 = 1 then m.homeStart i else m

/-- A CONTROL write that asks nothing of the ledger. -/
def Main.controlNow (m : Main) (i v : Nat) : Main :=
  let md := m.mode i
  let m := (m.setControl i v).enableWrite i (v.testBit 0)
  let m := if md = m.mode i then m else m.fromActual i
  m.controlCommands i v

/-- The write adds load or changes it between MODE 2 and another (R96, R218, R349): the ledger tests it. A RUN hoop's change
of MODE from 3 to 0 or 1 raises its chain from 32 to 122 pu (R345), which R24 would have admitted; the model follows R218,
by which a change among 0, 1 and 3 adds no load (DEDUCED, log 107). -/
def Main.controlLoads (m : Main) (i v : Nat) : Bool :=
  let st := (m.i i).core.st
  v.testBit 0 && (st == sReady || (64 ≤ i && st == sRun && !(m.toRejoin i).isEmpty))
    || v / 256 % 16 != m.mode i && (v / 256 % 16 == 2 || m.mode i == 2)

/-- An accepted CONTROL write: carried out and answered OK, or placed before the ledger. -/
def Main.controlEffect (m : Main) (sess i v : Nat) (key : Option Key) : Main × Option Nat :=
  let a := instAddr i O.CONTROL
  let kind := v / 65536 % 16
  if v.testBit 20 ∧ kind ≠ 1 then
    (m.askLedger { sess := sess, addr := a, key := key, change := .opStart i kind v }, none)
  else if m.controlLoads i v then
    (m.askLedger { sess := sess, addr := a, key := key, change := .control i v }, none)
  else (m.controlNow i v, some 0)

/-- R293: the lines of an output whose bit of DV_EE_EN is clear are low. -/
def Main.eeFollow (m : Main) : Main :=
  forEach (List.range 8) (fun o m => if (m.obj O.DV_EE_EN).testBit o then m else m.modEe o (fun _ => {})) m

/-- R340: what joining brings beside the membership itself: the link is IDLE, and a member in RUN holds its position. -/
def Main.joined_ (m : Main) (k : Nat) : Main :=
  let m := m.linkIdle k
  if (m.i k).core.st = sRun then m.holdHere k else m

/-- What an admitted change brings beside its load, once it is committed: the command bits of a CONTROL write; auto-tune
fails at once where AX_RS, AX_LD or AX_LQ is 0 (R227). -/
def Main.afterCommit (m : Main) : Change → Main
  | .control i v => m.controlCommands i v
  | .opStart i kind _ =>
    if kind = 3 ∧ m.opRuns i 3 ∧ (m.io i O.AX_RS = 0 ∨ m.io i O.AX_LD = 0 ∨ m.io i O.AX_LQ = 0) then
      (m.opFail i 0x06).probeOff i
    else m
  | .objWrite a _ => if a = O.DV_EE_EN then m.eeFollow else m
  | .join _ k => m.joined_ k
  | _ => m

end Sys2Proof.Machine
end

