-- ==== Sys2Proof/Machine/WriteRules.lean ====
section
/-! DEFINITION. Checks 7 to 9 of R92 where they rest on other objects or on a state: what refuses a write of one word to
an object that no other definition treats whole. -/

namespace Sys2Proof.Machine

/-- R175: a step of the time is allowed. -/
def Main.stepAllowed (m : Main) : Bool :=
  !(instances.any m.activeSt) && !(m.ev.entries.any (fun p => p.2.live))

/-! ### Axes and hoops -/

/-- The instance of an address of area 3 or 4. -/
def instIx (a : Nat) : Nat := if areaOf a = 4 then 64 + instOf a else instOf a

/-- Following the sources of R346 from `k`, instance `i` is reached within `d` levels (R353). -/
def Main.reaches (m : Main) (i : Nat) : Nat → Nat → Bool
  | 0, _ => true
  | d + 1, k => k == i || (match m.sourceOf k with | .inst j => m.reaches i d j | _ => false)

/-- R353: a write of HP_SRC that names nothing allowed, the hoop itself or a source that closes a cycle, or one to a hoop
that has a parent. -/
def Main.srcBad (m : Main) (i v : Nat) : Bool :=
  (m.i i).parent.isSome ||
  (match srcOf v with
   | .inst k => m.reaches i 130 k
   | .undef => true
   | .port _ => true
   | .none => v != 0
   | .master _ => false)

/-- R338: the position-loop period `p` does not suit the follow hoop that the axis is a member of. -/
def Main.periodBad (m : Main) (i p : Nat) : Bool :=
  match (m.i i).parent with
  | some h => m.io h O.HP_KIND == 1 && p != m.io h O.HP_PERIOD
  | none => false

/-- R344: with weight `v` for member `i`, the weights of the active members of its share hoop sum to 0 while the hoop is
active. -/
def Main.weightBad (m : Main) (i v : Nat) : Bool :=
  match (m.i i).parent with
  | some h => m.io h O.HP_KIND == 2 && m.activeSt h && !(m.i i).isolated &&
      (m.setObj (instAddr i O.SHARE_WEIGHT) v).weights (m.activeShare h) == 0
  | none => false

/-- RANGE for an object of axis or hoop `i`: R255, R338, R223, R194, R314, R320, R334, R344, R353. -/
def Main.rangeInst (m : Main) (i num : Nat) (w : Word) : Bool :=
  let v := w.toNat
  let pos := m.ioI i O.VLIM_POS
  let neg := m.ioI i O.VLIM_NEG
  if num = O.VLIM_MODE then v != 0 && (!decide (neg < pos) || m.io i O.MODULO != 0)
  else if num = O.VLIM_POS then m.io i O.VLIM_MODE != 0 && !decide (neg < sgn w)
  else if num = O.VLIM_NEG then m.io i O.VLIM_MODE != 0 && !decide (sgn w < pos)
  else if num = O.MODULO then v != 0 && (m.io i O.LIM_POS_IN != 255 || m.io i O.LIM_NEG_IN != 255 || m.io i O.VLIM_MODE != 0)
  else if num = O.LIM_POS_IN ∨ num = O.LIM_NEG_IN then v != 255 && (m.io i O.MODULO != 0 || (m.brakeAxis v).isSome)
  else if num = O.SHARE_WEIGHT then m.weightBad i v
  else if i < 64 then
    let u := m.updInterval i
    if num = O.AX_CL_K then (v * 40000) % max 1 u != 0 || m.periodBad i (v * m.io i O.AX_VL_M * m.io i O.AX_PL_P)
    else if num = O.AX_VL_M then m.periodBad i (m.curPeriod i * v * m.io i O.AX_PL_P)
    else if num = O.AX_PL_P then m.periodBad i (m.velPeriod i * v)
    else if num = O.AX_IQ_LPF ∨ num = O.AX_NOTCH_F then decide (100000 < 4 * v * m.velPeriod i)
    else if num = O.AX_BRAKE_OUT then v != 255 && axes.any (fun b => b != i && m.io b O.AX_BRAKE_OUT == v)
    else false
  else if num = O.HP_PERIOD then
    m.io i O.HP_KIND == 1 && (m.i i).members.any (fun k => k < 64 && m.posPeriod k != v)
  else if num = O.HP_SRC then m.srcBad i v
  else false

/-- STATE for an object of axis or hoop `i`: R319, R340, R221, R371, R372, R353. -/
def Main.stateInst (m : Main) (i num : Nat) (w : Word) : Bool :=
  if num = O.STOP then (m.i i).parent.isSome
  else if num = O.PROFILE_VEL then m.mode i == 1 && m.dirBlocked i (signQ (velQ w))
  else if O.LINK_TYPE ≤ num ∧ num ≤ O.DIS_AT then (m.i i).link.st != 0
  else if i < 64 ∧ O.AX_CL_K ≤ num ∧ num ≤ O.AX_CL_LEAD then !m.atRest i && (m.i i).core.st != sRun
  else if 64 ≤ i ∧ num = O.HP_KIND then !(m.i i).members.isEmpty
  else if 64 ≤ i ∧ num = O.HP_SRC then (m.i i).link.st != 0
  else false

/-! ### Lanes and feedback ports -/

/-- RANGE for an object of lane `a`: R254, R255, R257, R247. -/
def Main.rangeLane (m : Main) (a num v : Nat) : Bool :=
  let g := fun n => m.obj (pwAddr a n)
  let misfit := fun per upd => (m.io a O.AX_CL_K * 40000) % max 1 (if upd = 1 then per / 2 else per) != 0
  if num = O.PW_PERIOD then misfit v (g O.PW_UPDATE)
  else if num = O.PW_UPDATE then (v == 1 && g O.PW_ALIGN == 0) || misfit (g O.PW_PERIOD) v
  else if num = O.PW_ALIGN then v == 0 && g O.PW_UPDATE == 1
  else if num = O.PW_REFRESH then decide (v < g O.PW_MIN_PULSE) || decide (g O.PW_PERIOD < 4 * v)
  else if num = O.PW_COMM_OFFSET then v != 0 && decide (g O.PW_ENC_PER_REV ≤ v)
  else false

/-- STATE for an object of lane `a`: R263, R264. -/
def Main.stateLane (m : Main) (a num v : Nat) : Bool :=
  if num = O.PW_OPMODE then v == 1 && !((m.i a).core.st == sRun && m.mode a == 2)
  else if num = O.PW_SH_COMMIT then m.obj (pwAddr a O.PW_OPMODE) != 1
  else false

/-- RANGE for an object of port `p` (R288). -/
def Main.rangePort (m : Main) (p num v : Nat) : Bool :=
  let trail := m.ser p O.FB_SER_TRAIL
  let n := m.ser p O.FB_SER_CRC_LEN
  if num = O.FB_SER_CRC_LEN then decide (trail < v)
  else if num = O.FB_SER_CRC_POLY then v % 2 == 0 || decide (2 ^ n ≤ v)
  else if num = O.FB_SER_ERRMASK then decide (2 ^ (trail - n) ≤ v)
  else false

/-- R272: another axis whose chains are in the ledger names the port in PW_HALL_PORT. -/
def Main.hallNamed (m : Main) (p : Nat) : Bool :=
  axes.any (fun a => a != p && (m.i a).core.chains != 0 && m.obj (pwAddr a O.PW_HALL_PORT) == p)

/-- STATE for an object of port `p`: R272, R280, R298. -/
def Main.statePort (m : Main) (p num : Nat) : Bool :=
  if num = O.FB_MODE ∨ num = O.FB_FILT_N ∨ num = O.FB_POL ∨ num = O.FB_DIR then !m.atRest p || m.hallNamed p
  else if num = O.FB_Z_ARM then m.obj (fbAddr p O.FB_Z_MODE) != 2
  else if O.FB_SER_BITS ≤ num ∧ num ≤ O.FB_SER_JUMP then m.obj (fbAddr p O.FB_MODE) == 3 && !m.atRest p
  else false

/-! ### Device -/

/-- An axis whose chains are in the ledger takes modulator clock `c` (R233). -/
def Main.clockUsed (m : Main) (c : Nat) : Bool :=
  axes.any (fun a => (m.i a).core.chains != 0 && m.obj (pwAddr a O.PW_SD_CLK) == c)

/-- The emulation output and the row of a DV_EEo_ object number. -/
def eeOf (num : Nat) : Option (Nat × Nat) :=
  if O.DV_EEo_SRC ≤ num ∧ num < O.DV_EEo_SRC + 128 then some ((num - O.DV_EEo_SRC) / 16, num % 16) else none

/-- The peripheral master and the row of a PSn_ object number. -/
def psOf (num : Nat) : Option (Nat × Nat) :=
  if O.PSn_MODE ≤ num ∧ num < O.PSn_MODE + 64 then some ((num - O.PSn_MODE) / 32, num % 32) else none

/-- RANGE for a DV_ object: R293, R299, R530. -/
def Main.rangeDv (m : Main) (num v : Nat) : Bool :=
  match eeOf num, psOf num with
  | some (_, 0), _ => (match srcOf v with | .undef => true | .none => v != 0 | _ => false)
  | some (o, 4), _ => v != 0 && decide (m.obj (eeBase o + 3) ≤ v)
  | _, some (n, 3) => v != 255 && m.obj (psAddr (1 - n) O.PSn_SEL) == v
  | _, _ => false

/-- STATE for a DV_ object: R233, R296, R510, R528. -/
def Main.stateDv (m : Main) (num v : Nat) : Bool :=
  if O.DV_MCLKc_PERIOD ≤ num ∧ num < O.DV_MCLKc_PERIOD + 8 then m.clockUsed (num - O.DV_MCLKc_PERIOD)
  else if O.DV_MCLKc_DLY ≤ num ∧ num < O.DV_MCLKc_DLY + 8 then m.clockUsed (num - O.DV_MCLKc_DLY)
  else if num = O.DV_MCLK_EN then
    (List.range 8).any (fun c => v.testBit c != (m.obj O.DV_MCLK_EN).testBit c && m.clockUsed c)
  else if num = O.DV_SELFTEST then m.sup.boot != .run
  else match eeOf num, psOf num with
  | some (o, _), _ => (m.obj O.DV_EE_EN).testBit o
  | _, some (n, _) => (m.psm n).busy
  | _, _ => false

/-! ### Events, acquisition, field I/O -/

/-- The kind of a latch unit's source (R378). -/
def Main.ltKind (m : Main) (u : Nat) : Nat := m.obj (evAddr u O.EV_LT_SRC) / 4096

/-- RANGE for an EV_ object of unit `u` (R378). -/
def Main.rangeEv (m : Main) (u num v : Nat) : Bool :=
  if num = O.EV_LT_SRC then
    (match v / 4096 with | 0 => v != 0 | 1 => decide (16 ≤ v % 4096) | 2 => decide (32 ≤ v % 4096) | 3 => false | _ => true)
  else if num = O.EV_LT_TGT then
    (match srcOf v with | .inst _ => m.ltKind u == 3 | .master _ => false | .none => v != 0 | _ => true)
  else false

/-- STATE for an EV_ object of unit `u` (R378, R379). -/
def Main.stateEv (m : Main) (u num : Nat) : Bool :=
  let md := m.obj (evAddr u O.EV_LT_MODE)
  if num = O.EV_LT_SRC ∨ num = O.EV_LT_EDGE ∨ num = O.EV_LT_TGT then md != 0
  else if num = O.EV_LT_ARM then md != 1
  else false

/-- R413: the partition of unit `u` at `base` for `depth` records does not fit. -/
def Main.partitionBad (m : Main) (u base depth : Nat) : Bool :=
  decide (524288 < base + depth) || depth != 0 && aqUnits.any (fun v =>
    let b := m.obj (aqAddr v O.AQ_BASE)
    let d := m.obj (aqAddr v O.AQ_DEPTH)
    v != u && d != 0 && decide (base < b + d) && decide (b < base + depth))

/-- R406, R407: a value that AQ_CH_SRC of channel `c` cannot take. -/
def Main.chanBad (m : Main) (u c v : Nat) : Bool :=
  let a := v % 2 ^ 24
  match v / 2 ^ 32 with
  | 0 => false
  | 1 => (match info? a with | some o => !(o.rind && o.ty != .ext && o.ty != .domain) | none => true)
  | 2 => decide (48 ≤ a)
  | 3 => decide (128 ≤ a) || (List.range 8).any (fun k => k != c && m.aqSrc u k / 2 ^ 32 == 3)
  | _ => true

/-- RANGE for an AQ_ object of unit `u`: R406, R407, R413, R415. -/
def Main.rangeAq (m : Main) (u num v : Nat) : Bool :=
  let g := fun n => m.obj (aqAddr u n)
  let notObj := fun c => m.aqSrc u c / 2 ^ 32 != 1
  if num = O.AQ_BASE then m.partitionBad u v (g O.AQ_DEPTH)
  else if num = O.AQ_DEPTH then m.partitionBad u (g O.AQ_BASE) v || decide (v < g O.AQ_PRE + 64 ∧ v ≠ 0)
  else if num = O.AQ_PRE then decide (g O.AQ_DEPTH < v + 64)
  else if num = O.AQ_TRIG_EN then v.testBit 0 && notObj (g O.AQ_TRIG_CH)
  else if num = O.AQ_TRIG_EVT then decide (48 ≤ v % 256) || v / 256 == 0 || decide (3 < v / 256)
  else if O.AQ_CH_SRC ≤ num ∧ num % 16 = 0 then m.chanBad u ((num - O.AQ_CH_SRC) / 16) v
  else false

/-- STATE for an AQ_ object of unit `u` (R414, R423). -/
def Main.stateAq (m : Main) (u num v : Nat) : Bool :=
  let st := (m.aqu u).st
  let rest := st == 0 || st == 4
  if num = O.AQ_CMD then
    (match v with | 1 => !rest || m.obj (aqAddr u O.AQ_DEPTH) == 0 | 2 => st != 2 | _ => false)
  else if num = O.AQ_READ then st != 4
  else if num = O.AQ_FLAGS then false
  else !rest

/-- An armed entry names the channel as its output (R437). -/
def Main.actionNames (m : Main) (c : Nat) : Bool :=
  m.ev.entries.any (fun p => p.2.live &&
    (let act := fld (p.2.words.getD 0 0) 31 28; decide (1 ≤ act ∧ act ≤ 3)) && fld (p.2.words.getD 6 0) 15 0 == c)

/-- R433: the timing of the channel is in use by a latch unit, or by an active instance as a limit or home input. -/
def Main.timingUsed (m : Main) (c : Nat) : Bool :=
  (List.range 32).any (fun u => m.obj (evAddr u O.EV_LT_MODE) != 0 && m.obj (evAddr u O.EV_LT_SRC) == 2 * 4096 + c)
    || instances.any (fun i => m.activeSt i &&
        (m.io i O.LIM_POS_IN == c || m.io i O.LIM_NEG_IN == c || m.io i O.HOME_IN == c))

/-- STATE for an IO_ object of channel `c`: R194, R433, R437, R440. -/
def Main.stateIo (m : Main) (c num v : Nat) : Bool :=
  let brake := (m.brakeAxis c).isSome
  if num = O.IO_OUT then !m.isOut c || brake || m.field.link != 2
  else if num = O.IO_DIR then brake || (v == 0 && m.actionNames c)
  else if num = O.IO_IN_TYPE ∨ num = O.IO_IN_FILT then m.timingUsed c
  else false

/-! ### Reset and configuration -/

/-- R489: a unit code. -/
def unitCode (v : Nat) : Bool :=
  (v / 256 == 1 && v % 256 < 64) || (v / 256 == 3 && v % 256 < 8) || (v / 256 == 8 && v % 256 < 8)
    || [0x1000, 0x2000, 0x2100, 0x2200, 0x3000].contains v

/-! ### The checks together -/

/-- Check 7 beyond the object's own range. -/
def Main.rangeBad (m : Main) (a : Nat) (w : Word) : Bool :=
  let n := numOf a
  let i := instOf a
  let v := w.toNat
  match areaOf a with
  | 0 => m.rangeDv n v
  | 2 => (n == O.HS_CLAIM || n == O.HS_RELEASE || n == O.HS_BREAK) && (domainOfCode v).isNone
  | 3 => m.rangeInst i n w
  | 4 => m.rangeInst (64 + i) n w
  | 5 => m.rangePort i n v
  | 6 => m.rangeLane i n v
  | 7 => m.rangeEv i n v
  | 8 => n == O.IO_DIR && decide (i < 16) && v != 0
  | 10 => m.rangeAq i n v
  | 12 => n == O.RS_UNIT_RESET && !unitCode v
  | 13 => n == O.CF_SECVER_RAISE && (v != ((m.firmware.getD 5 0).toNat) || m.firmware.isEmpty)
  | _ => false

/-- R497: before the protection lock only the stage of a firmware update in RECOVERY may be written. -/
def Main.bootBars (m : Main) (a : Nat) : Bool :=
  !m.locked && !(m.sup.boot == .recovery && (a == cfAddr 0 O.CF_FW_STAGE || a == cfAddr 0 O.CF_FW_UPDATE))

/-- Check 8: the object's "Settle" mark and the rules that name a state. -/
def Main.stateBad (m : Main) (a : Nat) (w : Word) : Bool :=
  let n := numOf a
  let i := instOf a
  let v := w.toNat
  let settle := match info? a with | some o => o.settle | none => false
  (settle && !m.atRest (instIx a)) ||
  (match areaOf a with
   | 0 => m.stateDv n v
   | 1 => n == O.NT_TIME_SET && (m.obj (ntAddr 0 O.NT_SYNC_MODE) == 0 || !m.stepAllowed)
   | 3 => m.stateInst i n w
   | 4 => m.stateInst (64 + i) n w
   | 5 => m.statePort i n
   | 6 => m.stateLane i n v
   | 7 => m.stateEv i n
   | 8 => m.stateIo i n v
   | 10 => m.stateAq i n v
   | 13 => n == O.CF_COMMIT && m.sup.boot != .run
   | _ => false)

/-- Check 9 (R103): an operation runs on the instance, and the object is one it locks. Homing locks 0x070 to 0x091 and
POS_OFFSET (R335), readout the unit's configuration (R423), a commit or update the staging buffers (R507). -/
def Main.opLocks (m : Main) (a : Nat) : Bool :=
  let n := numOf a
  let ar := areaOf a
  let has := ar == 3 || ar == 4 || ar == 10 || ((ar == 11 || ar == 13) && instOf a == 0) || ar == 0
  let o := m.lop (opSlot a)
  has && o.busy && (decide (0x100 ≤ n ∧ n < 0x200)
    || (o.kind == 1 && (decide (O.LIM_POS_IN ≤ n ∧ n ≤ O.MOD_DIR) || n == O.POS_OFFSET))
    || (ar == 10 && decide (0x200 ≤ n ∧ n < 0x300))
    || (ar == 0 && n == O.DV_SELFTEST))

/-- Checks 6 to 9 for a write of one word. -/
def Main.wordRefusal (m : Main) (a : Nat) (w : Word) : Option Nat :=
  match info? a with
  | none => some aNoObject
  | some o => match o.valueRefusal w with
    | some c => some c
    | none =>
      if m.rangeBad a w then some aRange
      else if m.bootBars a || m.stateBad a w then some aState
      else if m.opLocks a then some aOpRunning
      else none

end Sys2Proof.Machine
end

