-- ==== Sys2Proof/Machine/Refusals.lean ====
section
/-! DEFINITION. What refuses a write after the best-effort check: checks 6 to 9 of R92 for every object, and the objects
whose rules name more than their own value: CONTROL, LINK_CMD, membership, the action queue and its templates, cam memory,
segments, transfers, and the starts of long operations. -/

namespace Sys2Proof.Machine

/-- Of two checks the one that comes first in R92: from TYPE on, the abort codes rise in the order of the checks. -/
def firstOf : Option Nat → Option Nat → Option Nat
  | some a, some b => some (min a b)
  | some a, none => some a
  | none, b => b

/-! ### Hoop membership (R338-R341) -/

/-- Hoop `k` is `h` or an ancestor of it. -/
def Main.above (m : Main) (k : Nat) : Nat → Nat → Bool
  | 0, h => k == h
  | d + 1, h => k == h || (match (m.i h).parent with | some p => m.above k d p | none => false)

/-- R339: the state of member `k` in which it may join or leave hoop `h`; `join` adds MOVING 0. -/
def Main.mayChange (m : Main) (h k : Nat) (join : Bool) : Bool :=
  let run := m.io h O.HP_KIND == 1 && (m.i k).core.st == sRun && (m.i k).link.st == 0 && !(join && m.moving k)
  if m.atRest h then m.atRest k || run else (m.i h).core.st == sRun && run

/-- R337, R338, R339: what refuses HP_ADD. -/
def Main.addRefusal (m : Main) (h v : Nat) : Option Nat :=
  match memberOf v with
  | none => some aRange
  | some k =>
    let kind := m.io h O.HP_KIND
    if m.above k 64 h || (m.i k).parent.isSome || decide (64 ≤ (m.i h).members.length)
        || (kind == 1 && decide (k < 64) && m.posPeriod k != m.io h O.HP_PERIOD)
        || (kind == 1 && decide (64 ≤ k) && m.io k O.HP_KIND == 0)
        || (kind == 2 && !(if k < 64 then m.io k O.AX_MOTOR_TYPE != 0 else m.io k O.HP_KIND == 2)) then some aRange
    else if kind = 0 ∨ !m.mayChange h k true then some aState
    else none

/-- R339: what refuses HP_REMOVE; of an instance that is no member nothing does. -/
def Main.removeRefusal (m : Main) (h v : Nat) : Option Nat :=
  match memberOf v with
  | none => some aRange
  | some k => if (m.i h).members.contains k && !m.mayChange h k false then some aState else none

/-! ### Action entries and templates (R387, R389, R402) -/

/-- A position on a modulo source lies outside it (R389). -/
def Main.offModulo (m : Main) (src : Src) (w : Word) : Bool :=
  match src with
  | .inst i => let md := m.io i O.MODULO; md != 0 && !(decide (0 ≤ sgn w) && decide (sgn w < md))
  | _ => false

/-- R387, R389: a field of an entry is out of range. In a template (R402) SOURCE may be 0, and POSITION is an offset. -/
def Main.entryRange (m : Main) (ws : List Word) (tpl : Bool) : Bool :=
  let w := fun n => ws.getD n 0
  let trig := fld (w 0) 35 32
  let act := fld (w 0) 31 28
  let src := fld (w 1) 15 0
  let tgt := fld (w 6) 15 0
  let param := (w 7).toNat
  let srcBad := match srcOf src with
    | .inst i => !tpl && m.offModulo (.inst i) (w 2)
    | .master _ => false
    | .none => !(tpl && src == 0)
    | _ => true
  decide (3 < trig) || act == 0 || decide (7 < act)
    || trig != 0 && (srcBad || decide (400000000 < (w 3).toNat))
    || decide (1 ≤ act ∧ act ≤ 3) && (!m.isOut tgt || (m.brakeAxis tgt).isSome)
    || act == 3 && !(decide (1 ≤ param) && decide (param ≤ 60000000))
    || (act == 4 || act == 5) && (memberOf tgt).isNone
    || act == 6 && decide (7 < tgt) || act == 7 && decide (4095 < tgt)

/-- R389: a cam engage needs a target whose link is IDLE and that has a source. -/
def Main.entryState (m : Main) (ws : List Word) : Bool :=
  fld (ws.getD 0 0) 31 28 == 5 && (match memberOf (fld (ws.getD 6 0) 15 0) with
    | none => false
    | some k => (m.i k).link.st != 0 || (match m.sourceOf k with | .inst _ => false | .master _ => false | _ => true))

/-- The templates that a write gives, eight words each. -/
def templates (ws : List Word) : List (List Word) := (List.range (ws.length / 8)).map (fun k => (ws.drop (8 * k)).take 8)

/-- R401: a cancel by index that matches no entry it acts on. -/
def Main.cancelBad (m : Main) (w : Word) : Bool :=
  let x := m.act (fld w 9 0)
  !w.getLsbD 26 && !(x.live && x.tag == fld w 25 10)

/-! ### Cam memory (R360) -/

/-- The regions in use: current and retained versions of every table. -/
def Main.regions (m : Main) : List (Nat × Nat) :=
  m.tabs.flatMap (fun p => (if p.2.ver = 0 then [] else [(p.2.base, p.2.words)]) ++ p.2.retained.toList)

/-- Words `a` to `a + n - 1` touch a region in use. -/
def Main.camTouches (m : Main) (a n : Nat) : Bool :=
  m.regions.any (fun r => decide (a < r.1 + r.2) && decide (r.1 < a + n))

/-! ### Checks 6 to 9 -/

/-- RANGE and STATE of a DOMAIN write. Segments are checked by `segWrite`. -/
def Main.domainRefusal (m : Main) (a : Nat) (d : WData) : Option Nat :=
  if a = evAddr 0 O.EV_QUEUE then
    if d.offset % 8 ≠ 0 ∨ m.entryRange d.words false then some aRange
    else if (m.act (d.offset / 8)).live ∨ m.entryState d.words then some aState else none
  else if a = evAddr 0 O.EV_TPL then
    if d.offset % 8 ≠ 0 ∨ (templates d.words).any (fun t => m.entryRange t true) then some aRange
    else if (templates d.words).any m.entryState then some aState else none
  else if a = cmAddr 0 O.CM_MEM then (if m.camTouches d.offset d.words.length then some aState else none)
  else if areaOf a = 0 then
    match psOf (numOf a) with
    | some (n, _) => if (m.psm n).busy || m.obj (psAddr n O.PSn_SEL) == 255 then some aState else none
    | none => none
  else none

/-- A write that starts a long operation (R97). -/
def startsOp (a v : Nat) : Bool :=
  let n := numOf a
  (areaOf a == 0 && n == O.DV_SELFTEST && v == 1) || (areaOf a == 10 && n == O.AQ_READ && v == 1)
    || (areaOf a == 11 && n == O.CM_COMMIT) || (areaOf a == 13 && (n == O.CF_COMMIT || (n == O.CF_FW_UPDATE && v == 1)))

/-- What refuses a write of one word beyond its own value and state. -/
def Main.specialRefusal (m : Main) (a : Nat) (w : Word) : Option Nat :=
  let n := numOf a
  let i := instIx a
  let v := w.toNat
  if startsOp a v then
    if (m.lop (opSlot a)).busy then some aOpRunning else if m.beRoom then none else some aBusy
  else match areaOf a with
  | 3 => if n = O.CONTROL then m.controlRefusal i v else if n = O.LINK_CMD ∧ v = 1 then m.linkRefusal i else none
  | 4 => if n = O.CONTROL then m.controlRefusal i v else if n = O.LINK_CMD ∧ v = 1 then m.linkRefusal i
         else if n = O.HP_ADD then m.addRefusal i v else if n = O.HP_REMOVE then m.removeRefusal i v else none
  | 7 => if n = O.EV_CANCEL ∧ m.cancelBad w then some aState else none
  | _ => none

/-- Checks 6 to 9 of R92 for a write. -/
def Main.writeRefusal (m : Main) (a : Nat) (d : WData) : Option Nat :=
  match info? a with
  | none => some aNoObject
  | some o =>
    let w := wordN d.value
    let own := match o.ty with
      | .domain => m.domainRefusal a d
      | _ => m.specialRefusal a w
    let self := match o.ty with
      | .domain => if m.bootBars a then some aState else if m.opLocks a then some aOpRunning else none
      | _ => m.wordRefusal a w
    firstOf self own

end Sys2Proof.Machine
end

