-- ==== Sys2Proof/Machine/Banks.lean ====
section
/-! DEFINITION. The configuration store (R499-R509): records, configuration images, firmware images, the choice of the
target bank, what a commit or an update writes, and what an interrupted one leaves. -/

namespace Sys2Proof.Machine

/-! ### Bank records (R500) -/

/-- A record is good: FORMAT and CHECK are correct. -/
def recordGood (r : List Word) : Bool :=
  r.length == 4 && fld (r.getD 0 0) 35 28 == 1 && fld (r.getD 3 0) 31 0 == crcWords (r.take 3)

/-- The record of generation `gen`. -/
def recordOf (gen : Nat) : List Word :=
  let w := [wordN (2 ^ 28), wordN gen, 0]
  w ++ [wordN (crcWords w)]

/-- Change a bank of the store. -/
def Main.modBank (m : Main) (b : Bank) (f : BankSt → BankSt) : Main :=
  match b with
  | .bankA => { m with store := { m.store with bankA := f m.store.bankA } }
  | .bankB => { m with store := { m.store with bankB := f m.store.bankB } }

/-- The bank's record is good. -/
def Main.bankGood (m : Main) (b : Bank) : Bool := recordGood (m.bank b).record

/-- The banks with a good record, highest GEN first. -/
def Main.goodBanks (m : Main) : List Bank :=
  match m.bankGood .bankA, m.bankGood .bankB with
  | true, true => if (m.bank .bankB).gen ≤ (m.bank .bankA).gen then [.bankA, .bankB] else [.bankB, .bankA]
  | true, false => [.bankA]
  | false, true => [.bankB]
  | false, false => []

/-- R505: the target is the bank whose record is not the newest good one, or bank A where no record is good. -/
def Main.targetBank (m : Main) : Bank := match m.goodBanks with | .bankA :: _ => .bankB | _ => .bankA

/-- Bank records are read: bit 0 of CF_BANK_INFO (R511). -/
def Main.readRecords (m : Main) : Main :=
  (m.modBank .bankA (fun b => { b with recGood := recordGood b.record })).modBank .bankB
    (fun b => { b with recGood := recordGood b.record })

/-! ### Configuration images (R501, R502, R504) -/

/-- The object entries of an image, `n` of them: address and data words; none where they do not fill the words exactly. -/
def entriesIn : Nat → List Word → Option (List (Nat × List Word))
  | 0, [] => some []
  | 0, _ :: _ => none
  | _ + 1, [] => none
  | n + 1, h :: r =>
    let len := fld h 35 24
    if len = 0 ∨ r.length < len then none
    else (entriesIn n (r.drop len)).map (fun l => (fld h 23 0, r.take len) :: l)

/-- R504: an entry of the protection section. -/
def protEntryOk (w0 w1 : Word) : Bool :=
  fld w0 35 32 != 15 && decide (fld w0 31 20 ≤ fld w0 19 8) && fld w1 35 20 == 0

/-- R504: the protection section, pairs of words. -/
def protOk : List Word → Bool
  | [] => true
  | [_] => false
  | w0 :: w1 :: r => protEntryOk w0 w1 && protOk r

/-- WORDS of an image. -/
def imgWords (ws : List Word) : Nat := (ws.getD 1 0).toNat

/-- PROT_COUNT of an image. -/
def imgProtN (ws : List Word) : Nat := fld (ws.getD 5 0) 6 0

/-- The protection section of an image. -/
def imgProt (ws : List Word) : List Word := (ws.drop 6).take (2 * imgProtN ws)

/-- The object entries of an image. -/
def imgEntries (ws : List Word) : Option (List (Nat × List Word)) :=
  entriesIn (fld (ws.getD 0 0) 16 0) ((ws.take (imgWords ws)).drop (6 + 2 * imgProtN ws))

/-- FORMAT, WORDS and N_ENTRIES are possible, as far as the header shows it. -/
def imgHeaderOk (ws : List Word) : Bool :=
  fld (ws.getD 0 0) 35 28 == 1 && decide (6 ≤ imgWords ws) && decide (imgWords ws ≤ 116494)
    && decide (imgWords ws ≤ ws.length) && decide (6 + 2 * fld (ws.getD 0 0) 16 0 ≤ imgWords ws)

/-- The check word of an image is right (R501). -/
def imgCheckOk (ws : List Word) : Bool :=
  imgHeaderOk ws && fld (ws.getD 3 0) 31 0 == crcWords ((ws.take (imgWords ws)).drop 4)

/-- R502: the image's RELEASE is accepted by firmware of `release`. -/
def imgReleaseOk (ws : List Word) (release : Nat) : Bool :=
  fld (ws.getD 2 0) 23 16 == release / 65536 && decide (fld (ws.getD 2 0) 15 8 ≤ release / 256 % 256)

/-- R502: why an image is not used: 0 where it is, else CF_DEFAULT_WHY. The header is judged first, then the check word,
RELEASE, and the sections (DEDUCED, log 43). -/
def imgWhy (ws : List Word) (release : Nat) : Nat :=
  if ws.isEmpty then 4
  else if !imgHeaderOk ws then 3
  else if !imgCheckOk ws then 1
  else if !imgReleaseOk ws release then 2
  else if 64 < imgProtN ws ∨ !protOk (imgProt ws) ∨ (imgEntries ws).isNone then 3
  else 0

/-! ### Firmware images (R506) -/

/-- BODY_LEN of a firmware image. -/
def fwBodyLen (l : List Byte) : Nat := natOfBytes ((l.drop 6).take 4)

/-- R506, R509: why a firmware image does not pass: 0 where it does. -/
def fwWhy (l : List Byte) (secVer : Nat) : Nat :=
  if natOfBytes (l.take 2) ≠ 1 ∨ 1572726 < fwBodyLen l ∨ l.length < 138 + fwBodyLen l ∨ 63 < (l.getD 5 0).toNat then 0x80
  else if !Config.keyAccepted ((l.drop 10).take 64) || !Config.signatureGood (l.take (138 + fwBodyLen l)) then 0x83
  else if (l.getD 5 0).toNat < secVer then 0x84
  else 0

/-- The image in CF_FW_STAGE. -/
def Main.stagedFw (m : Main) : List Byte :=
  let at_ := fun n => (List.range n).map (fun k => mget 0 m.store.fwStage k)
  at_ (138 + min (fwBodyLen (at_ 10)) 1572726)

/-- The image in CF_CFG_STAGE. -/
def Main.stagedCfg (m : Main) : List Word :=
  (List.range (min 116494 (mget 0 m.store.cfgStage 1).toNat)).map (fun k => mget 0 m.store.cfgStage k)

/-! ### The image of the live values (R505) -/

/-- The addresses of the stored objects of an area, ascending. -/
def storedOf (area : Nat) : List Nat :=
  (List.range 256).flatMap (fun i =>
    ((objsOfArea area).flatMap (fun o =>
      if o.stored && decide (o.instLo ≤ i) && decide (i ≤ o.instHi) then
        (List.range (o.numHi + 1 - o.numLo)).map (fun k => area * 0x100000 + i * 0x1000 + o.numLo + k)
      else [])).foldl (fun l a => insertNat a l) [])

/-- The live value of a stored object as words. -/
def Main.liveWords (m : Main) (a : Nat) : List Word :=
  match info? a with
  | none => []
  | some o => match o.ty with
    | .domain => (List.range 128).map (fun k => mget 0 m.ev.tpl k)
    | .ext => [wordN (m.readWord a / 2 ^ 36), wordN (m.readWord a)]
    | _ => [wordN (m.readWord a)]

/-- The image of the live values: entries in ascending address order, with the protection section of the booted image, or
of the defaults. -/
def Main.liveImage (m : Main) : List Word :=
  let addrs := (List.range 15).flatMap storedOf
  let entries := addrs.flatMap (fun a => let d := m.liveWords a; wordN (d.length * 2 ^ 24 + a) :: d)
  let prot := match m.sup.image with
    | some ws => wordN (fld (ws.getD 4 0) 15 0) :: wordN (imgProtN ws) :: imgProt ws
    | none => [0x100, 0]
  let body := prot ++ entries
  [wordN (2 ^ 28 + addrs.length), wordN (4 + body.length), wordN (fwRelease m.firmware), wordN (crcWords body)] ++ body

/-! ### Commit and update (R505, R507, R509) -/

/-- What the running commit (kind 5) or update (kind 8) writes to the target's slots, or its OP_ERROR. Where no bank has a
good record, the slot that would be copied stays as it is (DEDUCED, log 41). -/
def Main.storePlan (m : Main) (kind param : Nat) : Nat ⊕ (List Byte × List Word) :=
  let own := m.bank m.targetBank
  let src := match m.goodBanks.find? (fun b => b != m.targetBank) with | some b => m.bank b | none => own
  if kind = 8 then
    let l := m.stagedFw
    match fwWhy l m.sup.secVer with
    | 0 => .inr (l, src.cfg)
    | c => .inl c
  else
    let ws := if param = 1 then m.liveImage else m.stagedCfg
    if param = 1 then (if 116494 < ws.length then .inl 0x80 else .inr (src.fw, ws))
    else match imgWhy ws (fwRelease m.firmware) with
      | 0 => .inr (src.fw, ws)
      | 1 => .inl 0x81
      | 2 => .inl 0x82
      | _ => .inl 0x80

/-- The start of a commit or update: the target's record is erased, and bits of CF_BANK_INFO are cleared for what is about
to be written (R505, R511). -/
def Main.eraseTarget (m : Main) (kind param : Nat) : Main :=
  let writes := match m.storePlan kind param with | .inr _ => true | .inl _ => false
  m.modBank m.targetBank (fun b => { b with
    record := [], recGood := false, fwGood := b.fwGood && !writes, cfgGood := b.cfgGood && !writes })

/-- The first `k` elements of what is written over what was there. -/
def cutAt {α : Type} (k : Nat) (new old : List α) : List α := new.take k ++ old.drop k

/-- A commit or update that ends before its record is written leaves the target's slots written up to a point that the
spec does not state: a free one (log 41). -/
def Main.cutStore (m : Main) : Main :=
  let o := m.lop opCF
  if !o.busy then m
  else match m.storePlan o.kind o.param with
    | .inl _ => m
    | .inr (fw, cfg) =>
      let f := m.freeWord
      let cut := f.1.toNat % (fw.length + cfg.length + 1)
      f.2.modBank m.targetBank (fun b => { b with fw := cutAt cut fw b.fw, cfg := cutAt (cut - fw.length) cfg b.cfg })

/-- The end of a commit or update that has written and read back both slots: the record comes last, and one result record
is appended. -/
def Main.storeEnd (m : Main) : Main :=
  let o := m.lop opCF
  match m.storePlan o.kind o.param with
  | .inl c => m.opFail opCF c
  | .inr (fw, cfg) =>
    let t := m.targetBank
    let gen := (match m.goodBanks with | b :: _ => (m.bank b).gen | [] => 0) + 1
    let m := m.modBank t (fun _ => { record := recordOf gen, fw := fw, cfg := cfg, fwGood := true, cfgGood := true, recGood := true })
    let bank : Word := match t with | .bankA => 0 | .bankB => 1
    let m := if o.kind = 8 then m.addResult opCF 0x51 none [bank, wordN gen, wordN (fwRelease fw), wordN (fwBodyLen fw)]
      else m.addResult opCF 0x50 none [bank, wordN gen, wordN (imgWords cfg)]
    m.opDone opCF

end Sys2Proof.Machine
end

