-- ==== Sys2Proof/Machine/Claims.lean ====
section
/-! DEFINITION. Claims, releases and breaks of domains (R81-R84), opening, closing and lapse of sessions (R78, R85, R121,
R138). -/

namespace Sys2Proof.Machine

/-! ### Domains -/

/-- The key under which a request without a ticket waits in a claim window: no answer place is its. -/
def noKey (sess : Nat) : Key := { sess := sess, ticket := 256 }

/-- A claimant's requests with one more. -/
def Claimant.also (c : Claimant) (k : Key) : Claimant := { c with keys := c.keys ++ [k] }

/-- A window that session `sess` joins with request `k`; a session that has joined already only waits for the same
outcome. -/
def Window.join (w : Window) (sess : Nat) (k : Key) : Window :=
  if w.claimants.any (fun c => c.sess == sess) then
    { w with claimants := w.claimants.map (fun c => if c.sess = sess then c.also k else c) }
  else { w with claimants := w.claimants ++ [{ sess := sess, keys := [k] }] }

/-- R81: a claim of the domain with map index `d`. -/
def Main.claimDomain (m : Main) (sess d : Nat) (key : Option Key) : Main × Option Nat :=
  let k := key.getD (noKey sess)
  match m.ownerOf d with
  | some n => (m, some (if n = sess then 0 else aOwned))
  | none =>
    let w := if m.windowOpen d then mget {} m.windows d else { opened := m.now }
    ({ m with windows := mplace d (w.join sess k) m.windows }, none)

/-- The end of ownership of a domain. -/
def Main.disown (m : Main) (d : Nat) : Main := { m with owner := merase m.owner d }

/-- R84: session `sess` withdraws from a window. -/
def Window.withdraw (w : Window) (sess : Nat) : Window :=
  { w with claimants := w.claimants.map (fun c => if c.sess = sess then { c with withdrawn := true } else c) }

/-- R84: a release of the domain by `sess`. -/
def Main.releaseDomain (m : Main) (sess d : Nat) : Main :=
  if m.windowOpen d then { m with windows := mplace d ((mget {} m.windows d).withdraw sess) m.windows }
  else if m.owns sess d then m.disown d
  else m

/-- R84: HS_BREAK. -/
def Main.breakDomainNow (m : Main) (d : Nat) : Main := if m.windowOpen d then m else m.disown d

/-- R82: the winner of a window: of the claimants that have not withdrawn, the lowest session number. -/
def Window.winner (w : Window) : Option Nat := ((w.claimants.filter (fun c => !c.withdrawn)).map (fun c => c.sess)).min?

/-- CLAIM_WINDOW_CLOSE (R82): the window's claims are answered. -/
def Main.closeWindow (m : Main) (d : Nat) : Main :=
  let w := mget {} m.windows d
  let m := { m with windows := merase m.windows d }
  let m := match w.winner with | some n => { m with owner := mplace d (n + 1) m.owner } | none => m
  w.claimants.foldl (fun m c => c.keys.foldl (fun m k =>
    m.deliver k (hsAddr c.sess O.HS_CLAIM) (if w.winner = some c.sess then 0 else aClaimLost)) m) m

/-- The first slot boundary at or after an extended time. -/
def boundaryAt (e : Nat) : Nat := if e % 2 ^ 36 % unitsPerSlot = 0 then e else nextBoundary e

/-- The slot boundary at which a window closes (R82). A window opened before HS_CLAIM_WINDOW was rewritten closes by the new
value: which of the two applies is stated nowhere (DESIGN CHOICE, log 112). -/
def Main.closesAt (m : Main) (w : Window) : Nat :=
  boundaryAt (w.opened + m.obj (hsAddr 0 O.HS_CLAIM_WINDOW) * unitsPerUs)

/-- CLAIM_WINDOW_CLOSE (R82): not before the window's boundary. -/
def execClaimWindowClose (domain : Fin 155) (s : State) : Answered :=
  s.onMain (fun m =>
    if m.windowOpen domain ∧ m.closesAt (mget {} m.windows domain) ≤ m.now then m.closeWindow domain else m)

/-! ### Sessions -/

/-- R84, R138: the end of a session: its domains are released, its claims withdrawn, its answer places freed. -/
def Main.endSession (m : Main) (n : Nat) : Main :=
  let m := { m with
    owner := (List.range 155).foldl (fun o d => if mget 0 m.owner d = n + 1 then merase o d else o) m.owner
    windows := m.windows.map (fun (p : Nat × Window) => (p.1, p.2.withdraw n)) }
  m.modSe n (fun s => { s with isOpen := false, service := false, places := [] })

/-- R78, R121: OPEN: the status and HS_SERVICE as it results. -/
def Main.openNow (m : Main) (n : Nat) (addr : Nat) : Main × Nat :=
  if 2 ≤ addr then (m, aRange)
  else if (m.se n).isOpen then (m, aState)
  else (m.modSe n (fun s => { s with isOpen := true, service := addr == 1 && m.svcMask.testBit n }), 0)

/-- R85: the lease of the session has run out. -/
def Main.leaseOver (m : Main) (n : Nat) : Bool :=
  let l := m.obj (hsAddr n O.HS_LEASE)
  l != 0 && (m.se n).isOpen && decide ((m.se n).last + l * unitsPerMs ≤ m.now)

/-- SESSION_LAPSE (R85). -/
def execSessionLapse (sess : Sess) (s : State) : Answered :=
  s.onMain (fun m => if m.leaseOver sess then (m.endSession sess).inc (hsAddr sess O.HS_LAPSE_COUNT) else m)

end Sys2Proof.Machine
end

