-- ==== Sys2Proof/Machine/Effects.lean ====
section
/-! DEFINITION. The effect of an accepted write (check 11 of R92 and what follows). Each effect answers with a status, or
with none where the answer comes later: after the ledger's decision, at the close of a claim window, at the end of a
transfer. -/

namespace Sys2Proof.Machine

/-- An effect that is complete: answered OK. -/
def Main.ok (m : Main) : Main × Option Nat := (m, some 0)

/-- A bitwise exclusion within 36 bits. -/
def clearBits (v mask : Nat) : Nat := v - (v &&& mask)

/-! ### Values as stored (R6, R16) -/

/-- The bits of an object that are not reserved; reserved bits are ignored on a write and read 0 (R6). -/
def storeMask (a : Nat) : Nat :=
  let n := numOf a
  match areaOf a with
  | 3 => if n = O.LIM_POL then 7 else 2 ^ 36 - 1
  | 4 => if n = O.LIM_POL then 7 else 2 ^ 36 - 1
  | 5 => if n = O.FB_POL then 15 else 2 ^ 36 - 1
  | 10 => if n = O.AQ_TRIG_EN then 15 else if O.AQ_CH_SRC ≤ n ∧ n % 16 = 0 then 0xF00FFFFFF else 2 ^ 36 - 1
  | _ => 2 ^ 36 - 1

/-- The value is stored; of a write-1-to-clear object the bits written 1 clear, of a write-only object nothing is kept. -/
def Main.store1 (m : Main) (a v : Nat) : Main :=
  match info? a with
  | none => m
  | some o =>
    if o.own = .w1c ∨ o.svc = .w1c then m.setObj a (clearBits (m.obj a) v)
    else if o.own = .wo ∨ o.svc = .wo then m
    else m.setObj a (v &&& storeMask a)

/-! ### Load-adding writes (R24, R51, R221, R296, R347, R393) -/

/-- The objects whose value is part of a chain in the ledger. -/
def chainObj (a : Nat) : Bool :=
  let n := numOf a
  match areaOf a with
  | 0 => n == O.DV_EE_EN
  | 3 => (decide (O.AX_CL_K ≤ n) && decide (n ≤ O.AX_CL_LEAD)) || n == O.SHARE_WEIGHT
  | 4 => n == O.HP_PERIOD || n == O.HP_PL_P || n == O.SHARE_WEIGHT
  | 7 => n == O.EV_REF_PERIOD
  | _ => false

/-- A loop object of an axis, which in RUN takes effect at the commit whatever its net result (R221). -/
def loopObj (a : Nat) : Bool := areaOf a == 3 && decide (O.AX_CL_K ≤ numOf a) && decide (numOf a ≤ O.AX_CL_LEAD)

/-- The write changes a chain, and not by removing load only. -/
def Main.changesLoad (m : Main) (a v : Nat) : Bool :=
  chainObj a &&
    (let was := m.chainsOf
     let want := (m.setObj a v).chainsOf
     want != was && (loopObj a || !onlyRemoves was want))

/-! ### Axes and hoops -/

/-- A host's write of POS_OFFSET (R301, R302, R342): HOMED clears, ACTUAL_POS follows; a follow hoop's set-point moves with
it and its raw position stands. -/
def Main.hostOffset (m : Main) (i : Nat) (v : Int) : Main :=
  let raw := m.rawPos i
  let d := sdiff v (m.ioI i O.POS_OFFSET)
  let m := ((m.setObjI (instAddr i O.POS_OFFSET) v).unhome i).setActual i raw
  if 64 ≤ i ∧ m.io i O.HP_KIND ≠ 2 then m.shiftRef i d else m

/-- LINK_CMD (R347, R356, R357): engage, disengage, disengage at DIS_AT. -/
def Main.linkCmd (m : Main) (sess i v : Nat) (key : Option Key) : Main × Option Nat :=
  let charged := match (m.i i).parent with | some p => (m.i p).core.chains != 0 | none => false
  if v = 1 then
    if charged then
      (m.askLedger { sess := sess, addr := instAddr i O.LINK_CMD, key := key, change := .link i }, none)
    else (m.applyChange (.link i)).ok
  else if (m.i i).link.st = 0 then m.ok
  else if v = 2 then (m.modLink i (fun l => { l with cmd := 2 })).ok
  else (m.modLink i (fun l => { l with disArm := true })).ok

/-- A member joins a hoop (R340). -/
def Main.join (m : Main) (h k : Nat) : Main := (m.joinCore h k).joined_ k

/-- HP_ADD (R24, R340): a member whose chains change with its MODE joins once the ledger has admitted them. -/
def Main.hpAdd (m : Main) (sess h k : Nat) (key : Option Key) : Main × Option Nat :=
  if onlyRemoves m.chainsOf (m.joinCore h k).chainsOf then (m.join h k).ok
  else (m.askLedger { sess := sess, addr := instAddr h O.HP_ADD, key := key, change := .join h k }, none)

/-- A member leaves its hoop (R341). -/
def Main.leave (m : Main) (h k : Nat) : Main :=
  let m := (m.modI h (fun x => { x with members := x.members.erase k })).linkIdle k
  let m := (m.setMode k 0).modI k (fun x => { x with parent := none, isolated := false })
  if (m.i k).core.st = sRun then m.holdHere k else m

/-- An accepted write of an object of axis or hoop `i`, one word. -/
def Main.instEffect (m : Main) (sess i : Nat) (w : Word) (num : Nat) (key : Option Key) : Main × Option Nat :=
  let a := instAddr i num
  let v := w.toNat
  let m1 := m.store1 a v
  if num = O.CONTROL then m.controlEffect sess i v key
  else if num = O.LINK_CMD then m.linkCmd sess i v key
  else if O.PROFILE_VEL ≤ num ∧ num ≤ O.BLEND_SHAPE then (m1.profileChange i num).ok
  else if num = O.POS_OFFSET then (m.hostOffset i (sgn w)).ok
  else if num = O.MODULO then (m1.unhome i).ok
  else if num = O.TARGET_TORQUE then (m1.modM i (fun x => { x with vHold := false })).ok
  else if i < 64 ∧ num = O.AX_POLE_PAIRS then (m1.setObj (pwAddr i O.PW_COMM_VALID) 0).ok
  else if 64 ≤ i ∧ num = O.HP_ADD then (match memberOf v with | some k => m.hpAdd sess i k key | none => m.ok)
  else if 64 ≤ i ∧ num = O.HP_REMOVE then
    (match memberOf v with | some k => (if (m.i i).members.contains k then m.leave i k else m).ok | none => m.ok)
  else m1.ok

/-! ### Lanes and feedback ports -/

/-- PW_SH_COMMIT (R264): the four shadow objects are taken as one set. -/
def Main.shadowCommit (m : Main) (a : Nat) : Main :=
  let g := fun n => m.objW (pwAddr a n)
  m.modLn a (fun l => { l with
    shPend := some { u := g O.PW_SH_CMP_U, v := g O.PW_SH_CMP_V, w := g O.PW_SH_CMP_W, at_ := m.now, period := m.obj (pwAddr a O.PW_SH_PERIOD) } })

/-- PW_OPMODE (R263, R266): in shadow mode the bank keeps the set in force, and values of the loop not yet taken are dropped. -/
def Main.opMode (m : Main) (a v : Nat) : Main :=
  if v = 1 then
    (if (m.ln a).shadow then m else m.modLn a (fun l => { l with
      shadow := true, shEnd := none, pend := none
      shSet := some (l.shSet.getD { u := BitVec.ofNat 36 l.wU, v := BitVec.ofNat 36 l.wV, w := BitVec.ofNat 36 l.wW }) })).setObj
        (pwAddr a O.PW_OPMODE) 1
  else (m.endShadow a).setObj (pwAddr a O.PW_OPMODE) 0

/-- An accepted write of an object of lane `a`. -/
def Main.laneEffect (m : Main) (a v num : Nat) : Main :=
  let m1 := m.store1 (pwAddr a num) v
  if num = O.PW_OPMODE then m.opMode a v
  else if num = O.PW_SH_COMMIT then (if v = 1 then m.shadowCommit a else m)
  else if num = O.PW_COMM_SRC then m1.setObj (pwAddr a O.PW_COMM_VALID) 0
  else if num = O.PW_ENC_PER_REV then
    (m1.modPt a (fun q => { q with enc := q.count.emod v, encS := q.count.emod v })).setObj (pwAddr a O.PW_COMM_VALID) 0
  else if num = O.PW_TRIP_SEL ∨ num = O.PW_OC_SPREAD then m1.tripsFollow
  else m1

/-- An accepted write of an object of feedback port `p` (R272, R279, R280, R302). A mode takes effect at the boundary. -/
def Main.portEffect (m : Main) (p v num : Nat) : Main :=
  let m1 := m.store1 (fbAddr p num) v
  if num = O.FB_MODE then
    (m.modPt p (fun q => { q with newMode := if v = m.obj (fbAddr p O.FB_MODE) then none else some v })).unhome p
  else if num = O.FB_DIR then m1.unhome p
  else if num = O.FB_Z_ARM then (if v = 1 then m.modPt p (fun q => { q with zArmed := true }) else m)
  else if num = O.FB_ALARM_EN then m1.alarmCheck p
  else m1

/-! ### Device -/

/-- R530: a write of a GPIO object leaves the bits of select lines as they are. -/
def Main.gpioWrite (m : Main) (num v : Nat) : Main :=
  m.setObj num (clearBits v m.selLines + (m.obj num &&& m.selLines))

/-- An accepted write of a DV_ object of one word. -/
def Main.dvEffect (m : Main) (v num : Nat) : Main :=
  let m1 := m.store1 num v
  if num = O.DV_TRIP_EN then { m1 with trips := m1.trips &&& v }.tripsFollow
  else if num = O.DV_EE_EN then m1.eeFollow
  else if num = O.DV_GPIO_DIR ∨ num = O.DV_GPIO_OUT then m.gpioWrite num v
  else if num = O.DV_SELFTEST then (if v = 1 then m.startOp opDV 7 0 else m)
  else m1

/-- NT_SYNC_MODE (R174, R178): from 1 to 0 FREE, at the nominal increment; from 0 to 1 FREE with NT_INC at NT_INC_MANUAL. In mode 1 NT_INC follows
NT_INC_MANUAL. -/
def Main.ntEffect (m : Main) (v num : Nat) : Main :=
  let m1 := m.store1 (ntAddr 0 num) v
  let manual := fun m : Main => { m with tb := { m.tb with inc := m.objW (ntAddr 0 O.NT_INC_MANUAL) } }
  if num = O.NT_SYNC_MODE then
    if v = m.obj (ntAddr 0 O.NT_SYNC_MODE) then m1
    else
      let m2 := { (m1.setObj (ntAddr 0 O.NT_SYNC_STATE) 0) with
        ptp := { m1.ptp with first := none, deciding := false, held := [], good := 0, bad := 0 } }
      if v = 1 then manual m2 else { m2 with tb := { m2.tb with inc := 0xA00000000 } }
  else if num = O.NT_INC_MANUAL ∧ m.obj (ntAddr 0 O.NT_SYNC_MODE) = 1 then manual m1
  else m1

/-- NT_TIME_SET (R176, R178): a step to the time written, at the next slot boundary. -/
def Main.timeSet (m : Main) (ext : Nat) : Main :=
  { m with tb := { m.tb with step := some (true, (ext : Int)) } }

/-! ### Sessions -/

/-- HS_CLAIM, HS_RELEASE and HS_BREAK (R81, R84) by domain code. -/
def Main.hsEffect (m : Main) (sess a v : Nat) (key : Option Key) : Main × Option Nat :=
  match domainOfCode v with
  | none => (m.store1 a v).ok
  | some d =>
    if numOf a = O.HS_CLAIM then m.claimDomain sess d key
    else if numOf a = O.HS_RELEASE then (m.releaseDomain sess d).ok
    else if numOf a = O.HS_BREAK ∧ instOf a = 0 then (m.breakDomainNow d).ok
    else (m.store1 a v).ok

/-! ### Events, acquisition, field I/O -/

/-- EV_CANCEL (R401). -/
def Main.cancel (m : Main) (w : Word) : Main :=
  if w.getLsbD 26 then
    (m.ev.entries.filter (fun p => p.2.live && p.2.tag == fld w 25 10)).foldl (fun m p => m.cancelEntry p.1) m
  else m.cancelEntry (fld w 9 0)

/-- An accepted write of an EV_ object of unit `u`. A unit written to a mode other than 1 is not armed. -/
def Main.evEffect (m : Main) (u : Nat) (w : Word) (num : Nat) : Main :=
  let m1 := m.store1 (evAddr u num) w.toNat
  if u = 0 ∧ num = O.EV_CANCEL then m.cancel w
  else if num = O.EV_LT_ARM then (if w = 1 then m.modLt u (fun x => { x with armed := some m.now }) else m)
  else if num = O.EV_LT_MODE then (if w = 1 then m1 else m1.modLt u (fun x => { x with armed := none }))
  else m1

/-- AQ_CMD (R414, R415): arm, host trigger at the next boundary, stop to IDLE. -/
def Main.aqCommand (m : Main) (u v : Nat) : Main :=
  match v with
  | 1 => m.modAq u (fun x => { x with st := 1, cmdT := m.now })
  | 2 => m.aqCause u 5 m.tb.slotDue
  | 3 => m.modAq u (fun x => { causes := x.causes })
  | _ => m

/-- An accepted write of an AQ_ object of unit `u`. -/
def Main.aqEffect (m : Main) (u v num : Nat) : Main :=
  if num = O.AQ_CMD then m.aqCommand u v
  else if num = O.AQ_READ then (if v = 1 then m.startOp (opAQ u) 6 0 else m)
  else m.store1 (aqAddr u num) v

/-- R431: EV_IN_CORR of channel `c` is the midpoint of its input time. -/
def Main.inCorr (m : Main) (c : Nat) : Main :=
  let base := if m.obj (ioAddr c O.IO_IN_TYPE) = 1 then 5330 else 3330
  m.setObj (evAddr 0 (O.EV_IN_CORR + 16 + c)) (4 * (base + 1000 * m.obj (ioAddr c O.IO_IN_FILT)))

/-- An accepted write of an IO_ object of channel `c` (R431, R434, R437, R440, R443). -/
def Main.ioEffect (m : Main) (c v num : Nat) : Main :=
  let m1 := m.store1 (ioAddr c num) v
  if num = O.IO_OUT then m.cmdOut c (v == 1)
  else if num = O.IO_DIR then (if v = 0 then ((m.cmdOut c false).setObj (ioAddr c O.IO_OUT) 0).store1 (ioAddr c num) 0 else m1)
  else if num = O.IO_IN_TYPE ∨ num = O.IO_IN_FILT then m1.inCorr c
  else if num = O.IO_WB_EN ∧ v = 0 then m1.modFc c (fun f => { f with wb := false })
  else if num = O.IO_OL_EN ∧ v = 0 then m1.modFc c (fun f => { f with ol := false })
  else m1

/-! ### Reset and configuration -/

/-- RS_UNIT_RESET (R489-R491): the mitten is to close; a request for a unit whose mitten is closed changes nothing. -/
def Main.unitRequest (m : Main) (code : Nat) : Main :=
  if mget 0 m.sup.mittens code ≠ 0 then m
  else
    let m := { m with sup := { m.sup with
        mittens := mplace code 1 m.sup.mittens,
        mittenT := mset 0 m.sup.mittenT code (slotStart m.now + unitsPerSlot) } }
    (m.setObj (rsAddr O.RS_UNIT_LAST) code).inc (rsAddr O.RS_UNIT_COUNT)

/-- An accepted write of an RS_ object. -/
def Main.rsEffect (m : Main) (v num : Nat) : Main :=
  if num = O.RS_FULL_RESET then (if v = 1 then { m with sup := { m.sup with soft := some (m.sup.soft.getD m.now) } } else m)
  else if num = O.RS_UNIT_RESET then m.unitRequest v
  else m

/-- An accepted write of a CF_ object (R505, R507, R508). -/
def Main.cfEffect (m : Main) (v num : Nat) : Main :=
  if num = O.CF_COMMIT then (m.startOp opCF 5 v).eraseTarget 5 v
  else if num = O.CF_FW_UPDATE then (if v = 1 then (m.startOp opCF 8 0).eraseTarget 8 0 else m)
  else if num = O.CF_SECVER_RAISE then { m with sup := { m.sup with secVer := v } }
  else m

/-! ### All objects of one word -/

/-- The effect of an accepted write of one word. -/
def Main.wordEffect (m : Main) (sess a : Nat) (w : Word) (key : Option Key) : Main × Option Nat :=
  let n := numOf a
  let i := instOf a
  let v := w.toNat
  if m.changesLoad a v || (a == O.DV_BRIM && decide (m.brimNow < v)) then
    (m.askLedger { sess := sess, addr := a, key := key, change := .objWrite a v }, none)
  else if a = O.DV_BRIM then (m.lowerBrim v).ok
  else match areaOf a with
  | 0 => (m.dvEffect v n).ok
  | 1 => (m.ntEffect v n).ok
  | 2 => m.hsEffect sess a v key
  | 3 => m.instEffect sess i w n key
  | 4 => m.instEffect sess (64 + i) w n key
  | 5 => (m.portEffect i v n).ok
  | 6 => (m.laneEffect i v n).ok
  | 7 => (m.evEffect i w n).ok
  | 8 => (m.ioEffect i v n).ok
  | 10 => (m.aqEffect i v n).ok
  | 11 => (if n = O.CM_COMMIT then m.startOp opCM 4 v else m.store1 a v).ok
  | 12 => (m.rsEffect v n).ok
  | 13 => (m.cfEffect v n).ok
  | _ => (m.store1 a v).ok

/-! ### DOMAIN objects -/

/-- Words placed in sparse data from an offset. -/
def putWords (d : Map Word) (off : Nat) (ws : List Word) : Map Word :=
  (List.range ws.length).foldl (fun d k => mset 0 d (off + k) (ws.getD k 0)) d

/-- Bytes placed in sparse data from an offset. -/
def putBytes (d : Map Byte) (off : Nat) (bs : List Byte) : Map Byte :=
  (List.range bs.length).foldl (fun d k => mset 0 d (off + k) (bs.getD k 0)) d

/-- R387: the reserved fields of an entry read 0. -/
def entryWords (ws : List Word) : List Word :=
  [ws.getD 0 0 &&& 0xFF800FFFF, ws.getD 1 0 &&& 0xFFFF, ws.getD 2 0, ws.getD 3 0, ws.getD 4 0, ws.getD 5 0,
   ws.getD 6 0 &&& 0xFFFF, ws.getD 7 0]

/-- An accepted write of an action entry (R389, R390): armed at once, or placed before the ledger. -/
def Main.entryEffect (m : Main) (sess e : Nat) (ws : List Word) (key : Option Key) : Main × Option Nat :=
  if needsLedger ws then
    (m.askLedger { sess := sess, addr := evAddr 0 O.EV_QUEUE, key := key, change := .action e ws }, none)
  else (m.armEntry e ws).ok

/-- PSn_XFER (R528): a transfer starts; its answer comes at its end. -/
def Main.xferStart (m : Main) (n : Nat) (tx : List Byte) (key : Key) : Main × Option Nat :=
  (m.modPs n (fun _ => { busy := true, tx := tx, rx := [], key := some key, startT := m.now }), none)

/-- The effect of an accepted write of a DOMAIN object. -/
def Main.domainEffect (m : Main) (sess a : Nat) (d : WData) (key : Option Key) : Main × Option Nat :=
  if a = evAddr 0 O.EV_QUEUE then m.entryEffect sess (d.offset / 8) (entryWords d.words) key
  else if a = evAddr 0 O.EV_TPL then
    ({ m with ev := { m.ev with tpl := putWords m.ev.tpl d.offset ((templates d.words).flatMap entryWords) } } : Main).ok
  else if a = cmAddr 0 O.CM_MEM then ({ m with cam := putWords m.cam d.offset d.words } : Main).ok
  else if areaOf a = 11 then
    let r := m.segWrite (instOf a) d.words
    (r.2, some r.1)
  else if a = cfAddr 0 O.CF_CFG_STAGE then
    ({ m with store := { m.store with cfgStage := putWords m.store.cfgStage d.offset d.words } } : Main).ok
  else if a = cfAddr 0 O.CF_FW_STAGE then
    ({ m with store := { m.store with fwStage := putBytes m.store.fwStage d.offset d.bytes } } : Main).ok
  else match psOf (numOf a) with
    | some (n, _) => m.xferStart n d.bytes (key.getD (noKey sess))
    | none => m.ok

/-! ### A whole write -/

/-- The effect of an accepted write. -/
def Main.writeEffect (m : Main) (sess a : Nat) (d : WData) (key : Option Key) : Main × Option Nat :=
  match info? a with
  | none => (m, some aNoObject)
  | some o => match o.ty with
    | .domain => m.domainEffect sess a d key
    | .ext => (if areaOf a = 1 then m.timeSet d.value else m.setObj a d.value).ok
    | _ => m.wordEffect sess a (wordN d.value) key

/-- The unit that an object belongs to, where it is one that a mitten can close off (R489). -/
def unitOf (a : Nat) : Option Nat :=
  let i := instOf a
  match areaOf a with
  | 0 => (match eeOf (numOf a), psOf (numOf a) with
    | some (o, _), _ => some (0x800 + o)
    | _, some (n, _) => some (0x2100 + 0x100 * n)
    | _, _ => none)
  | 5 => some (0x100 + i)
  | 6 => some (0x100 + i)
  | 7 => some 0x1000
  | 8 => some 0x3000
  | 10 => some (0x300 + i)
  | _ => none

/-- R490: the mitten of the object's unit is closed: a request ends with UNIT_RESET. -/
def Main.barred (m : Main) (a : Nat) : Bool :=
  match unitOf a with | some c => m.mittenClosed c | none => false

/-- Checks 6 to 9 and 11 of a write and its effect: what a queued write does when it runs (R134). The answer, if it is
there already, goes to the request. -/
def Main.runWrite (m : Main) (sess a : Nat) (d : WData) (key : Option Key) : Main :=
  if m.barred a then m.answer key sess a aUnitReset else
  match m.writeRefusal a d with
  | some c => m.answer key sess a c
  | none =>
    let r := m.writeEffect sess a d key
    match r.2 with
    | some c => r.1.answer key sess a c
    | none => r.1

/-- A write of STOP: the only write that is answered inside the passing frame, and no best-effort request (R91). -/
def isStop (a : Nat) : Bool := (areaOf a == 3 || areaOf a == 4) && numOf a == O.STOP

/-- A request that is not answered yet shows PENDING (R125). -/
def Main.pendingShown (m : Main) : Main :=
  if m.out.status.isNone then { m with out := { m.out with status := some aPending, taken := true } } else m

/-- A write with all its checks at once, in the order of R92: the row commands that name one write. Its bytes are those of
a WRITE, or of a WRITE_AT where `at_`. -/
def Main.writeNow (m : Main) (sess a : Nat) (at_ : Bool) (data : List Byte) : Main :=
  match m.frontWrite sess a at_ data, info? a with
  | some c, _ => m.reply sess a c
  | none, none => m
  | none, some o => match parseWrite a o at_ data with
    | none => m
    | some d => if isStop a || m.beRoom then (m.runWrite sess a d none).pendingShown else m.reply sess a aBusy

/-- A write of one word. -/
def Main.writeWord (m : Main) (sess a v : Nat) : Main := m.writeNow sess a false (bytesOfWords [wordN v])

/-- A write of words at an offset. -/
def Main.writeWordsAt (m : Main) (sess a off : Nat) (ws : List Word) : Main :=
  m.writeNow sess a true (bytesOfWords (wordN off :: ws))

end Sys2Proof.Machine
end

