-- ==== Sys2Proof/Machine/WriteRows.lean ====
section
/-! DEFINITION. The rows of the table that are one write of one object: each makes every check of R92 for that write and
takes its effect. A row of CONTROL writes the level fields as they stand, with its own bits set. -/

namespace Sys2Proof.Machine

/-- DV_BRIM_WRITE (R47, R48). -/
def execDvBrimWrite (sess : Sess) (value : Nat) (s : State) : Answered :=
  s.onMain (fun m => m.writeWord sess O.DV_BRIM value)

/-- CLAIM (R81). -/
def execClaim (sess : Sess) (code : Nat) (s : State) : Answered :=
  s.onMain (fun m => m.writeWord sess (hsAddr sess O.HS_CLAIM) code)

/-- RELEASE (R84). -/
def execRelease (sess : Sess) (code : Nat) (s : State) : Answered :=
  s.onMain (fun m => m.writeWord sess (hsAddr sess O.HS_RELEASE) code)

/-- BREAK (R84). -/
def execBreakDomain (sess : Sess) (code : Nat) (s : State) : Answered :=
  s.onMain (fun m => m.writeWord sess (hsAddr 0 O.HS_BREAK) code)

/-- STOP_WRITE (R91): the value takes effect at the next slot boundary. -/
def execStopWrite (sess : Sess) (i : InstId) (value : Nat) (s : State) : Answered :=
  s.onMain (fun m => m.writeWord sess (instAddr i O.STOP) value)

/-! ### CONTROL (R96) -/

/-- A write of CONTROL of instance `i`: the level fields as they stand, changed by `f`, with command bits. -/
def Main.controlWrite (m : Main) (sess i : Nat) (f : Levels → Levels) (cmds : Nat) : Main :=
  m.writeWord sess (instAddr i O.CONTROL) ((f (levelsOf (m.io i O.CONTROL))).word cmds)

/-- ENABLE (R189): CONTROL with ENABLE 1. -/
def execEnable (sess : Sess) (i : InstId) (s : State) : Answered :=
  s.onMain (fun m => m.controlWrite sess i (fun l => { l with en := true }) 0)

/-- DISABLE (R189): CONTROL with ENABLE 0. -/
def execDisable (sess : Sess) (i : InstId) (s : State) : Answered :=
  s.onMain (fun m => m.controlWrite sess i (fun l => { l with en := false }) 0)

/-- MODE_CHANGE (R96, R217, R218): CONTROL with another MODE. -/
def execModeChange (sess : Sess) (i : InstId) (mode : Fin 16) (s : State) : Answered :=
  s.onMain (fun m => m.controlWrite sess i (fun l => { l with mode := mode.val }) 0)

/-- START_MOVE (R303): CONTROL with START_MOVE, QUEUE and RELATIVE. -/
def execStartMove (sess : Sess) (i : InstId) (queue relative : Bool) (s : State) : Answered :=
  s.onMain (fun m => m.controlWrite sess i (fun l => { l with rel := relative }) (16 + 64 * b2n queue))

/-- FAULT_RESET (R208). -/
def execFaultReset (sess : Sess) (i : InstId) (s : State) : Answered :=
  s.onMain (fun m => m.controlWrite sess i id 8)

/-- OP_ABORT (R103). -/
def execOpAbort (sess : Sess) (i : InstId) (s : State) : Answered :=
  s.onMain (fun m => m.controlWrite sess i id (2 ^ 21))

/-- HOMING_START (R323, R324): OP_START with OP_KIND 1. -/
def execHomingStart (sess : Sess) (i : InstId) (s : State) : Answered :=
  s.onMain (fun m => m.controlWrite sess i (fun l => { l with kind := 1 }) (2 ^ 20))

/-- MOTOR_IDENTIFICATION (R225): OP_START with OP_KIND 2. -/
def execMotorIdentification (sess : Sess) (i : InstId) (s : State) : Answered :=
  s.onMain (fun m => m.controlWrite sess i (fun l => { l with kind := 2 }) (2 ^ 20))

/-- CURRENT_LOOP_AUTO_TUNE (R225, R227): OP_START with OP_KIND 3. -/
def execCurrentLoopAutoTune (sess : Sess) (i : InstId) (s : State) : Answered :=
  s.onMain (fun m => m.controlWrite sess i (fun l => { l with kind := 3 }) (2 ^ 20))

/-! ### Axes, lanes, ports and hoops -/

/-- LOOP_PERIOD_WRITE (R220, R221): AX_CL_K, AX_VL_M, AX_PL_P, AX_CL_LEAD. -/
def execLoopPeriodWrite (sess : Sess) (ax : Ax) (obj : Fin 4) (value : Nat) (s : State) : Answered :=
  s.onMain (fun m => m.writeWord sess (instAddr ax (O.AX_CL_K + obj.val)) value)

/-- PW_OPMODE_WRITE (R263, R266). -/
def execPwOpmodeWrite (sess : Sess) (ax : Ax) (value : Nat) (s : State) : Answered :=
  s.onMain (fun m => m.writeWord sess (pwAddr ax O.PW_OPMODE) value)

/-- PW_SH_COMMIT (R264). -/
def execPwShCommit (sess : Sess) (ax : Ax) (value : Nat) (s : State) : Answered :=
  s.onMain (fun m => m.writeWord sess (pwAddr ax O.PW_SH_COMMIT) value)

/-- FB_MODE_WRITE (R272). -/
def execFbModeWrite (sess : Sess) (port : Ax) (value : Nat) (s : State) : Answered :=
  s.onMain (fun m => m.writeWord sess (fbAddr port O.FB_MODE) value)

/-- FB_Z_ARM (R280). -/
def execFbZArm (sess : Sess) (port : Ax) (value : Nat) (s : State) : Answered :=
  s.onMain (fun m => m.writeWord sess (fbAddr port O.FB_Z_ARM) value)

/-- DV_EE_EN_WRITE (R293, R296). -/
def execDvEeEnWrite (sess : Sess) (value : Nat) (s : State) : Answered :=
  s.onMain (fun m => m.writeWord sess O.DV_EE_EN value)

/-- The objects of R310, by the operand of PROFILE_WRITE. -/
def profileObjs : List Nat := [O.PROFILE_VEL, O.PROFILE_ACC, O.PROFILE_DEC, O.BLEND_SHAPE, O.TARGET_POS]

/-- PROFILE_WRITE (R310). -/
def execProfileWrite (sess : Sess) (i : InstId) (obj : Fin 5) (value : Word) (s : State) : Answered :=
  s.onMain (fun m => m.writeWord sess (instAddr i (profileObjs.getD obj.val O.TARGET_POS)) value.toNat)

/-- HP_ADD (R338-R340). -/
def execHpAdd (sess : Sess) (hp : Hp) (code : Nat) (s : State) : Answered :=
  s.onMain (fun m => m.writeWord sess (instAddr (64 + hp.val) O.HP_ADD) code)

/-- HP_REMOVE (R339, R341). -/
def execHpRemove (sess : Sess) (hp : Hp) (code : Nat) (s : State) : Answered :=
  s.onMain (fun m => m.writeWord sess (instAddr (64 + hp.val) O.HP_REMOVE) code)

/-- LINK_ENGAGE (R356). -/
def execLinkEngage (sess : Sess) (i : InstId) (s : State) : Answered :=
  s.onMain (fun m => m.writeWord sess (instAddr i O.LINK_CMD) 1)

/-- LINK_DISENGAGE (R357). -/
def execLinkDisengage (sess : Sess) (i : InstId) (s : State) : Answered :=
  s.onMain (fun m => m.writeWord sess (instAddr i O.LINK_CMD) 2)

/-- LINK_DISENGAGE_AT (R357). -/
def execLinkDisengageAt (sess : Sess) (i : InstId) (s : State) : Answered :=
  s.onMain (fun m => m.writeWord sess (instAddr i O.LINK_CMD) 3)

/-- CAM_COMMIT (R363): starts the commit. -/
def execCamCommit (sess : Sess) (table : Nat) (s : State) : Answered :=
  s.onMain (fun m => m.writeWord sess (cmAddr 0 O.CM_COMMIT) table)

/-! ### Events, acquisition, field I/O -/

/-- EV_LT_ARM (R379). -/
def execEvLtArm (sess : Sess) (unit : Fin 32) (value : Nat) (s : State) : Answered :=
  s.onMain (fun m => m.writeWord sess (evAddr unit O.EV_LT_ARM) value)

/-- ACTION_WRITE (R387, R389). -/
def execActionWrite (sess : Sess) (offset : Nat) (words : List Word) (s : State) : Answered :=
  s.onMain (fun m => m.writeWordsAt sess (evAddr 0 O.EV_QUEUE) offset words)

/-- EV_CANCEL (R401). -/
def execEvCancel (sess : Sess) (value : Word) (s : State) : Answered :=
  s.onMain (fun m => m.writeWord sess (evAddr 0 O.EV_CANCEL) value.toNat)

/-- TEMPLATE_WRITE (R402). -/
def execTemplateWrite (sess : Sess) (offset : Nat) (words : List Word) (s : State) : Answered :=
  s.onMain (fun m => m.writeWordsAt sess (evAddr 0 O.EV_TPL) offset words)

/-- AQ_ARM (R414): AQ_CMD 1. -/
def execAqArm (sess : Sess) (unit : Fin 8) (s : State) : Answered :=
  s.onMain (fun m => m.writeWord sess (aqAddr unit O.AQ_CMD) 1)

/-- AQ_TRIGGER (R415): AQ_CMD 2. -/
def execAqTrigger (sess : Sess) (unit : Fin 8) (s : State) : Answered :=
  s.onMain (fun m => m.writeWord sess (aqAddr unit O.AQ_CMD) 2)

/-- AQ_STOP (R414): AQ_CMD 3. -/
def execAqStop (sess : Sess) (unit : Fin 8) (s : State) : Answered :=
  s.onMain (fun m => m.writeWord sess (aqAddr unit O.AQ_CMD) 3)

/-- AQ_READ (R423): starts the readout. -/
def execAqRead (sess : Sess) (unit : Fin 8) (value : Nat) (s : State) : Answered :=
  s.onMain (fun m => m.writeWord sess (aqAddr unit O.AQ_READ) value)

/-- IO_OUT_WRITE (R440). -/
def execIoOutWrite (sess : Sess) (ch : Fin 32) (value : Nat) (s : State) : Answered :=
  s.onMain (fun m => m.writeWord sess (ioAddr ch O.IO_OUT) value)

/-- IO_DIR_WRITE (R437). -/
def execIoDirWrite (sess : Sess) (ch : Fin 32) (value : Nat) (s : State) : Answered :=
  s.onMain (fun m => m.writeWord sess (ioAddr ch O.IO_DIR) value)

/-- IO_INPUT_CONFIG_WRITE (R431, R433). -/
def execIoInputConfigWrite (sess : Sess) (ch : Fin 32) (filt : Bool) (value : Nat) (s : State) : Answered :=
  s.onMain (fun m => m.writeWord sess (ioAddr ch (if filt then O.IO_IN_FILT else O.IO_IN_TYPE)) value)

/-! ### Time, reset, configuration, peripheral masters -/

/-- NT_TIME_SET (R178). -/
def execNtTimeSet (sess : Sess) (ext : BitVec 72) (s : State) : Answered :=
  s.onMain (fun m => m.writeNow sess (ntAddr 0 O.NT_TIME_SET) false
    (bytesOfWords [wordN (ext.toNat / 2 ^ 36), wordN ext.toNat]))

/-- NT_SYNC_MODE_WRITE (R178). -/
def execNtSyncModeWrite (sess : Sess) (value : Nat) (s : State) : Answered :=
  s.onMain (fun m => m.writeWord sess (ntAddr 0 O.NT_SYNC_MODE) value)

/-- RS_FULL_RESET (R485). -/
def execRsFullReset (sess : Sess) (value : Nat) (s : State) : Answered :=
  s.onMain (fun m => m.writeWord sess (rsAddr O.RS_FULL_RESET) value)

/-- UNIT_RESET (R489). -/
def execUnitReset (sess : Sess) (code : Nat) (s : State) : Answered :=
  s.onMain (fun m => m.writeWord sess (rsAddr O.RS_UNIT_RESET) code)

/-- CF_COMMIT (R505): starts the commit. -/
def execCfCommit (sess : Sess) (value : Nat) (s : State) : Answered :=
  s.onMain (fun m => m.writeWord sess (cfAddr 0 O.CF_COMMIT) value)

/-- CF_FW_UPDATE (R507): starts the update. -/
def execCfFwUpdate (sess : Sess) (value : Nat) (s : State) : Answered :=
  s.onMain (fun m => m.writeWord sess (cfAddr 0 O.CF_FW_UPDATE) value)

/-- CF_SECVER_RAISE (R508). -/
def execCfSecverRaise (sess : Sess) (value : Nat) (s : State) : Answered :=
  s.onMain (fun m => m.writeWord sess (cfAddr 0 O.CF_SECVER_RAISE) value)

/-- DV_SELFTEST (R510): starts the self-test. -/
def execDvSelftest (sess : Sess) (value : Nat) (s : State) : Answered :=
  s.onMain (fun m => m.writeWord sess O.DV_SELFTEST value)

/-- PS_XFER (R528): starts a transfer. -/
def execPsXfer (sess : Sess) (n : Fin 2) (bytes : List Byte) (s : State) : Answered :=
  s.onMain (fun m => m.writeNow sess (psAddr n O.PSn_XFER) false bytes)

end Sys2Proof.Machine
end

