-- ==== Sys2Proof/Machine/Records.lean ====
section
/-! DEFINITION. The record commands (R114-R145): what a node does with one record while it passes, and when it runs the
work it queued; requests of the local host port (R513-R526) take the same path as session S9. -/

namespace Sys2Proof.Machine

/-- What a record is answered: STATUS, the reply data, and RLEN (or the ticket). -/
structure Ans where
  status : Nat := 0
  data   : List Byte := []
  rlen   : Nat := 0
  deriving DecidableEq, Repr

/-- R125: further line codes, and FRAME of R519. -/
abbrev aCheck : Nat := 0x81
abbrev aNoTicket : Nat := 0x82
abbrev aBadCommand : Nat := 0x83
abbrev aFrame : Nat := 0x84

/-- An answer with its abort noted (R94). -/
def Main.fin (m : Main) (sess a status : Nat) (data : List Byte := []) : Main × Ans :=
  (m.noteAbort sess status a, { status := status, data := data, rlen := data.length })

/-- R123: a record has arrived on the session. -/
def Main.touch (m : Main) (sess : Nat) : Main := m.modSe sess (fun s => { s with last := m.now })

/-- A row command shows its answer. -/
def Main.shown (r : Main × Ans) : Main :=
  { r.1 with out := { r.1.out with status := some r.2.status, rlen := r.2.rlen, data := r.2.data, taken := true } }

/-! ### Requests that may be queued (R134, R135) -/

/-- The place of a request in the queue (R37, R86): in order of arrival; of two that arrived at one instant with different
frames the one with the lower session number goes first. -/
def BeItem.place (q : BeItem) : List BeItem → List BeItem
  | [] => [q]
  | x :: l => if x.at_ = q.at_ ∧ x.frame ≠ q.frame ∧ q.key.sess < x.key.sess then q :: x :: l else x :: q.place l

/-- A request enters the queue, and the token table with it (R58, R71). -/
def Main.enqueueReq (m : Main) (q : BeItem) : Main :=
  let q := { q with at_ := m.now, frame := m.line.frames }
  { m with fab := { m.fab with queue := q.place m.fab.queue } }.notePeak

/-- A request that passed checks 1 to 5 is queued with a ticket, or answered BUSY (R58, R135). -/
def Main.queueReq (m : Main) (sess : Nat) (q : BeItem) : Main × Ans :=
  let s := m.se sess
  if !m.beRoom then m.fin sess q.addr aBusy
  else if sess = 9 then (m.enqueueReq { q with key := { sess := 9 } }, { status := aPending })
  else if 16 ≤ s.places.length then m.fin sess q.addr aBusy
  else
    let m := m.enqueueReq { q with key := { sess := sess, ticket := s.ticket } }
    (m.modSe sess (fun s => { s with ticket := (s.ticket + 1) % 256, places := s.places ++ [{ ticket := s.ticket }] }),
     { status := aPending, rlen := s.ticket })

/-- The number of bytes a read returns, for its tokens (R58). -/
def Main.readBytes (m : Main) (sess a off len : Nat) : Nat :=
  match m.readData sess a off len with | .inr d => d.length | .inl _ => 0

/-- R117, R122: the offset word that a READ_AT carries. One whose LEN leaves no room for it is not refused, and its offset is
a free word (DESIGN CHOICE, log 47). -/
def Main.offsetWord (m : Main) (at_ : Bool) (data : List Byte) : List Byte × Main :=
  if at_ && decide (data.length < 5) then (bytesOfWords [m.freeWord.1], m.freeWord.2) else (data, m)

/-- READ and READ_AT while the record passes: a rind object is answered at once, anything else is queued (R91, R122). -/
def Main.readFrame (m : Main) (sess a len : Nat) (at_ : Bool) (data : List Byte) : Main × Ans :=
  let x := m.offsetWord at_ data
  let data := x.1
  let m := x.2
  match m.frontRead sess a at_, info? a with
  | some c, _ => m.fin sess a c
  | none, none => m.fin sess a aNoObject
  | none, some o =>
    if o.rind && !at_ then
      match m.readData sess a 0 len with
      | .inl c => m.fin sess a c
      | .inr d => m.fin sess a 0 d
    else
      let off := if at_ then ((wordsOfBytes data).headD 0).toNat else 0
      let n := beTokens (m.readBytes sess a off len)
      m.queueReq sess { cmd := if at_ then .readAt else .read, addr := a, len := len, data := data, tokens := n }

/-- A write of STOP while the record passes (R91): every check, and the value. -/
def Main.stopFrame (m : Main) (sess a : Nat) (d : WData) : Main × Ans :=
  match m.writeRefusal a d with
  | some c => m.fin sess a c
  | none => (m.writeEffect sess a d none).1.fin sess a 0

/-- WRITE and WRITE_AT while the record passes: only STOP is carried out at once (R91). -/
def Main.writeFrame (m : Main) (sess a : Nat) (at_ : Bool) (data : List Byte) : Main × Ans :=
  match m.frontWrite sess a at_ data, info? a with
  | some c, _ => m.fin sess a c
  | none, none => m.fin sess a aNoObject
  | none, some o =>
    if isStop a && !at_ then
      match parseWrite a o false data with
      | some d => m.stopFrame sess a d
      | none => m.fin sess a aLength
    else
      let n := beTokens (data.length - if at_ then 5 else 0)
      m.queueReq sess { cmd := if at_ then .writeAt else .write, addr := a, len := data.length, data := data, tokens := n }

/-! ### READ_INC (R524) -/

/-- One word of a READ_INC: the object passes the checks and is one word long. -/
def Main.incWord (m : Main) (sess a : Nat) : Nat ⊕ Word :=
  match m.frontRead sess a false, info? a with
  | some c, _ => .inl c
  | none, none => .inl aNoObject
  | none, some o =>
    if o.ty = .domain ∨ o.ty = .ext then .inl aLength
    else match m.readData sess a 0 5 with
      | .inl c => .inl c
      | .inr d => .inr ((wordsOfBytes d).headD 0)

/-- The words of a READ_INC from object `a` on, at most `n`. -/
def Main.incWords (m : Main) (sess : Nat) : Nat → Nat → List Word
  | 0, _ => []
  | n + 1, a => match m.incWord sess a with
    | .inl _ => []
    | .inr w => w :: (if numOf a = 0xFFF then [] else Main.incWords m sess n (a + 1))

/-- READ_INC as accepted: checks 1 to 5 of its first object, then queued. -/
def Main.incFrame (m : Main) (a len : Nat) : Main × Ans :=
  match m.incWord 9 a with
  | .inl c => m.fin 9 a c
  | .inr _ => m.queueReq 9 { cmd := .readInc, addr := a, len := len, tokens := beTokens (bytesFor (2 * len / 9)) }

/-! ### The remaining unicast commands (R121, R137) -/

/-- OPEN (R121): the reply word holds HS_SERVICE. -/
def Main.openFrame (m : Main) (sess addr len : Nat) : Main × Ans :=
  let r := m.openNow sess addr
  if r.2 = 0 then r.1.fin sess addr 0 ((bytesOfWords [wordN (b2n (r.1.se sess).service)]).take len)
  else m.fin sess addr r.2

/-- CLOSE (R121, R84, R138). -/
def Main.closeFrame (m : Main) (sess : Nat) : Main × Ans := (m.endSession sess, {})

/-- FETCH (R137); an ADDR above 255 names no ticket. -/
def Main.fetchFrame (m : Main) (sess addr len : Nat) : Main × Ans :=
  match (m.se sess).places.find? (fun p => p.ticket == addr) with
  | none => (m, { status := aNoTicket })
  | some p =>
    if p.stage = 2 then (m, { status := p.status, data := p.data.take len, rlen := min p.len len })
    else (m, { status := aPending, rlen := p.ticket })

/-- A unicast record by its command code (R120). -/
def Main.unicast (m : Main) (sess cmd addr len : Nat) (data : List Byte) : Main × Ans :=
  match cmd with
  | 0 => (m, {})
  | 1 => m.readFrame sess addr len false []
  | 2 => m.writeFrame sess addr false data
  | 3 => m.fetchFrame sess addr len
  | 4 => m.openFrame sess addr len
  | 5 => m.closeFrame sess
  | 6 => m.readFrame sess addr len true data
  | 7 => m.writeFrame sess addr true data
  | _ => (m, { status := aBadCommand })

/-! ### When records are answered (R31, R153, R495, R497, R512, R525) -/

/-- The node acts on a record of the session: on the line once the protection lock is set; on SV from the end of the trim
load, reads only in HALT_TRIM; on the local host port where the strap enables it, once the lock is set. -/
def Main.hears (m : Main) (sess : Nat) (write : Bool) : Bool :=
  !m.sup.coreHeld &&
  (if sess = 8 then m.sup.boot != .trims && !(write && m.sup.boot == .haltTrim)
   else if sess = 9 then m.locked && !m.sup.straps.hostPort && !m.mittenClosed 0x2000
   else m.locked)

/-! ### The local host port (R513-R526) -/

/-- R520: the reply that the port presents in a frame. -/
def HostPort.present (h : HostPort) : HostReply :=
  match h.refusal with
  | some r => r
  | none => if h.busy then { status := aPending, seq := h.seq } else h.reply

/-- R519: the bytes of a reply: STATUS, SEQ, RLEN, the data and the check. -/
def HostReply.bytes (r : HostReply) : List Byte :=
  let byte := BitVec.ofNat 8
  let b := [byte r.status, byte r.seq, byte (r.data.length / 256), byte r.data.length] ++ r.data
  b ++ [byte (check16 b / 256), byte (check16 b)]

/-- The frame shows a reply of the port: on HOST_MISO its bytes, and 0xFF after them (R517). The port counts as port 3. -/
def Main.presents (m : Main) (r : HostReply) : Main :=
  { m with out := { m.out with status := some r.status, rlen := r.data.length, data := r.data, frame := some (3, r.bytes) } }

/-- A frame that the enabled port does not take: before the lock and while its mitten is closed every byte on HOST_MISO is
0xFF (R525, R526). -/
def Main.portMute (m : Main) : Main :=
  if m.sup.coreHeld || m.sup.straps.hostPort then m else { m with out := { m.out with frame := some (3, []) } }

/-- R515, R517, R518, R521: a request is refused; the next frame presents the refusal. -/
def Main.hostRefuse (m : Main) (code seq : Nat) : Main :=
  { m with host := { m.host with refusal := some { status := code, seq := seq } } }

/-- A frame on the port with a request (R515-R523): the reply presented is the one fixed at the fall of its select. -/
def Main.hostRequest (m : Main) (q : Req) (f : Main → Main × Ans) : Main :=
  let shown := m.host.present
  let m := ({ m with host := { m.host with refusal := none } }.setObj O.DV_LP_MODE (if q.mode3 then 3 else 0)).inc O.DV_LP_FRAMES
  -- R523: only a frame whose check has been made counts as heard
  let m := if 4096 < q.len then m else m.touch 9
  let busy := fun m : Main => (m.inc O.DV_LP_BUSY_COUNT).hostRefuse aBusy q.seq.toNat
  let m :=
    if 4096 < q.len then (m.inc O.DV_LP_FRAME_ERR).hostRefuse aFrame q.seq.toNat
    else if m.host.busy then busy (m.noteAbort 9 aBusy q.addr.toNat)
    else
      let r := f m
      if r.2.status = aBusy then busy r.1
      else { r.1 with host := { busy := r.2.status == aPending, seq := q.seq.toNat, refusal := none,
                                reply := { status := r.2.status, seq := q.seq.toNat, data := r.2.data } } }
  m.presents shown

/-- A frame on the port whose command is not defined there (R515, R518): FRAME or BAD_COMMAND, before any other test. -/
def Main.hostUndefined (m : Main) (q : Req) : Main :=
  let shown := m.host.present
  let m := (m.setObj O.DV_LP_MODE (if q.mode3 then 3 else 0)).inc O.DV_LP_FRAMES
  let m := if 4096 < q.len then (m.inc O.DV_LP_FRAME_ERR).hostRefuse aFrame q.seq.toNat
    else (m.touch 9).hostRefuse aBadCommand q.seq.toNat
  m.presents shown

/-- Another frame, or another request of its own, has come. -/
def Main.frameIn (m : Main) : Main := { m with line := { m.line with frames := m.line.frames + 1 } }

/-- A request as a row command: on the line or SV the record is answered, on the local host port a frame is taken. -/
def Main.request (m : Main) (q : Req) (write : Bool) (f : Main → Main × Ans) : Main :=
  let n := q.sess.val
  let m := m.frameIn
  if !m.hears n write then (if n = 9 then m.portMute else m)
  else if n = 9 then m.hostRequest q f
  else Main.shown (f (m.touch n))

/-- NOP (R123). The local host port has none. -/
def execNop (sess : Sess) (s : State) : Answered :=
  s.onMain (fun m => if sess.val = 9 ∨ !m.hears sess false then m else Main.shown (m.touch sess, {}))

/-- READ (R91, R117, R134). -/
def execRead (q : Req) (s : State) : Answered :=
  s.onMain (fun m => m.request q false (fun m => m.readFrame q.sess q.addr.toNat q.len false []))

/-- WRITE (R91, R134). -/
def execWrite (q : Req) (s : State) : Answered :=
  s.onMain (fun m => m.request q true (fun m => m.writeFrame q.sess q.addr.toNat false q.data))

/-- FETCH (R137). On the local host port the command is not defined (R515). -/
def execFetch (q : Req) (s : State) : Answered :=
  s.onMain (fun m =>
    if q.sess.val = 9 then (if m.hears 9 false then m.hostUndefined q else m.portMute)
    else m.request q false (fun m => m.fetchFrame q.sess q.addr.toNat q.len))

/-- OPEN (R78, R121, R523). -/
def execOpenSession (q : Req) (s : State) : Answered :=
  s.onMain (fun m => m.request q false (fun m => m.openFrame q.sess q.addr.toNat q.len))

/-- CLOSE (R84, R121, R138). -/
def execCloseSession (q : Req) (s : State) : Answered :=
  s.onMain (fun m => m.request q false (fun m => m.closeFrame q.sess))

/-- READ_AT (R122). -/
def execReadAt (q : Req) (s : State) : Answered :=
  s.onMain (fun m => m.request q false (fun m => m.readFrame q.sess q.addr.toNat q.len true q.data))

/-- WRITE_AT (R122). -/
def execWriteAt (q : Req) (s : State) : Answered :=
  s.onMain (fun m => m.request q true (fun m => m.writeFrame q.sess q.addr.toNat true q.data))

/-- READ_INC (R524): a command of the local host port; elsewhere its code is not defined (R120). -/
def execReadInc (q : Req) (s : State) : Answered :=
  s.onMain (fun m => m.request q false (fun m =>
    if q.sess.val = 9 then m.incFrame q.addr.toNat q.len else (m, { status := aBadCommand })))

/-! ### Queued requests (R134, R136) -/

/-- The queued request runs: a read returns its data, a write makes checks 6 to 9 and 11 (R134). -/
def Main.runItem (m : Main) (q : BeItem) : Main :=
  let n := q.key.sess
  let done := fun (r : Nat ⊕ List Byte) => match r with
    | .inl c => m.deliver q.key q.addr c
    | .inr d => m.deliver q.key q.addr 0 d
  let write := fun at_ => match info? q.addr with
    | none => m.deliver q.key q.addr aNoObject
    | some o => match parseWrite q.addr o at_ q.data with
      | none => m.deliver q.key q.addr aLength
      | some d => m.runWrite n q.addr d (some q.key)
  match q.cmd with
  | .read => if m.barred q.addr then m.deliver q.key q.addr aUnitReset else done (m.readData n q.addr 0 q.len)
  | .readAt => if m.barred q.addr then m.deliver q.key q.addr aUnitReset
      else done (m.readData n q.addr ((wordsOfBytes q.data).headD 0).toNat q.len)
  | .readInc => if m.barred q.addr then m.deliver q.key q.addr aUnitReset
      else done (.inr (bytesOfWords (m.incWords n (2 * q.len / 9) q.addr)))
  | .write => write false
  | .writeAt => write true

/-- R37: a best-effort token can start: no real-time token waits, and a cell is free. -/
def Main.beTurn (m : Main) : Bool := m.fab.waiting.isEmpty && decide (m.fab.cells.length < 16)

/-- ANSWER_READY (R37, R86, R134, R136): the oldest queued request runs, if it is the session's with the ticket named and
best-effort work has its turn. It has left the token table by then, so a read of DV_TOKENS_NOW does not count its own entry
(DESIGN CHOICE, log 111). Before slots exist (R494) an answer is ready at once. -/
def execAnswerReady (sess : Sess) (ticket : Byte) (s : State) : Answered :=
  s.onMain (fun m =>
    match m.fab.queue with
    | [] => m
    | q :: rest =>
      if q.key.sess ≠ sess.val ∨ (sess.val ≠ 9 ∧ q.key.ticket ≠ ticket.toNat) ∨ !m.beTurn then m else
      let m := { m with fab := { m.fab with queue := rest } }.runItem q
      if m.tb.running then m else m.answersReady)

/-- ANSWER_PLACE_FREED (R135): NT_PEND_KEEP after its answer became ready. -/
def execAnswerPlaceFreed (sess : Sess) (ticket : Byte) (s : State) : Answered :=
  s.onMain (fun m =>
    let keep := m.obj (ntAddr 0 O.NT_PEND_KEEP) * unitsPerMs
    m.modSe sess (fun x => { x with places := x.places.filter (fun p =>
      !(p.ticket == ticket.toNat && p.stage == 2 && decide (p.ready + keep ≤ m.now))) }))

/-! ### Broadcast records (R127, R139-R145) -/

/-- What a node answers a broadcast with: nothing, or a status (0 for a success) and the address it writes. -/
abbrev Cast := Main × Option (Nat × Nat)

/-- The node's own address. -/
def Main.nodeAddr (m : Main) : Nat := m.obj (ntAddr 0 O.NT_NODE_ADDR)

/-- An answer to a broadcast with its abort noted. -/
def Main.cast (m : Main) (sess a code : Nat) : Cast := (m.noteAbort sess code a, some (code, m.nodeAddr))

/-- One STOP write of a BWRITE, with every check of R91. -/
def Main.stopOne (m : Main) (sess a : Nat) (data : List Byte) : Main × Nat :=
  let r := m.writeFrame sess a false data
  (r.1, r.2.status)

/-- BWRITE (R139). Under instance 0xFF the first abort of an instance it acted on is reported (DEDUCED, log 32). -/
def Main.bwriteNow (m : Main) (sess a : Nat) (data : List Byte) : Cast :=
  let hoop := areaOf a == 4
  if !isStop a then m.cast sess a aAccess
  else if instOf a ≠ 0xFF then
    let r := m.stopOne sess a data
    (r.1, some (r.2, m.nodeAddr))
  else
    let targets := axes.filter (fun k =>
      let i := if hoop then 64 + k else k
      m.owns sess i && (m.i i).parent.isNone)
    if targets.isEmpty then (m, none)
    else
      let r := targets.foldl (fun (p : Main × Nat) k =>
        let x := p.1.stopOne sess (instAddr (if hoop then 64 + k else k) O.STOP) data
        (x.1, if p.2 = 0 then x.2 else p.2)) (m, 0)
      (r.1, some (r.2, m.nodeAddr))

/-- ADDRESS (R116, R140, R141, R155). In fixed mode it acts only after boot has fallen back to defaults; in auto mode a plain
ADDRESS acts then too (DEDUCED, log 33). Where FORCE is set and not honoured, the record acts in auto mode as if it were
clear (DESIGN CHOICE, log 117). The address that the node writes to RLEN is the one it has just taken (DEDUCED, log 118). -/
def Main.addressNow (m : Main) (sess base : Nat) (force : Bool) (hops : Nat) : Cast :=
  let valid := m.objB (ntAddr 0 O.NT_ADDR_VALID)
  let forced := force && decide (sess < 8) && (m.se sess).isOpen && (m.se sess).service
  let acts := if m.sup.straps.addrMode then forced && !valid && m.objB (cfAddr 0 O.CF_DEFAULTED)
    else !valid && (!force || decide (sess < 8)) || forced
  if sess = 8 then m.cast 8 0 aAccess
  else if !acts then (m, none)
  else
    let n := (base + hops) % 4096
    (((m.setObj (ntAddr 0 O.NT_NODE_ADDR) n).setObj (ntAddr 0 O.NT_ADDR_VALID) 1), some (0, n))

/-- SEGMENT (R142, R366): the checks of a write to the master object, in frame. An ADDR that is no master object is refused
with ACCESS (DEDUCED, log 34). -/
def Main.segmentNow (m : Main) (sess a : Nat) (data : List Byte) : Cast :=
  if areaOf a ≠ 11 ∨ numOf a ≠ O.CM_VM_SEGMENT then m.cast sess a aAccess
  else match m.frontWrite sess a false data, info? a with
    | some c, _ => m.cast sess a c
    | none, none => m.cast sess a aNoObject
    | none, some o => match parseWrite a o false data with
      | none => m.cast sess a aLength
      | some d =>
        if m.bootBars a then m.cast sess a aState else
        let r := m.segWrite (instOf a) d.words
        r.2.cast sess a r.1

/-- R145: a valid entry is acted on once for each SOURCE, ID and time (R384, R386, R418). -/
def Main.actEntry (m : Main) (e : EventEntry) : Main :=
  let k := (e.source.toNat, e.id.toNat, e.time)
  if !e.valid || m.line.seen.contains k then m
  else
    let m := { m with line := { m.line with seen := k :: m.line.seen } }
    match e.kind.toNat with
    | 0x20 => m.aqNet e.id.toNat e.time
    | 0x40 => m.netEvent 0x40 e.source.toNat e.id.toNat e.time e.value
    | 0x41 => m.netEvent 0x41 e.source.toNat e.id.toNat e.time e.value
    | _ => m

/-- The entries of an NTRIG are acted on in order. -/
def Main.ntrigNow (m : Main) (entries : List EventEntry) : Cast :=
  (entries.foldl (fun m e => m.actEntry e) m, some (0, m.nodeAddr))

/-- R144: the node's own entry placed into the first entry with VALID 0. -/
def placeEntry (own : EventEntry) : List EventEntry → Option (List EventEntry)
  | [] => none
  | e :: r => if e.valid then (placeEntry own r).map (e :: ·) else some (own :: r)

/-- CARRIER (R144, R145): the entries as they leave; the node's own entry leaves its queue. The record is marked where the
node has placed one (DEDUCED, log 35). -/
def Main.carrierNow (m : Main) (entries : List EventEntry) (may : Bool) : Cast × List EventEntry :=
  let act := fun m : Main => entries.foldl (fun m e => m.actEntry e) m
  match m.line.txq with
  | own :: rest =>
    (match (if may then placeEntry own entries else none) with
    | some es => ((act { m with line := { m.line with txq := rest } }, some (0, m.nodeAddr)), es)
    | none => ((act m, none), entries))
  | [] => ((act m, none), entries)

/-- An event entry as four words (R143). -/
def EventEntry.words (e : EventEntry) : List Word :=
  [wordN (b2n e.valid * 2 ^ 35 + e.kind.toNat * 2 ^ 24 + e.source.toNat * 2 ^ 12 + e.id.toNat),
   wordN (e.time / 2 ^ 36), wordN e.time, e.value]

/-- The event entry of four words. -/
def entryOf (ws : List Word) : EventEntry :=
  let w0 := ws.getD 0 0
  { valid := w0.getLsbD 35, kind := BitVec.ofNat 8 (fld w0 31 24), source := BitVec.ofNat 12 (fld w0 23 12),
    id := BitVec.ofNat 12 (fld w0 11 0), time := (ws.getD 1 0).toNat * 2 ^ 36 + (ws.getD 2 0).toNat, value := ws.getD 3 0 }

/-- A broadcast as a row command: the node alone, and what it wrote. -/
def Main.castRow (m : Main) (sess : Nat) (f : Main → Cast) : Main :=
  if sess = 9 ∨ !m.hears sess true then m
  else
    let r := f (m.touch sess)
    match r.2 with
    | none => r.1
    | some (c, n) => { r.1 with out := { r.1.out with status := some c, rlen := n, taken := c == 0 } }

/-- BWRITE (R139). -/
def execBwrite (q : Req) (s : State) : Answered :=
  s.onMain (fun m => m.castRow q.sess (fun m => m.bwriteNow q.sess q.addr.toNat q.data))

/-- ADDRESS (R140). -/
def execAddress (sess : Sess) (base : BitVec 12) (force : Bool) (hops : BitVec 12) (s : State) : Answered :=
  s.onMain (fun m => m.castRow sess (fun m => m.addressNow sess base.toNat force hops.toNat))

/-- SEGMENT (R142, R365, R366). -/
def execSegment (q : Req) (s : State) : Answered :=
  s.onMain (fun m => m.castRow q.sess (fun m => m.segmentNow q.sess q.addr.toNat q.data))

/-- NTRIG (R145). -/
def execNtrig (sess : Sess) (entries : List EventEntry) (s : State) : Answered :=
  s.onMain (fun m => m.castRow sess (fun m => m.ntrigNow entries))

/-- CARRIER (R144, R145); the entries as they leave are the reply data. -/
def execCarrier (sess : Sess) (entries : List EventEntry) (s : State) : Answered :=
  s.onMain (fun m => m.castRow sess (fun m =>
    let r := m.carrierNow entries true
    ({ r.1.1 with out := { r.1.1.out with data := bytesOfWords (r.2.flatMap EventEntry.words) } }, r.1.2)))

end Sys2Proof.Machine
end

