-- ==== Sys2Proof/Machine/Ptp.lean ====
section
/-! DEFINITION. Frames of network time as bytes (R162, R167-R171): the FCS, the fields of a PTP frame, stamps, and the passage
of foreign and PTP frames from one line port to the other. The layout of a PTP message is that of IEEE 1588-2019 over
IEEE 802.3, to which the spec refers (PRESUMED, log 113). -/

namespace Sys2Proof.Machine

/-! ### The FCS (R132) -/

/-- The ones' complement of an FCS. -/
def stomp (l : List Byte) : List Byte := l.map (fun b => ~~~ b)

/-- The frame's FCS: 0 good, 1 stomped, 2 bad. -/
def fcsKind (b : List Byte) : Nat :=
  let f := fcsBytes (b.take (b.length - 4))
  let got := b.drop (b.length - 4)
  if got = f then 0 else if got = stomp f then 1 else 2

/-- A frame is good as a whole: its FCS is, and it has no more than 1522 bytes. -/
def frameGood (b : List Byte) : Bool := fcsKind b == 0 && decide (b.length ≤ 1522)

/-- The bytes with the FCS that they leave with. -/
def sealFrame (body : List Byte) (good : Bool) : List Byte := body ++ (if good then fcsBytes body else stomp (fcsBytes body))

/-- What the frame leaves by: the port and the bytes. -/
def Main.send (m : Main) (port : Nat) (b : List Byte) : Main := { m with out := { m.out with frame := some (port, b) } }

/-- The counters of a received frame. -/
def Main.rxCount (m : Main) (p : Nat) (b : List Byte) (damek : Bool) : Main :=
  let m := m.inc (ntAddr p O.NT_RX_FRAMES)
  let m := if damek then m.inc (ntAddr p O.NT_RX_DAMEK) else m
  let m := if 1522 < b.length then m.inc (ntAddr p O.NT_LONG) else m
  match fcsKind b with | 0 => m | 1 => m.inc (ntAddr p O.NT_STOMPED) | _ => m.inc (ntAddr p O.NT_FCS_ERR)

end Sys2Proof.Machine

namespace Sys2Proof

open Sys2Proof.Machine

/-! ### The fields of a PTP frame -/

/-- R167: the destination address of Sync, Follow_Up and Announce. -/
def Machine.ptpPrimary : List Byte := [0x01, 0x1B, 0x19, 0x00, 0x00, 0x00]

/-- R167: the destination address of peer-delay messages. -/
def Machine.ptpPeer : List Byte := [0x01, 0x80, 0xC2, 0x00, 0x00, 0x0E]

/-- A field of a PTP frame, `n` bytes from byte `k` of the message. -/
def PtpFrame.field (g : PtpFrame) (k n : Nat) : Nat := natOfBytes ((g.frame.drop (14 + k)).take n)

/-- A signed field. -/
def PtpFrame.signed (g : PtpFrame) (k n : Nat) : Int := (BitVec.ofNat (8 * n) (g.field k n)).toInt

/-- The message type of a PTP frame; none for a frame of another EtherType, or one of the types that R167 supports with
another destination address than it gives: those are foreign frames like any other. -/
def PtpFrame.kind (g : PtpFrame) : Option Nat :=
  let k := g.field 0 1 % 16
  let dst := g.frame.take 6
  if natOfBytes ((g.frame.drop 12).take 2) ≠ 0x88F7 then none
  else if [0, 8, 11].contains k then (if dst = ptpPrimary then some k else none)
  else if [2, 3, 10].contains k then (if dst = ptpPeer then some k else none)
  else some k

/-- domainNumber. -/
def PtpFrame.domain (g : PtpFrame) : Nat := g.field 4 1
/-- twoStepFlag. -/
def PtpFrame.twoStep (g : PtpFrame) : Bool := (g.field 6 1).testBit 1
/-- correctionField, in 2^-16 ns. -/
def PtpFrame.correction (g : PtpFrame) : Int := g.signed 8 8
/-- sourcePortIdentity: the clock identity and the port number of the sender. -/
def PtpFrame.master (g : PtpFrame) : List Byte := (g.frame.drop 34).take 10
/-- sequenceId. -/
def PtpFrame.seqId (g : PtpFrame) : BitVec 16 := BitVec.ofNat 16 (g.field 30 2)

/-- The time of 2^`n` seconds in time units. -/
def Machine.secondsPow (n : Int) : Nat := ((4000000000 : Rat) * (2 : Rat) ^ n).floor.toNat

/-- The message interval that the sender states (logMessageInterval), in time units. -/
def PtpFrame.interval (g : PtpFrame) : Nat := secondsPow (g.signed 33 1)
/-- The origin time of a Sync or Follow_Up, in extended time (R164). -/
def PtpFrame.originTime (g : PtpFrame) : Nat := 4 * (g.field 34 6 * 1000000000 + g.field 40 4)
/-- The announce receipt timeout: three announce intervals (the default of IEEE 1588-2019). -/
def PtpFrame.timeout (g : PtpFrame) : Nat := 3 * g.interval
/-- stepsRemoved of an Announce. -/
def PtpFrame.stepsRemoved (g : PtpFrame) : Nat := g.field 61 2

/-- The data set of an Announce in the order of comparison of the default algorithm: priority1, the clock's class, accuracy
and variance, priority2, the grandmaster's identity; then stepsRemoved and the sender. -/
def PtpFrame.key (g : PtpFrame) : List Nat :=
  [g.field 47 1, g.field 48 1, g.field 49 1, g.field 50 2, g.field 52 1, g.field 53 8, g.stepsRemoved, natOfBytes g.master]

/-- The frame with its correctionField increased, and the FCS that it leaves with (R132, R171). -/
def PtpFrame.corrected (g : PtpFrame) (c : Int) : List Byte :=
  let body := g.frame.take (g.frame.length - 4)
  sealFrame (body.take 22 ++ bytesOfNat 8 (BitVec.ofInt 64 (g.correction + c)).toNat ++ body.drop 30) (frameGood g.frame)

end Sys2Proof

namespace Sys2Proof.Machine

/-- A peer-delay message of the node: the type, the domain, correctionField, sequenceId, and the ten bytes that end it. -/
def peerMessage (kind domain : Nat) (corr : Int) (port : Nat) (sq : BitVec 16) (tail : List Byte) : List Byte :=
  sealFrame (ptpPeer ++ bytesOfNat 6 Config.macAddress.toNat ++ [0x88, 0xF7]
    ++ [BitVec.ofNat 8 kind, 0x02, 0x00, 0x36, BitVec.ofNat 8 domain, 0x00, 0x00, 0x00]
    ++ bytesOfNat 8 (BitVec.ofInt 64 corr).toNat ++ List.replicate 4 0
    ++ bytesOfNat 8 Config.clockIdentity.toNat ++ bytesOfNat 2 (port + 1) ++ bytesOfNat 2 sq.toNat ++ [0x05, 0x7F]
    ++ List.replicate 10 0 ++ tail) true

/-! ### Stamps (R162, R169-R171) -/

/-- NT_TS_USER of a line port. -/
def Main.tsUser (m : Main) (p : Nat) : Int := m.objI (ntAddr p O.NT_TS_USER)

/-- R169: the receive stamp at the reference plane of port `p`. -/
def Main.rxStamp (m : Main) (p : Nat) (raw : Instant) : Int := m.tb.stampOf raw - m.rxCorr p - m.tsUser p

/-- R169: the transmit stamp at the reference plane of port `p`. -/
def Main.txStamp (m : Main) (p : Nat) (raw : Instant) : Int := m.tb.stampOf raw + m.txCorr p + m.tsUser p

/-- The hold H of R129 at the speed of port `p`, in time units. -/
def Main.holdTime (m : Main) (p : Nat) : Int := if (m.pl p).phy = 2 then 2048 else 6400

/-- SYNC_CORRECTION (R171): what the transparent clock adds to a Sync from port `p`, in 2^-16 ns. -/
def Main.syncCorrection (m : Main) (p : Nat) : Int :=
  let o := 1 - p
  16384 * (m.obj (ntAddr p O.NT_PDELAY) + m.rxCorr p + m.tsUser p + m.holdTime p + m.txCorr o + m.tsUser o)

/-! ### Passage (R147, R154, R168) -/

/-- A frame leaves by the other line port as given; at a port that is down it is dropped. -/
def Main.passOn (m : Main) (p : Nat) (b : List Byte) : Main :=
  let o := 1 - p
  if m.portUp o then m.send o b else m.inc (ntAddr o O.NT_DROPPED)

/-- A foreign frame on LA or LB (R147, R154, R168): forwarded unchanged, never turned; dropped where the onward port is
down. A Sync is corrected as it passes, and a peer-delay message ends at the port. -/
def Main.foreignOn (m : Main) (p : Nat) (b : List Byte) : Main :=
  let m := m.rxCount p b false
  let g : PtpFrame := { frame := b }
  match g.kind with
  | some 0 => m.passOn p (g.corrected (m.syncCorrection p))
  | some 2 => m
  | some 3 => m
  | some 10 => m
  | _ => m.passOn p b

end Sys2Proof.Machine
end

