-- ==== Sys2Proof/Machine/Line.lean ====
section
/-! DEFINITION. The line engine: Damek frames on LA, LB and SV as bytes (R108-R156), foreign frames, and the links of the
ports (R106, R107, R148). -/

namespace Sys2Proof.Machine

/-! ### A frame as bytes (R110, R114, R115, R124) -/

/-- A record as it lies in a frame. -/
structure Rec where
  node   : Nat
  sess   : Nat
  cmd    : Nat
  addr   : Nat
  len    : Nat
  head   : List Byte
  data   : List Byte
  check  : Nat
  status : Nat
  taken  : Bool
  clash  : Bool
  rlen   : Nat
  deriving DecidableEq, Repr

/-- The record at the front of the bytes of records; none where it would extend past them (R119). -/
def recAt (l : List Byte) : Option Rec :=
  let h := natOfBytes (l.take 8)
  let n := h % 65536
  if l.length < n + 14 then none
  else
    let st := natOfBytes ((l.drop (n + 10)).take 4)
    some { node := h / 2 ^ 52, sess := h / 2 ^ 48 % 16, cmd := h / 2 ^ 40 % 256, addr := h / 2 ^ 16 % 2 ^ 24, len := n
           head := l.take 8, data := (l.drop 8).take n, check := natOfBytes ((l.drop (n + 8)).take 2)
           status := st / 2 ^ 24, taken := st.testBit 23, clash := st.testBit 22, rlen := st % 4096 }

/-- A record as bytes. -/
def Rec.bytes (r : Rec) : List Byte :=
  r.head ++ r.data ++ bytesOfNat 2 r.check ++
    bytesOfNat 4 (r.status * 2 ^ 24 + b2n r.taken * 2 ^ 23 + b2n r.clash * 2 ^ 22 + r.rlen % 4096)

/-- R118, R120: the request part of the data area. -/
def Rec.request (r : Rec) : List Byte :=
  if [0x02, 0x07, 0x10, 0x11, 0x12, 0x13].contains r.cmd then r.data
  else if r.cmd = 0x06 then r.data.take 5
  else []

/-- R118: the record check holds. -/
def Rec.good (r : Rec) : Bool := check16 (r.head ++ r.request) == r.check

/-- Reply data laid over the data area. -/
def overlay (reply data : List Byte) : List Byte := (reply ++ data.drop reply.length).take data.length

/-- R126: a unicast record answered. -/
def Rec.answered (r : Rec) (a : Ans) : Rec :=
  { r with status := a.status, rlen := a.rlen, data := overlay a.data r.data, taken := true }

/-- R127: a broadcast record after the node's own action. -/
def Rec.castBy (r : Rec) : Option (Nat × Nat) → Rec
  | none => r
  | some (0, n) => { r with taken := true, rlen := if r.status = 0 then n else r.rlen }
  | some (c, n) => if r.status = 0 then { r with status := c, rlen := n } else { r with clash := true }

/-- The entries of a data area, and a data area with its entries replaced (R143). -/
def entriesOf (data : List Byte) : List EventEntry :=
  (List.range (data.length / 18)).map (fun k => entryOf (wordsOfBytes ((data.drop (18 * k)).take 18)))

/-! ### Records of a passing frame (R116-R127, R155) -/

/-- What one frame carries along: HOPS as received, whether it came on SV, and whether its CARRIER has been used. -/
structure Passing where
  hops : Nat := 0
  sv   : Bool := false
  used : Bool := false
  deriving DecidableEq, Repr

/-- The node while a frame passes (R133): as it stands whatever the FCS turns out to be, in which only STOP values change,
and as it will stand if the FCS is good. -/
structure Passage where
  live : Main
  good : Main
  deriving DecidableEq, Repr

/-- The STOP values of another state. -/
def Main.withStops (m src : Main) : Main :=
  forEach instances (fun i b => if b.io i O.STOP = src.io i O.STOP then b else b.setObj (instAddr i O.STOP) (src.io i O.STOP)) m

/-- Work that is answered in frame (R133): judged by the node as it stands. Its STOP values stand at once; that it has arrived
on the session, and what it leaves in HS_ABORT_LAST and HS_ABORT_COUNT, waits for the FCS. -/
def Passage.inFrame {α : Type} (w : Passage) (n : Nat) (f : Main → Main × α) : Passage × α :=
  let x := f w.live
  let last := hsAddr n O.HS_ABORT_LAST
  let count := hsAddr n O.HS_ABORT_COUNT
  let d := (x.1.obj count + 2 ^ 36 - w.live.obj count) % 2 ^ 36
  let g := w.good.touch n
  let g := if d = 0 then g else (g.setObj last (x.1.obj last)).setObj count ((g.obj count + d) % 2 ^ 36)
  ({ live := w.live.withStops x.1, good := g.withStops x.1 }, x.2)

/-- Any other work of a record: its checks and effects are those of the node as it will stand if the FCS is good
(DEDUCED, log 114). -/
def Passage.after {α : Type} (w : Passage) (f : Main → Main × α) : Passage × α :=
  let x := f w.good
  ({ w with good := x.1 }, x.2)

/-- R91, R137: a unicast record that is answered in frame: a write of STOP, a read of a rind object, FETCH. -/
def isInFrame (cmd a : Nat) : Bool :=
  (cmd == 2 && isStop a) || (cmd == 1 && (match info? a with | some o => o.rind | none => false)) || cmd == 3

/-- The work of a broadcast record other than BWRITE, CARRIER and ADDRESS. -/
def Main.castWork (m : Main) (r : Rec) (n : Nat) : Cast :=
  match r.cmd with
  | 0x12 => m.segmentNow n r.addr r.data
  | 0x13 => m.ntrigNow (entriesOf r.data)
  | _ => (m, none)

/-- A broadcast record at this node (R116, R120, R127). An ADDRESS whose data area holds no whole word is taken with BASE 0
and FORCE clear (DESIGN CHOICE, log 115). -/
def Passage.castRec (w : Passage) (p : Passing) (r : Rec) (n : Nat) : Passage × Rec × Passing :=
  if n ≥ 8 ∧ !p.sv ∧ r.cmd ≠ 0x11 then (w, r, p)
  else
    let heard := fun m : Main => if p.sv ∨ n < 8 then m.touch n else m
    match r.cmd with
    | 0x10 =>
      let x := w.inFrame n (fun m => m.bwriteNow n r.addr r.data)
      (x.1, r.castBy x.2, p)
    | 0x11 =>
      let a := (wordsOfBytes r.data).headD 0
      -- R116: of a record from the line with SESSION 8-15 only FORCE clear acts; it comes on no session
      let x := w.after (fun m => (heard m).addressNow (if p.sv then 8 else if n = 8 then 9 else n) (fld a 11 0) (a.getLsbD 12) p.hops)
      (x.1, r.castBy x.2, p)
    | 0x14 =>
      let x := w.after (fun m =>
        let c := (heard m).carrierNow (entriesOf r.data) (!p.used)
        (c.1.1, c.1.2, c.2))
      let own := x.2.1
      let data := if own.isSome then overlay (bytesOfWords (x.2.2.flatMap EventEntry.words)) r.data else r.data
      (x.1, { r with data := data }.castBy own, { p with used := p.used || own.isSome })
    | _ =>
      let x := w.after (fun m => (heard m).castWork r n)
      (x.1, r.castBy x.2, p)

/-- A unicast record at this node (R116, R118, R126, R155). -/
def Passage.uniRec (w : Passage) (p : Passing) (r : Rec) (n : Nat) : Passage × Rec :=
  let mine := p.sv || (w.live.objB (ntAddr 0 O.NT_ADDR_VALID) && w.live.nodeAddr == r.node)
  if !mine then (w, r)
  else if r.taken ∧ !p.sv then
    ((if r.good && decide (n < 8) then { w with good := w.good.touch n } else w), { r with clash := true })
  else if !r.good then (w, r.answered { status := aCheck })
  else if n ≥ 8 ∧ !p.sv then (w, r.answered { status := aSession })
  else
    let x := if isInFrame r.cmd r.addr then w.inFrame n (fun m => m.unicast n r.cmd r.addr r.len r.data)
      else w.after (fun m => (m.touch n).unicast n r.cmd r.addr r.len r.data)
    (x.1, r.answered x.2)

/-- A counter of records counts whatever the FCS. -/
def Passage.count (w : Passage) (num : Nat) : Passage :=
  { live := w.live.inc (ntAddr 0 num), good := w.good.inc (ntAddr 0 num) }

/-- One record (R115-R127): a failed record check is counted, and nothing is acted on. -/
def Passage.oneRec (w : Passage) (p : Passing) (r : Rec) : Passage × Rec × Passing :=
  let n := if p.sv then 8 else r.sess
  let w := if r.good then w else w.count O.NT_REC_CHECK_ERR
  if 0x10 ≤ r.cmd ∧ r.cmd ≤ 0x1F then (if r.good then w.castRec p r n else (w, r, p))
  else
    let x := w.uniRec p r n
    (x.1, x.2, p)

/-- The records of a frame in their order (R119), at most as many as `fuel`: the node and the bytes as they leave. A record
that would extend past DLEN ends the parsing. -/
def Passage.records (w : Passage) (p : Passing) : Nat → List Byte → Passage × List Byte
  | 0, l => (w, l)
  | fuel + 1, l =>
    if l.isEmpty then (w, l)
    else match recAt l with
      | none => (w.count O.NT_REC_MALFORMED, l)
      | some r =>
        let x := w.oneRec p r
        let rest := Passage.records x.1 x.2.2 fuel (l.drop (r.len + 14))
        (rest.1, x.2.1.bytes ++ rest.2)

/-! ### Damek frames -/

/-- R108: the EtherType that marks a Damek frame. -/
def Main.etype (m : Main) : Nat := if m.sup.straps.etypeAlt then 0x88B6 else 0x88B5

/-- The frame is a Damek frame of this node. -/
def Main.isDamek (m : Main) (b : List Byte) : Bool := natOfBytes ((b.drop 12).take 2) == m.etype

/-- The Damek header as a number. -/
def headerOf (b : List Byte) : Nat := natOfBytes ((b.drop 14).take 8)

/-- R111: VER is 1, and DLEN lies in 14-1492 and within the frame. -/
def headerOk (b : List Byte) : Bool :=
  let h := headerOf b
  let dlen := h % 65536
  decide (26 ≤ b.length) && h / 2 ^ 60 == 1 && decide (14 ≤ dlen) && decide (dlen ≤ 1492) && decide (22 + dlen + 4 ≤ b.length)

/-- LOOPED of a frame. -/
def loopedOf (b : List Byte) : Bool := (headerOf b).testBit 59

/-- The body of a frame (without its FCS) with LOOPED set; one that ended before its header keeps its length (R112). -/
def withLooped (body : List Byte) : List Byte :=
  if body.length ≤ 14 then body else body.take 14 ++ [(body.getD 14 0) ||| 0x08] ++ body.drop 15

/-- The body with HOPS one higher (R146). -/
def withHops (body : List Byte) : List Byte :=
  let h := natOfBytes ((body.drop 14).take 8)
  let hops := h / 2 ^ 44 % 4096
  body.take 14 ++ bytesOfNat 8 (h - hops * 2 ^ 44 + (hops + 1) % 4096 * 2 ^ 44) ++ body.drop 22

/-- The processing of a frame: HOPS, and its records where the node acts on records (R31, R153): the state and the body as
it leaves. Of a frame whose FCS is not good only the STOP writes and the counters of records stand (R133). `p` holds what
came with the frame. -/
def Main.process (m : Main) (p : Passing) (b : List Byte) : Main × List Byte :=
  let body := b.take (b.length - 4)
  let dlen := headerOf b % 65536
  let m := m.frameIn.setObj (ntAddr 0 O.NT_HOPS) p.hops
  let recs := (body.drop 22).take dlen
  let w : Passage := { live := m, good := m }
  let x := if m.hears (if p.sv then 8 else 0) false then w.records p 128 recs else (w, recs)
  (if frameGood b then x.1.good else x.1.live, withHops (body.take 22) ++ x.2 ++ body.drop (22 + dlen))

/-- DAMEK_FRAME (R146, R147, R149): forwarded, turned or dropped, and processed unless it comes LOOPED, malformed or a
second time. A frame that is turned leaves with LOOPED set (DEDUCED, log 36). -/
def Main.lineFrame (m : Main) (p : Nat) (b : List Byte) : Main :=
  let other := 1 - p
  let m := m.rxCount p b true
  let fwd := m.portUp other
  let looped := loopedOf b
  if !fwd && looped then m.inc (ntAddr other O.NT_DROPPED)
  else
    let port := if fwd then other else p
    let leave := fun (m : Main) (body : List Byte) =>
      m.send port (sealFrame (if fwd then body else withLooped body) (frameGood b))
    let body := b.take (b.length - 4)
    let sq : BitVec 16 := BitVec.ofNat 16 (headerOf b / 65536)
    if !headerOk b then leave (m.inc (ntAddr 0 O.NT_REC_MALFORMED)) body
    else if looped then leave m body
    else if m.line.seqs.contains sq then leave (m.inc (ntAddr 0 O.NT_DUPLICATES)) body
    else
      let m := { m with line := { m.line with seqs := (sq :: m.line.seqs).take 16 } }
      let m := m.setObj (ntAddr 0 O.NT_UPSTREAM) p
      let x := m.process { hops := headerOf b / 2 ^ 44 % 4096 } b
      leave x.1 x.2

/-- A frame on LA or LB: lost while module reach holds the PHYs or the port is not up; in bypass the PHY islands pass it
unaltered. A frame in passage as bypass begins or ends is sent on with a stomped FCS (R152), and the line engine, which had
only a part of it, neither acts on it nor counts it (DESIGN CHOICE, log 116). -/
def Main.onLine (m : Main) (p : Nat) (b : LineFrame) : Main :=
  let broken := b.cut && m.line.cut.contains p
  let m : Main := { m with line := { m.line with cut := m.line.cut.filter (· ≠ p) } }
  if m.sup.moduleHeld then m
  else if broken then
    (if (m.pl (1 - p)).phy = 0 then m else m.send (1 - p) (sealFrame (b.bytes.take (b.bytes.length - 4)) false))
  else if m.sup.coreHeld || m.sup.bypass then (if (m.pl (1 - p)).phy = 0 then m else m.send (1 - p) b.bytes)
  else if !m.portUp p then m
  else if m.isDamek b.bytes then m.lineFrame p b.bytes
  else m.foreignOn p b.bytes

/-- A line port's number. -/
def LPort.num : LPort → Nat
  | .la => 0 | .lb => 1
/-- A port's number. -/
def Port3.num : Port3 → Nat
  | .la => 0 | .lb => 1 | .sv => 2

/-- DAMEK_FRAME (R108, R110-R133, R146, R147). A frame of another EtherType is foreign. -/
def execDamekFrame (port : LPort) (f : LineFrame) (s : State) : Answered :=
  s.onMain (fun m => m.onLine (LPort.num port) f)

/-- R494, R495: SV is answered from the end of the trim load, and in HALT_TRIM. -/
def Main.svRuns (m : Main) : Bool :=
  !m.sup.moduleHeld && !m.sup.coreHeld && (!m.sup.bypass || m.sup.boot == .haltTrim) && m.portUp 2

/-- SERVICE_FRAME (R155, R156, R497): every Damek frame on SV is processed and turned back. -/
def execServiceFrame (bytes : List Byte) (s : State) : Answered :=
  s.onMain (fun m =>
    if !m.svRuns then m
    else if !m.isDamek bytes then m.rxCount 2 bytes false
    else
      let m := m.rxCount 2 bytes true
      let body := bytes.take (bytes.length - 4)
      let leave := fun (m : Main) (body : List Byte) => m.send 2 (sealFrame (withLooped body) (frameGood bytes))
      if !headerOk bytes then leave (m.inc (ntAddr 0 O.NT_REC_MALFORMED)) body
      else
        let x := m.process { hops := headerOf bytes / 2 ^ 44 % 4096, sv := true } bytes
        leave x.1 x.2)

/-- FOREIGN_FRAME (R154, R156). -/
def execForeignFrame (port : Port3) (f : LineFrame) (s : State) : Answered :=
  s.onMain (fun m =>
    match port with
    | .sv => if !m.svRuns then m else m.rxCount 2 f.bytes false
    | p => m.onLine (Port3.num p) f)

/-! ### Ports (R106, R107, R109, R148) -/

/-- The end of a heal hold that begins now. -/
def Main.healEnd (m : Main) : Nat := m.now + m.obj (ntAddr 0 O.NT_HEAL_HOLD) * unitsPerMs

/-- A port offers the speed (R106, R109): 1 is 100 Mb/s, 2 is 1000 Mb/s. -/
def Main.offers (m : Main) (p speed : Nat) : Bool :=
  if p = 2 then speed == 1
  else match m.sup.straps.lineSpeed.val with | 0 => true | 1 => speed == 2 | _ => speed == 1

/-- PHY_LINK_UP (R107, R148): the heal hold begins; a line port whose speed differs from that of the other port's
established link is held down. -/
def execPhyLinkUp (port : Port3) (speed : LinkSpeed) (s : State) : Answered :=
  s.onMain (fun m =>
    let p := Port3.num port
    let v := match speed with | .m100 => 1 | .m1000 => 2
    if m.sup.moduleHeld || !m.offers p v then m
    else
      let o := m.pl (1 - p)
      let held := decide (p < 2) && o.up && o.phy != v
      m.modPl p (fun _ => { phy := v, up := false, held := held, healEnd := if held then none else some m.healEnd }))

/-- A line port comes up: its peer delay begins anew, with NT_PDELAY 0 until the first result (R172). -/
def Main.lineUp (m : Main) (p : Nat) : Main :=
  if p = 2 then m else { m with pdelay := mset {} m.pdelay p { due := m.now } }.setObj (ntAddr p O.NT_PDELAY) 0

/-- PORT_UP (R148): the link has been held up throughout the heal hold. -/
def execPortUp (port : Port3) (s : State) : Answered :=
  s.onMain (fun m =>
    let p := Port3.num port
    let x := m.pl p
    match x.healEnd with
    | none => m
    | some t =>
      if (t ≤ m.now ∨ !m.tb.running) ∧ x.phy ≠ 0 ∧ !x.up then
        let o := m.pl (1 - p)
        if decide (p < 2) && o.up && o.phy != x.phy then m.modPl p (fun x => { x with held := true, healEnd := none })
        else (m.modPl p (fun x => { x with up := true, healEnd := none })).lineUp p
      else m)

/-- The link of port `p` goes down: a port declared up is counted, and the other port, if it was held down for its speed,
begins its heal hold. -/
def Main.linkLost (m : Main) (p : Nat) : Main :=
  let x := m.pl p
  let m := m.modPl p (fun _ => {})
  let m := if x.up || x.held then m.inc (ntAddr p O.NT_LINK_DOWN_COUNT) else m
  let m := { m with pdelay := merase m.pdelay p }
  if p < 2 ∧ x.up ∧ (m.pl (1 - p)).held then
    m.modPl (1 - p) (fun y => { y with held := false, healEnd := some m.healEnd })
  else m

/-- PORT_DOWN (R148). -/
def execPortDown (port : Port3) (s : State) : Answered :=
  s.onMain (fun m => m.linkLost (Port3.num port))

end Sys2Proof.Machine
end

