-- ==== Sys2Proof/Machine/LongEnd.lean ====
section
/-! DEFINITION. The end of a long operation (R101, R104): identification, auto-tune, cam commit, configuration commit,
readout, self-test and firmware update. What a measurement gives comes with the command; everything else is computed. -/

namespace Sys2Proof.Machine

/-! ### Failures (R104, R228, R363, R509, R510) -/

/-- The failure codes that rest on an event of the operation, by its kind; the module computes the others itself. -/
def failCodes (kind : Nat) : List Nat :=
  match kind with
  | 5 => [0x85]
  | 8 => [0x85]
  | _ => []

/-- The time limit for OP_ERROR 0x05, in seconds; homing's and readout's are not among them. -/
def opLimit (kind : Nat) : Nat :=
  match kind with
  | 2 => 10 | 3 => 10 | 4 => 10 | 5 => 10 | 7 => 10 | 8 => 60 | _ => 0

/-- The operation of slot `k` has run for its time limit, its pauses not counted (R60); before the time base starts the limit is not the model's to
time. -/
def Main.opTimedOut (m : Main) (k : Nat) : Bool :=
  let o := m.lop k
  opLimit o.kind != 0 && (!m.tb.running || decide (opLimit o.kind * 1000 * unitsPerMs ≤ o.ranFor m.now))

/-- The operation of slot `k` has run past its limit, so that it can no longer succeed. -/
def Main.opLate (m : Main) (k : Nat) : Bool := m.tb.running && m.opTimedOut k

/-- What the end of an operation of slot `k` takes with it: the probe of identification and auto-tune (R225), a commit's
half-written slot (R509). -/
def Main.opLeaves (m : Main) (k kind : Nat) : Main :=
  if kind = 2 ∨ kind = 3 then m.probeOff k
  else if kind = 5 ∨ kind = 8 then m.cutStore
  else m

/-! ### Identification and auto-tune (R226-R228) -/

/-- A word that an object takes. -/
def fits (a : Nat) (w : Word) : Bool :=
  match info? a with | some o => (o.valueRefusal w).isNone | none => false

/-- A GAIN36 result, none where it lies outside the type. -/
def gainOf (q : Rat) : Option Word :=
  let n := rnd (q * 16777216)
  if -(2 ^ 35 : Int) ≤ n ∧ n < 2 ^ 35 then some (wordOf n) else none

/-- Write objects of axis `a`. -/
def Main.setAll (m : Main) (a : Nat) (l : List (Nat × Word)) : Main :=
  l.foldl (fun m p => m.setObj (instAddr a p.1) p.2.toNat) m

/-- Every word lies in the range of its object of axis `a`. -/
def allFit (a : Nat) (l : List (Nat × Word)) : Bool := l.all (fun p => fits (instAddr a p.1) p.2)

/-- R228: how identification or auto-tune of axis `a` has failed by now: its time limit, MOVED, NO_ANGLE. -/
def Main.probeFail (m : Main) (a : Nat) : Option Nat :=
  let win := (m.ioI a O.SS_WINDOW).natAbs
  if m.opLate a then some 0x05
  else if (if win = 0 then 100 else win) < (sdiff (m.actualPos a) (m.lop a).startPos).natAbs then some 0x81
  else if m.io a O.AX_MOTOR_TYPE = 1 ∧ m.angleKnown a = false then some 0x82
  else none

/-- Identification or auto-tune fails with `code`, and its probe ends (R225, R228). -/
def Main.probeEnd (m : Main) (a code : Nat) : Main := (m.opFail a code).probeOff a

/-- R228: a test current of `i` mA does not reach half of the level that object `lvl` sets. -/
def Main.noCurrent (m : Main) (a lvl i : Nat) : Bool :=
  decide ((i : Rat) < fracQ (m.objW (instAddr a lvl)) * m.io a O.AX_I_FULL / 2)

/-- A result as a word, none where it lies outside U36. -/
def resultWord (q : Rat) : Option Word :=
  let n := rnd q
  if 0 ≤ n ∧ n < 2 ^ 36 then some (wordOf n) else none

/-- R226: RS (µΩ) from the two DC levels, given as mV and mA at AX_ID_LEVEL and at half of it; LD and LQ (nH) from a voltage
step in mV and its current slope in mA per ms, on d and on q; VDT (mV) the intercept of the two levels. None where the
measurement gives no number. -/
def identResults (r : List Word) : Option (Rat × Rat × Rat × Rat) :=
  let n := fun k => ((r.getD k 0).toNat : Rat)
  if n 1 = n 3 ∨ n 5 = 0 ∨ n 7 = 0 then none
  else
    let rs := (n 0 - n 2) / (n 1 - n 3)
    some (rs * 1000000, n 4 / n 5 * 1000000, n 6 / n 7 * 1000000, n 0 - rs * n 1)

/-- The end of identification with its measurements (R226, R228). I_TEST is the test current of AX_ID_LEVEL in mA (DEDUCED,
log 13). -/
def Main.identEnd (m : Main) (a : Nat) (r : List Word) : Main :=
  match m.probeFail a with
  | some c => m.probeEnd a c
  | none =>
    if m.noCurrent a O.AX_ID_LEVEL (r.getD 1 0).toNat then m.probeEnd a 0x80
    else match identResults r with
    | none => m.probeEnd a 0x84
    | some (rs, ld, lq, vdt) => match resultWord rs, resultWord ld, resultWord lq with
      | some rs, some ld, some lq =>
        let l := [(O.AX_RS, rs), (O.AX_LD, ld), (O.AX_LQ, lq)]
        if !allFit a l then m.probeEnd a 0x84
        else
          let it := fracQ (m.objW (instAddr a O.AX_ID_LEVEL)) * m.io a O.AX_I_FULL
          let m := m.addResult a 0x20 none [rs, ld, lq, wordOf (rnd vdt), wordOf (rnd it)]
          let m := if m.io a O.AX_ID_APPLY = 1 then m.setAll a l else m
          (m.opDone a).probeOff a
      | _, _, _ => m.probeEnd a 0x84

/-- One try of auto-tune on the axis under test (R227): the d axis first, then the q axis, with the achieved bandwidth, the
phase margin, the rise time and the current reached, in mA. A phase margin below 45° lowers BW by 20%, at most four times;
any other gives the axis's record, and the q axis's ends the operation. -/
def Main.tuneTry (m : Main) (a : Nat) (r : List Word) : Main :=
  let o := m.lop a
  let d := o.result.isEmpty
  let objs := if d then (O.AX_CD_KP, O.AX_CD_KI) else (O.AX_CQ_KP, O.AX_CQ_KI)
  if !m.opRuns a 3 || o.paused then m
  else match m.probeFail a with
  | some c => m.probeEnd a c
  | none =>
    if m.noCurrent a O.AX_AT_LEVEL (r.getD 3 0).toNat then m.probeEnd a 0x80
    else if (r.getD 1 0).toNat < 4500 then
      (if 4 ≤ o.param then m.probeEnd a 0x83 else m.modOp a (fun o => { o with param := o.param + 1 }))
    else
      let g := m.tuned a (m.io a (if d then O.AX_LD else O.AX_LQ)) o.param
      match gainOf g.1, gainOf g.2 with
      | some kp, some ki =>
        let l := [(objs.1, kp), (objs.2, ki)]
        let body := [kp, ki, r.getD 0 0, r.getD 1 0, r.getD 2 0]
        if !allFit a l then m.probeEnd a 0x84
        else if d then ((m.addResult a 0x30 none body).opProgress a 500).modOp a (fun o => { o with param := 0 })
        else
          let first := (o.result.headD []).tail
          let m := m.addResult a 0x31 none body
          let m := if m.io a O.AX_AT_APPLY = 1 then
              m.setAll a ([(O.AX_CD_KP, first.getD 0 0), (O.AX_CD_KI, first.getD 1 0)] ++ l) else m
          (m.opDone a).probeOff a
      | _, _ => m.probeEnd a 0x84

/-! ### Cam commit (R361, R363) -/

/-- R363: the header at `base` lies outside R361. -/
def Main.camHeaderBad (m : Main) (base : Nat) : Bool :=
  let h := m.camHead base
  fld (m.camW base) 35 28 != 1 || decide (2 < h.interp) || decide (h.n < 2) || decide (524288 < h.n)
    || (h.cyclic && h.interp == 2 && decide (h.n < 3)) || decide (h.len < h.n) || decide (2 ^ 34 < h.len)

/-- The end of a cam commit of table `t` (R363). -/
def Main.camEnd (m : Main) (t : Nat) : Main :=
  let base := m.obj (cmAddr t O.CM_TAB_BASE)
  let n := (m.camHead base).words
  let x := m.tab t
  if m.camHeaderBad base then m.opFail opCM 0x80
  else if 1048576 < base + n ∨ m.camTouches base n then m.opFail opCM 0x81
  else if crcWords ((List.range (n - 4)).map (fun k => m.camW (base + 4 + k))) ≠ fld (m.camW (base + 3)) 31 0 then m.opFail opCM 0x82
  else if x.retained.isSome then m.opFail opCM 0x83
  else
    let ret := if m.tabUsers t = 0 then none else some (x.base, x.words)
    let m := { m with tabs := mset {} m.tabs t { ver := x.ver + 1, base := base, words := n, retained := ret } }
    (m.addResult opCM 0x40 none [wordN t, wordN ((x.ver + 1) % 65536), wordN base, wordN n]).opDone opCM

/-! ### Readout (R423) -/

/-- A record put into a list that is in the order of writing. -/
def placeRec (r : AqRec) : List AqRec → List AqRec
  | [] => [r]
  | q :: l => if r.no < q.no then r :: q :: l else q :: placeRec r l

/-- The change records of the kept window: TIME, one START for each KIND 1 channel, and the kept records. -/
def Main.readoutWords (m : Main) (u : Nat) : List Word :=
  let x := m.aqu u
  let kept := x.post.foldl (fun l r => placeRec r l) x.recs
  match kept with
  | [] => []
  | old :: _ =>
    let starts := (List.range 8).flatMap (fun c =>
      if m.aqSrc u c / 2 ^ 32 = 1 then
        [wordN (5 * 2 ^ 33 + c * 2 ^ 30 + old.tag % 2 ^ 30), (mget (false, 0) x.tails c).2]
      else [])
    [wordN (2 ^ 33 + old.tag / 2 ^ 36 % 2 ^ 30), wordN old.tag] ++ starts ++ kept.flatMap (fun r => [r.w0, r.w1])

/-- The next record of readout of unit `u` (R423): the header record first, then the parts of the window in order; none
where every record has been appended. -/
def Main.readoutNext (m : Main) (u : Nat) : Option Main :=
  let k := opAQ u
  let g := fun n => m.obj (aqAddr u n)
  let ext := fun v => [wordN (v / 2 ^ 36), wordN v]
  let ws := m.readoutWords u
  match (m.lop k).result.length with
  | 0 =>
    let head := [wordN u, wordN (g O.AQ_FLAGS), wordN (g O.AQ_TRIG_CAUSE), wordN (g O.AQ_PRE_GOT), wordN (g O.AQ_POST_GOT)]
    some (m.addResult k 0x60 none (head ++ ext (g O.AQ_TRIG_TIME) ++ ext (g O.AQ_ARM_TIME)))
  | j + 1 => if 128 * j < ws.length then some (m.addResult k 0x61 (some j) ((ws.drop (128 * j)).take 128)) else none

/-- The end of readout of unit `u`: the records that are still missing, at most `fuel` of them. -/
def Main.readoutRest (m : Main) (u : Nat) : Nat → Main
  | 0 => m
  | fuel + 1 => match m.readoutNext u with | some x => x.readoutRest u fuel | none => m

/-- The end of readout of unit `u`. -/
def Main.readoutEnd (m : Main) (u : Nat) : Main :=
  (m.readoutRest u ((m.readoutWords u).length / 128 + 2)).opDone (opAQ u)

/-! ### Self-test (R510) -/

/-- A test's record. -/
def Main.testRecord (m : Main) (test detail : Nat) (fail : Bool) : Main :=
  m.addResult opDV 0x70 none [wordN test, wordN (b2n fail), wordN (if fail then detail else 0)]

/-- The test of a bank: bit 0 its record, bit 1 its firmware, bit 2 its configuration check word; the bits of CF_BANK_INFO
follow (R511). -/
def Main.testBank (m : Main) (test : Nat) (b : Bank) : Main :=
  let x := m.bank b
  let r := recordGood x.record
  let f := fwWhy x.fw m.sup.secVer == 0
  let c := imgCheckOk x.cfg
  (m.modBank b (fun k => { k with recGood := r, fwGood := f, cfgGood := c })).testRecord test
    (b2n (!r) + 2 * b2n (!f) + 4 * b2n (!c)) (!(r && f && c))

/-- Test `t` of the self-test (R510), with what it measured: of test 1 the trim block's check (0 good), of test 4 the largest
difference of the replicas in 0.01 ns, of test 5 the frames discarded in 1 s. -/
def Main.oneTest (m : Main) (t w : Nat) : Main :=
  match t with
  | 1 => m.testRecord 1 0 (w != 0)
  | 2 => m.testBank 2 .bankA
  | 3 => m.testBank 3 .bankB
  | 4 => m.testRecord 4 w (decide (20 < w))
  | 5 => m.testRecord 5 w (m.field.link != 2 || w != 0)
  | 6 => m.testRecord 6 0 (m.obj (sfAddr 0 O.SF_LINK) != 1)
  | _ => m

/-- The end of the self-test: the tests that no record holds yet, with what tests 1, 4 and 5 measured. -/
def Main.selfTestEnd (m : Main) (r : List Word) : Main :=
  let w := fun t => (r.getD (match t with | 1 => 0 | 4 => 1 | _ => 2) 0).toNat
  (((List.range 6).drop (m.lop opDV).result.length).foldl (fun m t => m.oneTest (t + 1) (w (t + 1))) m).opDone opDV

/-! ### Records of a running operation (R102) -/

/-- At a slot boundary the operation of slot `k` completes its next record, with what was measured for it; a paused
operation completes none (R59). -/
def Main.opRecord (m : Main) (k : Nat) (r : List Word) : Main :=
  let o := m.lop k
  if !o.busy || o.paused then m
  else match o.kind with
    | 3 => m.tuneTry k r
    | 6 => (m.readoutNext (k - 128)).getD m
    | 7 => m.oneTest (o.result.length + 1) (r.getD 0 0).toNat
    | _ => m

/-! ### The command -/

/-- The results that an operation had given before it failed and that no record holds yet: of auto-tune the d record, of
the self-test its tests so far, with what each measured. -/
def Main.opHalf (m : Main) (k kind : Nat) (rs : List (List Word)) : Main :=
  match kind with
  | 3 => rs.foldl (fun m r => m.tuneTry k r) m
  | 7 => rs.foldl (fun m r => m.oneTest ((m.lop k).result.length + 1) (r.getD 0 0).toNat) m
  | _ => m

/-- R104, R228: the operation of slot `k` fails with `c` now. -/
def Main.opFails (m : Main) (k c : Nat) : Bool :=
  let o := m.lop k
  o.busy && ((c == 5 && m.opTimedOut k) || (failCodes o.kind).contains c
    || ((o.kind == 2 || o.kind == 3) && m.probeFail k == some c))

/-- LONG_OPERATION_END (R101). A paused operation does not end (R59); homing ends at its own events (R329). -/
def Main.longEnd (m : Main) (k : Nat) (how : OpEnd) : Main :=
  let o := m.lop k
  if !o.busy || o.paused then m
  else match how with
    | .fail code rs =>
      let c := code.toNat
      let x := m.opHalf k o.kind rs
      if x.opFails k c then (x.opLeaves k o.kind).opFail k c else if o.kind = 3 then x else m
    | .done rs =>
      if m.opLate k then (m.opLeaves k o.kind).opFail k 0x05
      else match o.kind with
      | 2 => m.identEnd k (rs.headD [])
      | 3 => m.opHalf k 3 rs
      | 4 => m.camEnd o.param
      | 5 => m.storeEnd
      | 6 => m.readoutEnd (k - 128)
      | 7 => m.selfTestEnd (rs.headD [])
      | 8 => m.storeEnd
      | _ => m

/-- LONG_OPERATION_END (R101). -/
def execLongOperationEnd (op : Fin 139) (how : OpEnd) (s : State) : Answered :=
  s.onMain (fun m => m.longEnd op.val how)

end Sys2Proof.Machine
end

