-- ==== Sys2Proof/Machine/Reset.lean ====
section
/-! DEFINITION. Reset (R482-R491): the sources and their episodes, what module and core reach clear, and the reset of one
unit through its mitten. -/

namespace Sys2Proof.Machine

/-! ### What core reach clears (R482, R494, R496) -/

/-- R485: the reach of a source is module reach. -/
def moduleSource : ResetSource → Bool
  | .por => true | .brownOutCore => true | .brownOutIo => true | .resetPin => true
  | .refLoss => false | .lockup => false | .watchdog => false | .softFull => false | .debug => false

/-- R488: the code of a source. -/
def sourceCode : ResetSource → Nat
  | .por => 0x01 | .brownOutCore => 0x02 | .brownOutIo => 0x03 | .resetPin => 0x04
  | .refLoss => 0x10 | .lockup => 0x11 | .watchdog => 0x12 | .softFull => 0x13 | .debug => 0x14

/-- What of a field channel outlasts core reach: the faults the field die holds. -/
def FieldCh.kept (f : FieldCh) : FieldCh :=
  { short := f.short, hot := f.hot, demag := f.demag }

/-- A bank's slots, not yet verified since the release of core reach (R511). -/
def BankSt.unverified (b : BankSt) : BankSt := { b with fwGood := false, cfgGood := false }

/-- The main die as core reach leaves it: every object at its default, every session closed, no operation, the ledger and
the map empty, the time base held at 0. Kept are the PHYs and their link state, the configuration store, what stands on
the field die, and the levels at the lands (R482, R483). -/
def Main.cleared (m : Main) : Main :=
  let base : Main := {
    sup := { m.sup with
      boot := .trims, bypass := true, order := [], fwBank := none, fw := [], gen := 0, image := none, soft := none,
      mittens := [], mittenT := [] }
    objs := defaultObjs
    line := { ports := m.line.ports, cut := m.line.cut }
    port := mmapAll {} m.port (fun q => { lines := q.lines })
    ev := { levels := m.ev.levels &&& 0xFFFF }
    field := { reach := m.field.reach, uv := m.field.uv
               chans := mmapAll {} m.field.chans FieldCh.kept }
    store := { bankA := m.store.bankA.unverified, bankB := m.store.bankB.unverified }
    out := m.out
    fresh := m.fresh }
  let healed := { base with line := { base.line with
    ports := mmapAll {} base.line.ports (fun p => { p with healEnd := p.healEnd.map (fun _ => base.healEnd) }) } }
  -- R270: the default of FB_MODE is the strap value
  if m.sup.straps.fbDefault = 0 then healed
  else forEach axes (fun p m => m.setObj (fbAddr p O.FB_MODE) m.sup.straps.fbDefault.val) healed

/-! ### Episodes (R486-R488) -/

/-- A list with one more element, once. -/
def addOnce {α : Type} [DecidableEq α] (x : α) (l : List α) : List α := if x ∈ l then l else l ++ [x]

/-- A module or core source asserts (R483, R486): core reach holds from then on, module reach too for a module source,
which takes the PHYs' links and the try counts with it. A commit in progress ends where it stands (R505). -/
def Main.assertReset (m : Main) (src : ResetSource) : Main :=
  let s := m.sup
  let isNew := !s.coreHeld
  let early := if isNew then !m.locked else s.early
  let clk := if isNew then 0 else s.clk
  let before := if isNew then [] else s.episode
  let episode := if before.any (fun p => p.1 == src) then before else before ++ [(src, clk)]
  let md := moduleSource src
  -- R152: bypass begins
  let m := if s.bypass || s.coreHeld then m else { m with line := { m.line with cut := [0, 1] } }
  let m := m.cutStore.cleared
  let m := if md then { m with line := {} } else m
  { m with sup := { m.sup with
      coreHeld := true, clk := clk, moduleHeld := s.moduleHeld || md, asserted := addOnce src s.asserted, episode := episode, early := early
      tryA := if md then 0 else s.tryA, tryB := if md then 0 else s.tryB } }

/-- R488: of two sources of an episode with their instants, the one that asserted first; at one instant, the one with the
lowest code. -/
def earlier (p q : ResetSource × Nat) : ResetSource × Nat :=
  if q.2 < p.2 ∨ (q.2 = p.2 ∧ sourceCode q.1 < sourceCode p.1) then q else p

/-- R488: the code that RS_CAUSE takes at the end of an episode: of the sources of widest reach the first to assert. -/
def causeOf (l : List (ResetSource × Nat)) : Nat :=
  let wide := l.filter (fun p => moduleSource p.1)
  match if wide.isEmpty then l else wide with
  | [] => 0
  | p :: r => sourceCode (r.foldl earlier p).1

/-- POR (R485). -/
def execPor (s : State) : Answered := s.onMain (fun m => m.assertReset .por)
/-- BROWN_OUT_CORE (R485). -/
def execBrownOutCore (s : State) : Answered := s.onMain (fun m => m.assertReset .brownOutCore)
/-- BROWN_OUT_IO (R485). -/
def execBrownOutIo (s : State) : Answered := s.onMain (fun m => m.assertReset .brownOutIo)
/-- RESET_PIN (R485). -/
def execResetPin (s : State) : Answered := s.onMain (fun m => m.assertReset .resetPin)
/-- REF_LOSS (R158, R485). -/
def execRefLoss (s : State) : Answered := s.onMain (fun m => m.assertReset .refLoss)
/-- LOCKUP (R39, R485). -/
def execLockup (s : State) : Answered := s.onMain (fun m => m.assertReset .lockup)
/-- WATCHDOG (R485). -/
def execWatchdog (s : State) : Answered := s.onMain (fun m => m.assertReset .watchdog)

/-- SOFT_FULL (R485): 1 ms after the write of RS_FULL_RESET. -/
def execSoftFull (s : State) : Answered :=
  s.onMain (fun m => match m.sup.soft with
    | some t => if t + unitsPerMs ≤ m.now then m.assertReset .softFull else m
    | none => m)

/-- DEBUG (R485): where OTP enables the debug port. -/
def execDebug (s : State) : Answered := s.onMain (fun m => if m.sup.otpDebug then m.assertReset .debug else m)

/-- RESET_SOURCE_RELEASE (R487): the source no longer asserts; the hold time of the reach starts with the last of them. -/
def execResetSourceRelease (src : ResetSource) (s : State) : Answered :=
  s.onMain (fun m => { m with sup := { m.sup with asserted := m.sup.asserted.erase src } })

/-- MODULE_REACH_RELEASE (R487, R492): once no module source asserts; the straps are sampled. -/
def execModuleReachRelease (straps : Straps) (s : State) : Answered :=
  s.onMain (fun m =>
    if m.sup.moduleHeld && !m.sup.asserted.any moduleSource then
      { m with sup := { m.sup with moduleHeld := false, straps := straps } }
    else m)

/-- The safety die's signal and announcement act on the axes of a main die that comes out of reset (R215, R216). -/
def Main.signalled (m : Main) (z : Fin 2) (signal ss1 : Bool) : Main :=
  forEach (zoneAxes z) (fun a m => m.modC a (fun c => { c with safe := signal, ss1 := ss1 && !signal })) m

/-- CORE_REACH_RELEASE (R486-R488): every object takes its default, RESET_CAUSE_RECORD, and boot begins. -/
def Main.coreRelease (m : Main) (d : SafetyDie) : Main :=
  let s := m.sup
  let n : Word := if s.episode.any (fun p => p.1 == .por) then 0 else s.episodes
  let m := m.cleared
  let m := { m with sup := { m.sup with
    coreHeld := false, episode := [], cause := causeOf s.episode, episodes := n + 1 } }
  let m := m.setObj (rsAddr O.RS_FLAGS) (b2n s.early)
  (m.signalled 0 (d.held || d.zone0.signal) (d.held || d.zone0.st != .run)).signalled 1
    (d.held || d.zone1.signal) (d.held || d.zone1.st != .run)

/-- CORE_REACH_RELEASE (R487, R488): once module reach is released and no source asserts. -/
def execCoreReachRelease (s : State) : Answered :=
  s.onSignal (fun d m => if m.sup.coreHeld && !m.sup.moduleHeld && m.sup.asserted.isEmpty then m.coreRelease d else m)

/-! ### Unit resets (R489-R491, R526, R529) -/

/-- Free bytes for content that is undefined (R529). -/
def Main.freeBytes (m : Main) (n : Nat) : List Byte × Main :=
  (List.range n).foldl (fun x _ => (x.1 ++ [BitVec.ofNat 8 (x.2.freeWord).1.toNat], (x.2.freeWord).2)) ([], m)

/-- R490: requests of hosts that wait at the unit receive UNIT_RESET. -/
def Main.endRequests (m : Main) (code : Nat) : Main :=
  let mine := fun a => unitOf a == some code
  let q := m.fab.queue.filter (fun x => mine x.addr)
  let rs := m.fab.reqs.filter (fun r => mine r.addr)
  let m := { m with fab := { m.fab with
    queue := m.fab.queue.filter (fun x => !mine x.addr), reqs := m.fab.reqs.filter (fun r => !mine r.addr) } }
  let m := q.foldl (fun m x => m.deliver x.key x.addr aUnitReset) m
  rs.foldl (fun m r => match r.change with | .rule _ _ _ => m | _ => m.answer r.key r.sess r.addr aUnitReset) m

/-- The unit of axis lane `a` with its feedback port (R489): decimators, trip state, compare bank and port are cleared, the
tokens of its current chain are discarded, HOMED is cleared, and an axis in the ledger that uses the unit takes
UNIT_RESET. -/
def Main.resetLane (m : Main) (a : Nat) : Main :=
  let m := m.modLn a (fun l => { period := l.period, shadow := l.shadow })
  let m := m.modPt a (fun q => { lines := q.lines, newMode := q.newMode })
  let m := ((m.setObj (fbAddr a O.FB_POS) 0).setObj (fbAddr a O.FB_LATCH) 0).setObj (pwAddr a O.PW_COMM_VALID) 0
  let m := m.unhome a
  let gone := fun t : Tok => t.inst == a && (t.task == .speed || t.task == .current)
  let m := { m with fab := { m.fab with
    waiting := m.fab.waiting.filter (fun t => !gone t), cells := m.fab.cells.filter (fun p => !gone p.2) } }
  let m := forEach (axes.filter (fun b => m.usesPort b a && (m.i b).core.chains != 0)) (fun b m => m.raise b cUnitReset (some 0)) m
  if !(m.lop a).busy then m
  else if (m.lop a).kind = 1 then m.homeFail a 0x02
  else (m.opFail a 0x02).probeOff a

/-- The event and action unit (R489): entries in ARMED, PREDICTED or PULSE fail, pending pulse offs are commanded off, edges
awaiting capture are gone, one-shot latch units disarm. -/
def Main.resetEvents (m : Main) : Main :=
  let live := (m.ev.entries.filter (fun p => p.2.live)).map Prod.fst
  let offs := m.ev.pulses.map Prod.fst
  let m := live.foldl (fun m e => (m.actFailed e aUnitReset).modAct e (fun a => { a with fire := none, overdue := false })) m
  let m := offs.foldl (fun m c => if (m.brakeAxis c).isSome then m else m.cmdOut c false) m
  let m := { m with ev := { m.ev with pulses := [], moves := [] } }
  forEach (List.range 32) (fun u m => m.modLt u (fun x => { x with
    waiting := [], armed := if m.obj (evAddr u O.EV_LT_MODE) = 1 then none else x.armed })) m

/-- A request of the local host port that nobody waits for any more. -/
def Key.dropped (k : Key) : Key := if k.sess = 9 ∧ k.ticket < 256 then noKey 9 else k

/-- The address that the unfinished request of the local host port named. -/
def Main.heldAddr (m : Main) : Nat :=
  let mine := fun k : Key => k.dropped != k
  let isMine := fun k : Option Key => match k with | some k => mine k | none => false
  match m.fab.queue.find? (fun x => mine x.key), m.fab.reqs.find? (fun r => isMine r.key),
      (List.range 2).find? (fun n => isMine (m.psm n).key) with
  | some x, _, _ => x.addr
  | _, some r, _ => r.addr
  | _, _, some n => psAddr n O.PSn_XFER
  | _, _, _ => hsAddr 9 O.HS_CLAIM

/-- The local host port (R526): its reply and refusal are gone, an unfinished request ends with UNIT_RESET, and the port
presents 0x0F until its next accepted request. -/
def Main.resetHostPort (m : Main) : Main :=
  let m := if m.host.busy then m.noteAbort 9 aUnitReset m.heldAddr else m
  let m := { m with
    host := { reply := { status := aUnitReset } }
    fab := { m.fab with
      queue := m.fab.queue.filter (fun x => x.key.dropped == x.key)
      reqs := m.fab.reqs.map (fun r => { r with key := r.key.map Key.dropped }) }
    windows := mmapAll {} m.windows (fun w => { w with
      claimants := w.claimants.map (fun c => { c with keys := c.keys.map Key.dropped }) })
    ps := mmapAll {} m.ps (fun p => { p with key := p.key.map Key.dropped }) }
  m

/-- The answer to the write of PSn_XFER that started a transfer (R528): to its request, or shown by the command. -/
def Main.psAnswer (m : Main) (n status : Nat) : Main :=
  match (m.psm n).key with
  | none => m
  | some k => m.answer (if k.ticket < 256 then some k else none) k.sess (psAddr n O.PSn_XFER) status

/-- A peripheral serial master (R529): the transfer ends with UNIT_RESET, and PSn_RX is undefined. -/
def Main.resetPs (m : Main) (n : Nat) : Main :=
  let p := m.psm n
  let m := if p.busy then m.psAnswer n aUnitReset else m
  let f := m.freeBytes p.tx.length
  f.2.modPs n (fun _ => { tx := p.tx, rx := f.1 })

/-- What the reset of a unit clears and brings about (R489, R490). -/
def Main.resetUnit (m : Main) (code : Nat) : Main :=
  let m := m.endRequests code
  let n := code % 256
  if code = 0x1000 then m.resetEvents
  else if code = 0x2000 then m.resetHostPort
  else if code = 0x2100 then m.resetPs 0
  else if code = 0x2200 then m.resetPs 1
  else if code = 0x3000 then m.linkDown
  else match code / 256 with
    | 1 => m.resetLane n
    | 3 => (m.opFail (opAQ n) 0x02).modAq n (fun _ => {})
    | 8 => m.modEe n (fun _ => {})
    | _ => m

/-- The mitten of a unit moves on. -/
def Main.setMitten (m : Main) (code st : Nat) : Main :=
  { m with sup := { m.sup with mittens := mset 0 m.sup.mittens code st } }

/-- The mitten of a unit stands at `st`, and the time of its next move has come. -/
def Main.mittenDue (m : Main) (code st : Nat) : Bool :=
  mget 0 m.sup.mittens code == st && decide (mget 0 m.sup.mittenT code ≤ m.now)

/-- The next move of the mitten comes `d` after the one that has just been made. -/
def Main.mittenNext (m : Main) (code d : Nat) : Main :=
  { m with sup := { m.sup with mittenT := mset 0 m.sup.mittenT code (mget 0 m.sup.mittenT code + d) } }

/-- MITTEN_CLOSE (R490): at the first slot boundary after the write the mitten closes; requests to the unit end with error
responses from here on, and the unit is held in reset for 2 µs. -/
def execMittenClose (code : Nat) (s : State) : Answered :=
  s.onMain (fun m =>
    if m.mittenDue code 1 then ((m.setMitten code 2).mittenNext code (unitsPerSlot / 5)).resetUnit code else m)

/-- MITTEN_HOLD_END (R490): the mitten then opens at the next slot boundary. -/
def execMittenHoldEnd (code : Nat) (s : State) : Answered :=
  s.onMain (fun m => if m.mittenDue code 2 then (m.setMitten code 3).mittenNext code (unitsPerSlot * 4 / 5) else m)

/-- MITTEN_OPEN (R490): the mitten opens; trip lines that still act hold the outputs of a lane again. -/
def execMittenOpen (code : Nat) (s : State) : Answered :=
  s.onMain (fun m =>
    if m.mittenDue code 3 then
      let m := (m.setMitten code 0).tripsFollow
      { m with sup := { m.sup with mittenT := merase m.sup.mittenT code } }
    else m)

end Sys2Proof.Machine
end

