-- ==== Sys2Proof/Machine/Boot.lean ====
section
/-! DEFINITION. Boot (R494-R504): trims, firmware, configuration, time base and the application of the configuration; and
the ends of what the local host port and the peripheral masters do on their own (R516-R518, R528). -/

namespace Sys2Proof.Machine

/-! ### Trims and the order of the banks (R494, R495) -/

/-- Boot stands at step `b` and runs (R493). -/
def Main.bootAt (m : Main) (b : BootStep) : Bool := !m.sup.coreHeld && !m.sup.straps.test && m.sup.boot == b

/-- The try count of a bank. -/
def Main.tries (m : Main) : Bank → Nat
  | .bankA => m.sup.tryA
  | .bankB => m.sup.tryB

/-- Set the try count of a bank. -/
def Main.setTries (m : Main) (b : Bank) (n : Nat) : Main :=
  match b with
  | .bankA => { m with sup := { m.sup with tryA := n } }
  | .bankB => { m with sup := { m.sup with tryB := n } }

/-- R494: the banks with a good record, highest GEN first or reversed by the strap, then the others, A before B. -/
def Main.bankOrder (m : Main) : List Bank :=
  let good := m.goodBanks
  (if m.sup.straps.bootBank then good.reverse else good) ++ [Bank.bankA, Bank.bankB].filter (fun b => !good.contains b)

/-- R494: a first bank that has three times failed to reach the lock gives way: the order, and whether ROLLBACK is set. -/
def Main.bootOrder (m : Main) : List Bank × Bool :=
  match m.bankOrder with
  | b :: c :: r => if 3 ≤ m.tries b then (c :: b :: r, true) else (b :: c :: r, false)
  | l => (l, false)

/-- TRIMS_LOADED (R494, R495): the read that passed, 1 to 3, or HALT_TRIM. -/
def Main.trims (m : Main) (goodRead : Nat) : Main :=
  let m := if goodRead = 1 then m else m.orObj (rsAddr O.RS_FLAGS) 8
  if 1 ≤ goodRead ∧ goodRead ≤ 3 then
    let m := m.readRecords
    let o := m.bootOrder
    let m := if o.2 then m.orObj (rsAddr O.RS_FLAGS) 2 else m
    -- R152: bypass ends
    { m with sup := { m.sup with boot := .firmware, bypass := false, order := o.1 }, line := { m.line with cut := [0, 1] } }
  else { m with sup := { m.sup with boot := .haltTrim } }

/-- TRIMS_LOADED (R495). -/
def execTrimsLoaded (goodRead : Nat) (s : State) : Answered :=
  s.onMain (fun m => if m.bootAt .trims then m.trims goodRead else m)

/-! ### Firmware and configuration (R494, R497, R501, R502, R506) -/

/-- FIRMWARE_VERIFIED (R494, R506): the bank in turn is booted, or the next is tried; with none left, RECOVERY. -/
def Main.firmwareStep (m : Main) : Main :=
  match m.sup.order with
  | [] => { m with sup := { m.sup with boot := .recovery } }
  | b :: rest =>
    if fwWhy (m.bank b).fw m.sup.secVer = 0 then
      let m := (m.modBank b (fun x => { x with fwGood := true })).setTries b (m.tries b + 1)
      { m with sup := { m.sup with
        boot := .config, fwBank := some b, fw := (m.bank b).fw, gen := if m.bankGood b then (m.bank b).gen else 0 } }
    else
      let m := m.orObj (rsAddr O.RS_FLAGS) 4
      { m with sup := { m.sup with order := rest, boot := if rest.isEmpty then .recovery else .firmware } }

/-- FIRMWARE_VERIFIED (R494). -/
def execFirmwareVerified (s : State) : Answered :=
  s.onMain (fun m => if m.bootAt .firmware then m.firmwareStep else m)

/-- CONFIG_VERIFIED (R494, R502): the image of the bank booted is used, or the defaults, and why. -/
def Main.configStep (m : Main) : Main :=
  match m.sup.fwBank with
  | none => m
  | some b =>
    let ws := (m.bank b).cfg
    let why := imgWhy ws (fwRelease m.firmware)
    let m := m.modBank b (fun x => { x with cfgGood := imgCheckOk ws })
    let m := (m.setObj (cfAddr 0 O.CF_DEFAULTED) (b2n (why != 0))).setObj (cfAddr 0 O.CF_DEFAULT_WHY) why
    { m with sup := { m.sup with boot := .timebase, image := if why = 0 then some ws else none } }

/-- CONFIG_VERIFIED (R502). -/
def execConfigVerified (s : State) : Answered :=
  s.onMain (fun m => if m.bootAt .config then m.configStep else m)

/-- The entries of the image that is used. -/
def Main.imageEntries (m : Main) : List (Nat × List Word) :=
  match m.sup.image with | some ws => (imgEntries ws).getD [] | none => []

/-- NT_REF_SEL of the image that is used, or its default: the latest entry that R503 accepts. -/
def Main.refSel (m : Main) : Nat :=
  m.imageEntries.foldl (fun r e => match e with
    | (a, [w]) => if a = ntAddr 0 O.NT_REF_SEL ∧ w.toNat ≤ 1 then w.toNat else r
    | _ => r) 0

/-- TIME_BASE_START (R158, R494, R558): the reference is chosen, and A, the epoch word and the frame counter run from 0. -/
def execTimeBaseStart (xrefValid : Bool) (s : State) : Answered :=
  s.onMain (fun m =>
    if m.bootAt .timebase then
      { m with tb := { running := true, refUsed := if m.refSel = 1 ∧ xrefValid then 1 else 0 }
               fab := { m.fab with frame := 0, slotNo := 0 }
               sup := { m.sup with boot := .apply } }
    else m)

/-! ### Application (R141, R503, R504) -/

/-- R503: what refuses an entry: checks 1, 5, 6 and 7 of R92, the state checks, and an object that is not stored. -/
def Main.entryRefused (m : Main) (a : Nat) (ws : List Word) : Bool :=
  match info? a with
  | none => true
  | some o => match parseWrite a o false (bytesOfWords ws) with
    | none => true
    | some d => !o.stored || (m.writeRefusal a d).isSome

/-- The effect of an entry: that of a write by a service session; an object that would need the ledger takes its value. -/
def Main.entryApply (m : Main) (a : Nat) (ws : List Word) : Main :=
  match info? a with
  | none => m
  | some o => match parseWrite a o false (bytesOfWords ws) with
    | none => m
    | some d =>
      if o.ty != .domain && (m.changesLoad a d.value || a == O.DV_BRIM) then
        (m.applyChange (.objWrite a d.value)).afterCommit (.objWrite a d.value)
      else (m.writeEffect 8 a d (some (noKey 8))).1

/-- One entry (R503): applied, or counted as rejected. -/
def Main.applyEntry (m : Main) (e : Nat × List Word) : Main :=
  if m.entryRefused e.1 e.2 then
    let m := if m.obj (cfAddr 0 O.CF_LOAD_REJECTS) = 0 then m.setObj (cfAddr 0 O.CF_LOAD_FIRST) e.1 else m
    m.inc (cfAddr 0 O.CF_LOAD_REJECTS)
  else m.entryApply e.1 e.2

/-- A mode of a feedback port that the image sets takes effect at once: every axis is in OFF (R272). -/
def Main.portsApply (m : Main) : Main := forEach axes (fun p m => m.fbModeApply p) m

/-- R504: the protection table, HS_SVC_MASK with bit 8 set, and the lock, in one update; defaults of R89 without an
image. -/
def Main.protect (m : Main) : Main :=
  match m.sup.image with
  | some ws => { m with prot := imgProt ws, svcMask := fld (ws.getD 4 0) 15 0 ||| 0x100, locked := true }
  | none => { m with prot := [], svcMask := 0x100, locked := true }

/-- R141: a fixed node address takes effect at boot, unless boot has set CF_DEFAULTED. -/
def Main.fixedAddress (m : Main) : Main :=
  if m.sup.straps.addrMode && !m.objB (cfAddr 0 O.CF_DEFAULTED) then
    (m.setObj (ntAddr 0 O.NT_NODE_ADDR) (m.obj (ntAddr 0 O.NT_ADDR_CFG))).setObj (ntAddr 0 O.NT_ADDR_VALID) 1
  else m

/-- CONFIG_APPLIED (R494, R503, R504): the entries in image order, PROTECTION_LOCK, the try count of the bank cleared, and
RUN. -/
def Main.applyConfig (m : Main) (bootUs : Nat) : Main :=
  -- R497 refuses writes until the lock, but not those of boot itself
  let m := m.imageEntries.foldl (fun m e => m.applyEntry e) { m with locked := true }
  let m := m.portsApply
  let m := if m.chainsOf.isEmpty then m else m.mapChanged (placeAll [] m.chainsOf)
  let m := m.protect.fixedAddress
  let m := match m.sup.fwBank with | some b => m.setTries b 0 | none => m
  { m with sup := { m.sup with boot := .run } }.setObj (rsAddr O.RS_BOOT_TIME) (bootUs % 2 ^ 36)

/-- CONFIG_APPLIED (R503). -/
def execConfigApplied (bootUs : Nat) (s : State) : Answered :=
  s.onMain (fun m => if m.bootAt .apply then m.applyConfig bootUs else m)

/-! ### The local host port (R513, R516-R518) -/

/-- The port takes frames: it is enabled, the lock is set, and its mitten is open (R512, R525, R526). -/
def Main.portOpen (m : Main) : Bool := m.hears 9 false

/-- A frame begins: its mode is noted, and it shows the reply fixed at the fall of its select (R513, R520). -/
def Main.hostFrame (m : Main) (mode3 : Bool) : Main :=
  let shown := m.host.present
  let m := { m with host := { m.host with refusal := none } }
  ((m.setObj O.DV_LP_MODE (if mode3 then 3 else 0)).inc O.DV_LP_FRAMES).presents shown

/-- NULL_FRAME (R516, R523): no request; the reply held stays, and S9 has been heard. -/
def execNullFrame (mode3 : Bool) (s : State) : Answered :=
  s.onMain (fun m => if m.portOpen then (m.hostFrame mode3).touch 9 else m.portMute)

/-- R515: the length D of a request's data by its command; none where the command is not defined. -/
def hostDataLen (cmd len : Nat) : Option Nat :=
  match cmd with
  | 1 => some 0 | 2 => some len | 4 => some 0 | 5 => some 0 | 6 => some 5 | 7 => some len | 8 => some 0
  | _ => none

/-- R518: the tests of a frame that is no null frame, in their order: the code of the refusal, 0 where it passes. -/
def hostFrameCode (b : List Byte) : Nat :=
  let cmd := (b.getD 0 0).toNat
  let len := natOfBytes ((b.drop 5).take 2)
  let d := (hostDataLen cmd len).getD 0
  if b.length < 7 ∨ 4096 < len then aFrame
  else if b.length < 9 + d then aFrame
  else if natOfBytes ((b.drop (7 + d)).take 2) ≠ check16 (b.take (7 + d)) then aCheck
  else if (hostDataLen cmd len).isNone then aBadCommand
  else 0

/-- The refusal of a frame (R517, R518), counted and kept for the next frame; a frame whose check holds has been heard
(R523). -/
def Main.refuseFrame (m : Main) (code : Nat) (b : List Byte) : Main :=
  let m := if code = aFrame then m.inc O.DV_LP_FRAME_ERR else if code = aCheck then m.inc O.DV_LP_CHECK_ERR else m.touch 9
  m.hostRefuse code (b.getD 1 0).toNat

/-- HOST_FRAME_REFUSED (R516, R518): the tests of R518 over the frame's whole bytes. A null frame refuses nothing, and a
frame that passes every test is a request, which has a command of its own. -/
def execHostFrameRefused (mode3 : Bool) (bytes : List Byte) (s : State) : Answered :=
  s.onMain (fun m =>
    if !m.portOpen then m.portMute
    else if bytes.headD 0 = 0 then (m.hostFrame mode3).touch 9
    else match hostFrameCode bytes with
      | 0 => m
      | c =>
        let r := m.hostFrame mode3
        { r.refuseFrame c bytes with out := r.out })

/-! ### Peripheral serial masters (R528) -/

/-- The shortest time from the write of PSn_XFER to the release of the select (R528). -/
def Main.psTime (m : Main) (n : Nat) : Nat :=
  4000 * (m.obj (psAddr n O.PSn_CS_LEAD) + m.obj (psAddr n O.PSn_CS_LAG)) + 8 * (m.psm n).tx.length * m.psPeriod n

/-- PS_TRANSFER_END (R528): the select is released, PSn_RX holds as many bytes as were sent, and the write is answered. The
operand holds what came on PSn_MISO, eight bits a byte in the order of time; the bytes that went out on PSn_MOSI are shown in
the same way. -/
def execPsTransferEnd (n : Fin 2) (rx : List Byte) (s : State) : Answered :=
  s.onMain (fun m =>
    let p := m.psm n
    if !p.busy || decide (m.now < p.startT + m.psTime n) then m
    else
      let lsb := m.objB (psAddr n O.PSn_LSB_FIRST)
      let m := m.psAnswer n 0
      let m := { m with out := { m.out with frame := some (4 + n, wireBytes lsb p.tx) } }
      m.modPs n (fun _ => { tx := p.tx, rx := wireBytes lsb ((List.range p.tx.length).map (fun k => rx.getD k 0)) }))

end Sys2Proof.Machine
end

