-- ==== Sys2Proof/Machine/Boundary.lean ====
section
/-! DEFINITION. The slot boundary (R558): everything that chapter 95 lists within it, in the order of log 23. -/

namespace Sys2Proof.Machine

/-! ### The ledger's decision and its commit (R49-R54) -/

/-- What refuses a change at the ledger's decision or at its commit: the checks of the write again (R76, R96), for the state
may have changed since the write was queued (log 69). Best-effort room was tested when it was. -/
def Main.changeRefusal (m : Main) (c : Change) : Option Nat :=
  let r := match c with
    | .objWrite a v => m.wordRefusal a (wordN v)
    | .control i v => m.controlRefusal i v
    | .opStart i _ v => m.controlRefusal i v
    | .link i => m.linkRefusal i
    | .join h k => m.addRefusal h (codeOf k)
    | .action e ws => if (m.act e).live ∨ m.entryState ws then some aState else none
    | .rule _ _ _ => none
  if r = some aBusy then none else r

/-- R49, R48: the ledger's verdict on a change in the configuration that the changes before it left. -/
def Main.verdict (m : Main) (c : Change) : Refuse ⊕ List Chain :=
  let base := m.fab.commits.foldl (fun m c => m.applyChange c.change) m
  let old := m.fab.staged.getD m.fab.map
  let next := base.applyChange c
  if c.isBrim then (match slotChecks old (next.obj O.DV_BRIM) slots with
    | some f => .inl { f with code := 0x05 }
    | none => .inr old)
  else admission old next.chainsOf (m.obj O.DV_PACE_STATE) (m.obj O.DV_PACE_NOW) (base.obj O.DV_BRIM)

/-- The change adds load: it does not only remove some (R51, R54). -/
def Main.addsLoad (m : Main) (c : Change) : Bool :=
  let next := (m.fab.commits.foldl (fun m c => m.applyChange c.change) m).applyChange c
  !c.isBrim && !onlyRemoves (m.fab.staged.getD m.fab.map) next.chainsOf

/-- LEDGER_DECISION (R49, R52, R53): the ledger takes the oldest request, evaluates it against the map that the
requests before it left, and admits it, to be committed at the next slot boundary, or refuses it. -/
def Main.ledgerDecision (m : Main) : Main :=
  match m.fab.reqs with
  | [] => m
  | r :: rest =>
    let m := { m with fab := { m.fab with reqs := rest } }
    match (m.fab.commits.foldl (fun m c => m.applyChange c.change) m).changeRefusal r.change with
    | some c => m.answer r.key r.sess r.addr c
    | none => match m.verdict r.change with
      | .inl f =>
        let m := m.noteRefusal r f
        match r.change with
        | .rule u _ _ => m.ruleFail u
        | _ => m.answer r.key r.sess r.addr aAdmit
      | .inr map =>
        let adds := m.addsLoad r.change
        let m := { m with fab := { m.fab with staged := some map, commits := m.fab.commits ++ [r] } }
        let m := match r.change.instance? with | some i => if adds then m.setAdmitRef i false else m | none => m
        match r.change with
        | .rule _ _ _ => m
        | _ => m.answer r.key r.sess r.addr 0

/-- LEDGER_DECISION (R49). -/
def execLedgerDecision (s : State) : Answered := s.onMain Main.ledgerDecision

/-- One admitted change takes effect, whole or not at all (R76, R96). -/
def Main.commitOne (m : Main) (c : Change) : Main :=
  if (m.changeRefusal c).isSome then m else (m.applyChange c).afterCommit c

/-- LEDGER_COMMIT (R49): at a slot boundary the admitted changes take effect and their map is in force. -/
def Main.ledgerCommit (m : Main) : Main :=
  match m.fab.staged with
  | none => m
  | some map =>
    let cs := m.fab.commits
    let m := { m with fab := { m.fab with staged := none, commits := [] } }
    (cs.foldl (fun m c => m.commitOne c.change) m).mapChanged map

/-! ### The boundary -/

/-- SLOT_BOUNDARY: everything that is timed to it, in the order of log 23. -/
def Main.slotBoundary (m : Main) (x : SlotIn) : Main :=
  let m := m.toBoundary
  let slot := m.fab.slotNo - 1
  let s := slotStart m.now
  let m := { m with fab := { m.fab with waiting := m.fab.waiting.filter (fun t => decide (s < t.deadline)), forks := [] } }
  let m := forEach axes (fun p m => m.portStep p) m
  let old := m.fab.map
  let m := m.ledgerCommit.loadRemoval
  let m := x.records.foldl (fun m r => m.opRecord r.1.val r.2) (((m.paceMeasure x.replicas).paceState).shed).progressStep
  let m := m.answersReady
  let m := m.transitions
  let m := forEach instances (fun i m => m.idleStep i) m
  let m := m.runMoves
  let m := forEach (List.range 16) (fun v m => m.masterShow v) m
  let m := forEach (List.range 8) (fun o m => m.eeRate o) m
  let m := forEach instances (fun i m => ((m.targetStep i).stillStep i).warnStep i) m
  let m := forEach channels (fun c m => m.chanStep c) m
  let m := ((m.releases old slot s).notePeak).dispatch
  let m := forEach aqUnits (fun u m => m.aqSample u) m
  forEach aqUnits (fun u m => m.aqPostFull u) m.aqEvaluateAll

/-- SLOT_BOUNDARY (R558), with the replicas' measurements and the result records that running long operations complete by
then (R102). Slots exist once the time base has started (R494). -/
def execSlotBoundary (x : SlotIn) (s : State) : Answered :=
  s.onMain (fun m => if m.tb.running then m.slotBoundary x else m)

end Sys2Proof.Machine
end

