-- ==== Sys2Proof/Machine/SafetyUnit.lean ====
section
/-! DEFINITION. The safety die (chapter 14): seal switches, safety inputs, zones, gauntlets, and the commands that act
on it. Nothing here reads or changes the main die. -/

namespace Sys2Proof.Machine

/-! ### Configuration and inputs (R455-R463) -/

/-- Switch `n` as read at release of field reach. -/
def SafetyDie.sw (d : SafetyDie) (n : Nat) : Bool := d.cfg.sw.testBit n

/-- R455: the value of the switches read, bit n for SWn; an invalid switch reads 0 here. -/
def switchValues (l : List SealRead) : Nat :=
  (l.zipIdx.foldl (fun v p => if p.1.trueClosed && !p.1.compClosed then v + 2 ^ p.2 else v) 0)

/-- R455: the switches that read invalid, bit n for SWn. -/
def switchInvalid (l : List SealRead) : Nat :=
  (l.zipIdx.foldl (fun v p => if p.1.trueClosed == p.1.compClosed then v + 2 ^ p.2 else v) 0)

/-- R457: the configuration is invalid. -/
def SafetyDie.cfgInvalid (d : SafetyDie) : Bool := d.cfg.invalid != 0 || (d.sw 11 && d.sw 3)

/-- An input's channels. -/
def SafetyDie.inp (d : SafetyDie) : SafeIn → SafeInput
  | .chain => d.chain
  | .si n => match n with | 0 => d.si0 | 1 => d.si1 | 2 => d.si2 | 3 => d.si3

/-- Change an input's channels. -/
def SafetyDie.setInp (d : SafetyDie) (i : SafeIn) (x : SafeInput) : SafetyDie :=
  match i with
  | .chain => { d with chain := x }
  | .si n => match n with
    | 0 => { d with si0 := x } | 1 => { d with si1 := x } | 2 => { d with si2 := x } | 3 => { d with si3 := x }

/-- R461: the input is monitored for discrepancy. -/
def SafetyDie.monitored (d : SafetyDie) : SafeIn → Bool
  | .chain => true
  | .si n => d.sw n || (n == 3 && d.sw 11)

/-- R461: the input demands. -/
def SafetyDie.demandsIn (d : SafetyDie) (i : SafeIn) : Bool :=
  let x := d.inp i
  let acts := x.a || x.b || x.latched
  match i with
  | .chain => acts
  | .si n => d.sw n && !(n == 3 && d.sw 11) && acts

/-- R459: the zone is demanded. -/
def SafetyDie.zoneDemand (d : SafetyDie) (z : Fin 2) : Bool :=
  d.demandsIn .chain ||
    (if d.sw 4 then (if z = 0 then d.demandsIn (.si 0) || d.demandsIn (.si 1) else d.demandsIn (.si 2) || d.demandsIn (.si 3))
     else d.demandsIn (.si 0) || d.demandsIn (.si 1) || d.demandsIn (.si 2) || d.demandsIn (.si 3))

/-- R465: the chain output demands. -/
def SafetyDie.chainOut (d : SafetyDie) : Bool :=
  d.demandsIn .chain || d.demandsIn (.si 0) || d.fault != .none || d.held

/-! ### Zones (R459, R467-R471) -/

/-- Zone `z`. -/
def SafetyDie.zone (d : SafetyDie) (z : Fin 2) : Zone := if z = 0 then d.zone0 else d.zone1

/-- R459: change a zone; with one zone both take the same state at the same instant. -/
def SafetyDie.modZone (d : SafetyDie) (z : Fin 2) (f : Zone → Zone) : SafetyDie :=
  if d.sw 4 then (if z = 0 then { d with zone0 := f d.zone0 } else { d with zone1 := f d.zone1 })
  else { d with zone0 := f d.zone0, zone1 := f d.zone1 }

/-- The gauntlets of a zone open at `t`. -/
def Zone.opened (x : Zone) (t : Nat) : Zone :=
  { x with signal := true, closed := false, releasing := false, quiet := false, gtT := if x.closed then t else x.gtT }

/-- R468: STO: the gauntlets open and the safe-level signal acts in the same instant. -/
def Zone.toSto (x : Zone) (t : Nat) : Zone := { x.opened t with st := .sto }

/-- R471: a restart closes the gauntlets; the signal is withdrawn 20 ms later. -/
def Zone.toRun (x : Zone) (t : Nat) : Zone := { x with st := .run, closed := true, releasing := true, quiet := false, gtT := t }

/-- R470: FAULT. -/
def Zone.toFault (x : Zone) (t : Nat) : Zone := { x.opened t with st := .fault }

/-- A demand on a zone: STO or SS1 from RUN (R467-R469); the quiet time of R471 starts again. -/
def Zone.demand (x : Zone) (ss1 : Bool) (t : Nat) : Zone :=
  match x.st with
  | .run => if ss1 then { x with st := .ss1, ss1T := t } else x.toSto t
  | _ => { x with quiet := false }

/-- SF_DEMAND_COUNT counts `n` entries to SS1 or STO. -/
def SafetyDie.count (d : SafetyDie) (n : Nat) : SafetyDie := { d with demands := d.demands + BitVec.ofNat 36 n }

/-- The zones that stand at `st` among those that demand, one for the single zone. -/
def SafetyDie.demandedIn (d : SafetyDie) (st : ZoneSt) : Nat :=
  if d.sw 4 then b2n (d.zone0.st == st && d.zoneDemand 0) + b2n (d.zone1.st == st && d.zoneDemand 1)
  else b2n (d.zone0.st == st && d.zoneDemand 0)

/-- R467: the demands of the inputs act on the zones. -/
def SafetyDie.act (d : SafetyDie) : SafetyDie :=
  { d.count (d.demandedIn .run) with
    zone0 := if d.zoneDemand 0 then d.zone0.demand (d.sw 8) d.clock else d.zone0
    zone1 := if d.zoneDemand 1 then d.zone1.demand (d.sw 8) d.clock else d.zone1 }

/-- R470: a unit fault acts as STO at once in every zone and stays latched; the first cause stands. -/
def SafetyDie.unitFault (d : SafetyDie) (f : UnitFault) : SafetyDie :=
  { d with fault := if d.fault = .none then f else d.fault, zone0 := d.zone0.toFault d.clock, zone1 := d.zone1.toFault d.clock }

/-- A zone that may restart does so (R471): from STO, without demand. -/
def Zone.restart (x : Zone) (demanded : Bool) (t : Nat) : Zone :=
  if x.st = .sto ∧ demanded = false then x.toRun t else x

/-- R471: a restart closes the gauntlets of every zone that it allows to restart. -/
def SafetyDie.restart (d : SafetyDie) : SafetyDie :=
  if d.fault ≠ .none then d
  else { d with zone0 := d.zone0.restart (d.zoneDemand 0) d.clock, zone1 := d.zone1.restart (d.zoneDemand 1) d.clock }

/-! ### A channel's change (R460-R463, R471) -/

/-- R471: what a change of SI3 makes of the restart pulse; `us` is the time since the change before it. Given: whether
both channels stood and now stand at no demand, and whether both now stand at demand. -/
def pulseNext (p : Nat) (wasNone nowNone nowBoth : Bool) (us : Nat) : Nat :=
  if nowBoth then 0
  else if p = 4 then 4
  else if nowNone then 1
  else if wasNone && p == 1 then (if us < 100000 then 3 else if us ≤ 3000000 then 2 else 4)
  else p

/-- A channel of an input changes: its level, and what that does to a latched discrepancy (R463). -/
def SafeInput.change (x : SafeInput) (chB demand : Bool) : SafeInput :=
  let x := if chB then { x with b := demand } else { x with a := demand }
  let x := if x.latched && x.a && x.b then { x with both := true } else x
  if x.latched && x.both && !x.a && !x.b then { x with latched := false, both := false } else x

/-- The die at `us` of its oscillator. -/
def SafetyDie.at_ (d : SafetyDie) (us : Nat) : SafetyDie := if d.held then d else { d with clock := max d.clock us }

/-- R471: a zone that was or is demanded has been without a demand since now at the earliest; `d0` is the die before the
change. -/
def SafetyDie.free (d d0 : SafetyDie) : SafetyDie :=
  { d with
    zone0 := if d0.zoneDemand 0 || d.zoneDemand 0 then { d.zone0 with freeT := d.clock } else d.zone0
    zone1 := if d0.zoneDemand 1 || d.zoneDemand 1 then { d.zone1 with freeT := d.clock } else d.zone1 }

/-- SAFETY_CHANNEL_CHANGE: a channel has stood at a level for the channel filter time, never recognised before 1.0 ms (R460). -/
def SafetyDie.channelChange (d : SafetyDie) (i : SafeIn) (chB : Bool) (level : SafeLevel) (us : Nat) : SafetyDie :=
  if d.held then d else
  let d := d.at_ us
  let old := d.inp i
  if level.heldUs < 1000 ∨ (if chB then old.b else old.a) = level.demand then d else
  let new := { old.change chB level.demand with chgT := d.clock }
  let d := (d.setInp i new).free d
  if i = .si 3 ∧ d.sw 11 then
    let cleared := old.latched && !new.latched
    let p := if cleared then 4 else pulseNext d.pulse (!old.a && !old.b) (!new.a && !new.b) (new.a && new.b) (d.clock - old.chgT)
    let fire := d.pulse == 2 && new.a && new.b && !new.latched && !d.testing
    let d := { d with pulse := p }
    if fire then d.act.restart else d.act
  else d.act

/-- R456: the discrepancy time in ms, by the code of SW7-SW5. -/
def SafetyDie.discMs (d : SafetyDie) : Nat := [10, 20, 50, 100, 200, 500, 1000, 2000].getD (d.cfg.sw / 32 % 8) 0

/-- R456: the SS1 delay in ms, 0 with SW8 0. -/
def SafetyDie.ss1Ms (d : SafetyDie) : Nat :=
  if d.sw 8 then [100, 200, 500, 1000].getD (d.cfg.sw / 512 % 4) 0 else 0

/-- R462: a discrepancy fault latches where the channels of a monitored input have differed for t_d; during a return it demands
a new return (R463). -/
def SafetyDie.discrepancy (d : SafetyDie) (i : SafeIn) (us : Nat) : SafetyDie :=
  if d.held then d else
  let d := d.at_ us
  let x := d.inp i
  if !d.monitored i || x.a == x.b || decide (d.clock < x.chgT + d.discMs * 1000) then d
  else
    let e := { d with discs := if x.latched then d.discs else d.discs + 1 }
    ((e.setInp i { x with latched := true, both := false }).free d).act

/-! ### The commands -/

/-- SAFETY_FIELD_REACH (R454): everything of the die at its start, gauntlets open, the signal acting. -/
def execSafetyFieldReach (s : State) : Answered := s.onSafety (fun _ => { held := true })

/-- SAFETY_FIELD_REACH_RELEASE (R455, R456): the switches are read, self-test starts. -/
def execSafetyFieldReachRelease (switches : List SealRead) (s : State) : Answered :=
  s.onSafety (fun d => if d.held then
    { cfg := { sw := switchValues switches, invalid := switchInvalid switches }
      nowInvalid := switchInvalid switches } else d)

/-- SAFETY_SELF_TEST_END (R457, R471): FAULT with SEAL, RUN where the restart rules allow it, else STO. -/
def execSafetySelfTestEnd (s : State) : Answered :=
  s.onSafety (fun d =>
    if d.held || !d.testing then d
    else
      let d := { d with testing := false }
      if d.fault ≠ .none then d
      else if d.cfgInvalid then d.unitFault .seal
      else
        let go := fun (x : Zone) (z : Fin 2) => x.quiet && !d.zoneDemand z && !d.sw 11
        let sto := if d.sw 4 then b2n (!go d.zone0 0) + b2n (!go d.zone1 1) else b2n (!go d.zone0 0)
        let end_ := fun (x : Zone) (z : Fin 2) => if go x z then x.toRun d.clock else x.toSto d.clock
        { d.count sto with zone0 := end_ d.zone0 0, zone1 := end_ d.zone1 1 })

/-- SEAL_READ (R455, R458): a change of any switch reading puts the unit in FAULT with SEAL. -/
def execSealRead (switches : List SealRead) (s : State) : Answered :=
  s.onSafety (fun d =>
    if d.held then d
    else
      let d := { d with nowInvalid := switchInvalid switches }
      if switchValues switches ≠ d.cfg.sw ∨ switchInvalid switches ≠ d.cfg.invalid then d.unitFault .seal else d)

/-- SAFETY_CHANNEL_CHANGE (R460-R463, R465, R467-R469, R471), at `us` of the safety oscillator. -/
def execSafetyChannelChange (inp : SafeIn) (chB : Bool) (level : SafeLevel) (us : Nat) (s : State) : Answered :=
  s.onSafety (fun d => d.channelChange inp chB level us)

/-- DISCREPANCY_FAULT (R462). -/
def execDiscrepancyFault (inp : SafeStep SafeIn) (s : State) : Answered := s.onSafety (fun d => d.discrepancy inp.part inp.us)

/-- SS1_DELAY_END (R469): t_ss1 after its entry to SS1 the zone enters STO. -/
def execSs1DelayEnd (zone : SafeStep (Fin 2)) (s : State) : Answered :=
  s.onSafety (fun d =>
    let d := d.at_ zone.us
    let x := d.zone zone.part
    if x.st = .ss1 ∧ x.ss1T + d.ss1Ms * 1000 ≤ d.clock then (d.count 1).modZone zone.part (fun x => x.toSto d.clock) else d)

/-- AUTO_RESTART (R471): with SW11 0, 100 ms without a demand; in START it is remembered for the end of self-test. -/
def execAutoRestart (zone : SafeStep (Fin 2)) (s : State) : Answered :=
  s.onSafety (fun d =>
    let d := d.at_ zone.us
    let x := d.zone zone.part
    if d.held || d.sw 11 || d.zoneDemand zone.part || d.fault != .none || decide (d.clock < x.freeT + 100000) then d
    else match x.st with
      | .sto => d.modZone zone.part (fun x => x.toRun d.clock)
      | .start => d.modZone zone.part (fun x => { x with quiet := true })
      | _ => d)

/-- SAFE_LEVEL_RELEASE_DELAY (R471, R477): 20 ms after the gauntlets closed the signal is withdrawn. -/
def execSafeLevelReleaseDelay (zone : SafeStep (Fin 2)) (s : State) : Answered :=
  s.onSafety (fun d =>
    let d := d.at_ zone.us
    let x := d.zone zone.part
    if x.releasing ∧ x.gtT + 20000 ≤ d.clock then
      d.modZone zone.part (fun x => { x with signal := false, releasing := false }) else d)

/-- CHAIN_TEST_PULSE (R466): made while the chain output does not demand. -/
def execChainTestPulse (_chB fellInTime : Bool) (s : State) : Answered :=
  s.onSafety (fun d => if d.chainOut || fellInTime then d else d.unitFault .chainOut)

/-- CHAIN_OUT_READBACK_FAULT (R466). -/
def execChainOutReadbackFault (s : State) : Answered :=
  s.onSafety (fun d => if d.held then d else d.unitFault .chainOut)

/-- R475: a gauntlet fails. -/
def SafetyDie.gauntletFault (d : SafetyDie) (gt : Fin 8) : SafetyDie :=
  if d.held then d else { d with gtFault := d.gtFault ||| 2 ^ gt.val }.unitFault .gauntlet

/-- The gauntlet is closed: GT0-GT3 with zone 0, GT4-GT7 with zone 1 (R459). -/
def SafetyDie.gtClosed (d : SafetyDie) (gt : Fin 8) : Bool := if gt.val < 4 then d.zone0.closed else d.zone1.closed

/-- GAUNTLET_TEST_PULSE (R473, R475): made while the gauntlet is closed. -/
def execGauntletTestPulse (gt : Fin 8) (_highSide passed : Bool) (s : State) : Answered :=
  s.onSafety (fun d => if d.gtClosed gt && !passed then d.gauntletFault gt else d)

/-- The zone whose gauntlet it is (R459). -/
def SafetyDie.gtZone (d : SafetyDie) (gt : Fin 8) : Zone := if gt.val < 4 then d.zone0 else d.zone1

/-- GAUNTLET_READBACK_CHECK (R474, R475): of an open gauntlet from 20 ms after its opening. -/
def execGauntletReadbackCheck (gt : SafeStep (Fin 8)) (inBounds : Bool) (s : State) : Answered :=
  s.onSafety (fun d =>
    let d := d.at_ gt.us
    let x := d.gtZone gt.part
    if inBounds || (!x.closed && decide (d.clock < x.gtT + 20000)) then d else d.gauntletFault gt.part)

/-- GAUNTLET_CURRENT_LIMIT (R475): it has been in current limit for `us` microseconds, with 1 ms a fault. -/
def execGauntletCurrentLimit (gt : SafeStep (Fin 8)) (s : State) : Answered :=
  s.onSafety (fun d => if d.gtClosed gt.part && decide (1000 ≤ gt.us) then d.gauntletFault gt.part else d)

/-- SAFETY_INTERNAL_FAULT (R470). -/
def execSafetyInternalFault (s : State) : Answered :=
  s.onSafety (fun d => if d.held then d else d.unitFault .internal)

/-! ### What the main die receives (R474, R478-R480) -/

/-- R471: the code of a zone state. -/
def ZoneSt.code : ZoneSt → Nat
  | .start => 0 | .run => 1 | .ss1 => 2 | .sto => 3 | .fault => 4

/-- The code of a unit fault (SF_FAULT). -/
def UnitFault.code : UnitFault → Nat
  | .none => 0 | .seal => 1 | .gauntlet => 2 | .chainOut => 3 | .internal => 4

/-- The four inputs. -/
def siList : List (Fin 4) := [0, 1, 2, 3]

/-- R479: SF_INPUTS. -/
def SafetyDie.inputs (d : SafetyDie) : Nat :=
  siList.foldl (fun v n => v + b2n (d.demandsIn (.si n)) * 2 ^ n.val + b2n (d.inp (.si n)).latched * 2 ^ (4 + n.val)
      + b2n (d.inp (.si n)).a * 2 ^ (8 + 2 * n.val) + b2n (d.inp (.si n)).b * 2 ^ (9 + 2 * n.val)) 0
    + b2n (d.demandsIn .chain) * 2 ^ 20 + b2n d.chain.latched * 2 ^ 21 + b2n d.chain.a * 2 ^ 22
    + b2n d.chain.b * 2 ^ 23 + b2n d.chainOut * 2 ^ 24

/-- SF_GAUNTLETS. -/
def SafetyDie.gauntlets (d : SafetyDie) : Nat :=
  d.gtFault * 2 ^ 16 + b2n d.zone0.closed * 0x0F + b2n d.zone1.closed * 0xF0

/-- SF_ZONE_CAUSE. -/
def SafetyDie.zoneCause (d : SafetyDie) (z : Fin 2) : Nat :=
  siList.foldl (fun v n => v + b2n (d.demandsIn (.si n) && (!d.sw 4 || decide (n.val / 2 = z.val))) * 2 ^ n.val) 0
    + b2n (d.demandsIn .chain) * 16 + b2n (d.fault != .none) * 32

/-- SAFETY_STATUS_FRAME (R478, R480): the SF_ objects show the status received. A die held in field reach sends none. -/
def execSafetyStatusFrame (s : State) : Answered :=
  s.onSignal (fun d m => if d.held then m else
    [(0x900100, d.nowInvalid * 4096 + d.cfg.sw), (0x900101, d.discMs), (0x900102, d.ss1Ms), (0x900103, d.inputs),
     (0x900104, d.gauntlets), (0x900105, d.fault.code), (0x900106, 1), (0x900107, d.demands.toNat),
     (0x900108, d.discs.toNat), (0x900109, Config.safetyId.toNat), (0x900110, d.zone0.st.code),
     (0x901110, d.zone1.st.code), (0x900111, d.zoneCause 0), (0x901111, d.zoneCause 1)].foldl
      (fun m p => m.setObj p.1 p.2) { m with sfT := m.now })

/-- SAFETY_STATUS_TIMEOUT (R478): 5 ms without a status frame, SF_LINK is 0 and the other SF_ objects keep their values. -/
def execSafetyStatusTimeout (s : State) : Answered :=
  s.onMain (fun m => if m.sfT + 5 * unitsPerMs ≤ m.now then m.setObj (sfAddr 0 O.SF_LINK) 0 else m)

end Sys2Proof.Machine
end

