-- ==== Sys2Proof/Machine/Time.lean ====
section
/-! DEFINITION. Network time (R158-R181): the transparent clock, the peer delay, the choice of a master, the servo of the
slave, and the step of the time base. -/

namespace Sys2Proof.Machine

/-! ### The servo (R161, R173, R174, R177) -/

/-- The range of R161. -/
def clampInc (n : Nat) : Nat := max 0x9FF800000 (min 0xA00800000 n)

/-- NT_INC is written. -/
def Main.setInc (m : Main) (n : Nat) : Main := { m with tb := { m.tb with inc := BitVec.ofNat 36 n } }

/-- R173: the rate estimate follows, and NT_INC is written, within NT_SLEW_PPM of the estimate (log 17). While a slew lasts
it is NT_SLEW_PPM away from the estimate, slower where the local time is ahead (R177). -/
def Main.steer (m : Main) (off : Int) (dt : Nat) : Main :=
  let est := clampInc (Config.rateEstimate (m.objW (ntAddr 0 O.NT_FREQ_EST)) off dt).toNat
  let d := est * m.obj (ntAddr 0 O.NT_SLEW_PPM) / 1000000
  let inc := if m.objB (ntAddr 0 O.NT_SLEWING) then (if 0 < off then est - d else est + d)
    else max (est - d) (min (est + d) (Config.servoInc (BitVec.ofNat 36 est) off).toNat)
  (m.setObj (ntAddr 0 O.NT_FREQ_EST) est).setInc (clampInc inc)

/-- NT_OFFSET is measured, and NT_SLEWING is cleared once it has fallen to NT_STEP_LIMIT or below (R177). -/
def Main.measured (m : Main) (off : Int) : Main :=
  let m := m.setObjI (ntAddr 0 O.NT_OFFSET) off
  if off.natAbs ≤ 4 * m.obj (ntAddr 0 O.NT_STEP_LIMIT) then m.setObj (ntAddr 0 O.NT_SLEWING) 0 else m

/-- NT_SYNC_STATE. -/
def Main.syncState (m : Main) : Nat := m.obj (ntAddr 0 O.NT_SYNC_STATE)

/-- A new NT_SYNC_STATE; the counts towards a change begin anew. -/
def Main.setSync (m : Main) (st : Nat) : Main :=
  { m.setObj (ntAddr 0 O.NT_SYNC_STATE) st with ptp := { m.ptp with good := 0, bad := 0 } }

/-- OFFSET_DECISION (R177). -/
def Main.decideOffset (m : Main) (off : Int) (dt : Nat) : Main :=
  let m := { m.measured off with ptp := { m.ptp with first := none, deciding := false } }
  let acquire := fun m : Main => (m.steer off dt).setSync 1
  if off.natAbs ≤ 4 * m.obj (ntAddr 0 O.NT_STEP_LIMIT) then acquire m
  else if m.stepAllowed then acquire { m with tb := { m.tb with step := some (false, -off) } }
  else if off.natAbs ≤ 4000 * m.obj (ntAddr 0 O.NT_SLEW_MAX) then acquire (m.setObj (ntAddr 0 O.NT_SLEWING) 1)
  else (m.setSync 4).setInc (m.obj (ntAddr 0 O.NT_FREQ_EST))

/-- SYNC_STATE_CHANGE (R174): 16 consecutive Syncs within NT_LOCK_THRESH lock, 4 consecutive ones beyond it unlock. -/
def Main.lockStep (m : Main) (off : Int) : Main :=
  let near := decide (off.natAbs ≤ 4 * m.obj (ntAddr 0 O.NT_LOCK_THRESH))
  let good := if near then m.ptp.good + 1 else 0
  let bad := if near then 0 else m.ptp.bad + 1
  if m.syncState = 1 ∧ 16 ≤ good then m.setSync 2
  else if m.syncState = 2 ∧ 4 ≤ bad then m.setSync 1
  else { m with ptp := { m.ptp with good := good, bad := bad } }

/-- A Sync of the selected master at offset `off` (R173, R177). In FREE and HOLDOVER, and after a change of master, the
first one waits for a second. A Sync on the other port within one Sync interval of the latest is left aside. -/
def Main.useSync (m : Main) (p : Nat) (rx off : Int) (interval : Nat) : Main :=
  let inUse := m.obj (ntAddr 0 O.NT_PTP_PORT)
  if inUse ≠ p ∧ inUse ≠ 0xFF ∧ rx ≤ (m.ptp.lastSync + interval : Nat) then m
  else
    let dt := (rx - m.ptp.lastSync).toNat
    let m : Main := { m.setObj (ntAddr 0 O.NT_PTP_PORT) p with ptp := { m.ptp with lastSync := rx.toNat } }
    let st := m.syncState
    if st = 0 ∨ st = 3 ∨ m.ptp.deciding then
      match m.ptp.first with
      | none => { m with ptp := { m.ptp with first := some (rx.toNat, off) } }
      | some _ => m.decideOffset off dt
    else if st = 4 then m.decideOffset off dt
    else ((m.measured off).steer off dt).lockStep off

/-- R173: the offset of a Sync: its corrected receive stamp against the master's time. -/
def Main.offsetOf (m : Main) (p : Nat) (rx : Int) (corr : Int) (origin : Nat) : Int :=
  rnd ((rx : Rat) - (origin : Rat) - (corr : Rat) / 16384 - (m.obj (ntAddr p O.NT_PDELAY) : Rat))

/-- The slave runs (it is firmware) and follows this master (R167, R173). -/
def Main.follows (m : Main) (domain : Nat) (master : List Byte) : Bool :=
  m.sup.boot == .run && m.obj (ntAddr 0 O.NT_SYNC_MODE) == 0 && m.obj (ntAddr 0 O.NT_PTP_DOMAIN) == domain &&
    m.ptp.master == some master

/-- A PTP frame on a line port passes as any frame does; the node uses it where the line engine runs, and it is a good frame
of the kind. -/
def Main.takesPtp (m : Main) (p : Nat) (g : PtpFrame) (kind : Nat) : Bool :=
  !m.sup.moduleHeld && !m.sup.coreHeld && !m.sup.bypass && m.portUp p && !m.isDamek g.frame && g.kind == some kind &&
    frameGood g.frame

/-- SYNC (R168, R171, R173). A two-step Sync waits for its Follow_Up. -/
def execSync (port : LPort) (rawStamp : Instant) (g : PtpFrame) (s : State) : Answered :=
  s.onMain (fun m =>
    let p := LPort.num port
    let uses := m.takesPtp p g 0 && m.follows g.domain g.master
    let rx := m.rxStamp p rawStamp
    let m := m.onLine p { bytes := g.frame }
    if !uses then m
    else if g.twoStep then
      let h : HeldSync := { port := p, master := g.master, seqId := g.seqId, stamp := rx, corr := g.correction, interval := g.interval }
      { m with ptp := { m.ptp with held := h :: m.ptp.held.filter (fun x => x.port != p) } }
    else m.useSync p rx (m.offsetOf p rx g.correction g.originTime) g.interval)

/-- FOLLOW_UP (R168, R173): it completes the latest two-step Sync of its port. -/
def execFollowUp (port : LPort) (g : PtpFrame) (s : State) : Answered :=
  s.onMain (fun m =>
    let p := LPort.num port
    let uses := m.takesPtp p g 8 && m.follows g.domain g.master
    let m := m.onLine p { bytes := g.frame }
    match m.ptp.held.find? (fun h => h.port == p) with
    | none => m
    | some h =>
      if uses ∧ h.master = g.master ∧ h.seqId = g.seqId then
        ({ m with ptp := { m.ptp with held := m.ptp.held.filter (fun x => x.port != p) } }).useSync p h.stamp
          (m.offsetOf p h.stamp (h.corr + g.correction) g.originTime) h.interval
      else m)

/-! ### The choice of a master (R168, R173, R174) -/

/-- Lexical order of two keys. -/
def lexLt : List Nat → List Nat → Bool
  | a :: r, b :: q => decide (a < b) || (a == b && lexLt r q)
  | _, _ => false

/-- The best of the masters heard. -/
def bestHeard : List Heard → Option Heard
  | [] => none
  | a :: r => some (r.foldl (fun b x => if lexLt x.msg.key b.msg.key then x else b) a)

/-- The masters whose announce receipt timeout has not expired. -/
def Main.liveAnnounces (m : Main) : List Heard :=
  m.ptp.announces.filter (fun a => decide (m.now < a.at_ + a.msg.timeout))

/-- An Announce qualifies for the default algorithm: two of them came within four announce intervals, and fewer than 255
steps lie between (IEEE 1588-2019; PRESUMED, log 113). -/
def Heard.qualified (a : Heard) : Bool :=
  decide (a.msg.stepsRemoved < 255) &&
    (match a.prev with | some t => decide (a.at_ ≤ t + 4 * a.msg.interval) | none => false)

/-- The best master clock algorithm over the Announces of both line ports. A change of master while ACQUIRE or LOCKED is
handled as a return, and a new master's first Sync in MISMATCH waits for a second (R177); it names the port in use. -/
def Main.selectMaster (m : Main) : Main :=
  let live := m.liveAnnounces
  let m : Main := { m with ptp := { m.ptp with announces := live } }
  let best := (bestHeard (live.filter Heard.qualified)).map (·.msg.master)
  if best = m.ptp.master then m
  else
    let m := m.setObj (ntAddr 0 O.NT_PTP_PORT) 0xFF
    let st := m.syncState
    { m with master8 := (best.getD []).take 8
             ptp := { m.ptp with master := best, first := none, held := [], deciding := st == 1 || st == 2 || st == 4 } }

/-- ANNOUNCE (R168, R173). -/
def execAnnounce (port : LPort) (g : PtpFrame) (s : State) : Answered :=
  s.onMain (fun m =>
    let p := LPort.num port
    let uses := m.takesPtp p g 11
    let m := m.onLine p { bytes := g.frame }
    if !uses || m.sup.boot != .run || m.obj (ntAddr 0 O.NT_SYNC_MODE) != 0 || m.obj (ntAddr 0 O.NT_PTP_DOMAIN) != g.domain then m
    else
      let same := fun (a : Heard) => a.port == p && a.msg.master == g.master
      let h : Heard := { port := p, at_ := m.now, prev := (m.ptp.announces.find? same).map (·.at_), msg := g }
      ({ m with ptp := { m.ptp with announces := h :: m.ptp.announces.filter (fun a => !same a) } }).selectMaster)

/-- Master loss (R174): no Sync of the selected master for NT_SYNC_TIMEOUT, or its announce receipt timeout has expired. -/
def Main.lost (m : Main) : Bool :=
  match m.ptp.master with
  | none => false
  | some x => decide (m.ptp.lastSync + m.obj (ntAddr 0 O.NT_SYNC_TIMEOUT) * unitsPerMs ≤ m.now) ||
      !(m.liveAnnounces.any (fun a => a.msg.master == x))

/-- MASTER_LOSS (R174, R179): ACQUIRE, LOCKED and MISMATCH give way to HOLDOVER at NT_FREQ_EST. In mode 1 nothing changes. -/
def execMasterLoss (s : State) : Answered :=
  s.onMain (fun m =>
    if m.obj (ntAddr 0 O.NT_SYNC_MODE) ≠ 0 ∨ !m.lost then m
    else
      let st := m.syncState
      let m := if st = 1 ∨ st = 2 ∨ st = 4 then
          let m := ((m.setSync 3).inc (ntAddr 0 O.NT_LOSS_COUNT)).setInc (m.obj (ntAddr 0 O.NT_FREQ_EST))
          { m with ptp := { m.ptp with first := none, deciding := false } }
        else m
      m.selectMaster)

/-! ### Peer delay (R172) -/

/-- The peer-delay exchange of a port. -/
def Main.pd (m : Main) (p : Nat) : Pdelay := mget {} m.pdelay p
/-- Change a port's peer-delay exchange. -/
def Main.modPd (m : Main) (p : Nat) (f : Pdelay → Pdelay) : Main := { m with pdelay := mmod {} m.pdelay p f }

/-- The interval of the requests, in time units. -/
def Main.pdelayPeriod (m : Main) : Nat := secondsPow (m.objI (ntAddr 0 O.NT_PDELAY_INTERVAL))

/-- A result: NT_PDELAY is the mean of the last eight. A mean below 0 has no stated reading: a free word (log 17). -/
def Main.pdResult (m : Main) (p : Nat) (delay : Int) : Main :=
  let rs := (delay :: (m.pd p).results).take 8
  let m := m.modPd p (fun x => { x with waiting := false, recv := none, results := rs })
  let mean := rnd (((rs.foldl (· + ·) 0 : Int) : Rat) / (rs.length : Rat))
  if mean < 0 then
    let f := m.freeWord
    f.2.setObj (ntAddr p O.NT_PDELAY) f.1.toNat
  else m.setObj (ntAddr p O.NT_PDELAY) mean.toNat

/-- meanLinkDelay: half of the round trip less the turnaround, in time units. -/
def meanDelay (t1 t4 turn : Int) : Int := rnd (((t4 - t1 - turn : Int) : Rat) / 2)

/-- The node takes part in peer delay on a line port: the line engine runs and the port is up. -/
def Main.peerUp (m : Main) (p : Nat) : Bool := !m.sup.moduleHeld && !m.sup.coreHeld && !m.sup.bypass && m.portUp p

/-- PDELAY_REQ (R168, R172): answered by the port with a one-step Pdelay_Resp whose correctionField is the turnaround time,
added to that of the request (IEEE 1588-2019; PRESUMED, log 113). -/
def execPdelayReq (port : LPort) (g : PtpFrame) (rawStamp txStamp : Instant) (s : State) : Answered :=
  s.onMain (fun m =>
    let p := LPort.num port
    let uses := m.takesPtp p g 2
    let m := m.onLine p { bytes := g.frame }
    if uses then m.send p (peerMessage 3 g.domain (g.correction + 16384 * (m.txStamp p txStamp - m.rxStamp p rawStamp)) p g.seqId g.master)
    else m)

/-- PDELAY_RESP (R172): a good response to the port's latest request; a two-step one waits for its follow-up. -/
def execPdelayResp (port : LPort) (rawStamp : Instant) (g : PdelayMsg) (s : State) : Answered :=
  s.onMain (fun m =>
    let p := LPort.num port
    if !m.peerUp p then m
    else
      let m := m.inc (ntAddr p O.NT_RX_FRAMES)
      let x := m.pd p
      let t4 := m.rxStamp p rawStamp
      if !x.waiting ∨ x.seqId ≠ g.seqId then m
      else if g.twoStep then m.modPd p (fun x => { x with recv := some (t4, g.reqReceipt, g.correction) })
      else m.pdResult p (meanDelay x.sent t4 g.correction))

/-- PDELAY_RESP_FOLLOW_UP (R172). -/
def execPdelayRespFollowUp (port : LPort) (seqId : BitVec 16) (respOrigin correction : Int) (s : State) : Answered :=
  s.onMain (fun m =>
    let p := LPort.num port
    if !m.peerUp p then m
    else
      let m := m.inc (ntAddr p O.NT_RX_FRAMES)
      let x := m.pd p
      match x.recv with
      | none => m
      | some (t4, receipt, corr) =>
        if !x.waiting ∨ x.seqId ≠ seqId then m
        else m.pdResult p (meanDelay x.sent t4 (respOrigin - receipt + corr + correction)))

/-- PDELAY_INTERVAL_EXPIRY (R172): every 2^NT_PDELAY_INTERVAL seconds from port up on (the first at once: DESIGN CHOICE,
log 119) a response still missing is counted, and the next request is sent. -/
def execPdelayIntervalExpiry (port : LPort) (txStamp : Instant) (s : State) : Answered :=
  s.onMain (fun m =>
    let p := LPort.num port
    if !m.peerUp p || (m.tb.running && decide (m.now < (m.pd p).due)) then m
    else
      let m := if (m.pd p).waiting then m.inc (ntAddr p O.NT_PDELAY_FAIL) else m
      let sq := (m.pd p).seqId + 1
      let t := m.txStamp p txStamp
      let next := max (m.pd p).due (m.now - m.pdelayPeriod) + m.pdelayPeriod
      (m.modPd p (fun x => { x with waiting := true, seqId := sq, sent := t, recv := none, due := next })).send p
        (peerMessage 2 0 0 p sq (List.replicate 10 0)))

/-! ### The step (R175, R176) -/

/-- A step moves what the model holds as past instants along with the time, so that a duration being measured goes on
(log 39). -/
def Main.shiftTimers (m : Main) (d : Int) : Main :=
  let sh := fun (t : Nat) => ((t : Int) + d).toNat
  let edge := fun (e : Edge) => { e with t := sh e.t, acc := sh e.acc }
  { m with
    sess := mmapAll {} m.sess (fun x => { x with last := sh x.last, places := x.places.map (fun a => { a with ready := sh a.ready }) })
    windows := mmapAll {} m.windows (fun x => { x with opened := sh x.opened })
    line := { m.line with ports := mmapAll {} m.line.ports (fun x => { x with healEnd := x.healEnd.map sh }) }
    op := mmapAll {} m.op (fun x => { x with started := sh x.started, pausedT := if x.paused then sh x.pausedT else x.pausedT })
    fab := { m.fab with queue := m.fab.queue.map (fun q => { q with at_ := sh q.at_ }),
                        reqs := m.fab.reqs.map (fun q => { q with at_ := sh q.at_ }) }
    ptp := { m.ptp with
      lastSync := sh m.ptp.lastSync
      held := m.ptp.held.map (fun h => { h with stamp := h.stamp + d })
      announces := m.ptp.announces.map (fun a => { a with at_ := sh a.at_, prev := a.prev.map sh }) }
    pdelay := mmapAll {} m.pdelay (fun x => { x with sent := x.sent + d, due := sh x.due })
    field := { m.field with chans := mmapAll {} m.field.chans (fun x => { x with rbT := sh x.rbT, levT := sh x.levT }) }
    aq := mmapAll {} m.aq (fun x => { x with cmdT := sh x.cmdT })
    vm := mmapAll {} m.vm (fun x => { x with placing := x.placing.map (fun p => (sh p.1, p.2)) })
    sup := { m.sup with soft := m.sup.soft.map sh, mittenT := mmapAll 0 m.sup.mittenT sh }
    ps := mmapAll {} m.ps (fun x => { x with startT := sh x.startT })
    sfT := sh m.sfT
    port := mmapAll {} m.port (fun x => { x with
      ring := x.ring.map edge, errT := sh x.errT, illT := sh x.illT, reads := x.reads.map (fun r => (sh r.1, r.2))
      readT0 := x.readT0.map sh, lastMono := x.lastMono.map sh, lastGood := x.lastGood.map sh })
    ev := { m.ev with latches := mmapAll {} m.ev.latches (fun x => { x with armed := x.armed.map sh }) }
    inst := mmapAll {} m.inst (fun x => { x with
      core := { x.core with missT := x.core.missT.map sh, winSince := x.core.winSince.map sh }
      loop := { x.loop with relT := sh x.loop.relT, outT := sh x.loop.outT, rawT := sh x.loop.rawT } }) }

/-- TIME_STEP (R175, R176): at the slot boundary the time base is set, and NT_STEP_COUNT counts; the boundary itself is
still to come, at the new time. A step that R175 no longer allows is not made. With it come MASTER_STEP, AQ_STEP and
LATCH_STEP_DISCARD. -/
def Main.timeStep (m : Main) : Main :=
  match m.tb.step with
  | none => m
  | some (toTime, v) =>
    let m := { m with tb := { m.tb with step := none } }
    if !m.tb.running || !m.stepAllowed then m
    else
      let m := m.edges (m.tb.edgesTo m.tb.slotDue)
      let old := m.now
      let new := ((if toTime then v else (old : Int) + v) % 2 ^ 72).toNat
      let m := { m with tb := { m.tb.setExt new with slotDue := new } }
      let m := (m.inc (ntAddr 0 O.NT_STEP_COUNT)).shiftTimers ((new : Int) - (old : Int))
      let m := forEach (List.range 16) (fun v m => m.masterStep v) m
      let m := forEach aqUnits (fun u m => m.aqStep u old new) m
      forEach (List.range 32) (fun u m => m.latchStep u) m

/-- TIME_STEP (R176). -/
def execTimeStep (s : State) : Answered := s.onMain Main.timeStep

end Sys2Proof.Machine
end

