-- ==== Sys2Proof/Machine/Dispatch.lean ====
section
/-! DEFINITION. The dispatcher: one direct call of a meaning for each command. -/

namespace Sys2Proof.Machine

def exec (i : Instr) (s : State) : Host.Outcome State Fault Refusal :=
  match i with
  | .slotBoundary x => Sys2Proof.Machine.execSlotBoundary x s
  | .tokenComplete cell bitsU bitsV => Sys2Proof.Machine.execTokenComplete cell bitsU bitsV s
  | .ledgerDecision => Sys2Proof.Machine.execLedgerDecision s
  | .currentChainMiss ax => Sys2Proof.Machine.execCurrentChainMiss ax s
  | .outerChainMiss inst => Sys2Proof.Machine.execOuterChainMiss inst s
  | .refinementChainMiss entries => Sys2Proof.Machine.execRefinementChainMiss entries s
  | .dvBrimWrite sess value => Sys2Proof.Machine.execDvBrimWrite sess value s
  | .tripInputQualified t => Sys2Proof.Machine.execTripInputQualified t s
  | .tripInputUnqualified t => Sys2Proof.Machine.execTripInputUnqualified t s
  | .tripDecimatorOutput ax bitsU bitsV => Sys2Proof.Machine.execTripDecimatorOutput ax bitsU bitsV s
  | .claim sess code => Sys2Proof.Machine.execClaim sess code s
  | .claimWindowClose domain => Sys2Proof.Machine.execClaimWindowClose domain s
  | .release sess code => Sys2Proof.Machine.execRelease sess code s
  | .breakDomain sess code => Sys2Proof.Machine.execBreakDomain sess code s
  | .sessionLapse sess => Sys2Proof.Machine.execSessionLapse sess s
  | .stopWrite sess inst value => Sys2Proof.Machine.execStopWrite sess inst value s
  | .enable sess inst => Sys2Proof.Machine.execEnable sess inst s
  | .disable sess inst => Sys2Proof.Machine.execDisable sess inst s
  | .modeChange sess inst mode => Sys2Proof.Machine.execModeChange sess inst mode s
  | .startMove sess inst queue relative => Sys2Proof.Machine.execStartMove sess inst queue relative s
  | .faultReset sess inst => Sys2Proof.Machine.execFaultReset sess inst s
  | .opAbort sess inst => Sys2Proof.Machine.execOpAbort sess inst s
  | .homingStart sess inst => Sys2Proof.Machine.execHomingStart sess inst s
  | .motorIdentification sess inst => Sys2Proof.Machine.execMotorIdentification sess inst s
  | .currentLoopAutoTune sess inst => Sys2Proof.Machine.execCurrentLoopAutoTune sess inst s
  | .longOperationEnd op how => Sys2Proof.Machine.execLongOperationEnd op how s
  | .nop sess => Sys2Proof.Machine.execNop sess s
  | .read q => Sys2Proof.Machine.execRead q s
  | .write q => Sys2Proof.Machine.execWrite q s
  | .fetch q => Sys2Proof.Machine.execFetch q s
  | .openSession q => Sys2Proof.Machine.execOpenSession q s
  | .closeSession q => Sys2Proof.Machine.execCloseSession q s
  | .readAt q => Sys2Proof.Machine.execReadAt q s
  | .writeAt q => Sys2Proof.Machine.execWriteAt q s
  | .bwrite q => Sys2Proof.Machine.execBwrite q s
  | .address sess base force hops => Sys2Proof.Machine.execAddress sess base force hops s
  | .segment q => Sys2Proof.Machine.execSegment q s
  | .ntrig sess entries => Sys2Proof.Machine.execNtrig sess entries s
  | .carrier sess entries => Sys2Proof.Machine.execCarrier sess entries s
  | .damekFrame port f => Sys2Proof.Machine.execDamekFrame port f s
  | .serviceFrame bytes => Sys2Proof.Machine.execServiceFrame bytes s
  | .foreignFrame port f => Sys2Proof.Machine.execForeignFrame port f s
  | .answerReady sess ticket => Sys2Proof.Machine.execAnswerReady sess ticket s
  | .answerPlaceFreed sess ticket => Sys2Proof.Machine.execAnswerPlaceFreed sess ticket s
  | .portDown port => Sys2Proof.Machine.execPortDown port s
  | .phyLinkUp port speed => Sys2Proof.Machine.execPhyLinkUp port speed s
  | .portUp port => Sys2Proof.Machine.execPortUp port s
  | .sync port rawStamp g => Sys2Proof.Machine.execSync port rawStamp g s
  | .followUp port g => Sys2Proof.Machine.execFollowUp port g s
  | .announce port g => Sys2Proof.Machine.execAnnounce port g s
  | .pdelayReq port g rawStamp txStamp => Sys2Proof.Machine.execPdelayReq port g rawStamp txStamp s
  | .pdelayResp port rawStamp m => Sys2Proof.Machine.execPdelayResp port rawStamp m s
  | .pdelayIntervalExpiry port txStamp => Sys2Proof.Machine.execPdelayIntervalExpiry port txStamp s
  | .masterLoss => Sys2Proof.Machine.execMasterLoss s
  | .timeStep => Sys2Proof.Machine.execTimeStep s
  | .ntTimeSet sess ext => Sys2Proof.Machine.execNtTimeSet sess ext s
  | .ntSyncModeWrite sess value => Sys2Proof.Machine.execNtSyncModeWrite sess value s
  | .gateSettleEnd ax => Sys2Proof.Machine.execGateSettleEnd ax s
  | .alignStepEnd ax => Sys2Proof.Machine.execAlignStepEnd ax s
  | .brakeReleaseEnd inst => Sys2Proof.Machine.execBrakeReleaseEnd inst s
  | .standstillReached inst => Sys2Proof.Machine.execStandstillReached inst s
  | .brakeEngageEnd inst => Sys2Proof.Machine.execBrakeEngageEnd inst s
  | .stopTimeout inst => Sys2Proof.Machine.execStopTimeout inst s
  | .followErr inst => Sys2Proof.Machine.execFollowErr inst s
  | .velErr inst => Sys2Proof.Machine.execVelErr inst s
  | .safeLevelSignal zone => Sys2Proof.Machine.execSafeLevelSignal zone s
  | .safeLevelSignalWithdrawn zone => Sys2Proof.Machine.execSafeLevelSignalWithdrawn zone s
  | .ss1Announcement zone => Sys2Proof.Machine.execSs1Announcement zone s
  | .loopPeriodWrite sess ax obj value => Sys2Proof.Machine.execLoopPeriodWrite sess ax obj value s
  | .updatePoint ax => Sys2Proof.Machine.execUpdatePoint ax s
  | .pwOpmodeWrite sess ax value => Sys2Proof.Machine.execPwOpmodeWrite sess ax value s
  | .pwShCommit sess ax value => Sys2Proof.Machine.execPwShCommit sess ax value s
  | .fbLevelChange port levels runs => Sys2Proof.Machine.execFbLevelChange port levels runs s
  | .hallIllegalTimeout port => Sys2Proof.Machine.execHallIllegalTimeout port s
  | .errLevelDecay port => Sys2Proof.Machine.execErrLevelDecay port s
  | .fbModeWrite sess port value => Sys2Proof.Machine.execFbModeWrite sess port value s
  | .fbZArm sess port value => Sys2Proof.Machine.execFbZArm sess port value s
  | .serialReadStart port fba => Sys2Proof.Machine.execSerialReadStart port fba s
  | .serialReadEnd port bits mono => Sys2Proof.Machine.execSerialReadEnd port bits mono s
  | .dvEeEnWrite sess value => Sys2Proof.Machine.execDvEeEnWrite sess value s
  | .profileWrite sess inst obj value => Sys2Proof.Machine.execProfileWrite sess inst obj value s
  | .limitLatch inst side => Sys2Proof.Machine.execLimitLatch inst side s
  | .limitRelease inst side => Sys2Proof.Machine.execLimitRelease inst side s
  | .homeCandidateAccepted inst => Sys2Proof.Machine.execHomeCandidateAccepted inst s
  | .hardStopHomeEvent inst => Sys2Proof.Machine.execHardStopHomeEvent inst s
  | .homeNoSensorTimeout inst => Sys2Proof.Machine.execHomeNoSensorTimeout inst s
  | .homingTimeout inst => Sys2Proof.Machine.execHomingTimeout inst s
  | .hpAdd sess hp code => Sys2Proof.Machine.execHpAdd sess hp code s
  | .hpRemove sess hp code => Sys2Proof.Machine.execHpRemove sess hp code s
  | .linkEngage sess inst => Sys2Proof.Machine.execLinkEngage sess inst s
  | .linkDisengage sess inst => Sys2Proof.Machine.execLinkDisengage sess inst s
  | .linkDisengageAt sess inst => Sys2Proof.Machine.execLinkDisengageAt sess inst s
  | .camCommit sess table => Sys2Proof.Machine.execCamCommit sess table s
  | .segmentPlace vm => Sys2Proof.Machine.execSegmentPlace vm s
  | .segmentTakeover vm => Sys2Proof.Machine.execSegmentTakeover vm s
  | .masterOverrun vm => Sys2Proof.Machine.execMasterOverrun vm s
  | .masterRunout vm => Sys2Proof.Machine.execMasterRunout vm s
  | .masterEmpty vm => Sys2Proof.Machine.execMasterEmpty vm s
  | .eventEdge src level rawStamp => Sys2Proof.Machine.execEventEdge src level rawStamp s
  | .latchCapture unit => Sys2Proof.Machine.execLatchCapture unit s
  | .evLtArm sess unit value => Sys2Proof.Machine.execEvLtArm sess unit value s
  | .actionWrite sess offset words => Sys2Proof.Machine.execActionWrite sess offset words s
  | .evCancel sess value => Sys2Proof.Machine.execEvCancel sess value s
  | .templateWrite sess offset words => Sys2Proof.Machine.execTemplateWrite sess offset words s
  | .actionFire entry => Sys2Proof.Machine.execActionFire entry s
  | .pulseOff ch => Sys2Proof.Machine.execPulseOff ch s
  | .actionExpire entry => Sys2Proof.Machine.execActionExpire entry s
  | .overdueExecute entry => Sys2Proof.Machine.execOverdueExecute entry s
  | .aqArm sess unit => Sys2Proof.Machine.execAqArm sess unit s
  | .aqTrigger sess unit => Sys2Proof.Machine.execAqTrigger sess unit s
  | .aqStop sess unit => Sys2Proof.Machine.execAqStop sess unit s
  | .aqArmInstant unit => Sys2Proof.Machine.execAqArmInstant unit s
  | .aqPostTimeout unit => Sys2Proof.Machine.execAqPostTimeout unit s
  | .aqRead sess unit value => Sys2Proof.Machine.execAqRead sess unit value s
  | .barrierLinkLoss => Sys2Proof.Machine.execBarrierLinkLoss s
  | .barrierLinkReturn => Sys2Proof.Machine.execBarrierLinkReturn s
  | .barrierConfigAck levels => Sys2Proof.Machine.execBarrierConfigAck levels s
  | .fieldInputChange ch level arrival => Sys2Proof.Machine.execFieldInputChange ch level arrival s
  | .wireBreak ch => Sys2Proof.Machine.execWireBreak ch s
  | .wireBreakEnd ch => Sys2Proof.Machine.execWireBreakEnd ch s
  | .ioOutWrite sess ch value => Sys2Proof.Machine.execIoOutWrite sess ch value s
  | .ioDirWrite sess ch value => Sys2Proof.Machine.execIoDirWrite sess ch value s
  | .ioInputConfigWrite sess ch filt value => Sys2Proof.Machine.execIoInputConfigWrite sess ch filt value s
  | .readbackError ch => Sys2Proof.Machine.execReadbackError ch s
  | .outputShort ch => Sys2Proof.Machine.execOutputShort ch s
  | .outputOvertemp ch => Sys2Proof.Machine.execOutputOvertemp ch s
  | .openLoad ch => Sys2Proof.Machine.execOpenLoad ch s
  | .demagEnd ch => Sys2Proof.Machine.execDemagEnd ch s
  | .fieldUndervoltage mv => Sys2Proof.Machine.execFieldUndervoltage mv s
  | .fieldUndervoltageEnd mv => Sys2Proof.Machine.execFieldUndervoltageEnd mv s
  | .fieldIoReach => Sys2Proof.Machine.execFieldIoReach s
  | .fieldIoReachRelease => Sys2Proof.Machine.execFieldIoReachRelease s
  | .safetyFieldReach => Sys2Proof.Machine.execSafetyFieldReach s
  | .safetyFieldReachRelease switches => Sys2Proof.Machine.execSafetyFieldReachRelease switches s
  | .safetySelfTestEnd => Sys2Proof.Machine.execSafetySelfTestEnd s
  | .sealRead switches => Sys2Proof.Machine.execSealRead switches s
  | .safetyChannelChange inp chB level us => Sys2Proof.Machine.execSafetyChannelChange inp chB level us s
  | .discrepancyFault inp => Sys2Proof.Machine.execDiscrepancyFault inp s
  | .ss1DelayEnd zone => Sys2Proof.Machine.execSs1DelayEnd zone s
  | .autoRestart zone => Sys2Proof.Machine.execAutoRestart zone s
  | .safeLevelReleaseDelay zone => Sys2Proof.Machine.execSafeLevelReleaseDelay zone s
  | .chainTestPulse chB fellInTime => Sys2Proof.Machine.execChainTestPulse chB fellInTime s
  | .gauntletTestPulse gt highSide passed => Sys2Proof.Machine.execGauntletTestPulse gt highSide passed s
  | .gauntletReadbackCheck gt inBounds => Sys2Proof.Machine.execGauntletReadbackCheck gt inBounds s
  | .gauntletCurrentLimit gt => Sys2Proof.Machine.execGauntletCurrentLimit gt s
  | .safetyStatusFrame => Sys2Proof.Machine.execSafetyStatusFrame s
  | .safetyStatusTimeout => Sys2Proof.Machine.execSafetyStatusTimeout s
  | .por => Sys2Proof.Machine.execPor s
  | .brownOutCore => Sys2Proof.Machine.execBrownOutCore s
  | .brownOutIo => Sys2Proof.Machine.execBrownOutIo s
  | .resetPin => Sys2Proof.Machine.execResetPin s
  | .refLoss => Sys2Proof.Machine.execRefLoss s
  | .lockup => Sys2Proof.Machine.execLockup s
  | .watchdog => Sys2Proof.Machine.execWatchdog s
  | .rsFullReset sess value => Sys2Proof.Machine.execRsFullReset sess value s
  | .softFull => Sys2Proof.Machine.execSoftFull s
  | .debug => Sys2Proof.Machine.execDebug s
  | .moduleReachRelease straps => Sys2Proof.Machine.execModuleReachRelease straps s
  | .coreReachRelease => Sys2Proof.Machine.execCoreReachRelease s
  | .trimsLoaded goodRead => Sys2Proof.Machine.execTrimsLoaded goodRead s
  | .firmwareVerified => Sys2Proof.Machine.execFirmwareVerified s
  | .configVerified => Sys2Proof.Machine.execConfigVerified s
  | .timeBaseStart xrefValid => Sys2Proof.Machine.execTimeBaseStart xrefValid s
  | .configApplied bootUs => Sys2Proof.Machine.execConfigApplied bootUs s
  | .unitReset sess code => Sys2Proof.Machine.execUnitReset sess code s
  | .mittenClose code => Sys2Proof.Machine.execMittenClose code s
  | .mittenHoldEnd code => Sys2Proof.Machine.execMittenHoldEnd code s
  | .mittenOpen code => Sys2Proof.Machine.execMittenOpen code s
  | .cfCommit sess value => Sys2Proof.Machine.execCfCommit sess value s
  | .cfFwUpdate sess value => Sys2Proof.Machine.execCfFwUpdate sess value s
  | .cfSecverRaise sess value => Sys2Proof.Machine.execCfSecverRaise sess value s
  | .dvSelftest sess value => Sys2Proof.Machine.execDvSelftest sess value s
  | .nullFrame mode3 => Sys2Proof.Machine.execNullFrame mode3 s
  | .readInc q => Sys2Proof.Machine.execReadInc q s
  | .psXfer sess n bytes => Sys2Proof.Machine.execPsXfer sess n bytes s
  | .psTransferEnd n rx => Sys2Proof.Machine.execPsTransferEnd n rx s
  | .pdelayRespFollowUp port seqId respOrigin correction => Sys2Proof.Machine.execPdelayRespFollowUp port seqId respOrigin correction s
  | .openLoadEnd ch => Sys2Proof.Machine.execOpenLoadEnd ch s
  | .resetSourceRelease src => Sys2Proof.Machine.execResetSourceRelease src s
  | .safetyInternalFault => Sys2Proof.Machine.execSafetyInternalFault s
  | .chainOutReadbackFault => Sys2Proof.Machine.execChainOutReadbackFault s
  | .hostFrameRefused mode3 bytes => Sys2Proof.Machine.execHostFrameRefused mode3 bytes s

end Sys2Proof.Machine
end

