-- ==== Sys2Proof/Safety.lean ====
section
/-! DEFINITION. What counts as a safe run of the module, in the terms the statements use: what a command completes with,
what it leaves as it was, when a write is accepted, and the promises the spec makes over every state. -/

namespace Sys2Proof.Machine

/-! ### Completion and frames -/

/-- The command answers a next state, and of that state `P` holds. -/
def Completes (c : Instr) (s : State) (P : State → Prop) : Prop := ∃ t, exec c s = .next t ∧ P t

/-- The main die as a command finds it: what the command before it sent out is gone (log 2). -/
def State.start (s : State) : Main := { s.main with out := {} }

/-- Every object but those listed holds the value it held. -/
def ObjsBut (m n : Main) (l : List Nat) : Prop := ∀ a, a ∉ l → n.obj a = m.obj a
/-- Every instance but those listed is as it was. -/
def InstBut (m n : Main) (l : List Nat) : Prop := ∀ i, i ∉ l → n.i i = m.i i

/-- R31, R107, R152: the line engine runs on line port `p`: no reach holds it, bypass is over, and the port is up. -/
def Main.lineReady (m : Main) (p : Nat) : Bool :=
  !m.sup.moduleHeld && !m.sup.coreHeld && !m.sup.bypass && m.portUp p

/-- The local host port as a frame with a request finds it (R513, R520): the refusal of the frame before is gone, the mode is
noted, the frame counted, and S9 has been heard. -/
def State.portStart (s : State) (mode3 : Bool) : Main :=
  (({ s.start with host := { s.main.host with refusal := none } }.setObj O.DV_LP_MODE (if mode3 then 3 else 0)).inc
    O.DV_LP_FRAMES).touch 9

/-- No homing is in progress on any instance. -/
def Main.noHoming (m : Main) : Prop := ∀ i, (m.i i).home = none

/-! ### Reset -/

/-- The command of a module or core source (R485). -/
def resetCommand : ResetSource → Instr
  | .por => .por | .brownOutCore => .brownOutCore | .brownOutIo => .brownOutIo | .resetPin => .resetPin
  | .refLoss => .refLoss | .lockup => .lockup | .watchdog => .watchdog | .softFull => .softFull | .debug => .debug

/-- R485: the source can assert: a software full reset 1 ms after its write, a debug request where OTP enables the port. -/
def Main.resetReady (m : Main) : ResetSource → Bool
  | .softFull => (match m.sup.soft with | some t => decide (t + unitsPerMs ≤ m.now) | none => false)
  | .debug => m.sup.otpDebug
  | _ => true

/-! ### Writes -/

/-- Checks 1 to 10 of R92 pass for a write. -/
def Main.accepts (m : Main) (sess a : Nat) (at_ : Bool) (data : List Byte) : Bool :=
  match m.frontWrite sess a at_ data, info? a with
  | none, some o => match parseWrite a o at_ data with
    | some d => (isStop a || m.beRoom) && !m.barred a && (m.writeRefusal a d).isNone
    | none => false
  | _, _ => false

/-- A write of one word passes checks 1 to 10. -/
def Main.acceptsWord (m : Main) (sess a v : Nat) : Bool := m.accepts sess a false (bytesOfWords [wordN v])

/-- A write that a row command stands for: session, object address, whether it carries an offset, and its bytes. -/
structure RowWrite where
  sess : Nat
  addr : Nat
  at_  : Bool := false
  data : List Byte
  deriving DecidableEq, Repr

/-- A write of one word. -/
def RowWrite.word (sess addr v : Nat) : RowWrite := { sess := sess, addr := addr, data := bytesOfWords [wordN v] }
/-- A write of words at an offset. -/
def RowWrite.words (sess addr off : Nat) (ws : List Word) : RowWrite :=
  { sess := sess, addr := addr, at_ := true, data := bytesOfWords (wordN off :: ws) }

/-- CONTROL as a row command writes it: the level fields as they stand, changed as the row says, and its command bits
(R96). -/
def Main.controlWord (m : Main) (i : Nat) (c : Instr) : Option Nat :=
  let l := levelsOf (m.io i O.CONTROL)
  match c with
  | .enable .. => some ({ l with en := true : Levels }.word 0)
  | .disable .. => some ({ l with en := false : Levels }.word 0)
  | .modeChange _ _ md => some ({ l with mode := md.val : Levels }.word 0)
  | .startMove _ _ q r => some ({ l with rel := r : Levels }.word (16 + 64 * b2n q))
  | .faultReset .. => some (l.word 8)
  | .opAbort .. => some (l.word (2 ^ 21))
  | .homingStart .. => some ({ l with kind := 1 : Levels }.word (2 ^ 20))
  | .motorIdentification .. => some ({ l with kind := 2 : Levels }.word (2 ^ 20))
  | .currentLoopAutoTune .. => some ({ l with kind := 3 : Levels }.word (2 ^ 20))
  | _ => none

/-- The write that a command of a CONTROL row is. -/
def Main.controlRow (m : Main) (c : Instr) (sess i : Nat) : Option RowWrite :=
  (m.controlWord i c).map (fun v => RowWrite.word sess (instAddr i O.CONTROL) v)

/-- The write that a row command is, where it is one: the object each of these rows of the table names. -/
def Main.rowWrite (m : Main) (c : Instr) : Option RowWrite :=
  match c with
  | .dvBrimWrite n v => some (.word n O.DV_BRIM v)
  | .claim n v => some (.word n (hsAddr n O.HS_CLAIM) v)
  | .release n v => some (.word n (hsAddr n O.HS_RELEASE) v)
  | .breakDomain n v => some (.word n (hsAddr 0 O.HS_BREAK) v)
  | .stopWrite n i v => some (.word n (instAddr i O.STOP) v)
  | .enable n i => m.controlRow c n i
  | .disable n i => m.controlRow c n i
  | .modeChange n i _ => m.controlRow c n i
  | .startMove n i _ _ => m.controlRow c n i
  | .faultReset n i => m.controlRow c n i
  | .opAbort n i => m.controlRow c n i
  | .homingStart n i => m.controlRow c n i
  | .motorIdentification n i => m.controlRow c n i
  | .currentLoopAutoTune n i => m.controlRow c n i
  | .loopPeriodWrite n a obj v => some (.word n (instAddr a (O.AX_CL_K + obj.val)) v)
  | .pwOpmodeWrite n a v => some (.word n (pwAddr a O.PW_OPMODE) v)
  | .pwShCommit n a v => some (.word n (pwAddr a O.PW_SH_COMMIT) v)
  | .fbModeWrite n p v => some (.word n (fbAddr p O.FB_MODE) v)
  | .fbZArm n p v => some (.word n (fbAddr p O.FB_Z_ARM) v)
  | .dvEeEnWrite n v => some (.word n O.DV_EE_EN v)
  | .profileWrite n i obj v => some (.word n (instAddr i (profileObjs.getD obj.val O.TARGET_POS)) v.toNat)
  | .hpAdd n h v => some (.word n (instAddr (64 + h.val) O.HP_ADD) v)
  | .hpRemove n h v => some (.word n (instAddr (64 + h.val) O.HP_REMOVE) v)
  | .linkEngage n i => some (.word n (instAddr i O.LINK_CMD) 1)
  | .linkDisengage n i => some (.word n (instAddr i O.LINK_CMD) 2)
  | .linkDisengageAt n i => some (.word n (instAddr i O.LINK_CMD) 3)
  | .camCommit n t => some (.word n (cmAddr 0 O.CM_COMMIT) t)
  | .evLtArm n u v => some (.word n (evAddr u O.EV_LT_ARM) v)
  | .actionWrite n off ws => some (.words n (evAddr 0 O.EV_QUEUE) off ws)
  | .evCancel n v => some (.word n (evAddr 0 O.EV_CANCEL) v.toNat)
  | .templateWrite n off ws => some (.words n (evAddr 0 O.EV_TPL) off ws)
  | .aqArm n u => some (.word n (aqAddr u O.AQ_CMD) 1)
  | .aqTrigger n u => some (.word n (aqAddr u O.AQ_CMD) 2)
  | .aqStop n u => some (.word n (aqAddr u O.AQ_CMD) 3)
  | .aqRead n u v => some (.word n (aqAddr u O.AQ_READ) v)
  | .ioOutWrite n ch v => some (.word n (ioAddr ch O.IO_OUT) v)
  | .ioDirWrite n ch v => some (.word n (ioAddr ch O.IO_DIR) v)
  | .ioInputConfigWrite n ch f v => some (.word n (ioAddr ch (if f then O.IO_IN_FILT else O.IO_IN_TYPE)) v)
  | .ntTimeSet n e => some { sess := n, addr := ntAddr 0 O.NT_TIME_SET,
                             data := bytesOfWords [wordN (e.toNat / 2 ^ 36), wordN e.toNat] }
  | .ntSyncModeWrite n v => some (.word n (ntAddr 0 O.NT_SYNC_MODE) v)
  | .rsFullReset n v => some (.word n (rsAddr O.RS_FULL_RESET) v)
  | .unitReset n v => some (.word n (rsAddr O.RS_UNIT_RESET) v)
  | .cfCommit n v => some (.word n (cfAddr 0 O.CF_COMMIT) v)
  | .cfFwUpdate n v => some (.word n (cfAddr 0 O.CF_FW_UPDATE) v)
  | .cfSecverRaise n v => some (.word n (cfAddr 0 O.CF_SECVER_RAISE) v)
  | .dvSelftest n v => some (.word n O.DV_SELFTEST v)
  | .psXfer n k b => some { sess := n, addr := psAddr k O.PSn_XFER, data := b }
  | _ => none

/-- Every check of R92 passes for the write that a row command is. -/
def State.rowAccepted (s : State) (c : Instr) : Bool :=
  match s.start.rowWrite c with
  | some r => s.start.accepts r.sess r.addr r.at_ r.data
  | none => false

/-- The write is done: answered OK, and nothing outside the main die has changed. -/
def Done (s t : State) : Prop := t.main.out.status = some 0 ∧ t = { s with main := t.main }

/-- The write is placed before the ledger (R52): the request takes its place in the ledger's order, PENDING is shown, and
nothing else has changed. -/
def AsksLedger (s t : State) (r : LReq) : Prop :=
  t.main.out.status = some aPending ∧
  t = { s with main := { s.main with
    out := t.main.out, fab := { s.main.fab with reqs := { r with at_ := s.main.now }.place s.main.fab.reqs } } }

/-- Only the objects listed and the reply have changed. -/
def ObjsOnly (s t : State) (l : List Nat) : Prop :=
  t = { s with main := { s.main with out := t.main.out, objs := t.main.objs } } ∧ ObjsBut s.main t.main l

/-- A start write has started its operation (R99): SEQ is one more modulo 16, OP_BUSY is set and the earlier result is
gone; no other operation has changed. -/
def Started (s t : State) (k kind param : Nat) : Prop :=
  t.main.lop k = { seq := ((s.main.lop k).seq + 1) % 16, kind := kind, busy := true, param := param, started := s.main.now,
                   startPos := if k < 128 then s.main.actualPos k else 0 } ∧
  ∀ j, j ≠ k → t.main.lop j = s.main.lop j

/-- The instance has nothing pending that R187 puts before the completion of its sequence. -/
abbrev Main.quiet (m : Main) (a : Nat) : Prop :=
  (m.i a).core.raised = 0 ∧ (m.i a).core.movedAt ≠ some m.now ∧ (m.i a).core.safe = false ∧ (m.i a).core.cmd = 0

/-! ### The safety die -/

/-- R467, R468, R471: what every state of a zone holds: its gauntlets are closed in RUN and SS1 only, and while they are
open the safe-level signal acts and no withdrawal of it is under way. -/
def Zone.Inv (x : Zone) : Prop :=
  (x.closed = true ↔ (x.st = .run ∨ x.st = .ss1)) ∧ (x.closed = false → x.signal = true ∧ x.releasing = false)

/-- R459, R470: the safety die's own promise. Each zone's gauntlets and signal follow its state; in the single-zone wiring
(SW4 = 0) the two zones take the same state; a latched unit fault holds both zones in FAULT. -/
def SafetyDie.Inv (d : SafetyDie) : Prop :=
  d.zone0.Inv ∧ d.zone1.Inv ∧ (d.sw 4 = false → d.zone0 = d.zone1)
    ∧ (d.fault ≠ .none → d.zone0.st = .fault ∧ d.zone1.st = .fault)

/-- The commands that act on the safety die, and on nothing else (chapter 14). -/
def onSafetyDie : Instr → Bool
  | .safetyFieldReach | .safetyFieldReachRelease _ | .safetySelfTestEnd | .sealRead _ | .safetyChannelChange ..
  | .discrepancyFault _ | .ss1DelayEnd _ | .autoRestart _ | .safeLevelReleaseDelay _ | .chainTestPulse ..
  | .gauntletTestPulse .. | .gauntletReadbackCheck .. | .gauntletCurrentLimit _ | .safetyInternalFault
  | .chainOutReadbackFault => true
  | _ => false

end Sys2Proof.Machine
end

