-- ==== Sys2Proof/Certificates/Slice0/Obligations.lean ====
section
/-! DEFINITION. The statements about the model. `Completes c s P` says that the command `c` answers a next state of which
`P` holds; `s.start` is the main die as the command finds it; a frame is said by naming the only fields that may differ.
What a command sends out of the module stands in `main.out`, which is the model's own (log 2). -/

open Sys2Proof Sys2Proof.Machine

/-! ### The machine as a whole -/

/-- The step takes the command at the front of the queue and runs it with the queue's rest. -/
def Obligations.StepRunsTheFrontCommand : Prop :=
  ∀ (c : Instr) (rest : List Instr) (s : State), s.pending = c :: rest → step s = exec c { s with pending := rest }

/-- R159 word for word, for the edge that passes while no command waits: `sum := a + nt_inc`, `a := sum mod 2^66`, and the
epoch advances modulo 2^36 where the sum reaches 2^66. Nothing but the time base and the emulation outputs moves; before
the time base starts (R494) the edge is only counted (log 96). That the edge is what an empty queue stands for is the model's choice (log 1). -/
def Obligations.ReferenceEdgeAdvancesTheTimeBase : Prop :=
  ∀ s : State, s.pending = [] →
    (s.main.tb.running = false →
      step s = .next { s with main := { s.main with sup := { s.main.sup with clk := s.main.sup.clk + 1 } } }) ∧
    (s.main.tb.running = true → ∃ t, step s = .next t ∧
      t = { s with main := { s.main with tb := t.main.tb, ee := t.main.ee } } ∧
      t.main.tb = { s.main.tb with acc := t.main.tb.acc, epoch := t.main.tb.epoch } ∧
      (let sum := s.main.tb.acc.toNat + s.main.tb.inc.toNat
       t.main.tb.acc.toNat = sum % 2 ^ 66 ∧
       t.main.tb.epoch.toNat = if 2 ^ 66 ≤ sum then (s.main.tb.epoch.toNat + 1) % 2 ^ 36 else s.main.tb.epoch.toNat))

/-- R165: the order of two time words is the sign of their difference as an S36. It orders two instants rightly if they lie
less than 2^35 units apart, and not beyond: of two instants 2^35 to 2^36 units apart the later one is taken as before. -/
def Obligations.TimeWordsOrderInstants : Prop :=
  (∀ a b : Word, atOrAfter a b = true ↔ 0 ≤ (a - b).toInt) ∧
  (∀ x y : Nat, (x : Int) - y < 2 ^ 35 → (y : Int) - x < 2 ^ 35 →
    (atOrAfter (wordN x) (wordN y) = true ↔ y ≤ x)) ∧
  (∀ y d : Nat, 2 ^ 35 ≤ d → d < 2 ^ 36 → atOrAfter (wordN (y + d)) (wordN y) = false)

/-- R113: words sent as one bit string come back: unpacking what packing gives is the same words, for every list of words,
and n words take ⌈9n/2⌉ bytes. -/
def Obligations.PackedWordsComeBack : Prop :=
  ∀ l : List Word, wordsOfBytes (bytesOfWords l) = l ∧ (bytesOfWords l).length = (9 * l.length + 1) / 2

/-- No command changes the queue, and the two dies meet only at their signals (chapter 14, R483): a command on the safety
die leaves the main die as it was, every other command, a reset of the module or of the core among them, leaves the safety
die as it was. -/
def Obligations.DiesAreSeparate : Prop :=
  ∀ (c : Instr) (s t : State), exec c s = .next t →
    t.pending = s.pending ∧ (onSafetyDie c = true → t.main = s.main) ∧ (onSafetyDie c = false → t.safety = s.safety)

/-- R454, R78, R159, R494, R17, R105: the state after reset: no command waits, boot at its first step with the time base
not running and NT_INC nominal, every session closed, no domain owned, memory with nothing listed, objects at their
defaults; the safety die held, its gauntlets open and the safe-level signal acting. (That the safety die is held then is the
model's reading, log 6; that memory with nothing written is listed empty, log 86.) -/
def Obligations.ResetValues : Prop :=
  let s := State.reset
  s.pending = [] ∧ s.main.sup.boot = .trims ∧ s.main.tb.running = false ∧ s.main.tb.inc = 0xA00000000 ∧ s.main.now = 0 ∧
  (∀ n : Sess, (s.main.se n).isOpen = false) ∧ (∀ d : Fin 155, s.main.ownerOf d = none) ∧
  s.main.cam = [] ∧ s.main.store.cfgStage = [] ∧ s.main.store.fwStage = [] ∧
  s.main.obj O.DV_BRIM = 125 ∧ s.main.obj (hsAddr 0 O.HS_LEASE) = 100 ∧ s.main.obj (hsAddr 8 O.HS_LEASE) = 0 ∧
  s.main.obj (hsAddr 9 O.HS_LEASE) = 0 ∧ s.main.fab.map = [] ∧
  (∀ i : InstId, (s.main.i i).core.st = sOff) ∧
  s.safety.held = true ∧ s.safety.zone0.closed = false ∧ s.safety.zone0.signal = true ∧ s.safety.zone1 = s.safety.zone0

/-- The promise of the safety die holds after reset. -/
def Obligations.SafetyDieInvAtReset : Prop :=
  State.reset.safety.Inv

/-- The promise of the safety die (R459, R467, R468, R470, R471) is kept by every step from every state that meets it: a
zone's gauntlets are closed in RUN and SS1 only, with them open the safe-level signal acts, one zone's wiring keeps both
zones alike, and a latched unit fault holds both zones in FAULT. -/
def Obligations.EveryStepKeepsTheSafetyDieInv : Prop :=
  ∀ s t : State, s.safety.Inv → step s = .next t → t.safety.Inv

/-! ### Writes, claims and sessions -/

/-- R92, R94: a row command that is a write and fails a check answers with that check's abort, writes the code and the
object address to HS_ABORT_LAST of its session, counts HS_ABORT_COUNT, and changes nothing else. The code is that of checks
1 to 5, or BUSY, or the code of checks 6 to 9. (That a row makes all checks in one step is the model's choice, log 45.) -/
def Obligations.RefusedRowWriteChangesNothing : Prop :=
  ∀ (c : Instr) (s : State) (r : RowWrite) (code : Nat), s.start.rowWrite c = some r →
    (s.start.frontWrite r.sess r.addr r.at_ r.data = some code ∨
     (s.start.frontWrite r.sess r.addr r.at_ r.data = none ∧ isStop r.addr = false ∧ s.start.beRoom = false ∧ code = aBusy) ∨
     (∃ o d, s.start.frontWrite r.sess r.addr r.at_ r.data = none ∧ info? r.addr = some o ∧
        parseWrite r.addr o r.at_ r.data = some d ∧ (isStop r.addr || s.start.beRoom) = true ∧ s.start.barred r.addr = false ∧
        s.start.writeRefusal r.addr d = some code ∧ 0 < code ∧ code < 0x80)) →
    Completes c s (fun t =>
      t = { s with main := { s.main with out := t.main.out, objs := t.main.objs } } ∧
      t.main.out.status = some code ∧
      t.main.obj (hsAddr r.sess O.HS_ABORT_LAST) = code * 2 ^ 24 + r.addr % 2 ^ 24 ∧
      t.main.obj (hsAddr r.sess O.HS_ABORT_COUNT) = (s.main.obj (hsAddr r.sess O.HS_ABORT_COUNT) + 1) % 2 ^ 36 ∧
      ObjsBut s.main t.main [hsAddr r.sess O.HS_ABORT_LAST, hsAddr r.sess O.HS_ABORT_COUNT])

/-- R81: a claim, as a row of its own (log 45), that passes its checks: of a domain the session owns already it succeeds and changes nothing; of another
session's it is refused with OWNED; else it opens a window at the present time, or joins the one that is open, and is
answered later. -/
def Obligations.ClaimFollowsTheDomain : Prop :=
  ∀ (sess : Sess) (code d : Nat) (s : State), domainOfCode code = some d → s.rowAccepted (.claim sess code) = true →
    Completes (.claim sess code) s (fun t =>
      t = { s with main := { s.main with out := t.main.out, objs := t.main.objs, windows := t.main.windows } } ∧
      match s.main.ownerOf d with
      | some n => t.main.windows = s.main.windows ∧ t.main.out.status = some (if n = sess.val then 0 else aOwned)
      | none => t.main.out.status = some aPending ∧ t.main.objs = s.main.objs ∧ t.main.windowOpen d = true ∧
        (let w := mget {} s.main.windows d
         let w' := mget {} t.main.windows d
         if s.main.windowOpen d then
           w'.opened = w.opened ∧ w'.claimants.map (fun c => (c.sess, c.withdrawn)) =
             (if w.claimants.any (fun c => c.sess == sess.val) then w.claimants.map (fun c => (c.sess, c.withdrawn))
              else w.claimants.map (fun c => (c.sess, c.withdrawn)) ++ [(sess.val, false)])
         else w'.opened = s.main.now ∧ w'.claimants.map (fun c => (c.sess, c.withdrawn)) = [(sess.val, false)]))

/-- R84: HS_RELEASE and HS_BREAK of a domain on which no window is open: a release by its owner ends the ownership, a
release by any other session changes nothing, a break ends it whoever owns it; both succeed. No other domain's owner
changes.

R84 while a window is open: a release withdraws the session's claim and no other, a break withdraws none. -/
def Obligations.ReleasesAndBreaks : Prop :=
  (∀ (sess : Sess) (code d : Nat) (s : State), domainOfCode code = some d → s.main.windowOpen d = false →
     (s.rowAccepted (.release sess code) = true → Completes (.release sess code) s (fun t =>
       t = { s with main := { s.main with out := t.main.out, owner := t.main.owner } } ∧ t.main.out.status = some 0 ∧
       t.main.ownerOf d = (if s.main.ownerOf d = some sess.val then none else s.main.ownerOf d) ∧
       ∀ e, e ≠ d → t.main.ownerOf e = s.main.ownerOf e)) ∧
     (s.rowAccepted (.breakDomain sess code) = true → Completes (.breakDomain sess code) s (fun t =>
       t = { s with main := { s.main with out := t.main.out, owner := t.main.owner } } ∧ t.main.out.status = some 0 ∧
       t.main.ownerOf d = none ∧ ∀ e, e ≠ d → t.main.ownerOf e = s.main.ownerOf e))) ∧
  (∀ (sess : Sess) (code d : Nat) (s : State), domainOfCode code = some d → s.main.windowOpen d = true →
     (s.rowAccepted (.release sess code) = true → Completes (.release sess code) s (fun t =>
       t = { s with main := { s.main with out := t.main.out, windows := t.main.windows } } ∧ t.main.out.status = some 0 ∧
       (mget {} t.main.windows d).opened = (mget {} s.main.windows d).opened ∧
       (mget {} t.main.windows d).claimants = (mget {} s.main.windows d).claimants.map
         (fun c => if c.sess = sess.val then { c with withdrawn := true } else c))) ∧
     (s.rowAccepted (.breakDomain sess code) = true → Completes (.breakDomain sess code) s (fun t =>
       t = { s with main := { s.main with out := t.main.out } } ∧ t.main.out.status = some 0)))

/-- R82: at the end of its time a window closes: of the claimants that have not withdrawn the lowest session becomes the
owner; with every claimant withdrawn the domain stays as it was. No other domain's owner and no other window changes. -/
def Obligations.LowestSessionWinsTheWindow : Prop :=
  ∀ (d : Fin 155) (s : State), s.main.windowOpen d = true →
    (mget {} s.main.windows d).opened + s.main.obj (hsAddr 0 O.HS_CLAIM_WINDOW) * unitsPerUs ≤ s.main.now →
    Completes (.claimWindowClose d) s (fun t =>
      t = { s with main := { s.main with out := t.main.out, owner := t.main.owner, windows := t.main.windows,
                                         sess := t.main.sess, host := t.main.host, objs := t.main.objs } } ∧
      t.main.windowOpen d = false ∧ (∀ e, e ≠ d.val → t.main.ownerOf e = s.main.ownerOf e ∧
        t.main.windowOpen e = s.main.windowOpen e) ∧
      (let live := (mget {} s.main.windows d).claimants.filter (fun c => !c.withdrawn)
       (live = [] → t.main.ownerOf d = s.main.ownerOf d) ∧
       (live ≠ [] → ∃ c ∈ live, t.main.ownerOf d = some c.sess ∧ ∀ e ∈ live, c.sess ≤ e.sess)))

/-- R85: a session whose lease has run out lapses: it is closed, owns no domain, has withdrawn from every window and has no
answer places, and its HS_LAPSE_COUNT is one more. Lapse changes nothing else: every object keeps its value but that count,
and motion, cams, long operations, armed actions and STOP stand as they were. -/
def Obligations.LapseClosesAndReleases : Prop :=
  (∀ (n : Sess) (s : State), s.main.leaseOver n = true → Completes (.sessionLapse n) s (fun t =>
      t = { s with main := { s.main with out := {}, owner := t.main.owner, windows := t.main.windows, sess := t.main.sess,
                                         objs := t.main.objs } } ∧
      (t.main.se n).isOpen = false ∧ (t.main.se n).places = [] ∧
      (∀ d : Fin 155, t.main.ownerOf d = if s.main.ownerOf d = some n.val then none else s.main.ownerOf d) ∧
      (∀ d, ∀ c ∈ (mget {} t.main.windows d).claimants, c.sess = n.val → c.withdrawn = true) ∧
      (∀ k : Sess, k ≠ n → t.main.se k = s.main.se k) ∧
      t.main.obj (hsAddr n O.HS_LAPSE_COUNT) = (s.main.obj (hsAddr n O.HS_LAPSE_COUNT) + 1) % 2 ^ 36 ∧
      ObjsBut s.main t.main [hsAddr n O.HS_LAPSE_COUNT])) ∧
  (∀ (n : Sess) (s : State), s.main.leaseOver n = true ↔
      (s.main.obj (hsAddr n O.HS_LEASE) ≠ 0 ∧ (s.main.se n).isOpen = true ∧
       (s.main.se n).last + s.main.obj (hsAddr n O.HS_LEASE) * unitsPerMs ≤ s.main.now)) ∧
  State.reset.main.obj (hsAddr 8 O.HS_LEASE) = 0 ∧ State.reset.main.obj (hsAddr 9 O.HS_LEASE) = 0

/-! ### Rows of CONTROL, STOP and the loops -/

/-- R47, R48: DV_BRIM written no higher than the admitted changes leave it is admitted: a raise that awaits its commit gives
way to it, and a value no higher than the brim in force is taken at once; raised, the write is placed before the ledger and the
brim stays as it is.

R189: ENABLE written 1 in READY is placed before the ledger as the CONTROL write it is.

R225: identification and auto-tune accepted in READY are load-adding starts: they are placed before the ledger, and the
axis stands as it did.

R221: a loop period, ratio or lead that changes no chain in the ledger is stored at once; one that does is placed
before the ledger, and the loop goes on as it was.

R293, R296: DV_EE_EN written without new load takes its value, and the lines of every output whose bit is clear are
low; with a chain to add it is placed before the ledger. -/
def Obligations.LoadAddingRowsAskTheLedger : Prop :=
  (∀ (sess : Sess) (v : Nat) (s : State), v < 2 ^ 36 → s.rowAccepted (.dvBrimWrite sess v) = true →
     Completes (.dvBrimWrite sess v) s (fun t =>
       (v ≤ s.main.brimNow → Done s t ∧ t.main.brimNow = v ∧ ObjsBut s.main t.main [O.DV_BRIM] ∧
         (v ≤ s.main.obj O.DV_BRIM → t.main.obj O.DV_BRIM = v) ∧
         (s.main.fab.commits = [] → ObjsOnly s t [O.DV_BRIM])) ∧
       (s.main.brimNow < v → AsksLedger s t { sess := sess, addr := O.DV_BRIM, change := .objWrite O.DV_BRIM v }))) ∧
  (∀ (sess : Sess) (i : InstId) (s : State), (s.main.i i).core.st = sReady → s.rowAccepted (.enable sess i) = true →
     Completes (.enable sess i) s (fun t => ∃ v, AsksLedger s t
       { sess := sess, addr := instAddr i O.CONTROL, change := .control i v } ∧ levelsOf v =
         { levelsOf (s.main.io i O.CONTROL) with en := true })) ∧
  (∀ (sess : Sess) (a : Ax) (s : State),
     (s.rowAccepted (.motorIdentification sess ⟨a.val, by omega⟩) = true →
       Completes (.motorIdentification sess ⟨a.val, by omega⟩) s (fun t => ∃ v, AsksLedger s t
         { sess := sess, addr := instAddr a O.CONTROL, change := .opStart a.val 2 v })) ∧
     (s.rowAccepted (.currentLoopAutoTune sess ⟨a.val, by omega⟩) = true →
       Completes (.currentLoopAutoTune sess ⟨a.val, by omega⟩) s (fun t => ∃ v, AsksLedger s t
         { sess := sess, addr := instAddr a O.CONTROL, change := .opStart a.val 3 v }))) ∧
  (∀ (sess : Sess) (a : Ax) (obj : Fin 4) (v : Nat) (s : State), v < 2 ^ 36 → s.rowAccepted (.loopPeriodWrite sess a obj v) = true →
     Completes (.loopPeriodWrite sess a obj v) s (fun t =>
       let ad := instAddr a (O.AX_CL_K + obj.val)
       (s.start.changesLoad ad v = false → Done s t ∧ ObjsOnly s t [ad] ∧ t.main.obj ad = v) ∧
       (s.start.changesLoad ad v = true → AsksLedger s t { sess := sess, addr := ad, change := .objWrite ad v }))) ∧
  (∀ (sess : Sess) (v : Nat) (s : State), v < 2 ^ 36 → s.rowAccepted (.dvEeEnWrite sess v) = true →
     Completes (.dvEeEnWrite sess v) s (fun t =>
       (s.start.changesLoad O.DV_EE_EN v = true →
         AsksLedger s t { sess := sess, addr := O.DV_EE_EN, change := .objWrite O.DV_EE_EN v }) ∧
       (s.start.changesLoad O.DV_EE_EN v = false → Done s t ∧ t.main.obj O.DV_EE_EN = v ∧
         ∀ o : Fin 8, t.main.eeo o = if v.testBit o then s.main.eeo o else {})))

/-- R91: a write of AX_STOP or HP_STOP stores its value and is answered at once, without the best-effort check; the stop
in force and everything of the instance follow at the next slot boundary only.

R310: a profile object written while no move is active is stored, and the set-points stand as they were. -/
def Obligations.PlainWritesAreStored : Prop :=
  (∀ (sess : Sess) (i : InstId) (v : Nat) (s : State), v < 2 ^ 36 → s.rowAccepted (.stopWrite sess i v) = true →
     Completes (.stopWrite sess i v) s (fun t =>
       Done s t ∧ ObjsOnly s t [instAddr i O.STOP] ∧ t.main.io i O.STOP = v)) ∧
  (∀ (sess : Sess) (i : InstId) (obj : Fin 5) (v : Word) (s : State), (s.main.i i).motion.plan = none →
     s.rowAccepted (.profileWrite sess i obj v) = true →
     Completes (.profileWrite sess i obj v) s (fun t =>
       let ad := instAddr i (profileObjs.getD obj.val O.TARGET_POS)
       Done s t ∧ ObjsOnly s t [ad] ∧ t.main.obj ad = v.toNat))

/-- R189, R196: ENABLE written 0: in ENABLING, RUN and STOPPING the instance goes to DISABLING at the boundary; in DISABLING
ENABLE_PENDING clears; in any other state the write has no effect beyond the ENABLE bit. No other instance changes, and of
the objects only CONTROL.

R96, R210, R218: an accepted change of MODE between 0, 1 and 3, of an instance that is not enabled: the new mode is in
force, its set-points start from the actual values with no move active, and FOLLOW_ERR of an axis reads 0 in MODE 1.

R303, R313: START_MOVE accepted in MODE 0 without QUEUE captures its target and the profile as it stands, to be planned
at the next position-loop release, and clears AT_TARGET. -/
def Obligations.EnableModeAndMoveRows : Prop :=
  (∀ (sess : Sess) (i : InstId) (s : State), s.rowAccepted (.disable sess i) = true →
     Completes (.disable sess i) s (fun t =>
       Done s t ∧ t = { s with main := { s.main with out := t.main.out, objs := t.main.objs, inst := t.main.inst } } ∧
       ObjsBut s.main t.main [instAddr i O.CONTROL] ∧ InstBut s.main t.main [i.val] ∧
       t.main.enable i = false ∧ t.main.mode i = s.main.mode i ∧
       t.main.i i = (let x := s.main.i i
         if x.core.st = sDisabling then { x with core := { x.core with enPending := false } }
         else if 2 ≤ x.core.st ∧ x.core.st ≤ 4 then { x with core := { x.core with cmd := 1 } }
         else x))) ∧
  (∀ (sess : Sess) (i : InstId) (md : Fin 16) (s : State), s.main.enable i = false → md.val ≠ 2 → s.main.mode i ≠ 2 →
     md.val ≠ s.main.mode i → s.rowAccepted (.modeChange sess i md) = true →
     Completes (.modeChange sess i md) s (fun t =>
       Done s t ∧ ObjsBut s.main t.main [instAddr i O.CONTROL, instAddr i O.FOLLOW_ERR] ∧ InstBut s.main t.main [i.val] ∧
       t.main.mode i = md.val ∧ (md.val = 1 → i.val < 64 → t.main.io i O.FOLLOW_ERR = 0) ∧
       (let x := (t.main.i i).motion
        x.posSp = (s.main.actualPos i : Rat) ∧ x.velSp = velQ (s.main.objW (instAddr i O.ACTUAL_VEL)) ∧ x.accSp = 0 ∧
        x.plan = none))) ∧
  (∀ (sess : Sess) (a : Ax) (rel : Bool) (s : State), s.main.mode a = 0 →
     s.rowAccepted (.startMove sess ⟨a.val, by omega⟩ false rel) = true →
     Completes (.startMove sess ⟨a.val, by omega⟩ false rel) s (fun t =>
       Done s t ∧ ObjsBut s.main t.main [instAddr a O.CONTROL] ∧ InstBut s.main t.main [a.val] ∧
       (t.main.i a).core.atTarget = false ∧
       ∃ p, (t.main.i a).motion.plan = some p ∧ p.replan = true ∧ p.isVel = false ∧
         p.move.target = s.main.moveTarget a (s.main.ioI a O.TARGET_POS) rel ∧
         p.move.vel = velQ (s.main.objW (instAddr a O.PROFILE_VEL)) ∧
         p.move.acc = accQ (s.main.objW (instAddr a O.PROFILE_ACC)) ∧ p.move.shape = s.main.io a O.BLEND_SHAPE))

/-- R208, R240: FAULT_RESET accepted in FAULT clears FAULT_CAUSE, and the axis awaits OFF at the next boundary; with no fast
trip acting on it the hold of its outputs ends and PW_TRIP_SRC is 0.

R103, R225: OP_ABORT of a running identification or auto-tune ends it with OP_FAILED and OP_ERROR 0x01, powers the axis
off and takes its chain out; OP_ABORT of a homing in motion ramps to standstill first, with the code kept for its end. -/
def Obligations.FaultResetAndAbortRows : Prop :=
  (∀ (sess : Sess) (a : Ax) (s : State), (s.main.i a).core.st = sFault →
     s.rowAccepted (.faultReset sess ⟨a.val, by omega⟩) = true →
     Completes (.faultReset sess ⟨a.val, by omega⟩) s (fun t =>
       Done s t ∧ t.main.io a O.FAULT_CAUSE = 0 ∧ (t.main.i a).core.faultRst = true ∧ (t.main.i a).core.st = sFault ∧
       (s.main.tripActs a = false → (t.main.ln a).hold = false ∧ t.main.obj (pwAddr a O.PW_TRIP_SRC) = 0))) ∧
  (∀ (sess : Sess) (a : Ax) (s : State), s.rowAccepted (.opAbort sess ⟨a.val, by omega⟩) = true → (s.main.lop a).busy = true →
     ((s.main.lop a).kind ≠ 1 → s.main.enable a = false → Completes (.opAbort sess ⟨a.val, by omega⟩) s (fun t => Done s t ∧
       (t.main.lop a).busy = false ∧ (t.main.lop a).failed = true ∧ (t.main.lop a).err = 1 ∧
       (t.main.lop a).prog = (s.main.lop a).prog ∧ (t.main.i a).core.power = false ∧ (t.main.i a).core.chains = 0)) ∧
     (∀ h, (s.main.lop a).kind = 1 → (s.main.i a).core.st = sRun → (s.main.i a).home = some h → h.step ≠ 0 →
       h.failCode = none → Completes (.opAbort sess ⟨a.val, by omega⟩) s (fun t => Done s t ∧
         (t.main.lop a).busy = true ∧ (t.main.i a).core.st = sRun ∧ (t.main.i a).motion.ramp.isSome = true ∧
         ∃ k, (t.main.i a).home = some k ∧ k.failCode = some 1 ∧ k.stopping = true)))

/-- R323, R325, R329, R331: homing by method 1 takes the present count as the home event: the operation is done, HOMED is
set, AX_POS_OFFSET is AX_HOME_POS less the raw count, and one result record is there. Method 0 starts the operation, which
waits for the first good read, with HOMED clear. -/
def Obligations.HomingStarts : Prop :=
  ∀ (sess : Sess) (a : Ax) (s : State), s.rowAccepted (.homingStart sess ⟨a.val, by omega⟩) = true → s.main.enable a = false →
    s.main.io a O.MODULO = 0 → (s.main.lop a).busy = false →
    (s.main.io a O.HOME_METHOD = 1 → Completes (.homingStart sess ⟨a.val, by omega⟩) s (fun t => Done s t ∧
      (t.main.lop a).finished = true ∧ (t.main.lop a).busy = false ∧ (t.main.lop a).kind = 1 ∧
      (t.main.lop a).seq = ((s.main.lop a).seq + 1) % 16 ∧ (t.main.lop a).result.length = 1 ∧
      (t.main.i a).core.homed = true ∧
      t.main.objW (instAddr a O.POS_OFFSET) = wordOf (s.main.ioI a O.HOME_POS - s.main.rawPos a))) ∧
    (s.main.io a O.HOME_METHOD = 0 → s.main.obj (fbAddr a O.FB_MODE) = 3 →
      Completes (.homingStart sess ⟨a.val, by omega⟩) s (fun t => Done s t ∧ Started s t a 1 0 ∧
        (t.main.i a).core.homed = false ∧ (t.main.i a).home.isSome = true))

/-! ### Rows of lanes, ports, hoops and links -/

/-- R263, R264, R266: PW_OPMODE 1 takes the lane into shadow mode, 0 takes it out; a commit takes the four shadow objects
as one set, which waits for its period boundary and replaces an earlier one.

R272, R302, R280: a port's mode waits for the next slot boundary, and HOMED clears at the write; FB_Z_ARM 1 arms the
zeroing at the next index. -/
def Obligations.LaneAndPortRows : Prop :=
  (∀ (sess : Sess) (a : Ax) (s : State),
     (s.rowAccepted (.pwOpmodeWrite sess a 1) = true → Completes (.pwOpmodeWrite sess a 1) s (fun t => Done s t ∧
       (t.main.ln a).shadow = true ∧ t.main.obj (pwAddr a O.PW_OPMODE) = 1 ∧ ObjsBut s.main t.main [pwAddr a O.PW_OPMODE])) ∧
     (s.rowAccepted (.pwOpmodeWrite sess a 0) = true → Completes (.pwOpmodeWrite sess a 0) s (fun t => Done s t ∧
       (t.main.ln a).shadow = false ∧ t.main.obj (pwAddr a O.PW_OPMODE) = 0 ∧
       ((s.main.ln a).shadow = true → (t.main.ln a).shEnd = some s.main.now ∧ (t.main.ln a).shPend = none))) ∧
     (s.rowAccepted (.pwShCommit sess a 1) = true → Completes (.pwShCommit sess a 1) s (fun t => Done s t ∧
       t = { s with main := { s.main with out := t.main.out, lane := t.main.lane } } ∧
       (∀ b, b ≠ a.val → t.main.ln b = s.main.ln b) ∧
       (let set : CmpSet := ⟨s.main.objW (pwAddr a O.PW_SH_CMP_U), s.main.objW (pwAddr a O.PW_SH_CMP_V),
                             s.main.objW (pwAddr a O.PW_SH_CMP_W), s.main.now, s.main.obj (pwAddr a O.PW_SH_PERIOD)⟩
        t.main.ln a = { s.main.ln a with shPend := some set })))) ∧
  (∀ (sess : Sess) (p : Ax) (v : Nat) (s : State), v < 2 ^ 36 →
     (s.rowAccepted (.fbModeWrite sess p v) = true → Completes (.fbModeWrite sess p v) s (fun t => Done s t ∧
       t.main.objs = s.main.objs ∧ (t.main.i p).core.homed = false ∧
       t.main.pt p = { s.main.pt p with newMode := if v = s.main.obj (fbAddr p O.FB_MODE) then none else some v } ∧
       (∀ q, q ≠ p.val → t.main.pt q = s.main.pt q))) ∧
     (s.rowAccepted (.fbZArm sess p 1) = true → Completes (.fbZArm sess p 1) s (fun t => Done s t ∧
       t = { s with main := { s.main with out := t.main.out, port := t.main.port } } ∧
       t.main.pt p = { s.main.pt p with zArmed := true } ∧ (∀ q, q ≠ p.val → t.main.pt q = s.main.pt q))))

/-- R338, R340, R341: a member that joins is the last of its hoop's members, has the hoop for parent and MODE 3 in a follow
hoop, 2 in a share hoop; where that adds load the ledger is asked (R24). One that leaves has no parent and MODE 0.

R356, R357, R347: LINK_CMD 1 of a member whose parent is in the ledger is placed before it; of any other the engage is
armed, or runs where ENG_MODE is 0. LINK_CMD 2 and 3 of a link that is not IDLE leave it at the next hoop-chain release, or
at DIS_AT. -/
def Obligations.HoopAndLinkRows : Prop :=
  (∀ (sess : Sess) (hp : Hp) (code k : Nat) (s : State), memberOf code = some k →
     (s.rowAccepted (.hpAdd sess hp code) = true → Completes (.hpAdd sess hp code) s (fun t =>
       if onlyRemoves s.start.chainsOf (s.start.joinCore (64 + hp.val) k).chainsOf then Done s t ∧
         (t.main.i (64 + hp.val)).members = (s.main.i (64 + hp.val)).members ++ [k] ∧
         (t.main.i k).parent = some (64 + hp.val) ∧ (t.main.i k).isolated = false ∧ (t.main.i k).link.st = 0 ∧
         t.main.mode k = if s.main.io (64 + hp.val) O.HP_KIND = 1 then 3 else 2
       else AsksLedger s t { sess := sess, addr := instAddr (64 + hp.val) O.HP_ADD, change := .join (64 + hp.val) k })) ∧
     (s.rowAccepted (.hpRemove sess hp code) = true → (s.main.i (64 + hp.val)).members.contains k = true →
       Completes (.hpRemove sess hp code) s (fun t => Done s t ∧
         (t.main.i (64 + hp.val)).members = (s.main.i (64 + hp.val)).members.erase k ∧
         (k ≠ 64 + hp.val → (t.main.i k).parent = none ∧ (t.main.i k).link.st = 0 ∧ t.main.mode k = 0)))) ∧
  (∀ (sess : Sess) (i : InstId) (s : State),
     (s.rowAccepted (.linkEngage sess i) = true → Completes (.linkEngage sess i) s (fun t =>
       (∀ p, (s.main.i i).parent = some p → (s.main.i p).core.chains ≠ 0 →
         AsksLedger s t { sess := sess, addr := instAddr i O.LINK_CMD, change := .link i }) ∧
       ((s.main.i i).parent = none → Done s t ∧ InstBut s.main t.main [i.val] ∧
         (let st := if s.main.io i O.ENG_MODE = 0 then 2 else 1
          t.main.i i = { s.main.i i with link := { (s.main.i i).link with st := st, cmd := 1 } })))) ∧
     (s.rowAccepted (.linkDisengage sess i) = true → (s.main.i i).link.st ≠ 0 →
       Completes (.linkDisengage sess i) s (fun t => Done s t ∧
         t = { s with main := { s.main with out := t.main.out, inst := t.main.inst } } ∧ InstBut s.main t.main [i.val] ∧
         t.main.i i = { s.main.i i with link := { (s.main.i i).link with cmd := 2 } })) ∧
     (s.rowAccepted (.linkDisengageAt sess i) = true → (s.main.i i).link.st ≠ 0 →
       Completes (.linkDisengageAt sess i) s (fun t => Done s t ∧
         t = { s with main := { s.main with out := t.main.out, inst := t.main.inst } } ∧ InstBut s.main t.main [i.val] ∧
         t.main.i i = { s.main.i i with link := { (s.main.i i).link with disArm := true } })))

/-! ### Rows of long operations, time, reset, events, acquisition and field channels -/

/-- R97, R99: CM_COMMIT, CF_COMMIT, CF_FW_UPDATE, AQ_READ and DV_SELFTEST accepted start their operation, in one update;
no instance of the machine and no object changes.

R505, R507: an accepted commit or update writes the bank that is not the one in use: its record is gone from the start
on, so that an interrupted write is never taken for good, and the other bank stands as it was. -/
def Obligations.StartWritesStartTheirOperation : Prop :=
  (∀ (sess : Sess) (u : Fin 8) (v : Nat) (s : State), v < 2 ^ 36 →
     (s.rowAccepted (.camCommit sess v) = true → Completes (.camCommit sess v) s (fun t =>
       Done s t ∧ t = { s with main := { s.main with out := t.main.out, op := t.main.op } } ∧ Started s t opCM 4 v)) ∧
     (s.rowAccepted (.aqRead sess u 1) = true → Completes (.aqRead sess u 1) s (fun t =>
       Done s t ∧ t = { s with main := { s.main with out := t.main.out, op := t.main.op } } ∧ Started s t (opAQ u) 6 0)) ∧
     (s.rowAccepted (.dvSelftest sess 1) = true → Completes (.dvSelftest sess 1) s (fun t =>
       Done s t ∧ t = { s with main := { s.main with out := t.main.out, op := t.main.op } } ∧ Started s t opDV 7 0)) ∧
     (s.rowAccepted (.cfCommit sess v) = true → Completes (.cfCommit sess v) s (fun t =>
       Done s t ∧ t = { s with main := { s.main with out := t.main.out, op := t.main.op, store := t.main.store } } ∧
       Started s t opCF 5 v)) ∧
     (s.rowAccepted (.cfFwUpdate sess 1) = true → Completes (.cfFwUpdate sess 1) s (fun t =>
       Done s t ∧ t = { s with main := { s.main with out := t.main.out, op := t.main.op, store := t.main.store } } ∧
       Started s t opCF 8 0))) ∧
  (∀ (sess : Sess) (c : Instr) (v : Nat) (s : State), v < 2 ^ 36 → (c = .cfCommit sess v ∨ (c = .cfFwUpdate sess v ∧ v = 1)) →
     s.rowAccepted c = true → Completes c s (fun t =>
       match s.main.targetBank with
       | .bankA => t.main.store.bankA.record = [] ∧ t.main.store.bankA.recGood = false ∧ t.main.store.bankB = s.main.store.bankB
       | .bankB => t.main.store.bankB.record = [] ∧ t.main.store.bankB.recGood = false ∧ t.main.store.bankA = s.main.store.bankA))

/-- R176, R178: NT_TIME_SET accepted sets a step to the time written, at the next slot boundary. NT_SYNC_MODE changed to 1
takes NT_INC_MANUAL, changed to 0 the nominal increment; either way NT_SYNC_STATE reads FREE.

R485, R489, R508: RS_FULL_RESET 1 notes the time from which the software full reset runs, an earlier one standing;
RS_UNIT_RESET requests the closing of the unit's mitten at the next slot boundary, with RS_UNIT_LAST and RS_UNIT_COUNT; CF_SECVER_RAISE raises the OTP minimum. -/
def Obligations.TimeResetAndSecurityRows : Prop :=
  (∀ (sess : Sess) (e : BitVec 72) (s : State),
     (s.rowAccepted (.ntTimeSet sess e) = true → Completes (.ntTimeSet sess e) s (fun t => Done s t ∧
       t = { s with main := { s.main with out := t.main.out, tb := { s.main.tb with step := some (true, (e.toNat : Int)) } } })) ∧
     (∀ v : Fin 2, s.rowAccepted (.ntSyncModeWrite sess v) = true → s.main.obj (ntAddr 0 O.NT_SYNC_MODE) ≠ v.val →
       Completes (.ntSyncModeWrite sess v) s (fun t => Done s t ∧
         t.main.obj (ntAddr 0 O.NT_SYNC_MODE) = v.val ∧ t.main.obj (ntAddr 0 O.NT_SYNC_STATE) = 0 ∧
         t.main.tb = { s.main.tb with inc := if v.val = 1 then s.main.objW (ntAddr 0 O.NT_INC_MANUAL) else 0xA00000000 } ∧
         ObjsBut s.main t.main [ntAddr 0 O.NT_SYNC_MODE, ntAddr 0 O.NT_SYNC_STATE]))) ∧
  (∀ (sess : Sess) (v : Nat) (s : State), v < 2 ^ 36 →
     (s.rowAccepted (.rsFullReset sess 1) = true → Completes (.rsFullReset sess 1) s (fun t => Done s t ∧
       t = { s with main := { s.main with out := t.main.out, sup := { s.main.sup with soft := some (s.main.sup.soft.getD s.main.now) } } })) ∧
     (s.rowAccepted (.unitReset sess v) = true → mget 0 s.main.sup.mittens v = 0 → Completes (.unitReset sess v) s (fun t =>
       Done s t ∧ mget 0 t.main.sup.mittens v = 1 ∧ mget 0 t.main.sup.mittenT v = slotStart s.main.now + unitsPerSlot ∧ (∀ u, u ≠ v → mget 0 t.main.sup.mittens u = mget 0 s.main.sup.mittens u) ∧
       t.main.obj (rsAddr O.RS_UNIT_LAST) = v ∧
       t.main.obj (rsAddr O.RS_UNIT_COUNT) = (s.main.obj (rsAddr O.RS_UNIT_COUNT) + 1) % 2 ^ 36 ∧
       ObjsBut s.main t.main [rsAddr O.RS_UNIT_LAST, rsAddr O.RS_UNIT_COUNT])) ∧
     (s.rowAccepted (.cfSecverRaise sess v) = true → Completes (.cfSecverRaise sess v) s (fun t => Done s t ∧
       t = { s with main := { s.main with out := t.main.out, sup := { s.main.sup with secVer := v } } })))

/-- R379, R401, R402: a latch unit is armed at the time of its write; a cancel by index ends an armed or predicted entry
with no fire time; a write of templates stores their words, reserved fields as 0, and no other word changes.

R389, R390, R392: a time entry written before its fire time is ARMED at once, holding the time less its output's
correction; an entry with a crossing or a cam engage is placed before the ledger. -/
def Obligations.EventAndActionRows : Prop :=
  (∀ (sess : Sess) (s : State),
     (∀ u : Fin 32, s.rowAccepted (.evLtArm sess u 1) = true → Completes (.evLtArm sess u 1) s (fun t => Done s t ∧
       t = { s with main := { s.main with out := t.main.out, ev := { s.main.ev with latches := t.main.ev.latches } } } ∧
       t.main.lt u = { s.main.lt u with armed := some s.main.now } ∧ (∀ k, k ≠ u.val → t.main.lt k = s.main.lt k))) ∧
     (∀ w : Word, s.rowAccepted (.evCancel sess w) = true → w.getLsbD 26 = false →
       ((s.main.act (fld w 9 0)).st = 1 ∨ (s.main.act (fld w 9 0)).st = 2) →
       Completes (.evCancel sess w) s (fun t => Done s t ∧
         t = { s with main := { s.main with out := t.main.out, ev := { s.main.ev with entries := t.main.ev.entries } } } ∧
         (t.main.act (fld w 9 0)).st = 5 ∧ (t.main.act (fld w 9 0)).fire = none ∧ (t.main.act (fld w 9 0)).charged = false ∧
         (∀ k, k ≠ fld w 9 0 → t.main.act k = s.main.act k))) ∧
     (∀ (off : Nat) (ws : List Word), off < 2 ^ 36 → s.rowAccepted (.templateWrite sess off ws) = true →
       Completes (.templateWrite sess off ws) s (fun t => Done s t ∧
         t = { s with main := { s.main with out := t.main.out, ev := { s.main.ev with tpl := t.main.ev.tpl } } } ∧
         (∀ k, k < ws.length → mget 0 t.main.ev.tpl (off + k) = ((templates ws).flatMap entryWords).getD k 0) ∧
         (∀ k, k < off ∨ off + ws.length ≤ k → mget 0 t.main.ev.tpl k = mget 0 s.main.ev.tpl k)))) ∧
  (∀ (sess : Sess) (off : Nat) (ws : List Word) (s : State), off < 2 ^ 36 → s.rowAccepted (.actionWrite sess off ws) = true →
     (needsLedger (entryWords ws) = true → Completes (.actionWrite sess off ws) s (fun t => AsksLedger s t
       { sess := sess, addr := evAddr 0 O.EV_QUEUE, change := .action (off / 8) (entryWords ws) })) ∧
     (let fire := ext2 (entryWords ws) 2 - s.main.outCorr (entryWords ws)
      needsLedger (entryWords ws) = false → s.main.now < fire → Completes (.actionWrite sess off ws) s (fun t => Done s t ∧
       t = { s with main := { s.main with out := t.main.out, ev := { s.main.ev with entries := t.main.ev.entries } } } ∧
       (t.main.act (off / 8)).st = 1 ∧ (t.main.act (off / 8)).fire = some fire ∧
       (t.main.act (off / 8)).words = entryWords ws ∧ (t.main.act (off / 8)).tag = fld (entryWords ws |>.getD 0 0) 15 0 ∧
       (∀ k, k ≠ off / 8 → t.main.act k = s.main.act k))))

/-- R414, R415: AQ_CMD 1 arms the unit, 2 gives the host's trigger cause at the next slot boundary, 3 takes the unit to IDLE
with nothing recorded; causes already known stay for the next evaluation. No other unit changes.

R414, R420: at the first slot boundary after the arm, the arm instant, a unit in ARMING goes to PRE, with A and
AQ_ARM_TIME that boundary; AQ_POST_T after T
ends the post part with POST_TIMED set. No other unit changes.

R528: a transfer accepted makes the peripheral master busy with its bytes; its answer comes at the transfer's end. -/
def Obligations.AcquisitionAndTransferRows : Prop :=
  (∀ (sess : Sess) (u : Fin 8) (s : State) (c : Instr), (c = .aqArm sess u ∨ c = .aqTrigger sess u ∨ c = .aqStop sess u) →
     s.rowAccepted c = true → Completes c s (fun t => Done s t ∧
       t = { s with main := { s.main with out := t.main.out, aq := t.main.aq } } ∧
       (∀ k, k ≠ u.val → t.main.aqu k = s.main.aqu k) ∧
       (c = .aqArm sess u → t.main.aqu u = { s.main.aqu u with st := 1, cmdT := s.main.now }) ∧
       (c = .aqTrigger sess u →
         (let l := (s.main.aqu u).causes ++ [{ cause := 5, t := s.main.tb.slotDue }]
          t.main.aqu u = { s.main.aqu u with causes := l })) ∧
       (c = .aqStop sess u → t.main.aqu u = { causes := (s.main.aqu u).causes }))) ∧
  (∀ (u : Fin 8) (s : State),
     ((s.main.aqu u).st = 1 → slotStart s.main.now ≤ (s.main.aqu u).cmdT → Completes (.aqArmInstant u) s (fun t =>
       t = { s with main := { s.main with out := {} } })) ∧
     ((s.main.aqu u).st = 1 → (s.main.aqu u).cmdT < slotStart s.main.now → Completes (.aqArmInstant u) s (fun t =>
       (t.main.aqu u).st = 2 ∧ (t.main.aqu u).armT = slotStart s.main.now ∧
       t.main.obj (aqAddr u O.AQ_ARM_TIME) = slotStart s.main.now % 2 ^ 72 ∧ (∀ k, k ≠ u.val → t.main.aqu k = s.main.aqu k))) ∧
     ((s.main.aqu u).st = 3 → s.main.obj (aqAddr u O.AQ_POST_T) ≠ 0 →
       (s.main.aqu u).trigT + s.main.obj (aqAddr u O.AQ_POST_T) * unitsPerMs ≤ s.main.now →
       Completes (.aqPostTimeout u) s (fun t => t.main.aqu u = { s.main.aqu u with st := 4 } ∧
         (t.main.obj (aqAddr u O.AQ_FLAGS)).testBit 1 = true ∧ ObjsBut s.main t.main [aqAddr u O.AQ_FLAGS] ∧
         (∀ k, k ≠ u.val → t.main.aqu k = s.main.aqu k)))) ∧
  (∀ (sess : Sess) (n : Fin 2) (b : List Byte) (s : State), s.rowAccepted (.psXfer sess n b) = true →
     Completes (.psXfer sess n b) s (fun t => t.main.out.status = some aPending ∧
       t = { s with main := { s.main with out := t.main.out, ps := t.main.ps } } ∧
       (t.main.psm n).busy = true ∧ (t.main.psm n).tx = b ∧ (t.main.psm n).rx = [] ∧
       (∀ k, k ≠ n.val → t.main.psm k = s.main.psm k)))

/-- R440, R437, R431: IO_OUT accepted sends the command to the field die; IO_DIR 0 commands the output off first; the
input time constants set EV_IN_CORR to the midpoint of the channel's input time. -/
def Obligations.FieldChannelRows : Prop :=
  ∀ (sess : Sess) (ch : Fin 32) (s : State),
    (∀ v : Fin 2, s.rowAccepted (.ioOutWrite sess ch v) = true → Completes (.ioOutWrite sess ch v) s (fun t => Done s t ∧
      (t.main.fc ch).cmd = (v.val == 1) ∧ t.main.out.field = [(ch.val, v.val == 1)] ∧
      t.main.obj (ioAddr ch O.IO_OUT) = v.val ∧ ObjsBut s.main t.main [ioAddr ch O.IO_OUT] ∧
      (∀ k, k ≠ ch.val → t.main.fc k = s.main.fc k))) ∧
    (s.rowAccepted (.ioDirWrite sess ch 0) = true → Completes (.ioDirWrite sess ch 0) s (fun t => Done s t ∧
      t.main.obj (ioAddr ch O.IO_DIR) = 0 ∧ t.main.obj (ioAddr ch O.IO_OUT) = 0 ∧
      (s.main.field.link = 2 → (t.main.fc ch).cmd = false ∧ t.main.out.field = [(ch.val, false)]))) ∧
    (s.rowAccepted (.ioDirWrite sess ch 1) = true → Completes (.ioDirWrite sess ch 1) s (fun t => Done s t ∧
      ObjsOnly s t [ioAddr ch O.IO_DIR] ∧ t.main.obj (ioAddr ch O.IO_DIR) = 1)) ∧
    (∀ (filt : Bool) (v : Nat), v < 2 ^ 36 → s.rowAccepted (.ioInputConfigWrite sess ch filt v) = true →
      Completes (.ioInputConfigWrite sess ch filt v) s (fun t => Done s t ∧
        (let ad := ioAddr ch (if filt then O.IO_IN_FILT else O.IO_IN_TYPE)
         ObjsOnly s t [ad, evAddr 0 (O.EV_IN_CORR + 16 + ch.val)] ∧ t.main.obj ad = v ∧
         t.main.obj (evAddr 0 (O.EV_IN_CORR + 16 + ch.val)) =
           4 * ((if t.main.obj (ioAddr ch O.IO_IN_TYPE) = 1 then 5330 else 3330) + 1000 * t.main.obj (ioAddr ch O.IO_IN_FILT)))))

/-! ### Fabric, ledger, misses and trips -/

/-- R34: a token that comes after its deadline, or with a SEQ older than the last one accepted for its instance and task, is
discarded, and the unit keeps its state whole: nothing changes but the token table, the cells and the count of the most
tokens held. (Older is read modulo 256, within 127: the model's reading, log 44.)

R34, R37, R296: a token of an emulation output that comes in time is accepted: its SEQ is the last accepted, its chain
has completed, and its cell is free for the waiting tokens. -/
def Obligations.TokensCompleteOrAreDiscarded : Prop :=
  (∀ (cell : Fin 16) (u v : List Bool) (k : Tok) (s : State),
     s.main.fab.cells.find? (fun p => p.1 == cell.val) = some (cell.val, k) →
     (k.deadline ≤ s.main.now ∨ seqOlder (mget 0 s.main.fab.lastSeq (seqKey k.inst k.task)) k.seq = true) →
     Completes (.tokenComplete cell u v) s (fun t => ObjsOnly { s with main := { s.main with fab := t.main.fab } } t [O.DV_TOKENS_PEAK] ∧
       t.main.fab = { s.main.fab with waiting := t.main.fab.waiting, cells := t.main.fab.cells })) ∧
  (∀ (cell : Fin 16) (u v : List Bool) (k : Tok) (s : State),
     s.main.fab.cells.find? (fun p => p.1 == cell.val) = some (cell.val, k) → k.task = .emulation →
     s.main.now < k.deadline → seqOlder (mget 0 s.main.fab.lastSeq (seqKey k.inst k.task)) k.seq = false →
     Completes (.tokenComplete cell u v) s (fun t =>
       mget 0 t.main.fab.lastSeq (seqKey k.inst k.task) = k.seq ∧ mget 0 t.main.fab.missRun (missKey k.inst 4) = 0 ∧
       t.main.fab.map = s.main.fab.map ∧ ObjsBut s.main t.main [O.DV_TOKENS_PEAK] ∧
       (s.main.fab.waiting = [] → ∀ p ∈ t.main.fab.cells, p.1 ≠ cell.val)))

/-- R49, R53: the ledger's decision on the oldest request, in the configuration that the changes admitted before it leave.
Where the checks of the write now refuse it (log 69), it is answered so and nothing else changes. Refused by the admission
test, the configuration in force and the map stay as they were, DV_ADMIT_CODE and DV_ADMIT_NEED report why, DV_ADMIT_COUNT
counts and the write is answered ADMIT. Admitted, the map and the change await the next slot boundary and the write is
answered OK; ADMIT_REFUSED clears only where the change adds load (R54).

R48: a raise of the brim is tested as R49 with the brim written: the first slot that fails refuses it with code 0x05. -/
def Obligations.LedgerDecidesTheOldestRequest : Prop :=
  ∀ (r : LReq) (rest : List LReq) (s : State), s.main.fab.reqs = r :: rest → r.key = none →
    (∀ u e ws, r.change ≠ .rule u e ws) → r.sess < 10 →
    Completes .ledgerDecision s (fun t =>
      let base := s.start.fab.commits.foldl (fun m c => m.applyChange c.change) { s.start with fab := { s.start.fab with reqs := rest } }
      let old := s.main.fab.staged.getD s.main.fab.map
      let next := base.applyChange r.change
      let verdict : Refuse ⊕ List Chain :=
        if r.change.isBrim then (match slotChecks old (next.obj O.DV_BRIM) slots with
          | some f => .inl { f with code := 0x05 }
          | none => .inr old)
        else admission old next.chainsOf (s.main.obj O.DV_PACE_STATE) (s.main.obj O.DV_PACE_NOW) (base.obj O.DV_BRIM)
      let unmoved := t.main.fab = { s.main.fab with reqs := rest }
      match base.changeRefusal r.change, verdict with
      | some c, _ => unmoved ∧ t.main.out.status = some c ∧ t.main.inst = s.main.inst ∧
          ObjsBut s.main t.main [hsAddr r.sess O.HS_ABORT_LAST, hsAddr r.sess O.HS_ABORT_COUNT]
      | none, .inl f => unmoved ∧ t.main.out.status = some aAdmit ∧
          t.main.obj O.DV_ADMIT_CODE = f.code % 2 ^ 72 ∧ t.main.obj O.DV_ADMIT_NEED = f.need % 2 ^ 72 ∧
          t.main.obj O.DV_ADMIT_COUNT = (s.main.obj O.DV_ADMIT_COUNT + 1) % 2 ^ 36 ∧
          (∀ i, (t.main.i i).core.st = (s.main.i i).core.st) ∧
          (∀ i, r.change.instance? = some i → (t.main.i i).core.admitRef = true)
      | none, .inr map => t.main.fab = { s.main.fab with reqs := rest, staged := some map, commits := s.main.fab.commits ++ [r] } ∧
          t.main.out.status = some 0 ∧ t.main.objs = s.main.objs ∧
          (∀ i, r.change.instance? = some i → (t.main.i i).core.admitRef =
            ((s.main.i i).core.admitRef && (r.change.isBrim || onlyRemoves old next.chainsOf))))

/-- R63, R64, R66: a missed release of a chain in the map is counted and shown in DV_MISS_LAST. The second consecutive one
of a current chain holds the axis's outputs at the safe level with PW_TRIP_SRC bit 9 and raises DEADLINE_CL, the third of an
outer or hoop chain raises DEADLINE_OUTER; before that nothing of the lane or the causes changes.

R65, R66, R400: a missed release of the refinement chain is counted once and shown with the first entry it affects, and
every entry it affects is marked, keeping its prediction; no other entry changes. -/
def Obligations.MissedReleasesRaiseTheirCause : Prop :=
  ((∀ (a : Ax) (s : State), s.main.hasChain a 0 = true → Completes (.currentChainMiss a) s (fun t =>
       let n := mget 0 s.main.fab.missRun (missKey a 0)
       mget 0 t.main.fab.missRun (missKey a 0) = n + 1 ∧
       t.main.obj O.DV_MISS_COUNT = (s.main.obj O.DV_MISS_COUNT + 1) % 2 ^ 36 ∧
       t.main.obj O.DV_MISS_LAST = instAddr a O.STATUS ∧ (t.main.i a).core.missT = some s.main.now ∧
       InstBut s.main t.main [a.val] ∧ (∀ b, b ≠ a.val → t.main.ln b = s.main.ln b) ∧
       (if 1 ≤ n then (t.main.ln a).hold = true ∧ (t.main.obj (pwAddr a O.PW_TRIP_SRC)).testBit 9 = true ∧
           (t.main.i a).core.raised.testBit cDeadlineCl = true ∧ (t.main.i a).core.raisedR = 0
        else t.main.ln a = s.main.ln a ∧ (t.main.i a).core.raised = (s.main.i a).core.raised))) ∧
   (∀ (i : InstId) (s : State), s.main.hasChain i (if i.val < 64 then 1 else 2) = true →
     Completes (.outerChainMiss i) s (fun t =>
       let k := missKey i (if i.val < 64 then 1 else 2)
       let n := mget 0 s.main.fab.missRun k
       mget 0 t.main.fab.missRun k = n + 1 ∧ t.main.obj O.DV_MISS_COUNT = (s.main.obj O.DV_MISS_COUNT + 1) % 2 ^ 36 ∧
       t.main.obj O.DV_MISS_LAST = instAddr i O.STATUS ∧ t.main.lane = s.main.lane ∧ InstBut s.main t.main [i.val] ∧
       (if 2 ≤ n then (t.main.i i).core.raised.testBit cDeadlineOuter = true
        else (t.main.i i).core.raised = (s.main.i i).core.raised)))) ∧
  (∀ (e : Fin 1024) (es : List (Fin 1024)) (s : State), s.main.hasChain 128 3 = true →
     Completes (.refinementChainMiss (e :: es)) s (fun t =>
       t.main.obj O.DV_MISS_COUNT = (s.main.obj O.DV_MISS_COUNT + 1) % 2 ^ 36 ∧
       t.main.obj O.DV_MISS_LAST = e.val * 2 ^ 24 + evAddr 0 O.EV_QUEUE ∧
       ∀ k : Fin 1024, t.main.act k = if k ∈ e :: es then { s.main.act k with missed := true } else s.main.act k))

/-- R238, R239, R240, R242: an armed trip input that qualifies makes its line active: a line that was not is latched and
counted, and every axis that selects it and is not held yet has its outputs held, the line in PW_TRIP_SRC and TRIP raised
with reaction 0. An input that is not armed changes nothing.

R238, R240: an input that is no longer qualified makes its line inactive, and every hold stands until a FAULT_RESET.

R236, R237, R240: an output of the trip decimators above PW_OC_LIMIT qualifies overcurrent and holds an axis that is not
held yet, with PW_TRIP_SRC bit 8 and TRIP raised; a limit of 0, or no motor, qualifies nothing. -/
def Obligations.TripsHoldTheirAxes : Prop :=
  (∀ (t0 : Fin 8) (s : State),
     ((s.main.obj O.DV_TRIP_EN).testBit t0 = false → Completes (.tripInputQualified t0) s (fun t => t.main = s.start)) ∧
     ((s.main.obj O.DV_TRIP_EN).testBit t0 = true → Completes (.tripInputQualified t0) s (fun t =>
       t.main.trips.testBit t0 = true ∧
       (s.main.tripOn.testBit t0 = false → (t.main.obj O.DV_TRIP_LATCH).testBit t0 = true ∧
         t.main.obj (O.DV_TRIPt_COUNT + t0) = (s.main.obj (O.DV_TRIPt_COUNT + t0) + 1) % 2 ^ 36) ∧
       ∀ a : Ax, (s.main.obj (pwAddr a O.PW_TRIP_SEL)).testBit t0 = true → s.main.obj (pwAddr a O.PW_TRIP_SRC) = 0 →
         (t.main.ln a).hold = true ∧ (t.main.obj (pwAddr a O.PW_TRIP_SRC)).testBit t0 = true ∧
         (t.main.i a).core.raised.testBit cTrip = true ∧ (t.main.i a).core.raisedR = 0))) ∧
  (∀ (t0 : Fin 8) (s : State), Completes (.tripInputUnqualified t0) s (fun t =>
     t.main.trips.testBit t0 = false ∧ (∀ k, k ≠ t0.val → t.main.trips.testBit k = s.main.trips.testBit k) ∧
     ∀ a : Ax, (s.main.ln a).hold = true → (t.main.ln a).hold = true)) ∧
  (∀ (a : Ax) (u v : List Bool) (s : State),
     (s.main.io a O.AX_MOTOR_TYPE ≠ 0 → 0 < fracQ (s.main.objW (pwAddr a O.PW_OC_LIMIT)) →
       fracQ (s.main.objW (pwAddr a O.PW_OC_LIMIT)) < absQ (s.main.phaseCurrent a (s.main.obj (pwAddr a O.PW_OSR_TRIP)) O.PW_SD_OFS_U u) →
       s.main.obj (pwAddr a O.PW_TRIP_SRC) = 0 → Completes (.tripDecimatorOutput a u v) s (fun t =>
         (t.main.ln a).oc = true ∧ (t.main.ln a).hold = true ∧ (t.main.obj (pwAddr a O.PW_TRIP_SRC)).testBit 8 = true ∧
         (t.main.i a).core.raised.testBit cTrip = true)) ∧
     ((s.main.io a O.AX_MOTOR_TYPE = 0 ∨ s.main.obj (pwAddr a O.PW_OC_LIMIT) = 0) →
       Completes (.tripDecimatorOutput a u v) s (fun t => (t.main.ln a).oc = false)))

/-! ### Lanes, sequences and signals of an axis -/

/-- R256, R262: the first update point after the first release is the PWM start: power is on, the start duty is in force
and the gates settle. Outside shadow mode every later one comes one update interval after the one before, and takes the
loop's values that are there for it, with the widths that R257 gives them for the period.

R190, R250: the steps of enabling. With the gates settled alignment follows where source 3 has no valid angle, else the
loops close. A step of alignment ends once PW_ALIGN_TIME has passed: the count at the end of step 1 is kept for step 2; a good
step 2 sets PW_COMM_VALID and the loops close, a bad one raises COMMUTATION. -/
def Obligations.UpdatePointsAndEnablingSteps : Prop :=
  (∀ (a : Ax) (t0 : Nat) (s : State), (s.main.ln a).start = some t0 →
     ((s.main.ln a).upT = 0 → (s.main.ln a).pend = none → t0 ≤ s.main.now → Completes (.updatePoint a) s (fun t =>
       (t.main.i a).core.power = true ∧ (t.main.ln a).upT = t0 ∧ InstBut s.main t.main [a.val] ∧
       (t.main.ln a).duty.u = dutyCode (s.main.objW (pwAddr a O.PW_START_DUTY)) ∧
       ((s.main.i a).core.seq = .await → (t.main.i a).core.seq = .settling))) ∧
     (∀ c, (s.main.ln a).upT ≠ 0 → (s.main.ln a).shadow = false → (s.main.ln a).shEnd = none → (s.main.ln a).pend = some c →
       c.at_ ≤ (s.main.ln a).upT + s.main.updInterval a → (s.main.ln a).upT + s.main.updInterval a ≤ s.main.now →
       Completes (.updatePoint a) s (fun t =>
         (t.main.ln a).upT = (s.main.ln a).upT + s.main.updInterval a ∧ (t.main.ln a).pend = none ∧
         (t.main.ln a).duty.u = dutyCode c.u ∧ (t.main.ln a).duty.v = dutyCode c.v ∧ (t.main.ln a).duty.w = dutyCode c.w ∧
         (let width := fun d => (compareWidth (s.main.obj (pwAddr a O.PW_PERIOD)) (s.main.obj (pwAddr a O.PW_REFRESH)) d).1
          (t.main.ln a).wU = width c.u ∧ (t.main.ln a).wV = width c.v ∧ (t.main.ln a).wW = width c.w) ∧
         t.main.inst = s.main.inst ∧ ObjsBut s.main t.main [pwAddr a O.PW_FLAGS]))) ∧
  (∀ (a : Ax) (s : State),
     ((s.main.i a).core.st = sEnabling → (s.main.i a).core.seq = .settling → (s.main.ln a).closed = true →
      Completes (.gateSettleEnd a) s (fun t =>
       t = { s with main := { s.main with out := {}, inst := t.main.inst } } ∧ InstBut s.main t.main [a.val] ∧
       (t.main.i a).core.seq = (if s.main.io a O.AX_MOTOR_TYPE = 1 ∧ s.main.obj (pwAddr a O.PW_COMM_SRC) = 3 ∧
         s.main.commValid a = false then .align1 else .closing))) ∧
     ((s.main.i a).core.rampT + s.main.obj (pwAddr a O.PW_ALIGN_TIME) * unitsPerMs ≤ s.main.now →
      ((s.main.i a).core.seq = .align1 → Completes (.alignStepEnd a) s (fun t =>
       (t.main.ln a).c1 = (s.main.pt a).enc ∧ (t.main.i a).core.seq = .align2 ∧ t.main.objs = s.main.objs)) ∧
      ((s.main.i a).core.seq = .align2 → Completes (.alignStepEnd a) s (fun t =>
       if alignGood (s.main.obj (pwAddr a O.PW_ENC_PER_REV)) (s.main.io a O.AX_POLE_PAIRS) (s.main.obj (pwAddr a O.PW_COMM_TOL))
           (s.main.ln a).c1 (s.main.pt a).enc = true
       then t.main.obj (pwAddr a O.PW_COMM_VALID) = 1 ∧ (t.main.i a).core.seq = .closing ∧
         ObjsBut s.main t.main [pwAddr a O.PW_COMM_OFFSET, pwAddr a O.PW_COMM_VALID]
       else t.main.obj (pwAddr a O.PW_COMM_VALID) = 0 ∧ (t.main.i a).core.raised.testBit cCommutation = true ∧
         (t.main.i a).core.seq = .align2))))

/-- R190, R191, R193, R195, R198, R204: the ends of the timed steps of an axis. The released brake, AX_BRAKE_RELEASE_T
after its command, leaves only RUN to come; the standstill of a stop holds the position reached, in STOPPING; the engaged
brake, AX_BRAKE_ENGAGE_T after its command, powers the axis off. The state changes at the next slot boundary (R182).

R186, R202, R208: what an axis with nothing else pending does there. The released brake ends ENABLING in RUN; a stop at
standstill is back in RUN where none acts any more; DISABLING ends in READY or OFF, with its chains out; FAULT_REACTION ends in
FAULT with its cause copied to FAULT_LAST and FAULT_COUNT one more.

R207: a ramp that has not reached standstill within AX_STOP_TMAX of its start raises STOP_TIMEOUT with reaction 0.

R187, R204, R208: at the next slot boundary a cause that calls for reaction 0 takes the axis from any of these states to FAULT,
powered off, with the cause recorded.

R210, R211: a following error above AX_FE_LIMIT in MODE 0 or 3, outside a homing by method 7, raises FOLLOW_ERR; a
velocity error above AX_VE_LIMIT in MODE 1 raises VEL_ERR. The cause awaits the next slot boundary, with the configured
reaction, and nothing else changes. -/
def Obligations.SequenceStepsAndLimitsOfError : Prop :=
  ((∀ (a : Ax) (s : State),
      (let i : InstId := ⟨a.val, by omega⟩
       let c := (s.main.i a).core
       (c.st = sEnabling → c.seq = .brakeRel → s.main.brakeTime a O.AX_BRAKE_RELEASE_T = true → Completes (.brakeReleaseEnd i) s (fun t =>
          t = { s with main := { s.main with out := {}, inst := t.main.inst } } ∧ InstBut s.main t.main [a.val] ∧
          t.main.i a = { s.main.i a with core := { c with seq := .run } })) ∧
       (c.st = sStopping → c.seq = .ramp → s.main.atStandstill a = true → Completes (.standstillReached i) s (fun t =>
          (t.main.i a).core.st = sStopping ∧ (t.main.i a).core.seq = .standstill ∧ (t.main.i a).motion.velSp = 0 ∧
          (t.main.i a).motion.posSp = (s.main.i a).motion.posSp ∧ (t.main.i a).motion.plan = none ∧
          (t.main.i a).motion.queue = [] ∧ InstBut s.main t.main [a.val])) ∧
       (c.seq = .engage → s.main.brakeTime a O.AX_BRAKE_ENGAGE_T = true → Completes (.brakeEngageEnd i) s (fun t =>
          (t.main.i a).core.power = false ∧ (t.main.i a).core.seq = .powerOff ∧ (t.main.i a).core.st = c.st ∧
          InstBut s.main t.main [a.val])))) ∧
   (∀ (a : Ax) (m : Main), m.quiet a →
      (let c := (m.i a).core
       let t := m.transition a
       (c.st = sEnabling → c.seq = .run → c.stop = 0 → (t.i a).core.st = sRun ∧ (t.i a).core.seq = .none ∧
          InstBut m t [a.val] ∧ t.objs = m.objs) ∧
       (c.st = sStopping → c.seq = .standstill → c.stop = 0 → (t.i a).core.st = sRun ∧ InstBut m t [a.val]) ∧
       (c.st = sDisabling → c.seq = .powerOff → c.enPending = false → (t.i a).core.power = false ∧
          (t.i a).core.st = (if m.ready a = true then sReady else sOff) ∧
          ((m.i a).parent = none → (t.i a).core.chains = 0)) ∧
       (c.st = sReaction → c.seq = .powerOff → (t.i a).core.st = sFault ∧ (t.i a).core.power = false ∧
          (t.i a).core.chains = 0 ∧ t.io a O.FAULT_LAST = m.io a O.FAULT_CAUSE ∧
          t.io a O.FAULT_COUNT = (m.io a O.FAULT_COUNT + 1) % 2 ^ 36)))) ∧
  ((∀ (a : Ax) (s : State), s.main.io a O.STOP_TMAX ≠ 0 → (s.main.i a).core.seq = .ramp →
      ((s.main.i a).core.st = sStopping ∨ (s.main.i a).core.st = sDisabling ∨ (s.main.i a).core.st = sReaction) →
      (s.main.i a).core.rampT + s.main.io a O.STOP_TMAX * unitsPerMs ≤ s.main.now →
      Completes (.stopTimeout ⟨a.val, by omega⟩) s (fun t =>
        t = { s with main := { s.main with out := {}, inst := t.main.inst } } ∧ InstBut s.main t.main [a.val] ∧
        (t.main.i a).core.raised.testBit cStopTimeout = true ∧ (t.main.i a).core.raisedR = 0 ∧
        (t.main.i a).core.st = (s.main.i a).core.st)) ∧
   (∀ (a : Ax) (m : Main) (k : Nat), (m.i a).core.raised.testBit k = true → (m.i a).core.raisedR = 0 → k < 36 →
      2 ≤ (m.i a).core.st → (m.i a).core.st ≤ 6 → (m.i a).core.movedAt ≠ some m.now → (m.i a).core.safe = false →
      ((m.transition a).i a).core.st = sFault ∧ ((m.transition a).i a).core.power = false ∧
      ((m.transition a).io a O.FAULT_CAUSE).testBit k = true)) ∧
  (∀ (i : InstId) (s : State),
     (0 < s.main.ioI i O.FE_LIMIT → (s.main.mode i = 0 ∨ s.main.mode i = 3) →
       s.main.ioI i O.FE_LIMIT < ((s.main.ioI i O.FOLLOW_ERR).natAbs : Int) → (s.main.i i).home = none →
       Completes (.followErr i) s (fun t =>
         t = { s with main := { s.main with out := {}, inst := t.main.inst } } ∧ InstBut s.main t.main [i.val] ∧
         t.main.i i = { s.main.i i with core := { (s.main.i i).core with raised := (s.main.i i).core.raised ||| 2 ^ cFollowErr } })) ∧
     (0 < velQ (s.main.objW (instAddr i O.VE_LIMIT)) → s.main.mode i = 1 →
       velQ (s.main.objW (instAddr i O.VE_LIMIT)) < absQ ((s.main.i i).loop.vCmd - s.main.actualVel i) →
       Completes (.velErr i) s (fun t =>
         t = { s with main := { s.main with out := {}, inst := t.main.inst } } ∧ InstBut s.main t.main [i.val] ∧
         t.main.i i = { s.main.i i with core := { (s.main.i i).core with raised := (s.main.i i).core.raised ||| 2 ^ cVelErr } })))

/-- R215, R476: while a zone's safe-level signal acts, its command puts the outputs of every axis of the zone at the safe
level, and of no other; no axis changes its state before the next boundary. There every such axis goes to SAFE_OFF, powered
off and with its chains out.

R186: with the signal withdrawn its command takes the safe level from the zone's axes, and at the next boundary an axis in
SAFE_OFF goes to OFF where it has no cause, and to FAULT where it has one.

R216: an SS1 announcement marks every axis of its zone; no axis changes its state before the next boundary, and no
object changes. -/
def Obligations.SafetySignalsReachTheAxes : Prop :=
  ((∀ (z : Fin 2) (s : State), s.safety.held = false → (s.safety.zone z).signal = true →
      Completes (.safeLevelSignal z) s (fun t =>
        t = { s with main := { s.main with out := {}, inst := t.main.inst } } ∧
        ∀ a : Ax, (t.main.i a).core.st = (s.main.i a).core.st ∧
          (a.val / 32 = z.val → (t.main.i a).core.safe = true ∧ t.main.pwmSafe a = true) ∧
          (a.val / 32 ≠ z.val → t.main.i a = s.main.i a))) ∧
   (∀ (a : Ax) (m : Main), (m.i a).core.safe = true → (m.i a).core.st ≠ sSafeOff → (m.i a).core.movedAt ≠ some m.now →
      ((m.transition a).i a).core.st = sSafeOff ∧ ((m.transition a).i a).core.power = false ∧
      ((m.transition a).i a).core.chains = 0)) ∧
  ((∀ (z : Fin 2) (s : State), s.safety.held = false → (s.safety.zone z).signal = false →
      Completes (.safeLevelSignalWithdrawn z) s (fun t =>
        t = { s with main := { s.main with out := {}, inst := t.main.inst } } ∧
        ∀ a : Ax, (t.main.i a).core.st = (s.main.i a).core.st ∧ (a.val / 32 = z.val → (t.main.i a).core.safe = false) ∧
          (a.val / 32 ≠ z.val → t.main.i a = s.main.i a))) ∧
   (∀ (a : Ax) (m : Main), m.quiet a → (m.i a).core.st = sSafeOff →
      ((m.transition a).i a).core.st = (if m.io a O.FAULT_CAUSE = 0 then sOff else sFault))) ∧
  (∀ (z : Fin 2) (s : State), s.safety.held = false → (s.safety.zone z).st ≠ .run →
     Completes (.ss1Announcement z) s (fun t =>
       t = { s with main := { s.main with out := {}, inst := t.main.inst } } ∧
       (∀ a : Ax, a.val / 32 = z.val → (t.main.i a).core.ss1 = true) ∧
       (∀ i, (t.main.i i).core.st = (s.main.i i).core.st ∧ (t.main.i i).motion = (s.main.i i).motion)))

/-! ### Feedback, limits and homing -/

/-- R276, R277: in quadrature mode one sample that changes one of A and B, with no index and no alarm, counts one step, up
where A changes to the complement of B or B changes to A, the other way where FB_DIR is set; one that changes both counts
none and is an error.

R277, R283, R252: FB_ERR_LEVEL decays by one to 0, FB_ERR_DECAY after its latest decay; an illegal Hall code held for its time makes the Hall signals
invalid, and every axis that commutates by them alone loses its commutation with COMMUTATION raised. -/
def Obligations.QuadratureCountsAndPortTimers : Prop :=
  (∀ (p : Ax) (raw : BitVec 4) (w : LineRuns) (s : State), s.main.obj (fbAddr p O.FB_MODE) = 1 →
     s.main.mittenClosed (0x100 + p.val) = false →
     (s.main.filtered p raw w).getLsbD 2 = (s.main.pt p).lines.getLsbD 2 →
     (s.main.filtered p raw w).getLsbD 3 = (s.main.pt p).lines.getLsbD 3 →
     (let o := (s.main.pt p).lines
      let l := s.main.filtered p raw w
      let ca := o.getLsbD 0 != l.getLsbD 0
      let cb := o.getLsbD 1 != l.getLsbD 1
      ((ca != cb) = true → Completes (.fbLevelChange p raw w) s (fun t =>
         t = { s with main := { s.main with out := {}, port := t.main.port } } ∧ (t.main.pt p).lines = l ∧
         (t.main.pt p).count = sgn (wordOf ((s.main.pt p).count +
           (if (if ca then l.getLsbD 0 != l.getLsbD 1 else l.getLsbD 1 == l.getLsbD 0) != s.main.objB (fbAddr p O.FB_DIR)
            then 1 else -1))) ∧
         (t.main.pt p).ring.length ≤ 64 ∧ (∀ q, q ≠ p.val → t.main.pt q = s.main.pt q))) ∧
      (ca = true → cb = true → Completes (.fbLevelChange p raw w) s (fun t =>
         (t.main.pt p).count = (s.main.pt p).count ∧ (t.main.pt p).level = min ((s.main.pt p).level + 1) 255 ∧
         t.main.obj (fbAddr p O.FB_ERR_COUNT) = (s.main.obj (fbAddr p O.FB_ERR_COUNT) + 1) % 2 ^ 36 ∧
         (t.main.obj (fbAddr p O.FB_LATCH)).testBit 0 = true)))) ∧
  (∀ (p : Ax) (s : State),
     ((s.main.pt p).decT + s.main.obj (fbAddr p O.FB_ERR_DECAY) * unitsPerUs ≤ s.main.now →
      Completes (.errLevelDecay p) s (fun t => t = { s with main := { s.main with out := {}, port := t.main.port } } ∧
       t.main.pt p = { s.main.pt p with level := (s.main.pt p).level - 1, decT := s.main.now } ∧ (∀ q, q ≠ p.val → t.main.pt q = s.main.pt q))) ∧
     (s.main.obj (fbAddr p O.FB_MODE) = 2 → hallSector (s.main.pt p).lines = none →
       (s.main.pt p).illT + s.main.obj (fbAddr p O.FB_HALL_ILL_T) * unitsPerUs ≤ s.main.now → Completes (.hallIllegalTimeout p) s (fun t =>
       (t.main.pt p).hallInv = true ∧ ∀ a : Ax, s.main.obj (pwAddr a O.PW_COMM_SRC) = 1 → s.main.hallPort a = p.val →
         (t.main.i a).core.raised.testBit cCommutation = true ∧ t.main.obj (pwAddr a O.PW_COMM_VALID) = 0)))

/-- R286, R287, R289: a serial read starts at its instant before the boundary, or fails with BUSY where FBA is low. One that
passes every check loads FB_SER_RAW and makes the port's data good; one that fails reports the check's code in FB_SER_ERR
and clears SER_OK. -/
def Obligations.SerialReads : Prop :=
  ∀ (p : Ax) (s : State),
    (s.main.obj (fbAddr p O.FB_MODE) = 3 → s.main.mittenClosed (0x100 + p.val) = false → (s.main.pt p).lastMono = none →
      Completes (.serialReadStart p true) s (fun t => t = { s with main := { s.main with out := {}, port := t.main.port } } ∧
        (t.main.pt p).readT0 = some (slotStart (s.main.now + (s.main.serMono p + 400)) - (s.main.serMono p + 400))) ∧
      ((s.main.pt p).readT0 = none → Completes (.serialReadStart p false) s (fun t => t.main.obj (fbAddr p O.FB_SER_ERR) = 1 ∧
        (t.main.pt p).serOk = false ∧ (t.main.pt p).readT0 = none))) ∧
    (∀ (bits : List Bool) (mono : Bool) (t0 : Nat), (s.main.pt p).readT0 = some t0 → t0 + s.main.serMono p ≤ s.main.now →
      (s.main.i p).home = none →
      (let body := bits.drop (s.main.ser p O.FB_SER_LEAD)
       let data := body.take (s.main.ser p O.FB_SER_BITS)
       let v := natOfBits (if s.main.ser p O.FB_SER_CODE = 1 then fromGray data else data)
       Completes (.serialReadEnd p bits mono) s (fun t => (t.main.pt p).readT0 = none ∧
         match s.main.serCheck p body v mono with
         | some code => t.main.obj (fbAddr p O.FB_SER_ERR) = code ∧ (t.main.pt p).serOk = false ∧
             (t.main.pt p).count = (s.main.pt p).count
         | none => t.main.obj (fbAddr p O.FB_SER_ERR) = 0 ∧ (t.main.pt p).serOk = true ∧
             (t.main.pt p).vPrev = some v ∧ (t.main.pt p).goods = (s.main.pt p).goods + 1 ∧
             ((s.main.pt p).reload = true → (t.main.pt p).count = sgn (BitVec.ofNat 36 v)))))

/-- R316, R318: a limit side that has become active is latched; outside ENABLING, RUN and STOPPING without a reaction. In
RUN with the motion towards the side and AX_LIM_REACT 2 the instance ramps to standstill in the state it is in. A side whose
limit has been inactive for its time is released. -/
def Obligations.LimitsLatchAndRelease : Prop :=
  ∀ (i : InstId) (side : Side) (s : State),
    (let neg := side == .neg
     let lat := fun l : Limits => if neg then l.negLat else l.posLat
     (s.main.limActive i neg = true → lat (s.main.i i).lim = false → (s.main.i i).home = none →
       ((s.main.i i).core.st < sEnabling ∨ sStopping < (s.main.i i).core.st) → Completes (.limitLatch i side) s (fun t =>
         t = { s with main := { s.main with out := {}, inst := t.main.inst } } ∧ InstBut s.main t.main [i.val] ∧
         lat (t.main.i i).lim = true ∧ (t.main.i i).core = (s.main.i i).core ∧ (t.main.i i).motion = (s.main.i i).motion)) ∧
     (s.main.limActive i neg = true → lat (s.main.i i).lim = false → (s.main.i i).home = none →
       (s.main.i i).core.st = sRun → towards (s.main.direction i) neg = true → s.main.io i O.LIM_REACT = 2 →
       (s.main.i i).link.st = 0 → (s.main.lop i).busy = false → Completes (.limitLatch i side) s (fun t =>
         lat (t.main.i i).lim = true ∧ (t.main.i i).core.st = sRun ∧ (t.main.i i).motion.ramp.isSome = true ∧
         (t.main.i i).motion.plan = none ∧ (t.main.i i).motion.queue = [] ∧ InstBut s.main t.main [i.val])) ∧
     (s.main.limActive i neg = false →
       (32 ≤ s.main.limCh i neg ∨ (s.main.fc (s.main.limCh i neg)).levT + s.main.io i O.LIM_REL_T * unitsPerMs ≤ s.main.now) →
       Completes (.limitRelease i side) s (fun t =>
         t = { s with main := { s.main with out := {}, inst := t.main.inst } } ∧ InstBut s.main t.main [i.val] ∧
         lat (t.main.i i).lim = false ∧ (t.main.i i).core = (s.main.i i).core)))

/-- R326, R327: the accepted candidate of step 3 is the switch edge: by the methods with an index the search for it begins,
by the others it is the home event, and the instance ramps to standstill.

R326 method 7, R329: standstill against the stop at the current limit for AX_HOME_HS_T is the home event: the offset is written, HOMED is
set, and without AX_HOME_GOTO the operation is done.

R325, R330, R329: no good read for 100 ms ends homing by method 0 with 0x85; AX_HOME_TMAX passed ends any homing with
0x05, in RUN with motion only after a ramp to standstill, during which OP_BUSY stays set. -/
def Obligations.HomingEventsAndTimeouts : Prop :=
  (∀ (i : InstId) (h : Homing) (c : Int × Nat) (s : State), (s.main.i i).home = some h → h.step = 3 → h.cand = some c →
     c.2 + s.main.io i O.HOME_DEBOUNCE * unitsPerMs ≤ s.main.now →
     (64 ≤ i.val ∨ s.main.obj (fbAddr i O.FB_MODE) ≠ 3) → Completes (.homeCandidateAccepted i) s (fun t =>
       ∃ k, (t.main.i i).home = some k ∧ k.switchPos = some c.1 ∧ k.cand = none ∧ InstBut s.main t.main [i.val] ∧
         (if s.main.io i O.HOME_METHOD = 3 ∨ s.main.io i O.HOME_METHOD = 5 then k.step = 4 ∧ k.event = h.event
          else k.step = 5 ∧ k.event = some c ∧ k.stopping = true ∧ (t.main.i i).motion.ramp.isSome = true))) ∧
  (∀ (i : InstId) (h : Homing) (s : State), (s.main.i i).home = some h → h.step = 7 → h.method = 7 →
     s.main.hardStop i = true → since h.hsSince (s.main.io i O.HOME_HS_T) s.main.now = true → s.main.io i O.HOME_GOTO = 0 → s.main.io i O.MODULO = 0 →
     Completes (.hardStopHomeEvent i) s (fun t =>
       (t.main.i i).core.homed = true ∧ (t.main.i i).home = none ∧ (t.main.lop i).finished = true ∧ (t.main.lop i).busy = false ∧
       t.main.objW (instAddr i O.POS_OFFSET) = wordOf (s.main.ioI i O.HOME_POS - s.main.rawPos i))) ∧
  (∀ (i : InstId) (h : Homing) (s : State), (s.main.i i).home = some h → h.failCode = none → (s.main.lop i).busy = true →
     (s.main.lop i).kind = 1 →
     (h.method = 0 → h.step = 0 → h.started + 100 * unitsPerMs ≤ s.main.now → Completes (.homeNoSensorTimeout i) s (fun t =>
       (t.main.lop i).failed = true ∧ (t.main.lop i).err = 0x85 ∧ (t.main.lop i).busy = false ∧ (t.main.i i).home = none ∧
       t.main.objs = s.main.objs)) ∧
     (h.step = 0 → s.main.io i O.HOME_TMAX * 1000 * unitsPerMs ≤ (s.main.lop i).ranFor s.main.now → Completes (.homingTimeout i) s (fun t =>
       (t.main.lop i).failed = true ∧ (t.main.lop i).err = 5 ∧ (t.main.lop i).busy = false ∧ (t.main.i i).home = none)) ∧
     ((s.main.i i).core.st = sRun → h.step ≠ 0 →
       s.main.io i O.HOME_TMAX * 1000 * unitsPerMs ≤ (s.main.lop i).ranFor s.main.now → Completes (.homingTimeout i) s (fun t =>
       (t.main.lop i).busy = true ∧ (t.main.i i).motion.ramp.isSome = true ∧ (t.main.i i).core.st = sRun ∧
       ∃ k, (t.main.i i).home = some k ∧ k.failCode = some 5 ∧ k.stopping = true)))

/-! ### Records, answers and the local host port -/

/-- R121, R123, R138: NOP notes that the session has been heard and answers OK. OPEN opens a closed session, in service mode
where ADDR bit 0 asks for it and HS_SVC_MASK allows it, and is refused with STATE on an open one. CLOSE closes the session,
open or not: its domains are released and its answer places freed. -/
def Obligations.SessionCommands : Prop :=
  ∀ (sess : Sess) (q : Req) (s : State), sess.val ≠ 9 → q.sess = sess → s.main.hears sess false = true →
    let line := { s.main.line with frames := s.main.line.frames + 1 }
    (Completes (.nop sess) s (fun t => t = { s with main := { s.main with out := t.main.out, sess := t.main.sess } } ∧
      t.main.out.status = some 0 ∧ t.main.se sess = { s.main.se sess with last := s.main.now } ∧
      ∀ k, k ≠ sess.val → t.main.se k = s.main.se k)) ∧
    (q.addr.toNat < 2 → (s.main.se sess).isOpen = false → Completes (.openSession q) s (fun t =>
      t = { s with main := { s.main with out := t.main.out, sess := t.main.sess, line := line } } ∧ t.main.out.status = some 0 ∧
      t.main.se sess = { s.main.se sess with last := s.main.now, isOpen := true,
                                             service := q.addr.toNat == 1 && s.main.svcMask.testBit sess } ∧
      ∀ k, k ≠ sess.val → t.main.se k = s.main.se k)) ∧
    (q.addr.toNat < 2 → (s.main.se sess).isOpen = true → Completes (.openSession q) s (fun t =>
      t.main.out.status = some aState ∧ (t.main.se sess).isOpen = true)) ∧
    (Completes (.closeSession q) s (fun t => t.main.out.status = some 0 ∧
      t = { s with main := { s.main with out := t.main.out, sess := t.main.sess, owner := t.main.owner,
                                         windows := t.main.windows, line := line } } ∧
      (t.main.se sess).isOpen = false ∧ (t.main.se sess).service = false ∧ (t.main.se sess).places = [] ∧
      ∀ d : Fin 155, t.main.ownerOf d = if s.main.ownerOf d = some sess.val then none else s.main.ownerOf d))

/-- R91, R134, R135: a READ of a rind object that passes its checks is answered at once with its data. Any other READ, any
READ_AT, WRITE_AT, and a WRITE of anything but STOP, that passes checks 1 to 5 with room for it joins the queue behind the
requests that came before it (of one instant, behind those of lower sessions: R86), is answered PENDING with the session's
next ticket, and takes an answer place. Nothing is read or written yet. (A READ_AT without its offset word: log 47.) -/
def Obligations.RequestsAreQueuedWithATicket : Prop :=
  ∀ (q : Req) (o : ObjInfo) (s : State), q.sess.val ≠ 9 → info? q.addr.toNat = some o →
    (let a := q.addr.toNat
     let n := q.sess.val
     let m := s.start.touch n
     let queued := fun (c : Instr) (cmd : QCmd) (len : Nat) (data : List Byte) => Completes c s (fun t =>
       t = { s with main := { s.main with out := t.main.out, sess := t.main.sess, objs := t.main.objs,
                                          line := { s.main.line with frames := s.main.line.frames + 1 },
                                          fab := { s.main.fab with queue := t.main.fab.queue } } } ∧
       ObjsBut s.main t.main [O.DV_TOKENS_PEAK] ∧
       t.main.out.status = some aPending ∧ t.main.out.rlen = (s.main.se n).ticket ∧
       (∃ k, t.main.fab.queue = BeItem.place { key := { sess := n, ticket := (s.main.se n).ticket }, at_ := s.main.now,
                                               frame := s.main.line.frames + 1, cmd := cmd, addr := a, len := len,
                                               data := data, tokens := k } s.main.fab.queue) ∧
       t.main.se n = { s.main.se n with last := s.main.now, ticket := ((s.main.se n).ticket + 1) % 256,
                                        places := (s.main.se n).places ++ [{ ticket := (s.main.se n).ticket }] })
     let room := m.beRoom = true ∧ (s.main.se n).places.length < 16
     (s.main.hears n false = true →
       (m.frontRead n a false = none → o.rind = true → ∀ d, m.readData n a 0 q.len = .inr d →
         Completes (.read q) s (fun t =>
           t = { s with main := { s.main with out := t.main.out, sess := t.main.sess,
                                              line := { s.main.line with frames := s.main.line.frames + 1 } } } ∧
           t.main.out.status = some 0 ∧ t.main.out.data = d)) ∧
       (m.frontRead n a false = none → o.rind = false → room → queued (.read q) .read q.len []) ∧
       (m.frontRead n a true = none → 5 ≤ q.data.length → room → queued (.readAt q) .readAt q.len q.data) ∧
       (m.frontRead n a true = none → q.data.length < 5 → room → Completes (.readAt q) s (fun t =>
         t.main.out.status = some aPending ∧ t.main.fab.queue.length = s.main.fab.queue.length + 1 ∧
         ObjsBut s.main t.main [O.DV_TOKENS_PEAK]))) ∧
     (s.main.hears n true = true →
       (m.frontWrite n a false q.data = none → isStop a = false → room → queued (.write q) .write q.data.length q.data) ∧
       (m.frontWrite n a true q.data = none → room → queued (.writeAt q) .writeAt q.data.length q.data)))

/-- R137: FETCH answers by the ticket it names: PENDING while its request is queued and not ready, the final status and the
data truncated to LEN once it is ready, NO_TICKET where no place holds it; the places and answers stay as they are, so that
a ready answer may be fetched again. -/
def Obligations.FetchAnswersByTheTicket : Prop :=
  ∀ (q : Req) (s : State), q.sess.val ≠ 9 → s.main.hears q.sess false = true → Completes (.fetch q) s (fun t =>
    t = { s with main := { s.main with out := t.main.out, sess := t.main.sess,
                                       line := { s.main.line with frames := s.main.line.frames + 1 } } } ∧
    t.main.se q.sess = { s.main.se q.sess with last := s.main.now } ∧ (∀ k, k ≠ q.sess.val → t.main.se k = s.main.se k) ∧
    match (s.main.se q.sess).places.find? (fun p => p.ticket == q.addr.toNat) with
    | none => t.main.out.status = some aNoTicket
    | some p => if p.stage = 2 then t.main.out.status = some p.status ∧ t.main.out.data = p.data.take q.len ∧
                  t.main.out.rlen = min p.len q.len
                else t.main.out.status = some aPending)

/-- R516-R524: every frame on the local host port shows the reply held at its start. A request with LEN above 4096 is refused
with FRAME, one that comes while another is unfinished with BUSY, and the held reply stands. A READ_INC accepted joins the
queue and makes the port busy; on the line its code is not defined. A null frame leaves the reply; a frame that fails a test
of R518 leaves that test's refusal for the next frame. (That a frame shows the reply held at its start: log 63.) -/
def Obligations.HostPortFrames : Prop :=
  (∀ (q : Req) (c : Instr) (s : State), q.sess.val = 9 → (c = .read q ∨ c = .write q ∨ c = .readAt q ∨ c = .writeAt q ∨
      c = .openSession q ∨ c = .closeSession q ∨ c = .readInc q) → s.main.hears 9 false = true → Completes c s (fun t =>
        t.main.out.status = some s.main.host.present.status ∧ t.main.out.data = s.main.host.present.data ∧
        (4096 < q.len → t.main.host = { s.main.host with refusal := some { status := aFrame, seq := q.seq.toNat } } ∧
          t.main.obj O.DV_LP_FRAME_ERR = (s.main.obj O.DV_LP_FRAME_ERR + 1) % 2 ^ 36) ∧
        (q.len ≤ 4096 → s.main.host.busy = true →
          t.main.host = { s.main.host with refusal := some { status := aBusy, seq := q.seq.toNat } } ∧
          t.main.obj O.DV_LP_BUSY_COUNT = (s.main.obj O.DV_LP_BUSY_COUNT + 1) % 2 ^ 36 ∧ t.main.fab = s.main.fab))) ∧
  (∀ (q : Req) (s : State),
    (q.sess.val = 9 → s.main.hears 9 false = true → q.len ≤ 4096 → s.main.host.busy = false →
      (∃ w, (s.portStart q.mode3).incWord 9 q.addr.toNat = .inr w) → (s.portStart q.mode3).beRoom = true →
      Completes (.readInc q) s (fun t => t.main.host.busy = true ∧ t.main.host.seq = q.seq.toNat ∧
        ∃ k, t.main.fab.queue = BeItem.place { key := { sess := 9 }, at_ := s.main.now, frame := s.main.line.frames + 1,
                                                          cmd := .readInc, addr := q.addr.toNat, len := q.len, tokens := k } s.main.fab.queue)) ∧
    (q.sess.val ≠ 9 → s.main.hears q.sess false = true → Completes (.readInc q) s (fun t =>
      t.main.out.status = some aBadCommand))) ∧
  (∀ (mode3 : Bool) (b : List Byte) (s : State), s.main.portOpen = true →
    Completes (.nullFrame mode3) s (fun t => t.main.host = { s.main.host with refusal := none } ∧
      t.main.out.status = some s.main.host.present.status ∧ (t.main.se 9).last = s.main.now ∧
      t.main.obj O.DV_LP_FRAMES = (s.main.obj O.DV_LP_FRAMES + 1) % 2 ^ 36) ∧
    (b.headD 0 ≠ 0 → hostFrameCode b ≠ 0 → Completes (.hostFrameRefused mode3 b) s (fun t =>
      t.main.host = { s.main.host with refusal := some { status := hostFrameCode b, seq := (b.getD 1 0).toNat } } ∧
      t.main.out.status = some s.main.host.present.status ∧
      (b.length < 7 → hostFrameCode b = aFrame))))

/-- R37, R134-R136: the oldest queued request, a read, runs once best-effort work has its turn: it leaves the queue, and its
place takes the data, to be ready from the next boundary on. A place is freed NT_PEND_KEEP after its answer was ready, and no
other.

R527, R528: the end of a transfer, once its clocks and select times have passed, makes the peripheral master free, with as many
bytes received as were sent, each as PSn_LSB_FIRST orders its bits; the bytes sent have gone over the wire in that order. -/
def Obligations.QueuedWorkEnds : Prop :=
  (∀ (sess : Sess) (ticket : Byte) (x : BeItem) (rest : List BeItem) (d : List Byte) (s : State), sess.val ≠ 9 →
    s.main.tb.running = true → s.main.fab.queue = x :: rest → x.key.sess = sess.val → x.key.ticket = ticket.toNat →
    x.cmd = .read → s.main.fab.waiting = [] → s.main.fab.cells.length < 16 →
    (let m := { s.start with fab := { s.main.fab with queue := rest } }
     m.barred x.addr = false → m.readData sess x.addr 0 x.len = .inr d → Completes (.answerReady sess ticket) s (fun t =>
       t = { s with main := { s.main with out := {}, sess := t.main.sess,
                                          fab := { s.main.fab with queue := rest } } } ∧
       (t.main.se sess).places = (s.main.se sess).places.map (fun p => if p.ticket = ticket.toNat ∧ p.stage = 0 then
         { p with stage := 1, status := 0, len := d.length, data := d } else p) ∧
       ∀ k, k ≠ sess.val → t.main.se k = s.main.se k))) ∧
  (∀ (sess : Sess) (ticket : Byte) (s : State), Completes (.answerPlaceFreed sess ticket) s (fun t =>
    t = { s with main := { s.main with out := {}, sess := t.main.sess } } ∧
    ∀ p, p ∈ (t.main.se sess).places ↔ p ∈ (s.main.se sess).places ∧ ¬(p.ticket = ticket.toNat ∧ p.stage = 2 ∧
      p.ready + s.main.obj (ntAddr 0 O.NT_PEND_KEEP) * unitsPerMs ≤ s.main.now))) ∧
  (∀ (n : Fin 2) (rx : List Byte) (s : State), (s.main.psm n).busy = true →
    (s.main.psm n).startT + s.main.psTime n ≤ s.main.now → Completes (.psTransferEnd n rx) s (fun t =>
    let wire := fun b : Byte => if s.main.objB (psAddr n O.PSn_LSB_FIRST) then b.reverse else b
    (t.main.psm n).busy = false ∧ (t.main.psm n).tx = (s.main.psm n).tx ∧
    t.main.out.frame = some (4 + n.val, (s.main.psm n).tx.map wire) ∧
    (t.main.psm n).rx.length = (s.main.psm n).tx.length ∧ ∀ k, k < (s.main.psm n).tx.length →
      (t.main.psm n).rx.getD k 0 = wire (rx.getD k 0)))

/-- R139-R142: BWRITE of one STOP that passes its checks writes it as the unicast write does; under instance 0xFF with no
instance owned the node does nothing and leaves the status. ADDRESS without FORCE gives a node in auto mode without an
address BASE + HOPS modulo 4096. SEGMENT accepted is held for the next boundary; the same segment again changes nothing. -/
def Obligations.BroadcastWrites : Prop :=
  ∀ (q : Req) (s : State), q.sess.val ≠ 9 → s.main.hears q.sess true = true →
    (let n := q.sess.val
     let a := q.addr.toNat
     let m := s.start.touch n
     (∀ o d, isStop a = true → instOf a ≠ 0xFF → m.frontWrite n a false q.data = none → info? a = some o →
       parseWrite a o false q.data = some d → m.writeRefusal a d = none → Completes (.bwrite q) s (fun t =>
         t.main.out.status = some 0 ∧ t.main.obj a = d.value % 2 ^ 36 ∧ ObjsBut s.main t.main [a] ∧
         t = { s with main := { s.main with out := t.main.out, sess := t.main.sess, objs := t.main.objs } })) ∧
     (isStop a = true → instOf a = 0xFF → (∀ k : InstId, s.main.owns n k = false) → Completes (.bwrite q) s (fun t =>
         t.main.out.status = none ∧ t = { s with main := { s.main with out := t.main.out, sess := t.main.sess } })) ∧
     (∀ (base hops : BitVec 12), n ≠ 8 → s.main.sup.straps.addrMode = false → s.main.obj (ntAddr 0 O.NT_ADDR_VALID) = 0 →
       Completes (.address q.sess base false hops) s (fun t => t.main.out.status = some 0 ∧
         t.main.obj (ntAddr 0 O.NT_NODE_ADDR) = (base.toNat + hops.toNat) % 4096 ∧
         t.main.obj (ntAddr 0 O.NT_ADDR_VALID) = 1 ∧ ObjsBut s.main t.main [ntAddr 0 O.NT_NODE_ADDR, ntAddr 0 O.NT_ADDR_VALID])) ∧
     (∀ o d, areaOf a = 11 → numOf a = O.CM_VM_SEGMENT → m.frontWrite n a false q.data = none → info? a = some o →
       parseWrite a o false q.data = some d → m.bootBars a = false → Completes (.segment q) s (fun t =>
         let held := (s.main.vmst (instOf a)).held.any (fun g => g.raw == d.words)
         (held = true → t.main.out.status = some 0 ∧
           t = { s with main := { s.main with out := t.main.out, sess := t.main.sess } }) ∧
         (held = false → m.segRefusal (instOf a) (segmentOf d.words) = none → t.main.out.status = some 0 ∧
           (t.main.vmst (instOf a)).placing = (s.main.vmst (instOf a)).placing ++ [(s.main.now, segmentOf d.words)] ∧
           (t.main.vmst (instOf a)).st = (s.main.vmst (instOf a)).st ∧ t.main.objs = s.main.objs))))

/-- R144, R145, R386: a network event in an NTRIG joins EV_NETRX as its last and is counted; seen before with its source,
ID and time, it changes nothing. A CARRIER takes the node's oldest entry into its first free entry, and one without a free
entry, or a node without an entry, leaves the entries as they came. (Marking and own entries: logs 31 and 35.) -/
def Obligations.NetworkEntries : Prop :=
  ∀ (sess : Sess) (s : State), sess.val ≠ 9 → s.main.hears sess true = true →
    (∀ e : EventEntry, e.valid = true → (e.kind = 0x40 ∨ e.kind = 0x41) → Completes (.ntrig sess [e]) s (fun t =>
      if s.main.line.seen.contains (e.source.toNat, e.id.toNat, e.time) then
        t = { s with main := { s.main with out := t.main.out, sess := t.main.sess } }
      else t.main.ev.netrx.getLast? = some (EventEntry.words e) ∧
        t.main.obj (evAddr 0 O.EV_NETRX_COUNT) = (s.main.obj (evAddr 0 O.EV_NETRX_COUNT) + 1) % 2 ^ 36 ∧
        t.main.line.seen = (e.source.toNat, e.id.toNat, e.time) :: s.main.line.seen)) ∧
    (∀ (es out : List EventEntry) (own : EventEntry) (rest : List EventEntry), s.main.line.txq = own :: rest →
      placeEntry own es = some out → Completes (.carrier sess es) s (fun t => t.main.line.txq = rest ∧
        t.main.out.data = bytesOfWords (out.flatMap EventEntry.words) ∧ t.main.out.status = some 0)) ∧
    (∀ es : List EventEntry, (s.main.line.txq = [] ∨ ∀ e ∈ es, e.valid = true) → Completes (.carrier sess es) s (fun t =>
      t.main.line.txq = s.main.line.txq ∧ t.main.out.data = bytesOfWords (es.flatMap EventEntry.words) ∧
      t.main.out.status = none))

/-! ### Frames, ports and network time -/

/-- R146, R147, R149, R154-R156: a good Damek frame that comes LOOPED, or with a FRAME_SEQ seen before, leaves by the other
port as it came, unprocessed; with that port down a LOOPED frame is dropped. Any other frame leaves by the other port, or
where that is down by the port it came in by, LOOPED. On SV every Damek frame is turned, LOOPED. A foreign frame is forwarded
unchanged or dropped, never turned; on SV it is discarded. A frame in passage as bypass began or ended is sent on stomped, and
not processed (R152). (LOOPED on a frame turned unprocessed: log 36; what counts a broken frame: log 116.) -/
def Obligations.FramesFindTheirWay : Prop :=
  (∀ (p : LPort) (f : LineFrame) (s : State), s.main.lineReady (LPort.num p) = true → s.main.isDamek f.bytes = true →
    headerOk f.bytes = true → (f.cut && s.main.line.cut.contains (LPort.num p)) = false →
    (let b := f.bytes
     let i := LPort.num p
     let seen := s.main.line.seqs.contains (BitVec.ofNat 16 (headerOf b / 65536))
     (frameGood b = true → s.main.portUp (1 - i) = true → (loopedOf b || seen) = true → Completes (.damekFrame p f) s (fun t =>
       t.main.out.frame = some (1 - i, b) ∧
       t = { s with main := { s.main with out := t.main.out, objs := t.main.objs,
                                          line := { s.main.line with cut := s.main.line.cut.filter (· ≠ i) } } } ∧
       ObjsBut s.main t.main [ntAddr i O.NT_RX_FRAMES, ntAddr i O.NT_RX_DAMEK, ntAddr i O.NT_LONG, ntAddr 0 O.NT_DUPLICATES] ∧
       t.main.obj (ntAddr 0 O.NT_DUPLICATES) = (if loopedOf b then s.main.obj (ntAddr 0 O.NT_DUPLICATES)
         else (s.main.obj (ntAddr 0 O.NT_DUPLICATES) + 1) % 2 ^ 36))) ∧
     (s.main.portUp (1 - i) = false → loopedOf b = true → Completes (.damekFrame p f) s (fun t =>
       t.main.out.frame = none ∧ t.main.obj (ntAddr (1 - i) O.NT_DROPPED) =
         (s.main.obj (ntAddr (1 - i) O.NT_DROPPED) + 1) % 2 ^ 36)) ∧
     (loopedOf b = false → seen = false → Completes (.damekFrame p f) s (fun t => ∃ body, t.main.out.frame =
       some (if s.main.portUp (1 - i) then (1 - i, sealFrame body (frameGood b))
             else (i, sealFrame (withLooped body) (frameGood b))))))) ∧
  (∀ (b : List Byte) (s : State), s.main.svRuns = true →
    (s.main.isDamek b = true → Completes (.serviceFrame b) s (fun t => ∃ body,
      t.main.out.frame = some (2, sealFrame (withLooped body) (frameGood b)))) ∧
    (s.main.isDamek b = false → ∀ c, (c = .serviceFrame b ∨ c = .foreignFrame .sv { bytes := b }) → Completes c s (fun t =>
      t.main.out.frame = none ∧ ObjsOnly s t [ntAddr 2 O.NT_RX_FRAMES, ntAddr 2 O.NT_LONG, ntAddr 2 O.NT_STOMPED,
                                               ntAddr 2 O.NT_FCS_ERR]))) ∧
  (∀ (p : Port3) (f : LineFrame) (s : State), p ≠ .sv → s.main.lineReady (Port3.num p) = true → s.main.isDamek f.bytes = false →
    natOfBytes ((f.bytes.drop 12).take 2) ≠ 0x88F7 → (f.cut && s.main.line.cut.contains (Port3.num p)) = false →
    Completes (.foreignFrame p f) s (fun t =>
      t.main.out.frame = (if s.main.portUp (1 - Port3.num p) then some (1 - Port3.num p, f.bytes) else none) ∧
      t.main.line = { s.main.line with cut := t.main.line.cut } ∧ t.main.sess = s.main.sess)) ∧
  (∀ (p : LPort) (f : LineFrame) (s : State), s.main.sup.moduleHeld = false → (s.main.pl (1 - LPort.num p)).phy ≠ 0 →
    f.cut = true → s.main.line.cut.contains (LPort.num p) = true → Completes (.damekFrame p f) s (fun t =>
      t.main.out.frame = some (1 - LPort.num p, sealFrame (f.bytes.take (f.bytes.length - 4)) false) ∧
      t = { s with main := { s.main with out := t.main.out, line := { s.main.line with
        cut := s.main.line.cut.filter (· ≠ LPort.num p) } } }))

/-- R107, R148: a PHY link that comes up at a speed that is allowed begins the heal hold; held up throughout it, the port is
declared up, a line port with NT_PDELAY 0 (R172); a port that goes down is counted and forgets its peer delay. -/
def Obligations.PortsFollowTheirLinks : Prop :=
  ∀ (p : Port3) (s : State), s.main.sup.moduleHeld = false →
    (let i := Port3.num p
     let o := s.main.pl (1 - i)
     (∀ v : LinkSpeed, s.main.offers i (match v with | .m100 => 1 | .m1000 => 2) = true →
       (i = 2 ∨ o.up = false ∨ o.phy = (match v with | .m100 => 1 | .m1000 => 2)) → Completes (.phyLinkUp p v) s (fun t =>
         t = { s with main := { s.main with out := {}, line := { s.main.line with ports := t.main.line.ports } } } ∧
         t.main.pl i = { phy := match v with | .m100 => 1 | .m1000 => 2, up := false, held := false,
                         healEnd := some (s.main.now + s.main.obj (ntAddr 0 O.NT_HEAL_HOLD) * unitsPerMs) })) ∧
     (∀ e, (s.main.pl i).healEnd = some e → e ≤ s.main.now → (s.main.pl i).phy ≠ 0 → (s.main.pl i).up = false →
       (i = 2 ∨ o.up = false ∨ o.phy = (s.main.pl i).phy) → Completes (.portUp p) s (fun t =>
         t = { s with main := { s.main with out := {}, objs := t.main.objs, pdelay := t.main.pdelay,
                                            line := { s.main.line with ports := t.main.line.ports } } } ∧
         (i < 2 → t.main.obj (ntAddr i O.NT_PDELAY) = 0 ∧ ObjsBut s.main t.main [ntAddr i O.NT_PDELAY]) ∧
         (i = 2 → t.main.objs = s.main.objs) ∧
         t.main.pl i = { s.main.pl i with up := true, healEnd := none } ∧ ∀ k, k ≠ i → t.main.pl k = s.main.pl k)) ∧
     ((s.main.pl i).up = true → Completes (.portDown p) s (fun t => t.main.pl i = {} ∧ t.main.pd i = {} ∧
       t.main.obj (ntAddr i O.NT_LINK_DOWN_COUNT) = (s.main.obj (ntAddr i O.NT_LINK_DOWN_COUNT) + 1) % 2 ^ 36 ∧
       ObjsBut s.main t.main [ntAddr i O.NT_LINK_DOWN_COUNT])))

/-- R168, R171, R173: a Sync leaves by the other port with the residence time added to its correction, a Follow_Up and an
Announce as they came. A one-step Sync of the master in ACQUIRE or LOCKED writes NT_OFFSET and an NT_INC within NT_SLEW_PPM
of NT_FREQ_EST (which value within it is free outside a slew, log 17); a two-step one waits for its Follow_Up, which takes it
up. The only master that the domain's Announces qualify is selected. (The layout and the algorithm of IEEE 1588: log 113.) -/
def Obligations.PtpMessagesPassAndSteer : Prop :=
  ∀ (port : LPort) (s : State), s.main.lineReady (LPort.num port) = true → s.main.portUp (1 - LPort.num port) = true →
    s.main.line.cut = [] →
    (let p := LPort.num port
     (∀ (raw : Instant) (g : PtpFrame), s.main.takesPtp p g 0 = true → Completes (.sync port raw g) s (fun t =>
       t.main.out.frame = some (1 - p, g.corrected (s.main.syncCorrection p)) ∧
       (s.main.follows g.domain g.master = false → ObjsOnly s t [ntAddr p O.NT_RX_FRAMES]) ∧
       (s.main.follows g.domain g.master = true → g.twoStep = true → ∃ h, t.main.ptp.held.head? = some h ∧ h.port = p ∧
         h.master = g.master ∧ h.seqId = g.seqId ∧ t.main.tb = s.main.tb) ∧
       (s.main.follows g.domain g.master = true → g.twoStep = false → s.main.obj (ntAddr 0 O.NT_PTP_PORT) = p →
         (s.main.syncState = 1 ∨ s.main.syncState = 2) → s.main.ptp.deciding = false →
         t.main.objW (ntAddr 0 O.NT_OFFSET) = wordOf (s.main.offsetOf p (s.main.rxStamp p raw) g.correction g.originTime) ∧
         (let est := t.main.obj (ntAddr 0 O.NT_FREQ_EST)
          let d := est * s.main.obj (ntAddr 0 O.NT_SLEW_PPM) / 1000000
          est ≤ t.main.tb.inc.toNat + d ∧ t.main.tb.inc.toNat ≤ est + d)))) ∧
     (∀ g : PtpFrame, s.main.takesPtp p g 8 = true → Completes (.followUp port g) s (fun t =>
       t.main.out.frame = some (1 - p, g.frame) ∧
       (s.main.ptp.held.find? (fun h => h.port == p) = none → ObjsOnly s t [ntAddr p O.NT_RX_FRAMES]) ∧
       (∀ h, s.main.ptp.held.find? (fun h => h.port == p) = some h → s.main.follows g.domain g.master = true →
         h.master = g.master → h.seqId = g.seqId → t.main.ptp.held.find? (fun h => h.port == p) = none))) ∧
     (∀ g : PtpFrame, s.main.takesPtp p g 11 = true → Completes (.announce port g) s (fun t =>
       t.main.out.frame = some (1 - p, g.frame) ∧
       (s.main.sup.boot = .run → s.main.obj (ntAddr 0 O.NT_SYNC_MODE) = 0 → s.main.obj (ntAddr 0 O.NT_PTP_DOMAIN) = g.domain →
         0 < g.timeout → g.stepsRemoved < 255 → ∀ h, s.main.ptp.announces = [h] → h.port = p → h.msg.master = g.master →
         s.main.now ≤ h.at_ + 4 * g.interval → t.main.ptp.master = some g.master ∧ t.main.master8 = g.master.take 8 ∨
           s.main.ptp.master = some g.master))))

/-- R169, R172, R174, R176: the peer delay of a line port: every request is answered with the turnaround time; when an
interval has passed a missing response is counted and the next request sent; each response adds a result, and the first result is
NT_PDELAY. Master loss takes the slave to HOLDOVER at NT_FREQ_EST. A step sets the time at the boundary and keeps the
fraction bits of A; where R175 no longer allows it, it is not made. (What becomes of timers at a step: log 39.) -/
def Obligations.PeerDelayLossAndStep : Prop :=
  (∀ (port : LPort) (s : State), s.main.lineReady (LPort.num port) = true → s.main.line.cut = [] →
    (let p := LPort.num port
     (∀ g rx tx, s.main.takesPtp p g 2 = true → Completes (.pdelayReq port g rx tx) s (fun t =>
       ObjsOnly s t [ntAddr p O.NT_RX_FRAMES] ∧ t.main.out.frame = some (p, peerMessage 3 g.domain
         (g.correction + 16384 * (s.main.txStamp p tx - s.main.rxStamp p rx)) p g.seqId g.master))) ∧
     (∀ tx : Instant, (s.main.pd p).due ≤ s.main.now → Completes (.pdelayIntervalExpiry port tx) s (fun t =>
       t.main.pd p = { s.main.pd p with waiting := true, seqId := (s.main.pd p).seqId + 1, sent := s.main.txStamp p tx,
                                        recv := none, due := (t.main.pd p).due } ∧
       s.main.now ≤ (t.main.pd p).due ∧ (t.main.pd p).due ≤ s.main.now + s.main.pdelayPeriod ∧
       t.main.obj (ntAddr p O.NT_PDELAY_FAIL) = (if (s.main.pd p).waiting then
         (s.main.obj (ntAddr p O.NT_PDELAY_FAIL) + 1) % 2 ^ 36 else s.main.obj (ntAddr p O.NT_PDELAY_FAIL)) ∧
       t.main.out.frame = some (p, peerMessage 2 0 0 p ((s.main.pd p).seqId + 1) (List.replicate 10 0)))) ∧
     (∀ (rx : Instant) (g : PdelayMsg), (s.main.pd p).waiting = true → (s.main.pd p).seqId = g.seqId →
       (g.twoStep = false → Completes (.pdelayResp port rx g) s (fun t => (t.main.pd p).waiting = false ∧
         (let d := meanDelay (s.main.pd p).sent (s.main.rxStamp p rx) g.correction
          (t.main.pd p).results = (d :: (s.main.pd p).results).take 8 ∧
          ((s.main.pd p).results = [] → 0 ≤ d → t.main.obj (ntAddr p O.NT_PDELAY) = d.toNat % 2 ^ 72)))) ∧
       (g.twoStep = true → Completes (.pdelayResp port rx g) s (fun t => (t.main.pd p).waiting = true ∧
         (t.main.pd p).recv = some (s.main.rxStamp p rx, g.reqReceipt, g.correction)))) ∧
     (∀ (sq : BitVec 16) (o c t4 receipt corr : Int), (s.main.pd p).recv = some (t4, receipt, corr) →
       (s.main.pd p).waiting = true → (s.main.pd p).seqId = sq → Completes (.pdelayRespFollowUp port sq o c) s (fun t =>
         (t.main.pd p).waiting = false ∧ (t.main.pd p).results =
           (meanDelay (s.main.pd p).sent t4 (o - receipt + corr + c) :: (s.main.pd p).results).take 8)))) ∧
  (∀ s : State, s.main.obj (ntAddr 0 O.NT_SYNC_MODE) = 0 → s.main.lost = true →
    (s.main.syncState = 1 ∨ s.main.syncState = 2 ∨ s.main.syncState = 4) → Completes .masterLoss s (fun t =>
      t.main.syncState = 3 ∧ t.main.tb = { s.main.tb with inc := s.main.objW (ntAddr 0 O.NT_FREQ_EST) } ∧
      t.main.obj (ntAddr 0 O.NT_LOSS_COUNT) = (s.main.obj (ntAddr 0 O.NT_LOSS_COUNT) + 1) % 2 ^ 36)) ∧
  (∀ (v : Nat) (s : State), s.main.tb.step = some (true, (v : Int)) → v < 2 ^ 72 →
    (s.main.tb.running = true → s.main.stepAllowed = true → Completes .timeStep s (fun t => t.main.now = v ∧
      t.main.tb.slotDue = v ∧ t.main.tb.step = none ∧ t.main.tb.inc = s.main.tb.inc ∧
      t.main.tb.acc.toNat % 2 ^ 30 = (s.main.tb.edges (s.main.tb.edgesTo s.main.tb.slotDue)).acc.toNat % 2 ^ 30)) ∧
    (s.main.stepAllowed = false → Completes .timeStep s (fun t =>
      t = { s with main := { s.main with out := {}, tb := { s.main.tb with step := none } } })))

/-! ### Virtual masters, events and actions -/

/-- R367, R368: a received segment waits for a slot boundary. There one in the future is queued behind the earlier ones and takes the others' place, a late one into an
empty master takes over at once without a merge. The first queued segment takes over at its T_START. A master in RUN whose
segment has ended with none queued goes to OVERRUN, after CM_VM_GRACE to RUNOUT, which is counted, and at the end of the
ramp to EMPTY, or WAIT with a segment queued. -/
def Obligations.MastersFollowTheirSegments : Prop :=
  ∀ (v : Fin 16) (g : Segment) (s : State),
    (let x := s.main.vmst v
     (∀ t0, x.placing = [(t0, g)] →
       (slotStart s.main.now ≤ t0 → Completes (.segmentPlace v) s (fun t => t = { s with main := { s.main with out := {}, vm := t.main.vm } } ∧
         ∀ k, t.main.vmst k = s.main.vmst k)) ∧
       (t0 < slotStart s.main.now →
         ((x.st = 0 ∨ x.st = 1) → (∀ q ∈ x.queue, g.tStart ≤ q.tStart) → slotStart s.main.now < g.tStart →
           Completes (.segmentPlace v) s (fun t => t.main.vmst v = { x with queue := [g], placing := [], st := 1 } ∧
             t.main.objs = s.main.objs ∧ ∀ k, k ≠ v.val → t.main.vmst k = s.main.vmst k)) ∧
         (x.st = 0 → x.queue = [] → g.tStart ≤ slotStart s.main.now → Completes (.segmentPlace v) s (fun t =>
           (t.main.vmst v).st = 2 ∧ (t.main.vmst v).placing = [] ∧ t.main.objI (cmAddr v O.CM_VM_MERGE_LAST) = 0 ∧
           ∃ f, (t.main.vmst v).force = some f ∧ f.raw = g.raw ∧ f.delta = 0 ∧ f.tHand = slotStart s.main.now)))) ∧
     (∀ rest, x.queue = g :: rest → g.tStart ≤ s.main.now → x.st ≠ 4 → Completes (.segmentTakeover v) s (fun t =>
       (t.main.vmst v).st = 2 ∧ (t.main.vmst v).queue = rest ∧
       ∃ f, (t.main.vmst v).force = some f ∧ f.raw = g.raw ∧ f.tHand = g.tStart)) ∧
     (x.st = 2 → x.force = some g → g.tEnd ≠ 0 → g.tEnd ≤ s.main.now → x.queue = [] → Completes (.masterOverrun v) s (fun t =>
       t.main.vmst v = { x with st := 3, overT := max g.tEnd g.tHand } ∧ t.main.objs = s.main.objs)) ∧
     (∀ due, due = x.overT + s.main.obj (cmAddr v O.CM_VM_GRACE) * unitsPerMs → x.st = 3 → x.queue = [] → due ≤ s.main.now →
       s.main.now ≤ due + unitsPerSlot →
       Completes (.masterRunout v) s (fun t => (t.main.vmst v).st = 4 ∧ (t.main.vmst v).outT = due ∧
         t.main.obj (cmAddr v O.CM_VM_RUNOUT_COUNT) = (s.main.obj (cmAddr v O.CM_VM_RUNOUT_COUNT) + 1) % 2 ^ 36)) ∧
     (x.st = 4 → s.main.runoutEnd v ≤ s.main.now → Completes (.masterEmpty v) s (fun t =>
       (t.main.vmst v).st = (if x.queue = [] then 0 else 1) ∧ (t.main.vmst v).force = none)))

/-- R374, R375, R377, R379, R382: an EVT input that has shown a new level for fewer than EV_EVT_FILT_N samples changes nothing,
nor does one that shows the level it had; the edge that the filter accepts sets its level and awaits capture in a unit armed once
for it. The capture
of an edge with no target holds the time alone: the ring, EV_LT_LAST and EV_LT_COUNT follow and the unit disarms. One with
an axis in FB_MODE 0 as target fails: NOT_DEFINED, and no count. -/
def Obligations.EdgesAndCaptures : Prop :=
  (∀ (src : Fin 16) (level : Bool) (raw : Instant) (s : State),
    (raw.ago < s.main.obj (evAddr 0 (O.EV_EVT_FILT_N + src)) ∨ s.main.ev.levels.getLsbD src = level) →
    Completes (.eventEdge src level raw) s (fun t => t = { s with main := { s.main with out := {} } })) ∧
  (∀ (src : Fin 16) (level : Bool) (raw : Instant) (u : Fin 32) (t0 : Nat) (s : State),
    (let t' := s.main.tb.stampOf raw - s.main.obj (evAddr 0 (O.EV_SRC_DLY + src))
     s.main.obj (evAddr 0 (O.EV_EVT_FILT_N + src)) ≤ raw.ago → s.main.ev.levels.getLsbD src ≠ level → s.main.obj (evAddr u O.EV_LT_SRC) = 4096 + src → (s.main.obj (evAddr u O.EV_LT_EDGE)).testBit (if level then 0 else 1) = true →
     s.main.obj (evAddr u O.EV_LT_MODE) = 1 → (s.main.lt u).waiting = [] → (s.main.lt u).armed = some t0 → t0 ≤ t' →
     s.main.mittenClosed 0x1000 = false → Completes (.eventEdge src level raw) s (fun t =>
       t.main.ev.levels.getLsbD src = level ∧
       (t.main.lt u).waiting = [{ t := t', level := level }] ∧
       t.main.ev.entries = s.main.ev.entries ∧ t.main.field = s.main.field))) ∧
  (∀ (u : Fin 32) (e : LatchEdge) (s : State), earliest (s.main.lt u).waiting = some e →
    (s.main.obj (evAddr u O.EV_LT_TGT) = 0 → s.main.obj (evAddr u O.EV_LT_NETSEND) = 0 →
      16 ≤ s.main.obj (evAddr u O.EV_LT_RULE) → Completes (.latchCapture u) s (fun t =>
        ObjsBut s.main t.main [evAddr u O.EV_LT_COUNT] ∧
        t = { s with main := { s.main with out := {}, objs := t.main.objs,
                                           ev := { s.main.ev with latches := t.main.ev.latches } } } ∧
        t.main.obj (evAddr u O.EV_LT_COUNT) = (s.main.obj (evAddr u O.EV_LT_COUNT) + 1) % 2 ^ 36 ∧
        (t.main.lt u).last = [0, wordN e.t] ∧ (t.main.lt u).armed = none ∧
        (t.main.lt u).ring.getLast? = some [wordN (e.t / 2 ^ 36), wordN e.t, 0, 0] ∧ (t.main.lt u).ring.length ≤ 16 ∧
        (t.main.lt u).waiting = (s.main.lt u).waiting.erase e ∧ (∀ k, k ≠ u.val → t.main.lt k = s.main.lt k))) ∧
    (∀ a : Ax, s.main.obj (evAddr u O.EV_LT_TGT) = 256 + a → s.main.obj (fbAddr a O.FB_MODE) = 0 →
      Completes (.latchCapture u) s (fun t => (t.main.obj (evAddr u O.EV_LT_FLAGS)).testBit 1 = true ∧
        ObjsBut s.main t.main [evAddr u O.EV_LT_FLAGS] ∧ (t.main.lt u).ring = (s.main.lt u).ring)))

/-- R392, R395-R399, R440, R445: an entry with its fire time reached, in its turn, that sets or clears its channel commands
it where no later command of that instant supersedes it, or with IO_LINK not 2 counts a dropped command, ends DONE and is counted; the pulse on the channel, if one is pending, is
cancelled. The pending off of a pulse ends its entry and, unless the link was lost meanwhile, switches its channel off. A
crossing entry that has not fallen due by the slot boundary at EXPIRE becomes EXPIRED, counted. An overdue entry runs with LATE_RUN. (What EV_DONE_COUNT counts is the
model's reading, log 81.) -/
def Obligations.ActionsRun : Prop :=
  ∀ (e : Fin 1024) (s : State),
    (let a := s.main.act e
     let c := fld (a.words.getD 6 0) 15 0
     let kind := fld (a.words.getD 0 0) 31 28
     (∀ t0, a.fire = some t0 → (a.st = 1 ∨ a.st = 2) → a.overdue = false → t0 ≤ s.main.now → (kind = 1 ∨ kind = 2) →
       s.main.itsTurn (s.main.tb.edgeOf t0) (1 + e) = true → s.main.superseded (s.main.tb.edgeOf t0) (1 + e) c = false →
       s.main.brakeAxis c = none → Completes (.actionFire e) s (fun t => (t.main.act e).st = 4 ∧ (t.main.act e).word1 = wordN t0 ∧
         (t.main.act e).lateRun = false ∧ (mget (0, 0) t.main.ev.pulses c).2 = 0 ∧
         t.main.obj (evAddr 0 O.EV_DONE_COUNT) = (s.main.obj (evAddr 0 O.EV_DONE_COUNT) + 1) % 2 ^ 36 ∧
         (s.main.field.link = 2 → t.main.out.field = [(c, kind == 1)] ∧ t.main.obj (ioAddr c O.IO_OUT) = b2n (kind == 1)) ∧
         (s.main.field.link ≠ 2 → t.main.obj (ioAddr 0 O.IO_CMD_DROPPED) =
           (s.main.obj (ioAddr 0 O.IO_CMD_DROPPED) + 1) % 2 ^ 36))) ∧
     (∀ due, a.dueAt = some due → a.overdue = true → due ≤ s.main.now → (kind = 1 ∨ kind = 2) →
       s.main.itsTurn (s.main.tb.edgeOf due) (1 + e) = true → s.main.brakeAxis c = none →
       Completes (.overdueExecute e) s (fun t => (t.main.act e).st = 4 ∧
       (t.main.act e).lateRun = true ∧ (t.main.act e).overdue = false ∧ (t.main.act e).word1 = wordN (slotStart s.main.now))) ∧
     ((a.st = 1 ∨ a.st = 2) → a.overdue = false → (∀ t0, a.fire = some t0 → slotStart s.main.now < t0) →
       e.val ∉ s.main.ev.moves → fld (a.words.getD 0 0) 35 32 ≠ 0 → ext2 a.words 4 ≠ 0 → ext2 a.words 4 ≤ slotStart s.main.now →
       Completes (.actionExpire e) s (fun t => (t.main.act e).st = 6 ∧ (t.main.act e).result = 0x82 ∧
         (t.main.act e).charged = false ∧ (t.main.act e).fire = none ∧ (∀ k, k ≠ e.val → t.main.act k = s.main.act k) ∧
         t.main.obj (evAddr 0 O.EV_EXPIRED_COUNT) = (s.main.obj (evAddr 0 O.EV_EXPIRED_COUNT) + 1) % 2 ^ 36 ∧
         ObjsBut s.main t.main [evAddr 0 O.EV_EXPIRED_COUNT])) ∧
     (∀ (ch : Fin 32) (t0 : Nat), mget (0, 0) s.main.ev.pulses ch = (e.val, t0 + 1) → t0 ≤ s.main.now →
       s.main.itsTurn (s.main.tb.edgeOf t0) 0 = true → Completes (.pulseOff ch) s (fun t => (t.main.act e).st = 4 ∧ (mget (0, 0) t.main.ev.pulses ch).2 = 0 ∧
         (s.main.field.link = 2 → (s.main.fc ch).offDead = false → s.main.brakeAxis ch = none →
           s.main.superseded (s.main.tb.edgeOf t0) 0 ch = false → (t.main.fc ch).cmd = false ∧ t.main.obj (ioAddr ch O.IO_OUT) = 0))))

/-! ### Slot boundary, ends of long operations, the field die -/

/-- R420, R494, R558: with the time base not running there is no slot boundary. A boundary completes for every state: it
leaves the queue and the safety die as they were, and no acquisition unit is left in POST with its post part full. -/
def Obligations.SlotBoundaryEndsFullPostParts : Prop :=
  ∀ (x : SlotIn) (s : State),
    (s.main.tb.running = false → Completes (.slotBoundary x) s (fun t => t = { s with main := s.start })) ∧
    (s.main.tb.running = true → Completes (.slotBoundary x) s (fun t => t.pending = s.pending ∧ t.safety = s.safety ∧
      ∀ u : Fin 8, (t.main.aqu u).st = 3 →
        (t.main.aqu u).post.length < t.main.obj (aqAddr u O.AQ_DEPTH) - t.main.obj (aqAddr u O.AQ_PRE)))

/-- R101, R104, R363, R423: the end of an operation. One that does not run, or is paused, does not end. A readout is done
with its first result record of ten words. A cam commit that has run for 10 s fails with 0x05, one with a bad header with
0x80, and changes no table; a good one makes the image the table's next version. -/
def Obligations.LongOperationsEnd : Prop :=
  (∀ (k : Fin 139) (how : OpEnd) (s : State), ((s.main.lop k).busy = false ∨ (s.main.lop k).paused = true) →
    Completes (.longOperationEnd k how) s (fun t => t = { s with main := s.start })) ∧
  (∀ (u : Fin 8) (rs : List (List Word)) (s : State), (s.main.lop (opAQ u)).busy = true → (s.main.lop (opAQ u)).paused = false →
    (s.main.lop (opAQ u)).kind = 6 → (s.main.lop (opAQ u)).result = [] →
    Completes (.longOperationEnd ⟨128 + u.val, by omega⟩ (.done rs)) s (fun t =>
      t = { s with main := { s.main with out := {}, op := t.main.op, fresh := t.main.fresh } } ∧
      (t.main.lop (opAQ u)).finished = true ∧ (t.main.lop (opAQ u)).busy = false ∧ (t.main.lop (opAQ u)).prog = 1000 ∧
      ((t.main.lop (opAQ u)).result.headD []).length = 10 ∧ ∀ k, k ≠ opAQ u → t.main.lop k = s.main.lop k)) ∧
  (∀ (rs : List (List Word)) (s : State), (s.main.lop opCM).busy = true → (s.main.lop opCM).paused = false →
    (s.main.lop opCM).kind = 4 →
    (let tb := (s.main.lop opCM).param
     let base := s.main.obj (cmAddr tb O.CM_TAB_BASE)
     let n := (s.main.camHead base).words
     let failed := fun (t : State) (code : Nat) =>
       t = { s with main := { s.main with out := {}, op := t.main.op } } ∧ (t.main.lop opCM).failed = true ∧
       (t.main.lop opCM).err = code ∧ (t.main.lop opCM).busy = false ∧ (t.main.lop opCM).prog = (s.main.lop opCM).prog
     (s.main.tb.running = true → 10000 * unitsPerMs ≤ (s.main.lop opCM).ranFor s.main.now →
       Completes (.longOperationEnd ⟨137, by omega⟩ (.fail 5 rs)) s (fun t => failed t 5)) ∧
     (s.main.opLate opCM = false → s.main.camHeaderBad base = true → Completes (.longOperationEnd ⟨137, by omega⟩ (.done rs)) s (fun t => failed t 0x80)) ∧
     (s.main.opLate opCM = false → s.main.camHeaderBad base = false → base + n ≤ 1048576 → s.main.camTouches base n = false →
       crcWords ((List.range (n - 4)).map (fun k => s.main.camW (base + 4 + k))) = fld (s.main.camW (base + 3)) 31 0 →
       (s.main.tab tb).retained = none → Completes (.longOperationEnd ⟨137, by omega⟩ (.done rs)) s (fun t =>
         (t.main.tab tb).ver = (s.main.tab tb).ver + 1 ∧ (t.main.tab tb).base = base ∧ (t.main.tab tb).words = n ∧
         (∀ k, k ≠ tb → t.main.tab k = s.main.tab k) ∧ (t.main.lop opCM).finished = true ∧
         (t.main.lop opCM).busy = false))))

/-- R427, R436, R449: the link of the field die. Lost, it is counted, and every output is off with IO_OUT 0; returned, it is
configured; acknowledged, it is up and every channel takes the level then present. Field reach counts, holds every output
off and the link down until its release. (With no homing in progress. IO_OUT of brake outputs: log 92.) -/
def Obligations.FieldLinkAndReach : Prop :=
  ∀ s : State, s.main.noHoming →
    (s.main.field.link ≠ 0 → Completes .barrierLinkLoss s (fun t => t.main.field.link = 0 ∧
      t.main.obj (ioAddr 0 O.IO_LINK_LOSS_COUNT) = (s.main.obj (ioAddr 0 O.IO_LINK_LOSS_COUNT) + 1) % 2 ^ 36 ∧
      ∀ c : Fin 32, s.main.isOut c = true → (t.main.fc c).cmd = false ∧ t.main.obj (ioAddr c O.IO_OUT) = 0)) ∧
    (s.main.field.link = 0 → s.main.field.reach = false → s.main.mittenClosed 0x3000 = false →
      Completes .barrierLinkReturn s (fun t =>
        t = { s with main := { s.main with out := {}, field := { s.main.field with link := 1 } } })) ∧
    (∀ levels : BitVec 32, s.main.field.link = 1 → Completes (.barrierConfigAck levels) s (fun t => t.main.field.link = 2 ∧
      ∀ c : Fin 32, (t.main.fc c).level = levels.getLsbD c ∧ (t.main.fc c).cmd = (s.main.fc c).cmd)) ∧
    (s.main.field.reach = false → Completes .fieldIoReach s (fun t => t.main.field.reach = true ∧ t.main.field.link = 0 ∧
      t.main.obj (ioAddr 0 O.IO_FIELD_RESETS) = (s.main.obj (ioAddr 0 O.IO_FIELD_RESETS) + 1) % 2 ^ 36 ∧
      ∀ c : Fin 32, (t.main.fc c).cmd = false)) ∧
    Completes .fieldIoReachRelease s (fun t =>
      t = { s with main := { s.main with out := {}, field := { s.main.field with reach := false } } })

/-- R429, R434, R436, R441-R444, R446, R448: the channels. A level the comparator has not yet
held for IO_IN_FILT microseconds changes nothing. A change of level with the link up is an edge, counted; with it
down there is none. Wire break, readback error, short, overtemperature and open load set their bit under their
conditions, and the ones R444 names raise BRAKE on the axis whose brake the output is; open load, wire break, demagnetisation
and undervoltage end. -/
def Obligations.FieldChannelsReport : Prop :=
  ∀ (ch : Fin 32) (s : State),
    (let f := s.main.fc ch
     let only := fun (t : State) (g : FieldCh) =>
       t = { s with main := { s.main with out := {}, field := { s.main.field with chans := t.main.field.chans } } } ∧
       t.main.fc ch = g ∧ ∀ k, k ≠ ch.val → t.main.fc k = s.main.fc k
     let braked := fun t : State => ∀ a, s.main.brakeAxis ch = some a → (t.main.i a).core.raised.testBit cBrake = true
     (∀ level (arrival : FieldArrival), (arrival.held = 0 ∨ arrival.held * 20 < s.main.obj (ioAddr ch O.IO_IN_FILT) * 1000) →
       Completes (.fieldInputChange ch level arrival) s (fun t => t = { s with main := { s.main with out := {} } })) ∧
     (∀ level (arrival : FieldArrival), 0 < arrival.held → s.main.obj (ioAddr ch O.IO_IN_FILT) * 1000 ≤ arrival.held * 20 →
       s.main.field.link ≠ 2 → Completes (.fieldInputChange ch level arrival) s (fun t =>
         t = { s with main := { s.main with out := {} } })) ∧
     (∀ level (arrival : FieldArrival), 0 < arrival.held → s.main.obj (ioAddr ch O.IO_IN_FILT) * 1000 ≤ arrival.held * 20 →
       s.main.field.link = 2 → f.level ≠ level → s.main.noHoming →
       Completes (.fieldInputChange ch level arrival) s (fun t => (t.main.fc ch).level = level ∧
         t.main.ev.levels.getLsbD (16 + ch) = level ∧
         t.main.obj (ioAddr ch O.IO_EDGE_COUNT) = (s.main.obj (ioAddr ch O.IO_EDGE_COUNT) + 1) % 2 ^ 36)) ∧
     (s.main.obj (ioAddr ch O.IO_WB_EN) ≠ 0 → s.main.field.link = 2 → s.main.noHoming →
       (∀ held, held * 20 < s.main.obj (ioAddr ch O.IO_WB_T) * 1000000 → Completes (.wireBreak ⟨ch, held⟩) s (fun t =>
         t = { s with main := { s.main with out := {} } })) ∧
       ∀ held, s.main.obj (ioAddr ch O.IO_WB_T) * 1000000 ≤ held * 20 → Completes (.wireBreak ⟨ch, held⟩) s (fun t =>
       t.main.fc ch = { f with wb := true } ∧ t.main.inst = s.main.inst ∧ ObjsBut s.main t.main [ioAddr ch O.IO_DIAG_LATCH])) ∧
     Completes (.wireBreakEnd ch) s (fun t => only t { f with wb := false, levT := if f.wb then s.main.now else f.levT }) ∧
     (s.main.isOut ch = true → s.main.field.link = 2 →
       (f.demag = false → f.short = false → f.hot = false → f.level ≠ f.cmd →
          f.rbT + s.main.obj (ioAddr ch O.IO_RB_T) * unitsPerMs ≤ s.main.now → Completes (.readbackError ch) s (fun t =>
         (t.main.fc ch).rb = true ∧ braked t)) ∧
       (∀ held, 10000 ≤ held → f.cmd = true → Completes (.outputShort ⟨ch, held⟩) s (fun t => t.main.fc ch = { f with short := true } ∧ braked t)) ∧
       (f.cmd = true → Completes (.outputOvertemp ch) s (fun t => t.main.fc ch = { f with hot := true } ∧ braked t)) ∧
       (∀ held, 2500000 ≤ held → f.cmd = true → f.short = false → f.hot = false → s.main.obj (ioAddr ch O.IO_OL_EN) ≠ 0 →
         Completes (.openLoad ⟨ch, held⟩) s (fun t => t.main.fc ch = { f with ol := true } ∧ t.main.inst = s.main.inst))) ∧
     Completes (.openLoadEnd ch) s (fun t => only t { f with ol := false }) ∧
     (f.demag = true → Completes (.demagEnd ch) s (fun t => only t { f with demag := false, rbT := s.main.now })) ∧
     (∀ mv : Nat,
       (mv ≤ 17000 → Completes (.fieldUndervoltage mv) s (fun t =>
         t = { s with main := { s.main with out := {}, field := { s.main.field with uv := true } } })) ∧
       (17500 < mv → Completes (.fieldUndervoltageEnd mv) s (fun t =>
         t = { s with main := { s.main with out := {}, field := { s.main.field with uv := false } } }))))

/-! ### The safety die -/

/-- R454-R458, R467, R471: field reach takes the safety die to its start; its release reads the switches and starts the
self-test. At its end an invalid configuration is FAULT with SEAL, manual restart leaves both zones in STO, automatic restart
takes a zone that has been without a demand for 100 ms to RUN. A switch that reads differently later is FAULT with SEAL. -/
def Obligations.SafetyConfigurationIsRead : Prop :=
  ∀ (l : List SealRead) (s : State),
    (let d := s.safety
     Completes .safetyFieldReach s (fun t => t = { s with safety := { held := true } }) ∧
     (d.held = true → Completes (.safetyFieldReachRelease l) s (fun t => t = { s with safety :=
       { cfg := { sw := switchValues l, invalid := switchInvalid l }, nowInvalid := switchInvalid l } })) ∧
     (d.held = false → d.testing = true → d.fault = .none → Completes .safetySelfTestEnd s (fun t =>
       t.main = s.main ∧ t.safety.testing = false ∧
       (d.cfgInvalid = true → t.safety.fault = .seal ∧ t.safety.zone0.st = .fault ∧ t.safety.zone1.st = .fault) ∧
       (d.cfgInvalid = false → d.sw 11 = true → t.safety.fault = .none ∧ t.safety.zone0.st = .sto ∧ t.safety.zone1.st = .sto) ∧
       (d.cfgInvalid = false → d.sw 11 = false → ∀ z : Fin 2, (t.safety.zone z).st =
         (if (d.zone z).quiet = true ∧ d.zoneDemand z = false then .run else .sto)))) ∧
     (d.held = false → Completes (.sealRead l) s (fun t => t.main = s.main ∧ t.safety.cfg = d.cfg ∧
       (if switchValues l ≠ d.cfg.sw ∨ switchInvalid l ≠ d.cfg.invalid then
          t.safety.zone0.st = .fault ∧ t.safety.zone1.st = .fault ∧ t.safety.fault = (if d.fault = .none then .seal else d.fault)
        else t.safety = { d with nowInvalid := switchInvalid l }))))

/-- R459, R460-R462, R467-R469: a channel of a used input, or of the chain input, that demands in RUN takes its zone to STO,
gauntlets open and the signal acting, or with SW8 to SS1, and is counted; in two zones SI2 leaves zone 0 as it was. A level
that has not stood for the channel filter time is ignored. Channels of an input that have differed for t_d latch its discrepancy,
sooner they do not. The SS1 delay, and no less, ends in STO. -/
def Obligations.DemandsStopTheirZone : Prop :=
  (∀ (i : SafeIn) (chB : Bool) (held us : Nat) (s : State), s.safety.held = false → s.safety.sw 11 = false →
    (i = .chain ∨ ∃ n, i = .si n ∧ s.safety.sw n = true) →
    (if chB then (s.safety.inp i).b else (s.safety.inp i).a) = false →
    (let now := max s.safety.clock us
     (held < 1000 → Completes (.safetyChannelChange i chB ⟨true, held⟩ us) s (fun t => t.main = s.main ∧
       t.safety = { s.safety with clock := now })) ∧
     (1000 ≤ held → s.safety.sw 4 = false → s.safety.zone0.st = .run → s.safety.zone1 = s.safety.zone0 →
       Completes (.safetyChannelChange i chB ⟨true, held⟩ us) s (fun t => t.main = s.main ∧ t.safety.zone1 = t.safety.zone0 ∧
         t.safety.demands = s.safety.demands + 1 ∧
         (s.safety.sw 8 = true → t.safety.zone0 = { s.safety.zone0 with st := .ss1, ss1T := now, freeT := now }) ∧
         (s.safety.sw 8 = false → t.safety.zone0.st = .sto ∧ t.safety.zone0.closed = false ∧ t.safety.zone0.signal = true ∧
           t.safety.zone0.releasing = false))) ∧
     (1000 ≤ held → s.safety.sw 4 = true → i = .si 2 → s.safety.zoneDemand 0 = false → s.safety.zone1.st = .run →
       Completes (.safetyChannelChange i chB ⟨true, held⟩ us) s (fun t => t.safety.zone0 = s.safety.zone0 ∧
         t.safety.zone1.st = (if s.safety.sw 8 then .ss1 else .sto) ∧ t.safety.demands = s.safety.demands + 1)))) ∧
  (∀ (i : SafeIn) (us : Nat) (s : State), s.safety.held = false → s.safety.monitored i = true →
    (s.safety.inp i).a ≠ (s.safety.inp i).b →
    ((s.safety.inp i).chgT + s.safety.discMs * 1000 ≤ us → Completes (.discrepancyFault ⟨i, us⟩) s (fun t => t.main = s.main ∧
      (t.safety.inp i).latched = true ∧ t.safety.discs = s.safety.discs + (if (s.safety.inp i).latched then 0 else 1))) ∧
    (us < (s.safety.inp i).chgT + s.safety.discMs * 1000 → s.safety.clock ≤ us →
      Completes (.discrepancyFault ⟨i, us⟩) s (fun t => t.main = s.main ∧ t.safety = { s.safety with clock := us }))) ∧
  (∀ (z : Fin 2) (us : Nat) (s : State), s.safety.held = false → (s.safety.zone z).st = .ss1 →
    ((s.safety.zone z).ss1T + s.safety.ss1Ms * 1000 ≤ us → Completes (.ss1DelayEnd ⟨z, us⟩) s (fun t => t.main = s.main ∧
      (t.safety.zone z).st = .sto ∧ (t.safety.zone z).closed = false ∧ (t.safety.zone z).signal = true ∧
      t.safety.demands = s.safety.demands + 1)) ∧
    (us < (s.safety.zone z).ss1T + s.safety.ss1Ms * 1000 → s.safety.clock ≤ us →
      Completes (.ss1DelayEnd ⟨z, us⟩) s (fun t => t.main = s.main ∧ t.safety = { s.safety with clock := us })))

/-- R466, R470, R471, R473-R475, R478, R480: 100 ms without a demand, and no less, restarts a zone in STO, its signal withdrawn
20 ms later; a failed test of chain output or gauntlet, a gauntlet 1 ms at its current limit, a readback that does not follow
and an internal fault put both zones in FAULT, the first cause standing; a test passed changes nothing. A status frame shows the
zones in the SF_ objects, one missing for 5 ms clears SF_LINK only. -/
def Obligations.RestartsFaultsAndStatus : Prop :=
  (∀ (z : Fin 2) (us : Nat) (s : State), s.safety.held = false → s.safety.clock ≤ us →
    (s.safety.sw 11 = false → s.safety.zoneDemand z = false → s.safety.fault = .none → (s.safety.zone z).st = .sto →
      (us < (s.safety.zone z).freeT + 100000 → Completes (.autoRestart ⟨z, us⟩) s (fun t => t.main = s.main ∧
        t.safety = { s.safety with clock := us })) ∧
      ((s.safety.zone z).freeT + 100000 ≤ us → Completes (.autoRestart ⟨z, us⟩) s (fun t => t.main = s.main ∧
        t.safety.zone z = { s.safety.zone z with st := .run, closed := true, releasing := true, quiet := false, gtT := us }))) ∧
    ((s.safety.zone z).releasing = true → (s.safety.zone z).gtT + 20000 ≤ us →
      Completes (.safeLevelReleaseDelay ⟨z, us⟩) s (fun t => t.main = s.main ∧
        t.safety.zone z = { s.safety.zone z with signal := false, releasing := false }))) ∧
  (∀ (c : Instr) (f : UnitFault) (g : Fin 8) (b : Bool) (us : Nat) (s : State), s.safety.held = false →
    ((c = .chainTestPulse b false ∧ s.safety.chainOut = false ∧ f = .chainOut) ∨
     (c = .gauntletTestPulse g b false ∧ s.safety.gtClosed g = true ∧ f = .gauntlet) ∨
     (c = .gauntletReadbackCheck ⟨g, us⟩ false ∧ ((s.safety.gtZone g).closed = true ∨ (s.safety.gtZone g).gtT + 20000 ≤ us) ∧
       f = .gauntlet) ∨
     (c = .gauntletCurrentLimit ⟨g, us⟩ ∧ 1000 ≤ us ∧ s.safety.gtClosed g = true ∧ f = .gauntlet) ∨
     (c = .safetyInternalFault ∧ f = .internal) ∨ (c = .chainOutReadbackFault ∧ f = .chainOut)) →
    Completes c s (fun t => t.main = s.main ∧ t.safety.zone0 = s.safety.zone0.toFault t.safety.clock ∧
      t.safety.zone1 = s.safety.zone1.toFault t.safety.clock ∧
      t.safety.fault = (if s.safety.fault = .none then f else s.safety.fault))) ∧
  (∀ (c : Instr) (g : Fin 8) (b : Bool) (us : Nat) (s : State), us ≤ s.safety.clock →
    (c = .chainTestPulse b true ∨ c = .gauntletTestPulse g b true ∨ c = .gauntletReadbackCheck ⟨g, us⟩ true) →
    Completes c s (fun t => t = s)) ∧
  (∀ s : State, (s.safety.held = false → Completes .safetyStatusFrame s (fun t => t.safety = s.safety ∧
      t.main.obj (sfAddr 0 O.SF_ZONE_STATE) = s.safety.zone0.st.code ∧
      t.main.obj (sfAddr 1 O.SF_ZONE_STATE) = s.safety.zone1.st.code ∧
      t.main.obj (sfAddr 0 O.SF_FAULT) = s.safety.fault.code ∧ t.main.obj (sfAddr 0 O.SF_LINK) = 1 ∧
      t.main.inst = s.main.inst)) ∧
    (s.main.now < s.main.sfT + 5 * unitsPerMs → Completes .safetyStatusTimeout s (fun t =>
      t = { s with main := { s.main with out := {} } })) ∧
    (s.main.sfT + 5 * unitsPerMs ≤ s.main.now → Completes .safetyStatusTimeout s (fun t =>
      ObjsOnly s t [sfAddr 0 O.SF_LINK] ∧ t.main.obj (sfAddr 0 O.SF_LINK) = 0)))

/-! ### Reset and boot -/

/-- R482, R483, R485, R486: every source that can assert holds core reach, a module source module reach too: boot is at its
first step, time base, fabric, sessions, owners, instances and the lock are cleared; straps, cause and RS_EPISODES stand, the
try counts are cleared by module reach only, and the safety die sees nothing. The episode takes the source in.

R487, R488, R492: a source that releases is no longer among those asserted. Module reach releases once no module source
asserts, and samples the straps; core reach releases once module reach has and no source asserts: RS_CAUSE takes the code of
a source of the episode, of widest reach and first to assert among those, the lowest code at one instant; RS_EPISODES counts, from 0 in a POR episode, and boot begins. -/
def Obligations.ReachesHoldAndRelease : Prop :=
  (∀ (src : ResetSource) (s : State), s.main.resetReady src = true → Completes (resetCommand src) s (fun t =>
     t.safety = s.safety ∧ t.main.tb = {} ∧ t.main.fab = {} ∧ t.main.sess = [] ∧ t.main.owner = [] ∧ t.main.inst = [] ∧
     t.main.locked = false ∧ t.main.sup = { s.main.sup with
       coreHeld := true, moduleHeld := s.main.sup.moduleHeld || moduleSource src, asserted := addOnce src s.main.sup.asserted,
       clk := if s.main.sup.coreHeld then s.main.sup.clk else 0,
       episode := if s.main.sup.coreHeld then
           (if s.main.sup.episode.any (fun p => p.1 == src) then s.main.sup.episode
            else s.main.sup.episode ++ [(src, s.main.sup.clk)])
         else [(src, 0)],
       early := if s.main.sup.coreHeld then s.main.sup.early else !s.main.locked,
       tryA := if moduleSource src then 0 else s.main.sup.tryA, tryB := if moduleSource src then 0 else s.main.sup.tryB,
       boot := .trims, bypass := true, order := [], fwBank := none, fw := [], gen := 0, image := none,
       soft := none, mittens := [], mittenT := [] })) ∧
  ((∀ (src : ResetSource) (s : State), Completes (.resetSourceRelease src) s (fun t =>
     t = { s with main := { s.main with out := {}, sup := { s.main.sup with asserted := s.main.sup.asserted.erase src } } })) ∧
   (∀ (st : Straps) (s : State), s.main.sup.moduleHeld = true → s.main.sup.asserted.any moduleSource = false →
     Completes (.moduleReachRelease st) s (fun t =>
       t = { s with main := { s.main with out := {}, sup := { s.main.sup with moduleHeld := false, straps := st } } })) ∧
   (∀ s : State, s.main.sup.coreHeld = true → s.main.sup.moduleHeld = false → s.main.sup.asserted = [] →
     s.main.sup.episode ≠ [] → Completes .coreReachRelease s (fun t => t.safety = s.safety ∧ t.main.sup.coreHeld = false ∧ t.main.sup.episode = [] ∧
       t.main.sup.boot = .trims ∧ (∃ p ∈ s.main.sup.episode, t.main.sup.cause = sourceCode p.1 ∧
         (∀ q ∈ s.main.sup.episode, moduleSource q.1 = true → moduleSource p.1 = true) ∧
         (∀ q ∈ s.main.sup.episode, moduleSource q.1 = moduleSource p.1 → p.2 ≤ q.2 ∧
           (p.2 = q.2 → sourceCode p.1 ≤ sourceCode q.1))) ∧
       t.main.sup.straps = s.main.sup.straps ∧
       t.main.sup.episodes = (if s.main.sup.episode.any (fun p => p.1 == .por) then 1 else s.main.sup.episodes + 1) ∧
       t.main.locked = false ∧ t.main.tb = {})))

/-- R494, R495, R502-R504: the steps of boot. Trims read well within three reads go on with the banks, else HALT_TRIM. A bank
whose firmware passes is booted and its try counted, else the next in order is tried, with none left RECOVERY. The image is
used where it passes. The time base starts at 0, and with the configuration applied the lock is set and boot is in RUN. -/
def Obligations.BootSteps : Prop :=
  (∀ (n : Nat) (s : State), s.main.bootAt .trims = true → Completes (.trimsLoaded n) s (fun t =>
    (1 ≤ n → n ≤ 3 → t.main.sup.boot = .firmware ∧ t.main.sup.bypass = false) ∧
    ((n = 0 ∨ 3 < n) → t.main.sup.boot = .haltTrim ∧ t.main.sup.bypass = s.main.sup.bypass))) ∧
  (∀ s : State, s.main.bootAt .firmware = true →
    (s.main.sup.order = [] → Completes .firmwareVerified s (fun t => t.main.sup.boot = .recovery)) ∧
    (∀ b rest, s.main.sup.order = b :: rest → Completes .firmwareVerified s (fun t =>
      if fwWhy (s.main.bank b).fw s.main.sup.secVer = 0 then
        t.main.sup.boot = .config ∧ t.main.sup.fwBank = some b ∧ t.main.tries b = s.main.tries b + 1
      else t.main.sup.order = rest ∧ t.main.sup.fwBank = s.main.sup.fwBank ∧
        t.main.sup.boot = (if rest = [] then .recovery else .firmware)))) ∧
  (∀ (b : Bank) (s : State), s.main.bootAt .config = true → s.main.sup.fwBank = some b → Completes .configVerified s (fun t =>
    let why := imgWhy (s.main.bank b).cfg (fwRelease s.main.firmware)
    t.main.sup.boot = .timebase ∧ t.main.sup.image = (if why = 0 then some (s.main.bank b).cfg else none) ∧
    t.main.obj (cfAddr 0 O.CF_DEFAULTED) = (if why = 0 then 0 else 1))) ∧
  (∀ (x : Bool) (s : State), s.main.bootAt .timebase = true → Completes (.timeBaseStart x) s (fun t =>
    t.main.sup.boot = .apply ∧ t.main.tb.running = true ∧ t.main.now = 0 ∧ t.main.fab.frame = 0 ∧
    t.main.tb.inc = 0xA00000000 ∧ t.main.tb.refUsed = (if s.main.refSel = 1 ∧ x = true then 1 else 0))) ∧
  (∀ (us : Nat) (s : State), s.main.bootAt .apply = true → Completes (.configApplied us) s (fun t =>
    t.main.sup.boot = .run ∧ t.main.locked = true ∧ t.main.obj (rsAddr O.RS_BOOT_TIME) = us % 2 ^ 36))

/-- R489, R490: at the slot boundary after its request a mitten closes and its unit is reset: an acquisition unit is IDLE with
nothing recorded, an emulation output is at its start; the unit of an axis lane loses its trip state, its set and its port's
state, with HOMED and PW_COMM_VALID, and its axis takes UNIT_RESET where it has chains in the ledger; of the event unit every
live entry fails with UNIT_RESET and no pulse, move or edge awaits anything; the host port shows UNIT_RESET, and a peripheral
master is free, with the bytes it has received undefined. The hold ends 2 µs later, and at the slot boundary after that the mitten
opens; before its time none of the three does anything. -/
def Obligations.MittensMove : Prop :=
  (∀ (u : Fin 8) (s : State),
    (s.main.mittenDue (0x300 + u) 1 = true → Completes (.mittenClose (0x300 + u)) s (fun t =>
      mget 0 t.main.sup.mittens (0x300 + u) = 2 ∧ t.main.aqu u = {} ∧
      ((s.main.lop (opAQ u)).busy = true → (t.main.lop (opAQ u)).failed = true ∧ (t.main.lop (opAQ u)).err = 2))) ∧
    (s.main.mittenDue (0x800 + u) 1 = true → Completes (.mittenClose (0x800 + u)) s (fun t =>
      mget 0 t.main.sup.mittens (0x800 + u) = 2 ∧ t.main.eeo u = {}))) ∧
  (∀ (a : Ax) (s : State), s.main.mittenDue (0x100 + a) 1 = true → (s.main.lop a).busy = false →
    Completes (.mittenClose (0x100 + a)) s (fun t => mget 0 t.main.sup.mittens (0x100 + a) = 2 ∧
      t.main.ln a = { period := (s.main.ln a).period, shadow := (s.main.ln a).shadow } ∧
      t.main.pt a = { lines := (s.main.pt a).lines, newMode := (s.main.pt a).newMode } ∧ (t.main.i a).core.homed = false ∧
      t.main.obj (pwAddr a O.PW_COMM_VALID) = 0 ∧ t.main.obj (fbAddr a O.FB_POS) = 0 ∧
      ((s.main.i a).core.chains ≠ 0 → (t.main.i a).core.raised.testBit cUnitReset = true))) ∧
  (∀ s : State,
    (s.main.mittenDue 0x1000 1 = true → Completes (.mittenClose 0x1000) s (fun t =>
      (∀ e : Fin 1024, (s.main.act e).live = true → (t.main.act e).st = 7 ∧ (t.main.act e).result = aUnitReset ∧
        (t.main.act e).fire = none ∧ (t.main.act e).overdue = false) ∧ t.main.ev.pulses = [] ∧ t.main.ev.moves = [] ∧
      ∀ u : Fin 32, (t.main.lt u).waiting = [] ∧
        (s.main.obj (evAddr u O.EV_LT_MODE) = 1 → (t.main.lt u).armed = none))) ∧
    (s.main.mittenDue 0x2000 1 = true → Completes (.mittenClose 0x2000) s (fun t =>
      t.main.host = { reply := { status := aUnitReset } })) ∧
    (∀ n : Fin 2, s.main.mittenDue (0x2100 + 0x100 * n) 1 = true → Completes (.mittenClose (0x2100 + 0x100 * n)) s (fun t =>
      (t.main.psm n).busy = false ∧ (t.main.psm n).tx = (s.main.psm n).tx ∧
      (t.main.psm n).rx.length = (s.main.psm n).tx.length)) ∧
    (s.main.mittenDue 0x3000 1 = true → Completes (.mittenClose 0x3000) s (fun t => t.main.field.link = 0))) ∧
  (∀ (code : Nat) (s : State),
    (mget 0 s.main.sup.mittens code = 1 → mget 0 s.main.sup.mittenT code ≤ s.main.now → Completes (.mittenClose code) s (fun t =>
      mget 0 t.main.sup.mittens code = 2 ∧ mget 0 t.main.sup.mittenT code = mget 0 s.main.sup.mittenT code + 8000)) ∧
    (mget 0 s.main.sup.mittens code = 2 → mget 0 s.main.sup.mittenT code ≤ s.main.now → Completes (.mittenHoldEnd code) s (fun t =>
      t = { s with main := { s.main with
              out := {}, sup := { s.main.sup with mittens := t.main.sup.mittens, mittenT := t.main.sup.mittenT } } } ∧
      mget 0 t.main.sup.mittens code = 3 ∧ mget 0 t.main.sup.mittenT code = mget 0 s.main.sup.mittenT code + 32000)) ∧
    (mget 0 s.main.sup.mittens code = 3 → mget 0 s.main.sup.mittenT code ≤ s.main.now → Completes (.mittenOpen code) s (fun t =>
      mget 0 t.main.sup.mittens code = 0 ∧
      ∀ u, u ≠ code → mget 0 t.main.sup.mittens u = mget 0 s.main.sup.mittens u)) ∧
    (s.main.now < mget 0 s.main.sup.mittenT code → ∀ c ∈ [Instr.mittenClose code, .mittenHoldEnd code, .mittenOpen code],
      Completes c s (fun t => t = { s with main := { s.main with out := {} } })))
end

