-- ==== Sys2Proof/Laws/Map.lean ====
section
/-! SUPPORT. Sparse data: a read after a write, and that every operation keeps the canonical form. -/

namespace Sys2Proof.Machine

variable {α : Type}

theorem mget_merase (d : α) (l : Map α) (k j : Nat) :
    mget d (merase l k) j = if j = k then d else mget d l j := by
  induction l with
  | nil => simp [merase, mget]
  | cons p r ih =>
    obtain ⟨a, v⟩ := p
    by_cases h : a = k
    · subst h
      have e : merase ((a, v) :: r) a = merase r a := by simp [merase]
      rw [e, ih]
      by_cases hj : j = a
      · simp [hj]
      · have : a ≠ j := fun h => hj h.symm
        simp [hj, mget, this]
    · have e : merase ((a, v) :: r) k = (a, v) :: merase r k := by simp [merase, h]
      rw [e]
      by_cases hj : a = j
      · subst hj; simp [mget, h]
      · simp [mget, hj, ih]

theorem mget_mplace (d : α) (l : Map α) (k j : Nat) (v : α) :
    mget d (mplace k v l) j = if j = k then v else mget d l j := by
  have sym : ∀ x : α, (if k = j then v else x) = if j = k then v else x := fun x => by
    by_cases h : j = k
    · rw [if_pos h, if_pos h.symm]
    · rw [if_neg h, if_neg (fun e => h e.symm)]
  induction l with
  | nil => rw [mplace, mget, mget, mget, sym]
  | cons p r ih =>
    obtain ⟨a, w⟩ := p
    rw [mplace]
    split
    · rw [mget, sym]
    · split
      · rename_i _ h; subst h
        rw [mget, mget, sym]
        by_cases e : j = k
        · rw [if_pos e, if_pos e]
        · rw [if_neg e, if_neg e, if_neg (fun h => e h.symm)]
      · rename_i h1 h2
        rw [mget, mget, ih]
        by_cases h : a = j
        · subst h; rw [if_pos rfl, if_neg (fun e => h2 e.symm), if_pos rfl]
        · rw [if_neg h, if_neg h]

variable [DecidableEq α]

/-- A read after a write: the value written at its own key, the value before at every other. -/
theorem mget_mset (d : α) (l : Map α) (k j : Nat) (v : α) :
    mget d (mset d l k v) j = if j = k then v else mget d l j := by
  unfold mset
  split
  · rename_i h; rw [mget_merase]; simp [h]
  · exact mget_mplace d l k j v

@[simp] theorem mget_mset_same (d : α) (l : Map α) (k : Nat) (v : α) : mget d (mset d l k v) k = v := by
  simp [mget_mset]

theorem mget_mset_other (d : α) (l : Map α) (k j : Nat) (v : α) (h : j ≠ k) :
    mget d (mset d l k v) j = mget d l j := by
  simp [mget_mset, h]

/-- The same, read with any default. -/
theorem mget_mset_ne (d e : α) (l : Map α) (k j : Nat) (v : α) (h : j ≠ k) :
    mget e (mset d l k v) j = mget e l j := by
  unfold mset
  split
  · rw [mget_merase, if_neg h]
  · rw [mget_mplace, if_neg h]

/-- A change of the value at a key is seen at that key only. -/
theorem mget_mmod (d : α) (l : Map α) (k j : Nat) (f : α → α) :
    mget d (mmod d l k f) j = if j = k then f (mget d l k) else mget d l j :=
  mget_mset d l k j _

omit [DecidableEq α] in
@[simp] theorem mget_nil (d : α) (k : Nat) : mget d [] k = d := rfl

/-! ### The canonical form -/

/-- The canonical form as a property of the list: keys strictly rising, no entry at the default. -/
theorem mwf_iff (d : α) (l : Map α) :
    mwf d l = true ↔ l.Pairwise (fun p q => p.1 < q.1) ∧ ∀ p ∈ l, p.2 ≠ d := by
  induction l with
  | nil => simp [mwf]
  | cons p r ih =>
    obtain ⟨a, v⟩ := p
    cases r with
    | nil => simp [mwf]
    | cons q r =>
      obtain ⟨b, w⟩ := q
      simp only [mwf, Bool.and_eq_true, decide_eq_true_eq, ih, List.pairwise_cons, List.mem_cons]
      constructor
      · rintro ⟨⟨hab, hv⟩, ⟨hb, hr⟩, hd⟩
        refine ⟨⟨?_, hb, hr⟩, ?_⟩
        · rintro x (rfl | hx)
          · exact hab
          · exact Nat.lt_trans hab (hb x hx)
        · rintro x (rfl | hx)
          · exact hv
          · exact hd x hx
      · rintro ⟨⟨ha, hb, hr⟩, hd⟩
        exact ⟨⟨ha _ (.inl rfl), hd _ (.inl rfl)⟩, ⟨hb, hr⟩, fun x hx => hd x (.inr hx)⟩

theorem mwf_merase (d : α) (l : Map α) (k : Nat) (h : mwf d l = true) : mwf d (merase l k) = true := by
  rw [mwf_iff] at *
  exact ⟨h.1.filter _, fun p hp => h.2 p (List.mem_of_mem_filter hp)⟩

omit [DecidableEq α] in
theorem mem_mplace {k : Nat} {v : α} {l : Map α} {p : Nat × α} (h : p ∈ mplace k v l) : p = (k, v) ∨ p ∈ l := by
  induction l with
  | nil => simpa [mplace] using h
  | cons q r ih =>
    obtain ⟨a, w⟩ := q
    simp only [mplace] at h
    split at h
    · simpa using h
    · split at h
      · rcases List.mem_cons.1 h with h | h
        · exact .inl h
        · exact .inr (List.mem_cons_of_mem _ h)
      · rcases List.mem_cons.1 h with h | h
        · exact .inr (by simp [h])
        · rcases ih h with h | h
          · exact .inl h
          · exact .inr (List.mem_cons_of_mem _ h)

theorem mwf_mplace (d : α) (l : Map α) (k : Nat) (v : α) (hv : v ≠ d) (h : mwf d l = true) :
    mwf d (mplace k v l) = true := by
  rw [mwf_iff] at *
  obtain ⟨hp, hd⟩ := h
  refine ⟨?_, fun p hm => ?_⟩
  · induction l with
    | nil => simp [mplace]
    | cons q r ih =>
      obtain ⟨a, w⟩ := q
      obtain ⟨hq, hr⟩ := List.pairwise_cons.1 hp
      simp only [mplace]
      split
      · rename_i hk
        refine List.pairwise_cons.2 ⟨?_, hp⟩
        intro x hx
        rcases List.mem_cons.1 hx with rfl | hx
        · exact hk
        · exact Nat.lt_trans hk (hq x hx)
      · split
        · rename_i _ hk; subst hk
          exact List.pairwise_cons.2 ⟨hq, hr⟩
        · rename_i h1 h2
          refine List.pairwise_cons.2 ⟨?_, ih hr (fun p hx => hd p (List.mem_cons_of_mem _ hx))⟩
          intro x hx
          rcases mem_mplace hx with rfl | hx
          · simp only; omega
          · exact hq x hx
  · rcases mem_mplace hm with rfl | hm
    · exact hv
    · exact hd p hm

/-- A write keeps the canonical form. -/
theorem mwf_mset (d : α) (l : Map α) (k : Nat) (v : α) (h : mwf d l = true) : mwf d (mset d l k v) = true := by
  unfold mset
  split
  · exact mwf_merase d l k h
  · exact mwf_mplace d l k v (by assumption) h

/-- A change of one value keeps the canonical form. -/
theorem mwf_mmod (d : α) (l : Map α) (k : Nat) (f : α → α) (h : mwf d l = true) : mwf d (mmod d l k f) = true :=
  mwf_mset d l k _ h

/-- A change of every listed value keeps the canonical form. -/
theorem mwf_mmapAll (d : α) (l : Map α) (f : α → α) (h : mwf d l = true) : mwf d (mmapAll d l f) = true := by
  rw [mwf_iff] at *
  refine ⟨?_, ?_⟩
  · refine List.Pairwise.filter _ (List.pairwise_map.2 ?_)
    exact h.1
  · intro p hp
    simpa using (List.mem_filter.1 hp).2

end Sys2Proof.Machine
end

