-- ==== Sys2Proof/Laws/State.lean ====
section
/-! SUPPORT. What each update of the main die leaves as it was: one lemma for each field and each update, true by
definition, so that no proof unfolds a record update. -/

namespace Sys2Proof.Machine

/-! ### setObj changes `objs` only -/

@[simp] theorem Main.setObj_sup (m : Main) (a v : Nat) : (m.setObj a v).sup = m.sup := rfl
@[simp] theorem Main.setObj_tb (m : Main) (a v : Nat) : (m.setObj a v).tb = m.tb := rfl
@[simp] theorem Main.setObj_ptp (m : Main) (a v : Nat) : (m.setObj a v).ptp = m.ptp := rfl
@[simp] theorem Main.setObj_pdelay (m : Main) (a v : Nat) : (m.setObj a v).pdelay = m.pdelay := rfl
@[simp] theorem Main.setObj_fab (m : Main) (a v : Nat) : (m.setObj a v).fab = m.fab := rfl
@[simp] theorem Main.setObj_master8 (m : Main) (a v : Nat) : (m.setObj a v).master8 = m.master8 := rfl
@[simp] theorem Main.setObj_sess (m : Main) (a v : Nat) : (m.setObj a v).sess = m.sess := rfl
@[simp] theorem Main.setObj_owner (m : Main) (a v : Nat) : (m.setObj a v).owner = m.owner := rfl
@[simp] theorem Main.setObj_windows (m : Main) (a v : Nat) : (m.setObj a v).windows = m.windows := rfl
@[simp] theorem Main.setObj_prot (m : Main) (a v : Nat) : (m.setObj a v).prot = m.prot := rfl
@[simp] theorem Main.setObj_svcMask (m : Main) (a v : Nat) : (m.setObj a v).svcMask = m.svcMask := rfl
@[simp] theorem Main.setObj_locked (m : Main) (a v : Nat) : (m.setObj a v).locked = m.locked := rfl
@[simp] theorem Main.setObj_line (m : Main) (a v : Nat) : (m.setObj a v).line = m.line := rfl
@[simp] theorem Main.setObj_inst (m : Main) (a v : Nat) : (m.setObj a v).inst = m.inst := rfl
@[simp] theorem Main.setObj_lane (m : Main) (a v : Nat) : (m.setObj a v).lane = m.lane := rfl
@[simp] theorem Main.setObj_port (m : Main) (a v : Nat) : (m.setObj a v).port = m.port := rfl
@[simp] theorem Main.setObj_ee (m : Main) (a v : Nat) : (m.setObj a v).ee = m.ee := rfl
@[simp] theorem Main.setObj_op (m : Main) (a v : Nat) : (m.setObj a v).op = m.op := rfl
@[simp] theorem Main.setObj_trips (m : Main) (a v : Nat) : (m.setObj a v).trips = m.trips := rfl
@[simp] theorem Main.setObj_tripOn (m : Main) (a v : Nat) : (m.setObj a v).tripOn = m.tripOn := rfl
@[simp] theorem Main.setObj_cam (m : Main) (a v : Nat) : (m.setObj a v).cam = m.cam := rfl
@[simp] theorem Main.setObj_tabs (m : Main) (a v : Nat) : (m.setObj a v).tabs = m.tabs := rfl
@[simp] theorem Main.setObj_vm (m : Main) (a v : Nat) : (m.setObj a v).vm = m.vm := rfl
@[simp] theorem Main.setObj_ev (m : Main) (a v : Nat) : (m.setObj a v).ev = m.ev := rfl
@[simp] theorem Main.setObj_aq (m : Main) (a v : Nat) : (m.setObj a v).aq = m.aq := rfl
@[simp] theorem Main.setObj_field (m : Main) (a v : Nat) : (m.setObj a v).field = m.field := rfl
@[simp] theorem Main.setObj_store (m : Main) (a v : Nat) : (m.setObj a v).store = m.store := rfl
@[simp] theorem Main.setObj_host (m : Main) (a v : Nat) : (m.setObj a v).host = m.host := rfl
@[simp] theorem Main.setObj_ps (m : Main) (a v : Nat) : (m.setObj a v).ps = m.ps := rfl
@[simp] theorem Main.setObj_sfT (m : Main) (a v : Nat) : (m.setObj a v).sfT = m.sfT := rfl
@[simp] theorem Main.setObj_out (m : Main) (a v : Nat) : (m.setObj a v).out = m.out := rfl
@[simp] theorem Main.setObj_fresh (m : Main) (a v : Nat) : (m.setObj a v).fresh = m.fresh := rfl

/-! ### modI changes `inst` only -/

@[simp] theorem Main.modI_sup (m : Main) (i : Nat) (f : Inst → Inst) : (m.modI i f).sup = m.sup := rfl
@[simp] theorem Main.modI_tb (m : Main) (i : Nat) (f : Inst → Inst) : (m.modI i f).tb = m.tb := rfl
@[simp] theorem Main.modI_ptp (m : Main) (i : Nat) (f : Inst → Inst) : (m.modI i f).ptp = m.ptp := rfl
@[simp] theorem Main.modI_pdelay (m : Main) (i : Nat) (f : Inst → Inst) : (m.modI i f).pdelay = m.pdelay := rfl
@[simp] theorem Main.modI_fab (m : Main) (i : Nat) (f : Inst → Inst) : (m.modI i f).fab = m.fab := rfl
@[simp] theorem Main.modI_objs (m : Main) (i : Nat) (f : Inst → Inst) : (m.modI i f).objs = m.objs := rfl
@[simp] theorem Main.modI_master8 (m : Main) (i : Nat) (f : Inst → Inst) : (m.modI i f).master8 = m.master8 := rfl
@[simp] theorem Main.modI_sess (m : Main) (i : Nat) (f : Inst → Inst) : (m.modI i f).sess = m.sess := rfl
@[simp] theorem Main.modI_owner (m : Main) (i : Nat) (f : Inst → Inst) : (m.modI i f).owner = m.owner := rfl
@[simp] theorem Main.modI_windows (m : Main) (i : Nat) (f : Inst → Inst) : (m.modI i f).windows = m.windows := rfl
@[simp] theorem Main.modI_prot (m : Main) (i : Nat) (f : Inst → Inst) : (m.modI i f).prot = m.prot := rfl
@[simp] theorem Main.modI_svcMask (m : Main) (i : Nat) (f : Inst → Inst) : (m.modI i f).svcMask = m.svcMask := rfl
@[simp] theorem Main.modI_locked (m : Main) (i : Nat) (f : Inst → Inst) : (m.modI i f).locked = m.locked := rfl
@[simp] theorem Main.modI_line (m : Main) (i : Nat) (f : Inst → Inst) : (m.modI i f).line = m.line := rfl
@[simp] theorem Main.modI_lane (m : Main) (i : Nat) (f : Inst → Inst) : (m.modI i f).lane = m.lane := rfl
@[simp] theorem Main.modI_port (m : Main) (i : Nat) (f : Inst → Inst) : (m.modI i f).port = m.port := rfl
@[simp] theorem Main.modI_ee (m : Main) (i : Nat) (f : Inst → Inst) : (m.modI i f).ee = m.ee := rfl
@[simp] theorem Main.modI_op (m : Main) (i : Nat) (f : Inst → Inst) : (m.modI i f).op = m.op := rfl
@[simp] theorem Main.modI_trips (m : Main) (i : Nat) (f : Inst → Inst) : (m.modI i f).trips = m.trips := rfl
@[simp] theorem Main.modI_tripOn (m : Main) (i : Nat) (f : Inst → Inst) : (m.modI i f).tripOn = m.tripOn := rfl
@[simp] theorem Main.modI_cam (m : Main) (i : Nat) (f : Inst → Inst) : (m.modI i f).cam = m.cam := rfl
@[simp] theorem Main.modI_tabs (m : Main) (i : Nat) (f : Inst → Inst) : (m.modI i f).tabs = m.tabs := rfl
@[simp] theorem Main.modI_vm (m : Main) (i : Nat) (f : Inst → Inst) : (m.modI i f).vm = m.vm := rfl
@[simp] theorem Main.modI_ev (m : Main) (i : Nat) (f : Inst → Inst) : (m.modI i f).ev = m.ev := rfl
@[simp] theorem Main.modI_aq (m : Main) (i : Nat) (f : Inst → Inst) : (m.modI i f).aq = m.aq := rfl
@[simp] theorem Main.modI_field (m : Main) (i : Nat) (f : Inst → Inst) : (m.modI i f).field = m.field := rfl
@[simp] theorem Main.modI_store (m : Main) (i : Nat) (f : Inst → Inst) : (m.modI i f).store = m.store := rfl
@[simp] theorem Main.modI_host (m : Main) (i : Nat) (f : Inst → Inst) : (m.modI i f).host = m.host := rfl
@[simp] theorem Main.modI_ps (m : Main) (i : Nat) (f : Inst → Inst) : (m.modI i f).ps = m.ps := rfl
@[simp] theorem Main.modI_sfT (m : Main) (i : Nat) (f : Inst → Inst) : (m.modI i f).sfT = m.sfT := rfl
@[simp] theorem Main.modI_out (m : Main) (i : Nat) (f : Inst → Inst) : (m.modI i f).out = m.out := rfl
@[simp] theorem Main.modI_fresh (m : Main) (i : Nat) (f : Inst → Inst) : (m.modI i f).fresh = m.fresh := rfl

/-! ### modC changes `inst` only -/

@[simp] theorem Main.modC_sup (m : Main) (i : Nat) (f : Core → Core) : (m.modC i f).sup = m.sup := rfl
@[simp] theorem Main.modC_tb (m : Main) (i : Nat) (f : Core → Core) : (m.modC i f).tb = m.tb := rfl
@[simp] theorem Main.modC_ptp (m : Main) (i : Nat) (f : Core → Core) : (m.modC i f).ptp = m.ptp := rfl
@[simp] theorem Main.modC_pdelay (m : Main) (i : Nat) (f : Core → Core) : (m.modC i f).pdelay = m.pdelay := rfl
@[simp] theorem Main.modC_fab (m : Main) (i : Nat) (f : Core → Core) : (m.modC i f).fab = m.fab := rfl
@[simp] theorem Main.modC_objs (m : Main) (i : Nat) (f : Core → Core) : (m.modC i f).objs = m.objs := rfl
@[simp] theorem Main.modC_master8 (m : Main) (i : Nat) (f : Core → Core) : (m.modC i f).master8 = m.master8 := rfl
@[simp] theorem Main.modC_sess (m : Main) (i : Nat) (f : Core → Core) : (m.modC i f).sess = m.sess := rfl
@[simp] theorem Main.modC_owner (m : Main) (i : Nat) (f : Core → Core) : (m.modC i f).owner = m.owner := rfl
@[simp] theorem Main.modC_windows (m : Main) (i : Nat) (f : Core → Core) : (m.modC i f).windows = m.windows := rfl
@[simp] theorem Main.modC_prot (m : Main) (i : Nat) (f : Core → Core) : (m.modC i f).prot = m.prot := rfl
@[simp] theorem Main.modC_svcMask (m : Main) (i : Nat) (f : Core → Core) : (m.modC i f).svcMask = m.svcMask := rfl
@[simp] theorem Main.modC_locked (m : Main) (i : Nat) (f : Core → Core) : (m.modC i f).locked = m.locked := rfl
@[simp] theorem Main.modC_line (m : Main) (i : Nat) (f : Core → Core) : (m.modC i f).line = m.line := rfl
@[simp] theorem Main.modC_lane (m : Main) (i : Nat) (f : Core → Core) : (m.modC i f).lane = m.lane := rfl
@[simp] theorem Main.modC_port (m : Main) (i : Nat) (f : Core → Core) : (m.modC i f).port = m.port := rfl
@[simp] theorem Main.modC_ee (m : Main) (i : Nat) (f : Core → Core) : (m.modC i f).ee = m.ee := rfl
@[simp] theorem Main.modC_op (m : Main) (i : Nat) (f : Core → Core) : (m.modC i f).op = m.op := rfl
@[simp] theorem Main.modC_trips (m : Main) (i : Nat) (f : Core → Core) : (m.modC i f).trips = m.trips := rfl
@[simp] theorem Main.modC_tripOn (m : Main) (i : Nat) (f : Core → Core) : (m.modC i f).tripOn = m.tripOn := rfl
@[simp] theorem Main.modC_cam (m : Main) (i : Nat) (f : Core → Core) : (m.modC i f).cam = m.cam := rfl
@[simp] theorem Main.modC_tabs (m : Main) (i : Nat) (f : Core → Core) : (m.modC i f).tabs = m.tabs := rfl
@[simp] theorem Main.modC_vm (m : Main) (i : Nat) (f : Core → Core) : (m.modC i f).vm = m.vm := rfl
@[simp] theorem Main.modC_ev (m : Main) (i : Nat) (f : Core → Core) : (m.modC i f).ev = m.ev := rfl
@[simp] theorem Main.modC_aq (m : Main) (i : Nat) (f : Core → Core) : (m.modC i f).aq = m.aq := rfl
@[simp] theorem Main.modC_field (m : Main) (i : Nat) (f : Core → Core) : (m.modC i f).field = m.field := rfl
@[simp] theorem Main.modC_store (m : Main) (i : Nat) (f : Core → Core) : (m.modC i f).store = m.store := rfl
@[simp] theorem Main.modC_host (m : Main) (i : Nat) (f : Core → Core) : (m.modC i f).host = m.host := rfl
@[simp] theorem Main.modC_ps (m : Main) (i : Nat) (f : Core → Core) : (m.modC i f).ps = m.ps := rfl
@[simp] theorem Main.modC_sfT (m : Main) (i : Nat) (f : Core → Core) : (m.modC i f).sfT = m.sfT := rfl
@[simp] theorem Main.modC_out (m : Main) (i : Nat) (f : Core → Core) : (m.modC i f).out = m.out := rfl
@[simp] theorem Main.modC_fresh (m : Main) (i : Nat) (f : Core → Core) : (m.modC i f).fresh = m.fresh := rfl

/-! ### modM changes `inst` only -/

@[simp] theorem Main.modM_sup (m : Main) (i : Nat) (f : Motion → Motion) : (m.modM i f).sup = m.sup := rfl
@[simp] theorem Main.modM_tb (m : Main) (i : Nat) (f : Motion → Motion) : (m.modM i f).tb = m.tb := rfl
@[simp] theorem Main.modM_ptp (m : Main) (i : Nat) (f : Motion → Motion) : (m.modM i f).ptp = m.ptp := rfl
@[simp] theorem Main.modM_pdelay (m : Main) (i : Nat) (f : Motion → Motion) : (m.modM i f).pdelay = m.pdelay := rfl
@[simp] theorem Main.modM_fab (m : Main) (i : Nat) (f : Motion → Motion) : (m.modM i f).fab = m.fab := rfl
@[simp] theorem Main.modM_objs (m : Main) (i : Nat) (f : Motion → Motion) : (m.modM i f).objs = m.objs := rfl
@[simp] theorem Main.modM_master8 (m : Main) (i : Nat) (f : Motion → Motion) : (m.modM i f).master8 = m.master8 := rfl
@[simp] theorem Main.modM_sess (m : Main) (i : Nat) (f : Motion → Motion) : (m.modM i f).sess = m.sess := rfl
@[simp] theorem Main.modM_owner (m : Main) (i : Nat) (f : Motion → Motion) : (m.modM i f).owner = m.owner := rfl
@[simp] theorem Main.modM_windows (m : Main) (i : Nat) (f : Motion → Motion) : (m.modM i f).windows = m.windows := rfl
@[simp] theorem Main.modM_prot (m : Main) (i : Nat) (f : Motion → Motion) : (m.modM i f).prot = m.prot := rfl
@[simp] theorem Main.modM_svcMask (m : Main) (i : Nat) (f : Motion → Motion) : (m.modM i f).svcMask = m.svcMask := rfl
@[simp] theorem Main.modM_locked (m : Main) (i : Nat) (f : Motion → Motion) : (m.modM i f).locked = m.locked := rfl
@[simp] theorem Main.modM_line (m : Main) (i : Nat) (f : Motion → Motion) : (m.modM i f).line = m.line := rfl
@[simp] theorem Main.modM_lane (m : Main) (i : Nat) (f : Motion → Motion) : (m.modM i f).lane = m.lane := rfl
@[simp] theorem Main.modM_port (m : Main) (i : Nat) (f : Motion → Motion) : (m.modM i f).port = m.port := rfl
@[simp] theorem Main.modM_ee (m : Main) (i : Nat) (f : Motion → Motion) : (m.modM i f).ee = m.ee := rfl
@[simp] theorem Main.modM_op (m : Main) (i : Nat) (f : Motion → Motion) : (m.modM i f).op = m.op := rfl
@[simp] theorem Main.modM_trips (m : Main) (i : Nat) (f : Motion → Motion) : (m.modM i f).trips = m.trips := rfl
@[simp] theorem Main.modM_tripOn (m : Main) (i : Nat) (f : Motion → Motion) : (m.modM i f).tripOn = m.tripOn := rfl
@[simp] theorem Main.modM_cam (m : Main) (i : Nat) (f : Motion → Motion) : (m.modM i f).cam = m.cam := rfl
@[simp] theorem Main.modM_tabs (m : Main) (i : Nat) (f : Motion → Motion) : (m.modM i f).tabs = m.tabs := rfl
@[simp] theorem Main.modM_vm (m : Main) (i : Nat) (f : Motion → Motion) : (m.modM i f).vm = m.vm := rfl
@[simp] theorem Main.modM_ev (m : Main) (i : Nat) (f : Motion → Motion) : (m.modM i f).ev = m.ev := rfl
@[simp] theorem Main.modM_aq (m : Main) (i : Nat) (f : Motion → Motion) : (m.modM i f).aq = m.aq := rfl
@[simp] theorem Main.modM_field (m : Main) (i : Nat) (f : Motion → Motion) : (m.modM i f).field = m.field := rfl
@[simp] theorem Main.modM_store (m : Main) (i : Nat) (f : Motion → Motion) : (m.modM i f).store = m.store := rfl
@[simp] theorem Main.modM_host (m : Main) (i : Nat) (f : Motion → Motion) : (m.modM i f).host = m.host := rfl
@[simp] theorem Main.modM_ps (m : Main) (i : Nat) (f : Motion → Motion) : (m.modM i f).ps = m.ps := rfl
@[simp] theorem Main.modM_sfT (m : Main) (i : Nat) (f : Motion → Motion) : (m.modM i f).sfT = m.sfT := rfl
@[simp] theorem Main.modM_out (m : Main) (i : Nat) (f : Motion → Motion) : (m.modM i f).out = m.out := rfl
@[simp] theorem Main.modM_fresh (m : Main) (i : Nat) (f : Motion → Motion) : (m.modM i f).fresh = m.fresh := rfl

/-! ### modL changes `inst` only -/

@[simp] theorem Main.modL_sup (m : Main) (i : Nat) (f : Loop → Loop) : (m.modL i f).sup = m.sup := rfl
@[simp] theorem Main.modL_tb (m : Main) (i : Nat) (f : Loop → Loop) : (m.modL i f).tb = m.tb := rfl
@[simp] theorem Main.modL_ptp (m : Main) (i : Nat) (f : Loop → Loop) : (m.modL i f).ptp = m.ptp := rfl
@[simp] theorem Main.modL_pdelay (m : Main) (i : Nat) (f : Loop → Loop) : (m.modL i f).pdelay = m.pdelay := rfl
@[simp] theorem Main.modL_fab (m : Main) (i : Nat) (f : Loop → Loop) : (m.modL i f).fab = m.fab := rfl
@[simp] theorem Main.modL_objs (m : Main) (i : Nat) (f : Loop → Loop) : (m.modL i f).objs = m.objs := rfl
@[simp] theorem Main.modL_master8 (m : Main) (i : Nat) (f : Loop → Loop) : (m.modL i f).master8 = m.master8 := rfl
@[simp] theorem Main.modL_sess (m : Main) (i : Nat) (f : Loop → Loop) : (m.modL i f).sess = m.sess := rfl
@[simp] theorem Main.modL_owner (m : Main) (i : Nat) (f : Loop → Loop) : (m.modL i f).owner = m.owner := rfl
@[simp] theorem Main.modL_windows (m : Main) (i : Nat) (f : Loop → Loop) : (m.modL i f).windows = m.windows := rfl
@[simp] theorem Main.modL_prot (m : Main) (i : Nat) (f : Loop → Loop) : (m.modL i f).prot = m.prot := rfl
@[simp] theorem Main.modL_svcMask (m : Main) (i : Nat) (f : Loop → Loop) : (m.modL i f).svcMask = m.svcMask := rfl
@[simp] theorem Main.modL_locked (m : Main) (i : Nat) (f : Loop → Loop) : (m.modL i f).locked = m.locked := rfl
@[simp] theorem Main.modL_line (m : Main) (i : Nat) (f : Loop → Loop) : (m.modL i f).line = m.line := rfl
@[simp] theorem Main.modL_lane (m : Main) (i : Nat) (f : Loop → Loop) : (m.modL i f).lane = m.lane := rfl
@[simp] theorem Main.modL_port (m : Main) (i : Nat) (f : Loop → Loop) : (m.modL i f).port = m.port := rfl
@[simp] theorem Main.modL_ee (m : Main) (i : Nat) (f : Loop → Loop) : (m.modL i f).ee = m.ee := rfl
@[simp] theorem Main.modL_op (m : Main) (i : Nat) (f : Loop → Loop) : (m.modL i f).op = m.op := rfl
@[simp] theorem Main.modL_trips (m : Main) (i : Nat) (f : Loop → Loop) : (m.modL i f).trips = m.trips := rfl
@[simp] theorem Main.modL_tripOn (m : Main) (i : Nat) (f : Loop → Loop) : (m.modL i f).tripOn = m.tripOn := rfl
@[simp] theorem Main.modL_cam (m : Main) (i : Nat) (f : Loop → Loop) : (m.modL i f).cam = m.cam := rfl
@[simp] theorem Main.modL_tabs (m : Main) (i : Nat) (f : Loop → Loop) : (m.modL i f).tabs = m.tabs := rfl
@[simp] theorem Main.modL_vm (m : Main) (i : Nat) (f : Loop → Loop) : (m.modL i f).vm = m.vm := rfl
@[simp] theorem Main.modL_ev (m : Main) (i : Nat) (f : Loop → Loop) : (m.modL i f).ev = m.ev := rfl
@[simp] theorem Main.modL_aq (m : Main) (i : Nat) (f : Loop → Loop) : (m.modL i f).aq = m.aq := rfl
@[simp] theorem Main.modL_field (m : Main) (i : Nat) (f : Loop → Loop) : (m.modL i f).field = m.field := rfl
@[simp] theorem Main.modL_store (m : Main) (i : Nat) (f : Loop → Loop) : (m.modL i f).store = m.store := rfl
@[simp] theorem Main.modL_host (m : Main) (i : Nat) (f : Loop → Loop) : (m.modL i f).host = m.host := rfl
@[simp] theorem Main.modL_ps (m : Main) (i : Nat) (f : Loop → Loop) : (m.modL i f).ps = m.ps := rfl
@[simp] theorem Main.modL_sfT (m : Main) (i : Nat) (f : Loop → Loop) : (m.modL i f).sfT = m.sfT := rfl
@[simp] theorem Main.modL_out (m : Main) (i : Nat) (f : Loop → Loop) : (m.modL i f).out = m.out := rfl
@[simp] theorem Main.modL_fresh (m : Main) (i : Nat) (f : Loop → Loop) : (m.modL i f).fresh = m.fresh := rfl

/-! ### modLim changes `inst` only -/

@[simp] theorem Main.modLim_sup (m : Main) (i : Nat) (f : Limits → Limits) : (m.modLim i f).sup = m.sup := rfl
@[simp] theorem Main.modLim_tb (m : Main) (i : Nat) (f : Limits → Limits) : (m.modLim i f).tb = m.tb := rfl
@[simp] theorem Main.modLim_ptp (m : Main) (i : Nat) (f : Limits → Limits) : (m.modLim i f).ptp = m.ptp := rfl
@[simp] theorem Main.modLim_pdelay (m : Main) (i : Nat) (f : Limits → Limits) : (m.modLim i f).pdelay = m.pdelay := rfl
@[simp] theorem Main.modLim_fab (m : Main) (i : Nat) (f : Limits → Limits) : (m.modLim i f).fab = m.fab := rfl
@[simp] theorem Main.modLim_objs (m : Main) (i : Nat) (f : Limits → Limits) : (m.modLim i f).objs = m.objs := rfl
@[simp] theorem Main.modLim_master8 (m : Main) (i : Nat) (f : Limits → Limits) : (m.modLim i f).master8 = m.master8 := rfl
@[simp] theorem Main.modLim_sess (m : Main) (i : Nat) (f : Limits → Limits) : (m.modLim i f).sess = m.sess := rfl
@[simp] theorem Main.modLim_owner (m : Main) (i : Nat) (f : Limits → Limits) : (m.modLim i f).owner = m.owner := rfl
@[simp] theorem Main.modLim_windows (m : Main) (i : Nat) (f : Limits → Limits) : (m.modLim i f).windows = m.windows := rfl
@[simp] theorem Main.modLim_prot (m : Main) (i : Nat) (f : Limits → Limits) : (m.modLim i f).prot = m.prot := rfl
@[simp] theorem Main.modLim_svcMask (m : Main) (i : Nat) (f : Limits → Limits) : (m.modLim i f).svcMask = m.svcMask := rfl
@[simp] theorem Main.modLim_locked (m : Main) (i : Nat) (f : Limits → Limits) : (m.modLim i f).locked = m.locked := rfl
@[simp] theorem Main.modLim_line (m : Main) (i : Nat) (f : Limits → Limits) : (m.modLim i f).line = m.line := rfl
@[simp] theorem Main.modLim_lane (m : Main) (i : Nat) (f : Limits → Limits) : (m.modLim i f).lane = m.lane := rfl
@[simp] theorem Main.modLim_port (m : Main) (i : Nat) (f : Limits → Limits) : (m.modLim i f).port = m.port := rfl
@[simp] theorem Main.modLim_ee (m : Main) (i : Nat) (f : Limits → Limits) : (m.modLim i f).ee = m.ee := rfl
@[simp] theorem Main.modLim_op (m : Main) (i : Nat) (f : Limits → Limits) : (m.modLim i f).op = m.op := rfl
@[simp] theorem Main.modLim_trips (m : Main) (i : Nat) (f : Limits → Limits) : (m.modLim i f).trips = m.trips := rfl
@[simp] theorem Main.modLim_tripOn (m : Main) (i : Nat) (f : Limits → Limits) : (m.modLim i f).tripOn = m.tripOn := rfl
@[simp] theorem Main.modLim_cam (m : Main) (i : Nat) (f : Limits → Limits) : (m.modLim i f).cam = m.cam := rfl
@[simp] theorem Main.modLim_tabs (m : Main) (i : Nat) (f : Limits → Limits) : (m.modLim i f).tabs = m.tabs := rfl
@[simp] theorem Main.modLim_vm (m : Main) (i : Nat) (f : Limits → Limits) : (m.modLim i f).vm = m.vm := rfl
@[simp] theorem Main.modLim_ev (m : Main) (i : Nat) (f : Limits → Limits) : (m.modLim i f).ev = m.ev := rfl
@[simp] theorem Main.modLim_aq (m : Main) (i : Nat) (f : Limits → Limits) : (m.modLim i f).aq = m.aq := rfl
@[simp] theorem Main.modLim_field (m : Main) (i : Nat) (f : Limits → Limits) : (m.modLim i f).field = m.field := rfl
@[simp] theorem Main.modLim_store (m : Main) (i : Nat) (f : Limits → Limits) : (m.modLim i f).store = m.store := rfl
@[simp] theorem Main.modLim_host (m : Main) (i : Nat) (f : Limits → Limits) : (m.modLim i f).host = m.host := rfl
@[simp] theorem Main.modLim_ps (m : Main) (i : Nat) (f : Limits → Limits) : (m.modLim i f).ps = m.ps := rfl
@[simp] theorem Main.modLim_sfT (m : Main) (i : Nat) (f : Limits → Limits) : (m.modLim i f).sfT = m.sfT := rfl
@[simp] theorem Main.modLim_out (m : Main) (i : Nat) (f : Limits → Limits) : (m.modLim i f).out = m.out := rfl
@[simp] theorem Main.modLim_fresh (m : Main) (i : Nat) (f : Limits → Limits) : (m.modLim i f).fresh = m.fresh := rfl

/-! ### modLink changes `inst` only -/

@[simp] theorem Main.modLink_sup (m : Main) (i : Nat) (f : Link → Link) : (m.modLink i f).sup = m.sup := rfl
@[simp] theorem Main.modLink_tb (m : Main) (i : Nat) (f : Link → Link) : (m.modLink i f).tb = m.tb := rfl
@[simp] theorem Main.modLink_ptp (m : Main) (i : Nat) (f : Link → Link) : (m.modLink i f).ptp = m.ptp := rfl
@[simp] theorem Main.modLink_pdelay (m : Main) (i : Nat) (f : Link → Link) : (m.modLink i f).pdelay = m.pdelay := rfl
@[simp] theorem Main.modLink_fab (m : Main) (i : Nat) (f : Link → Link) : (m.modLink i f).fab = m.fab := rfl
@[simp] theorem Main.modLink_objs (m : Main) (i : Nat) (f : Link → Link) : (m.modLink i f).objs = m.objs := rfl
@[simp] theorem Main.modLink_master8 (m : Main) (i : Nat) (f : Link → Link) : (m.modLink i f).master8 = m.master8 := rfl
@[simp] theorem Main.modLink_sess (m : Main) (i : Nat) (f : Link → Link) : (m.modLink i f).sess = m.sess := rfl
@[simp] theorem Main.modLink_owner (m : Main) (i : Nat) (f : Link → Link) : (m.modLink i f).owner = m.owner := rfl
@[simp] theorem Main.modLink_windows (m : Main) (i : Nat) (f : Link → Link) : (m.modLink i f).windows = m.windows := rfl
@[simp] theorem Main.modLink_prot (m : Main) (i : Nat) (f : Link → Link) : (m.modLink i f).prot = m.prot := rfl
@[simp] theorem Main.modLink_svcMask (m : Main) (i : Nat) (f : Link → Link) : (m.modLink i f).svcMask = m.svcMask := rfl
@[simp] theorem Main.modLink_locked (m : Main) (i : Nat) (f : Link → Link) : (m.modLink i f).locked = m.locked := rfl
@[simp] theorem Main.modLink_line (m : Main) (i : Nat) (f : Link → Link) : (m.modLink i f).line = m.line := rfl
@[simp] theorem Main.modLink_lane (m : Main) (i : Nat) (f : Link → Link) : (m.modLink i f).lane = m.lane := rfl
@[simp] theorem Main.modLink_port (m : Main) (i : Nat) (f : Link → Link) : (m.modLink i f).port = m.port := rfl
@[simp] theorem Main.modLink_ee (m : Main) (i : Nat) (f : Link → Link) : (m.modLink i f).ee = m.ee := rfl
@[simp] theorem Main.modLink_op (m : Main) (i : Nat) (f : Link → Link) : (m.modLink i f).op = m.op := rfl
@[simp] theorem Main.modLink_trips (m : Main) (i : Nat) (f : Link → Link) : (m.modLink i f).trips = m.trips := rfl
@[simp] theorem Main.modLink_tripOn (m : Main) (i : Nat) (f : Link → Link) : (m.modLink i f).tripOn = m.tripOn := rfl
@[simp] theorem Main.modLink_cam (m : Main) (i : Nat) (f : Link → Link) : (m.modLink i f).cam = m.cam := rfl
@[simp] theorem Main.modLink_tabs (m : Main) (i : Nat) (f : Link → Link) : (m.modLink i f).tabs = m.tabs := rfl
@[simp] theorem Main.modLink_vm (m : Main) (i : Nat) (f : Link → Link) : (m.modLink i f).vm = m.vm := rfl
@[simp] theorem Main.modLink_ev (m : Main) (i : Nat) (f : Link → Link) : (m.modLink i f).ev = m.ev := rfl
@[simp] theorem Main.modLink_aq (m : Main) (i : Nat) (f : Link → Link) : (m.modLink i f).aq = m.aq := rfl
@[simp] theorem Main.modLink_field (m : Main) (i : Nat) (f : Link → Link) : (m.modLink i f).field = m.field := rfl
@[simp] theorem Main.modLink_store (m : Main) (i : Nat) (f : Link → Link) : (m.modLink i f).store = m.store := rfl
@[simp] theorem Main.modLink_host (m : Main) (i : Nat) (f : Link → Link) : (m.modLink i f).host = m.host := rfl
@[simp] theorem Main.modLink_ps (m : Main) (i : Nat) (f : Link → Link) : (m.modLink i f).ps = m.ps := rfl
@[simp] theorem Main.modLink_sfT (m : Main) (i : Nat) (f : Link → Link) : (m.modLink i f).sfT = m.sfT := rfl
@[simp] theorem Main.modLink_out (m : Main) (i : Nat) (f : Link → Link) : (m.modLink i f).out = m.out := rfl
@[simp] theorem Main.modLink_fresh (m : Main) (i : Nat) (f : Link → Link) : (m.modLink i f).fresh = m.fresh := rfl

/-! ### modLn changes `lane` only -/

@[simp] theorem Main.modLn_sup (m : Main) (a : Nat) (f : Lane → Lane) : (m.modLn a f).sup = m.sup := rfl
@[simp] theorem Main.modLn_tb (m : Main) (a : Nat) (f : Lane → Lane) : (m.modLn a f).tb = m.tb := rfl
@[simp] theorem Main.modLn_ptp (m : Main) (a : Nat) (f : Lane → Lane) : (m.modLn a f).ptp = m.ptp := rfl
@[simp] theorem Main.modLn_pdelay (m : Main) (a : Nat) (f : Lane → Lane) : (m.modLn a f).pdelay = m.pdelay := rfl
@[simp] theorem Main.modLn_fab (m : Main) (a : Nat) (f : Lane → Lane) : (m.modLn a f).fab = m.fab := rfl
@[simp] theorem Main.modLn_objs (m : Main) (a : Nat) (f : Lane → Lane) : (m.modLn a f).objs = m.objs := rfl
@[simp] theorem Main.modLn_master8 (m : Main) (a : Nat) (f : Lane → Lane) : (m.modLn a f).master8 = m.master8 := rfl
@[simp] theorem Main.modLn_sess (m : Main) (a : Nat) (f : Lane → Lane) : (m.modLn a f).sess = m.sess := rfl
@[simp] theorem Main.modLn_owner (m : Main) (a : Nat) (f : Lane → Lane) : (m.modLn a f).owner = m.owner := rfl
@[simp] theorem Main.modLn_windows (m : Main) (a : Nat) (f : Lane → Lane) : (m.modLn a f).windows = m.windows := rfl
@[simp] theorem Main.modLn_prot (m : Main) (a : Nat) (f : Lane → Lane) : (m.modLn a f).prot = m.prot := rfl
@[simp] theorem Main.modLn_svcMask (m : Main) (a : Nat) (f : Lane → Lane) : (m.modLn a f).svcMask = m.svcMask := rfl
@[simp] theorem Main.modLn_locked (m : Main) (a : Nat) (f : Lane → Lane) : (m.modLn a f).locked = m.locked := rfl
@[simp] theorem Main.modLn_line (m : Main) (a : Nat) (f : Lane → Lane) : (m.modLn a f).line = m.line := rfl
@[simp] theorem Main.modLn_inst (m : Main) (a : Nat) (f : Lane → Lane) : (m.modLn a f).inst = m.inst := rfl
@[simp] theorem Main.modLn_port (m : Main) (a : Nat) (f : Lane → Lane) : (m.modLn a f).port = m.port := rfl
@[simp] theorem Main.modLn_ee (m : Main) (a : Nat) (f : Lane → Lane) : (m.modLn a f).ee = m.ee := rfl
@[simp] theorem Main.modLn_op (m : Main) (a : Nat) (f : Lane → Lane) : (m.modLn a f).op = m.op := rfl
@[simp] theorem Main.modLn_trips (m : Main) (a : Nat) (f : Lane → Lane) : (m.modLn a f).trips = m.trips := rfl
@[simp] theorem Main.modLn_tripOn (m : Main) (a : Nat) (f : Lane → Lane) : (m.modLn a f).tripOn = m.tripOn := rfl
@[simp] theorem Main.modLn_cam (m : Main) (a : Nat) (f : Lane → Lane) : (m.modLn a f).cam = m.cam := rfl
@[simp] theorem Main.modLn_tabs (m : Main) (a : Nat) (f : Lane → Lane) : (m.modLn a f).tabs = m.tabs := rfl
@[simp] theorem Main.modLn_vm (m : Main) (a : Nat) (f : Lane → Lane) : (m.modLn a f).vm = m.vm := rfl
@[simp] theorem Main.modLn_ev (m : Main) (a : Nat) (f : Lane → Lane) : (m.modLn a f).ev = m.ev := rfl
@[simp] theorem Main.modLn_aq (m : Main) (a : Nat) (f : Lane → Lane) : (m.modLn a f).aq = m.aq := rfl
@[simp] theorem Main.modLn_field (m : Main) (a : Nat) (f : Lane → Lane) : (m.modLn a f).field = m.field := rfl
@[simp] theorem Main.modLn_store (m : Main) (a : Nat) (f : Lane → Lane) : (m.modLn a f).store = m.store := rfl
@[simp] theorem Main.modLn_host (m : Main) (a : Nat) (f : Lane → Lane) : (m.modLn a f).host = m.host := rfl
@[simp] theorem Main.modLn_ps (m : Main) (a : Nat) (f : Lane → Lane) : (m.modLn a f).ps = m.ps := rfl
@[simp] theorem Main.modLn_sfT (m : Main) (a : Nat) (f : Lane → Lane) : (m.modLn a f).sfT = m.sfT := rfl
@[simp] theorem Main.modLn_out (m : Main) (a : Nat) (f : Lane → Lane) : (m.modLn a f).out = m.out := rfl
@[simp] theorem Main.modLn_fresh (m : Main) (a : Nat) (f : Lane → Lane) : (m.modLn a f).fresh = m.fresh := rfl

/-! ### modPt changes `port` only -/

@[simp] theorem Main.modPt_sup (m : Main) (p : Nat) (f : Port → Port) : (m.modPt p f).sup = m.sup := rfl
@[simp] theorem Main.modPt_tb (m : Main) (p : Nat) (f : Port → Port) : (m.modPt p f).tb = m.tb := rfl
@[simp] theorem Main.modPt_ptp (m : Main) (p : Nat) (f : Port → Port) : (m.modPt p f).ptp = m.ptp := rfl
@[simp] theorem Main.modPt_pdelay (m : Main) (p : Nat) (f : Port → Port) : (m.modPt p f).pdelay = m.pdelay := rfl
@[simp] theorem Main.modPt_fab (m : Main) (p : Nat) (f : Port → Port) : (m.modPt p f).fab = m.fab := rfl
@[simp] theorem Main.modPt_objs (m : Main) (p : Nat) (f : Port → Port) : (m.modPt p f).objs = m.objs := rfl
@[simp] theorem Main.modPt_master8 (m : Main) (p : Nat) (f : Port → Port) : (m.modPt p f).master8 = m.master8 := rfl
@[simp] theorem Main.modPt_sess (m : Main) (p : Nat) (f : Port → Port) : (m.modPt p f).sess = m.sess := rfl
@[simp] theorem Main.modPt_owner (m : Main) (p : Nat) (f : Port → Port) : (m.modPt p f).owner = m.owner := rfl
@[simp] theorem Main.modPt_windows (m : Main) (p : Nat) (f : Port → Port) : (m.modPt p f).windows = m.windows := rfl
@[simp] theorem Main.modPt_prot (m : Main) (p : Nat) (f : Port → Port) : (m.modPt p f).prot = m.prot := rfl
@[simp] theorem Main.modPt_svcMask (m : Main) (p : Nat) (f : Port → Port) : (m.modPt p f).svcMask = m.svcMask := rfl
@[simp] theorem Main.modPt_locked (m : Main) (p : Nat) (f : Port → Port) : (m.modPt p f).locked = m.locked := rfl
@[simp] theorem Main.modPt_line (m : Main) (p : Nat) (f : Port → Port) : (m.modPt p f).line = m.line := rfl
@[simp] theorem Main.modPt_inst (m : Main) (p : Nat) (f : Port → Port) : (m.modPt p f).inst = m.inst := rfl
@[simp] theorem Main.modPt_lane (m : Main) (p : Nat) (f : Port → Port) : (m.modPt p f).lane = m.lane := rfl
@[simp] theorem Main.modPt_ee (m : Main) (p : Nat) (f : Port → Port) : (m.modPt p f).ee = m.ee := rfl
@[simp] theorem Main.modPt_op (m : Main) (p : Nat) (f : Port → Port) : (m.modPt p f).op = m.op := rfl
@[simp] theorem Main.modPt_trips (m : Main) (p : Nat) (f : Port → Port) : (m.modPt p f).trips = m.trips := rfl
@[simp] theorem Main.modPt_tripOn (m : Main) (p : Nat) (f : Port → Port) : (m.modPt p f).tripOn = m.tripOn := rfl
@[simp] theorem Main.modPt_cam (m : Main) (p : Nat) (f : Port → Port) : (m.modPt p f).cam = m.cam := rfl
@[simp] theorem Main.modPt_tabs (m : Main) (p : Nat) (f : Port → Port) : (m.modPt p f).tabs = m.tabs := rfl
@[simp] theorem Main.modPt_vm (m : Main) (p : Nat) (f : Port → Port) : (m.modPt p f).vm = m.vm := rfl
@[simp] theorem Main.modPt_ev (m : Main) (p : Nat) (f : Port → Port) : (m.modPt p f).ev = m.ev := rfl
@[simp] theorem Main.modPt_aq (m : Main) (p : Nat) (f : Port → Port) : (m.modPt p f).aq = m.aq := rfl
@[simp] theorem Main.modPt_field (m : Main) (p : Nat) (f : Port → Port) : (m.modPt p f).field = m.field := rfl
@[simp] theorem Main.modPt_store (m : Main) (p : Nat) (f : Port → Port) : (m.modPt p f).store = m.store := rfl
@[simp] theorem Main.modPt_host (m : Main) (p : Nat) (f : Port → Port) : (m.modPt p f).host = m.host := rfl
@[simp] theorem Main.modPt_ps (m : Main) (p : Nat) (f : Port → Port) : (m.modPt p f).ps = m.ps := rfl
@[simp] theorem Main.modPt_sfT (m : Main) (p : Nat) (f : Port → Port) : (m.modPt p f).sfT = m.sfT := rfl
@[simp] theorem Main.modPt_out (m : Main) (p : Nat) (f : Port → Port) : (m.modPt p f).out = m.out := rfl
@[simp] theorem Main.modPt_fresh (m : Main) (p : Nat) (f : Port → Port) : (m.modPt p f).fresh = m.fresh := rfl

/-! ### modOp changes `op` only -/

@[simp] theorem Main.modOp_sup (m : Main) (k : Nat) (f : LongOp → LongOp) : (m.modOp k f).sup = m.sup := rfl
@[simp] theorem Main.modOp_tb (m : Main) (k : Nat) (f : LongOp → LongOp) : (m.modOp k f).tb = m.tb := rfl
@[simp] theorem Main.modOp_ptp (m : Main) (k : Nat) (f : LongOp → LongOp) : (m.modOp k f).ptp = m.ptp := rfl
@[simp] theorem Main.modOp_pdelay (m : Main) (k : Nat) (f : LongOp → LongOp) : (m.modOp k f).pdelay = m.pdelay := rfl
@[simp] theorem Main.modOp_fab (m : Main) (k : Nat) (f : LongOp → LongOp) : (m.modOp k f).fab = m.fab := rfl
@[simp] theorem Main.modOp_objs (m : Main) (k : Nat) (f : LongOp → LongOp) : (m.modOp k f).objs = m.objs := rfl
@[simp] theorem Main.modOp_master8 (m : Main) (k : Nat) (f : LongOp → LongOp) : (m.modOp k f).master8 = m.master8 := rfl
@[simp] theorem Main.modOp_sess (m : Main) (k : Nat) (f : LongOp → LongOp) : (m.modOp k f).sess = m.sess := rfl
@[simp] theorem Main.modOp_owner (m : Main) (k : Nat) (f : LongOp → LongOp) : (m.modOp k f).owner = m.owner := rfl
@[simp] theorem Main.modOp_windows (m : Main) (k : Nat) (f : LongOp → LongOp) : (m.modOp k f).windows = m.windows := rfl
@[simp] theorem Main.modOp_prot (m : Main) (k : Nat) (f : LongOp → LongOp) : (m.modOp k f).prot = m.prot := rfl
@[simp] theorem Main.modOp_svcMask (m : Main) (k : Nat) (f : LongOp → LongOp) : (m.modOp k f).svcMask = m.svcMask := rfl
@[simp] theorem Main.modOp_locked (m : Main) (k : Nat) (f : LongOp → LongOp) : (m.modOp k f).locked = m.locked := rfl
@[simp] theorem Main.modOp_line (m : Main) (k : Nat) (f : LongOp → LongOp) : (m.modOp k f).line = m.line := rfl
@[simp] theorem Main.modOp_inst (m : Main) (k : Nat) (f : LongOp → LongOp) : (m.modOp k f).inst = m.inst := rfl
@[simp] theorem Main.modOp_lane (m : Main) (k : Nat) (f : LongOp → LongOp) : (m.modOp k f).lane = m.lane := rfl
@[simp] theorem Main.modOp_port (m : Main) (k : Nat) (f : LongOp → LongOp) : (m.modOp k f).port = m.port := rfl
@[simp] theorem Main.modOp_ee (m : Main) (k : Nat) (f : LongOp → LongOp) : (m.modOp k f).ee = m.ee := rfl
@[simp] theorem Main.modOp_trips (m : Main) (k : Nat) (f : LongOp → LongOp) : (m.modOp k f).trips = m.trips := rfl
@[simp] theorem Main.modOp_tripOn (m : Main) (k : Nat) (f : LongOp → LongOp) : (m.modOp k f).tripOn = m.tripOn := rfl
@[simp] theorem Main.modOp_cam (m : Main) (k : Nat) (f : LongOp → LongOp) : (m.modOp k f).cam = m.cam := rfl
@[simp] theorem Main.modOp_tabs (m : Main) (k : Nat) (f : LongOp → LongOp) : (m.modOp k f).tabs = m.tabs := rfl
@[simp] theorem Main.modOp_vm (m : Main) (k : Nat) (f : LongOp → LongOp) : (m.modOp k f).vm = m.vm := rfl
@[simp] theorem Main.modOp_ev (m : Main) (k : Nat) (f : LongOp → LongOp) : (m.modOp k f).ev = m.ev := rfl
@[simp] theorem Main.modOp_aq (m : Main) (k : Nat) (f : LongOp → LongOp) : (m.modOp k f).aq = m.aq := rfl
@[simp] theorem Main.modOp_field (m : Main) (k : Nat) (f : LongOp → LongOp) : (m.modOp k f).field = m.field := rfl
@[simp] theorem Main.modOp_store (m : Main) (k : Nat) (f : LongOp → LongOp) : (m.modOp k f).store = m.store := rfl
@[simp] theorem Main.modOp_host (m : Main) (k : Nat) (f : LongOp → LongOp) : (m.modOp k f).host = m.host := rfl
@[simp] theorem Main.modOp_ps (m : Main) (k : Nat) (f : LongOp → LongOp) : (m.modOp k f).ps = m.ps := rfl
@[simp] theorem Main.modOp_sfT (m : Main) (k : Nat) (f : LongOp → LongOp) : (m.modOp k f).sfT = m.sfT := rfl
@[simp] theorem Main.modOp_out (m : Main) (k : Nat) (f : LongOp → LongOp) : (m.modOp k f).out = m.out := rfl
@[simp] theorem Main.modOp_fresh (m : Main) (k : Nat) (f : LongOp → LongOp) : (m.modOp k f).fresh = m.fresh := rfl

/-! ### modSe changes `sess` only -/

@[simp] theorem Main.modSe_sup (m : Main) (n : Nat) (f : Session → Session) : (m.modSe n f).sup = m.sup := rfl
@[simp] theorem Main.modSe_tb (m : Main) (n : Nat) (f : Session → Session) : (m.modSe n f).tb = m.tb := rfl
@[simp] theorem Main.modSe_ptp (m : Main) (n : Nat) (f : Session → Session) : (m.modSe n f).ptp = m.ptp := rfl
@[simp] theorem Main.modSe_pdelay (m : Main) (n : Nat) (f : Session → Session) : (m.modSe n f).pdelay = m.pdelay := rfl
@[simp] theorem Main.modSe_fab (m : Main) (n : Nat) (f : Session → Session) : (m.modSe n f).fab = m.fab := rfl
@[simp] theorem Main.modSe_objs (m : Main) (n : Nat) (f : Session → Session) : (m.modSe n f).objs = m.objs := rfl
@[simp] theorem Main.modSe_master8 (m : Main) (n : Nat) (f : Session → Session) : (m.modSe n f).master8 = m.master8 := rfl
@[simp] theorem Main.modSe_owner (m : Main) (n : Nat) (f : Session → Session) : (m.modSe n f).owner = m.owner := rfl
@[simp] theorem Main.modSe_windows (m : Main) (n : Nat) (f : Session → Session) : (m.modSe n f).windows = m.windows := rfl
@[simp] theorem Main.modSe_prot (m : Main) (n : Nat) (f : Session → Session) : (m.modSe n f).prot = m.prot := rfl
@[simp] theorem Main.modSe_svcMask (m : Main) (n : Nat) (f : Session → Session) : (m.modSe n f).svcMask = m.svcMask := rfl
@[simp] theorem Main.modSe_locked (m : Main) (n : Nat) (f : Session → Session) : (m.modSe n f).locked = m.locked := rfl
@[simp] theorem Main.modSe_line (m : Main) (n : Nat) (f : Session → Session) : (m.modSe n f).line = m.line := rfl
@[simp] theorem Main.modSe_inst (m : Main) (n : Nat) (f : Session → Session) : (m.modSe n f).inst = m.inst := rfl
@[simp] theorem Main.modSe_lane (m : Main) (n : Nat) (f : Session → Session) : (m.modSe n f).lane = m.lane := rfl
@[simp] theorem Main.modSe_port (m : Main) (n : Nat) (f : Session → Session) : (m.modSe n f).port = m.port := rfl
@[simp] theorem Main.modSe_ee (m : Main) (n : Nat) (f : Session → Session) : (m.modSe n f).ee = m.ee := rfl
@[simp] theorem Main.modSe_op (m : Main) (n : Nat) (f : Session → Session) : (m.modSe n f).op = m.op := rfl
@[simp] theorem Main.modSe_trips (m : Main) (n : Nat) (f : Session → Session) : (m.modSe n f).trips = m.trips := rfl
@[simp] theorem Main.modSe_tripOn (m : Main) (n : Nat) (f : Session → Session) : (m.modSe n f).tripOn = m.tripOn := rfl
@[simp] theorem Main.modSe_cam (m : Main) (n : Nat) (f : Session → Session) : (m.modSe n f).cam = m.cam := rfl
@[simp] theorem Main.modSe_tabs (m : Main) (n : Nat) (f : Session → Session) : (m.modSe n f).tabs = m.tabs := rfl
@[simp] theorem Main.modSe_vm (m : Main) (n : Nat) (f : Session → Session) : (m.modSe n f).vm = m.vm := rfl
@[simp] theorem Main.modSe_ev (m : Main) (n : Nat) (f : Session → Session) : (m.modSe n f).ev = m.ev := rfl
@[simp] theorem Main.modSe_aq (m : Main) (n : Nat) (f : Session → Session) : (m.modSe n f).aq = m.aq := rfl
@[simp] theorem Main.modSe_field (m : Main) (n : Nat) (f : Session → Session) : (m.modSe n f).field = m.field := rfl
@[simp] theorem Main.modSe_store (m : Main) (n : Nat) (f : Session → Session) : (m.modSe n f).store = m.store := rfl
@[simp] theorem Main.modSe_host (m : Main) (n : Nat) (f : Session → Session) : (m.modSe n f).host = m.host := rfl
@[simp] theorem Main.modSe_ps (m : Main) (n : Nat) (f : Session → Session) : (m.modSe n f).ps = m.ps := rfl
@[simp] theorem Main.modSe_sfT (m : Main) (n : Nat) (f : Session → Session) : (m.modSe n f).sfT = m.sfT := rfl
@[simp] theorem Main.modSe_out (m : Main) (n : Nat) (f : Session → Session) : (m.modSe n f).out = m.out := rfl
@[simp] theorem Main.modSe_fresh (m : Main) (n : Nat) (f : Session → Session) : (m.modSe n f).fresh = m.fresh := rfl

/-! ### modVm changes `vm` only -/

@[simp] theorem Main.modVm_sup (m : Main) (v : Nat) (f : Master → Master) : (m.modVm v f).sup = m.sup := rfl
@[simp] theorem Main.modVm_tb (m : Main) (v : Nat) (f : Master → Master) : (m.modVm v f).tb = m.tb := rfl
@[simp] theorem Main.modVm_ptp (m : Main) (v : Nat) (f : Master → Master) : (m.modVm v f).ptp = m.ptp := rfl
@[simp] theorem Main.modVm_pdelay (m : Main) (v : Nat) (f : Master → Master) : (m.modVm v f).pdelay = m.pdelay := rfl
@[simp] theorem Main.modVm_fab (m : Main) (v : Nat) (f : Master → Master) : (m.modVm v f).fab = m.fab := rfl
@[simp] theorem Main.modVm_objs (m : Main) (v : Nat) (f : Master → Master) : (m.modVm v f).objs = m.objs := rfl
@[simp] theorem Main.modVm_master8 (m : Main) (v : Nat) (f : Master → Master) : (m.modVm v f).master8 = m.master8 := rfl
@[simp] theorem Main.modVm_sess (m : Main) (v : Nat) (f : Master → Master) : (m.modVm v f).sess = m.sess := rfl
@[simp] theorem Main.modVm_owner (m : Main) (v : Nat) (f : Master → Master) : (m.modVm v f).owner = m.owner := rfl
@[simp] theorem Main.modVm_windows (m : Main) (v : Nat) (f : Master → Master) : (m.modVm v f).windows = m.windows := rfl
@[simp] theorem Main.modVm_prot (m : Main) (v : Nat) (f : Master → Master) : (m.modVm v f).prot = m.prot := rfl
@[simp] theorem Main.modVm_svcMask (m : Main) (v : Nat) (f : Master → Master) : (m.modVm v f).svcMask = m.svcMask := rfl
@[simp] theorem Main.modVm_locked (m : Main) (v : Nat) (f : Master → Master) : (m.modVm v f).locked = m.locked := rfl
@[simp] theorem Main.modVm_line (m : Main) (v : Nat) (f : Master → Master) : (m.modVm v f).line = m.line := rfl
@[simp] theorem Main.modVm_inst (m : Main) (v : Nat) (f : Master → Master) : (m.modVm v f).inst = m.inst := rfl
@[simp] theorem Main.modVm_lane (m : Main) (v : Nat) (f : Master → Master) : (m.modVm v f).lane = m.lane := rfl
@[simp] theorem Main.modVm_port (m : Main) (v : Nat) (f : Master → Master) : (m.modVm v f).port = m.port := rfl
@[simp] theorem Main.modVm_ee (m : Main) (v : Nat) (f : Master → Master) : (m.modVm v f).ee = m.ee := rfl
@[simp] theorem Main.modVm_op (m : Main) (v : Nat) (f : Master → Master) : (m.modVm v f).op = m.op := rfl
@[simp] theorem Main.modVm_trips (m : Main) (v : Nat) (f : Master → Master) : (m.modVm v f).trips = m.trips := rfl
@[simp] theorem Main.modVm_tripOn (m : Main) (v : Nat) (f : Master → Master) : (m.modVm v f).tripOn = m.tripOn := rfl
@[simp] theorem Main.modVm_cam (m : Main) (v : Nat) (f : Master → Master) : (m.modVm v f).cam = m.cam := rfl
@[simp] theorem Main.modVm_tabs (m : Main) (v : Nat) (f : Master → Master) : (m.modVm v f).tabs = m.tabs := rfl
@[simp] theorem Main.modVm_ev (m : Main) (v : Nat) (f : Master → Master) : (m.modVm v f).ev = m.ev := rfl
@[simp] theorem Main.modVm_aq (m : Main) (v : Nat) (f : Master → Master) : (m.modVm v f).aq = m.aq := rfl
@[simp] theorem Main.modVm_field (m : Main) (v : Nat) (f : Master → Master) : (m.modVm v f).field = m.field := rfl
@[simp] theorem Main.modVm_store (m : Main) (v : Nat) (f : Master → Master) : (m.modVm v f).store = m.store := rfl
@[simp] theorem Main.modVm_host (m : Main) (v : Nat) (f : Master → Master) : (m.modVm v f).host = m.host := rfl
@[simp] theorem Main.modVm_ps (m : Main) (v : Nat) (f : Master → Master) : (m.modVm v f).ps = m.ps := rfl
@[simp] theorem Main.modVm_sfT (m : Main) (v : Nat) (f : Master → Master) : (m.modVm v f).sfT = m.sfT := rfl
@[simp] theorem Main.modVm_out (m : Main) (v : Nat) (f : Master → Master) : (m.modVm v f).out = m.out := rfl
@[simp] theorem Main.modVm_fresh (m : Main) (v : Nat) (f : Master → Master) : (m.modVm v f).fresh = m.fresh := rfl

/-! ### modLt changes `ev` only -/

@[simp] theorem Main.modLt_sup (m : Main) (u : Nat) (f : Latch → Latch) : (m.modLt u f).sup = m.sup := rfl
@[simp] theorem Main.modLt_tb (m : Main) (u : Nat) (f : Latch → Latch) : (m.modLt u f).tb = m.tb := rfl
@[simp] theorem Main.modLt_ptp (m : Main) (u : Nat) (f : Latch → Latch) : (m.modLt u f).ptp = m.ptp := rfl
@[simp] theorem Main.modLt_pdelay (m : Main) (u : Nat) (f : Latch → Latch) : (m.modLt u f).pdelay = m.pdelay := rfl
@[simp] theorem Main.modLt_fab (m : Main) (u : Nat) (f : Latch → Latch) : (m.modLt u f).fab = m.fab := rfl
@[simp] theorem Main.modLt_objs (m : Main) (u : Nat) (f : Latch → Latch) : (m.modLt u f).objs = m.objs := rfl
@[simp] theorem Main.modLt_master8 (m : Main) (u : Nat) (f : Latch → Latch) : (m.modLt u f).master8 = m.master8 := rfl
@[simp] theorem Main.modLt_sess (m : Main) (u : Nat) (f : Latch → Latch) : (m.modLt u f).sess = m.sess := rfl
@[simp] theorem Main.modLt_owner (m : Main) (u : Nat) (f : Latch → Latch) : (m.modLt u f).owner = m.owner := rfl
@[simp] theorem Main.modLt_windows (m : Main) (u : Nat) (f : Latch → Latch) : (m.modLt u f).windows = m.windows := rfl
@[simp] theorem Main.modLt_prot (m : Main) (u : Nat) (f : Latch → Latch) : (m.modLt u f).prot = m.prot := rfl
@[simp] theorem Main.modLt_svcMask (m : Main) (u : Nat) (f : Latch → Latch) : (m.modLt u f).svcMask = m.svcMask := rfl
@[simp] theorem Main.modLt_locked (m : Main) (u : Nat) (f : Latch → Latch) : (m.modLt u f).locked = m.locked := rfl
@[simp] theorem Main.modLt_line (m : Main) (u : Nat) (f : Latch → Latch) : (m.modLt u f).line = m.line := rfl
@[simp] theorem Main.modLt_inst (m : Main) (u : Nat) (f : Latch → Latch) : (m.modLt u f).inst = m.inst := rfl
@[simp] theorem Main.modLt_lane (m : Main) (u : Nat) (f : Latch → Latch) : (m.modLt u f).lane = m.lane := rfl
@[simp] theorem Main.modLt_port (m : Main) (u : Nat) (f : Latch → Latch) : (m.modLt u f).port = m.port := rfl
@[simp] theorem Main.modLt_ee (m : Main) (u : Nat) (f : Latch → Latch) : (m.modLt u f).ee = m.ee := rfl
@[simp] theorem Main.modLt_op (m : Main) (u : Nat) (f : Latch → Latch) : (m.modLt u f).op = m.op := rfl
@[simp] theorem Main.modLt_trips (m : Main) (u : Nat) (f : Latch → Latch) : (m.modLt u f).trips = m.trips := rfl
@[simp] theorem Main.modLt_tripOn (m : Main) (u : Nat) (f : Latch → Latch) : (m.modLt u f).tripOn = m.tripOn := rfl
@[simp] theorem Main.modLt_cam (m : Main) (u : Nat) (f : Latch → Latch) : (m.modLt u f).cam = m.cam := rfl
@[simp] theorem Main.modLt_tabs (m : Main) (u : Nat) (f : Latch → Latch) : (m.modLt u f).tabs = m.tabs := rfl
@[simp] theorem Main.modLt_vm (m : Main) (u : Nat) (f : Latch → Latch) : (m.modLt u f).vm = m.vm := rfl
@[simp] theorem Main.modLt_aq (m : Main) (u : Nat) (f : Latch → Latch) : (m.modLt u f).aq = m.aq := rfl
@[simp] theorem Main.modLt_field (m : Main) (u : Nat) (f : Latch → Latch) : (m.modLt u f).field = m.field := rfl
@[simp] theorem Main.modLt_store (m : Main) (u : Nat) (f : Latch → Latch) : (m.modLt u f).store = m.store := rfl
@[simp] theorem Main.modLt_host (m : Main) (u : Nat) (f : Latch → Latch) : (m.modLt u f).host = m.host := rfl
@[simp] theorem Main.modLt_ps (m : Main) (u : Nat) (f : Latch → Latch) : (m.modLt u f).ps = m.ps := rfl
@[simp] theorem Main.modLt_sfT (m : Main) (u : Nat) (f : Latch → Latch) : (m.modLt u f).sfT = m.sfT := rfl
@[simp] theorem Main.modLt_out (m : Main) (u : Nat) (f : Latch → Latch) : (m.modLt u f).out = m.out := rfl
@[simp] theorem Main.modLt_fresh (m : Main) (u : Nat) (f : Latch → Latch) : (m.modLt u f).fresh = m.fresh := rfl

/-! ### modAct changes `ev` only -/

@[simp] theorem Main.modAct_sup (m : Main) (e : Nat) (f : Action → Action) : (m.modAct e f).sup = m.sup := rfl
@[simp] theorem Main.modAct_tb (m : Main) (e : Nat) (f : Action → Action) : (m.modAct e f).tb = m.tb := rfl
@[simp] theorem Main.modAct_ptp (m : Main) (e : Nat) (f : Action → Action) : (m.modAct e f).ptp = m.ptp := rfl
@[simp] theorem Main.modAct_pdelay (m : Main) (e : Nat) (f : Action → Action) : (m.modAct e f).pdelay = m.pdelay := rfl
@[simp] theorem Main.modAct_fab (m : Main) (e : Nat) (f : Action → Action) : (m.modAct e f).fab = m.fab := rfl
@[simp] theorem Main.modAct_objs (m : Main) (e : Nat) (f : Action → Action) : (m.modAct e f).objs = m.objs := rfl
@[simp] theorem Main.modAct_master8 (m : Main) (e : Nat) (f : Action → Action) : (m.modAct e f).master8 = m.master8 := rfl
@[simp] theorem Main.modAct_sess (m : Main) (e : Nat) (f : Action → Action) : (m.modAct e f).sess = m.sess := rfl
@[simp] theorem Main.modAct_owner (m : Main) (e : Nat) (f : Action → Action) : (m.modAct e f).owner = m.owner := rfl
@[simp] theorem Main.modAct_windows (m : Main) (e : Nat) (f : Action → Action) : (m.modAct e f).windows = m.windows := rfl
@[simp] theorem Main.modAct_prot (m : Main) (e : Nat) (f : Action → Action) : (m.modAct e f).prot = m.prot := rfl
@[simp] theorem Main.modAct_svcMask (m : Main) (e : Nat) (f : Action → Action) : (m.modAct e f).svcMask = m.svcMask := rfl
@[simp] theorem Main.modAct_locked (m : Main) (e : Nat) (f : Action → Action) : (m.modAct e f).locked = m.locked := rfl
@[simp] theorem Main.modAct_line (m : Main) (e : Nat) (f : Action → Action) : (m.modAct e f).line = m.line := rfl
@[simp] theorem Main.modAct_inst (m : Main) (e : Nat) (f : Action → Action) : (m.modAct e f).inst = m.inst := rfl
@[simp] theorem Main.modAct_lane (m : Main) (e : Nat) (f : Action → Action) : (m.modAct e f).lane = m.lane := rfl
@[simp] theorem Main.modAct_port (m : Main) (e : Nat) (f : Action → Action) : (m.modAct e f).port = m.port := rfl
@[simp] theorem Main.modAct_ee (m : Main) (e : Nat) (f : Action → Action) : (m.modAct e f).ee = m.ee := rfl
@[simp] theorem Main.modAct_op (m : Main) (e : Nat) (f : Action → Action) : (m.modAct e f).op = m.op := rfl
@[simp] theorem Main.modAct_trips (m : Main) (e : Nat) (f : Action → Action) : (m.modAct e f).trips = m.trips := rfl
@[simp] theorem Main.modAct_tripOn (m : Main) (e : Nat) (f : Action → Action) : (m.modAct e f).tripOn = m.tripOn := rfl
@[simp] theorem Main.modAct_cam (m : Main) (e : Nat) (f : Action → Action) : (m.modAct e f).cam = m.cam := rfl
@[simp] theorem Main.modAct_tabs (m : Main) (e : Nat) (f : Action → Action) : (m.modAct e f).tabs = m.tabs := rfl
@[simp] theorem Main.modAct_vm (m : Main) (e : Nat) (f : Action → Action) : (m.modAct e f).vm = m.vm := rfl
@[simp] theorem Main.modAct_aq (m : Main) (e : Nat) (f : Action → Action) : (m.modAct e f).aq = m.aq := rfl
@[simp] theorem Main.modAct_field (m : Main) (e : Nat) (f : Action → Action) : (m.modAct e f).field = m.field := rfl
@[simp] theorem Main.modAct_store (m : Main) (e : Nat) (f : Action → Action) : (m.modAct e f).store = m.store := rfl
@[simp] theorem Main.modAct_host (m : Main) (e : Nat) (f : Action → Action) : (m.modAct e f).host = m.host := rfl
@[simp] theorem Main.modAct_ps (m : Main) (e : Nat) (f : Action → Action) : (m.modAct e f).ps = m.ps := rfl
@[simp] theorem Main.modAct_sfT (m : Main) (e : Nat) (f : Action → Action) : (m.modAct e f).sfT = m.sfT := rfl
@[simp] theorem Main.modAct_out (m : Main) (e : Nat) (f : Action → Action) : (m.modAct e f).out = m.out := rfl
@[simp] theorem Main.modAct_fresh (m : Main) (e : Nat) (f : Action → Action) : (m.modAct e f).fresh = m.fresh := rfl

/-! ### modAq changes `aq` only -/

@[simp] theorem Main.modAq_sup (m : Main) (u : Nat) (f : AqUnit → AqUnit) : (m.modAq u f).sup = m.sup := rfl
@[simp] theorem Main.modAq_tb (m : Main) (u : Nat) (f : AqUnit → AqUnit) : (m.modAq u f).tb = m.tb := rfl
@[simp] theorem Main.modAq_ptp (m : Main) (u : Nat) (f : AqUnit → AqUnit) : (m.modAq u f).ptp = m.ptp := rfl
@[simp] theorem Main.modAq_pdelay (m : Main) (u : Nat) (f : AqUnit → AqUnit) : (m.modAq u f).pdelay = m.pdelay := rfl
@[simp] theorem Main.modAq_fab (m : Main) (u : Nat) (f : AqUnit → AqUnit) : (m.modAq u f).fab = m.fab := rfl
@[simp] theorem Main.modAq_objs (m : Main) (u : Nat) (f : AqUnit → AqUnit) : (m.modAq u f).objs = m.objs := rfl
@[simp] theorem Main.modAq_master8 (m : Main) (u : Nat) (f : AqUnit → AqUnit) : (m.modAq u f).master8 = m.master8 := rfl
@[simp] theorem Main.modAq_sess (m : Main) (u : Nat) (f : AqUnit → AqUnit) : (m.modAq u f).sess = m.sess := rfl
@[simp] theorem Main.modAq_owner (m : Main) (u : Nat) (f : AqUnit → AqUnit) : (m.modAq u f).owner = m.owner := rfl
@[simp] theorem Main.modAq_windows (m : Main) (u : Nat) (f : AqUnit → AqUnit) : (m.modAq u f).windows = m.windows := rfl
@[simp] theorem Main.modAq_prot (m : Main) (u : Nat) (f : AqUnit → AqUnit) : (m.modAq u f).prot = m.prot := rfl
@[simp] theorem Main.modAq_svcMask (m : Main) (u : Nat) (f : AqUnit → AqUnit) : (m.modAq u f).svcMask = m.svcMask := rfl
@[simp] theorem Main.modAq_locked (m : Main) (u : Nat) (f : AqUnit → AqUnit) : (m.modAq u f).locked = m.locked := rfl
@[simp] theorem Main.modAq_line (m : Main) (u : Nat) (f : AqUnit → AqUnit) : (m.modAq u f).line = m.line := rfl
@[simp] theorem Main.modAq_inst (m : Main) (u : Nat) (f : AqUnit → AqUnit) : (m.modAq u f).inst = m.inst := rfl
@[simp] theorem Main.modAq_lane (m : Main) (u : Nat) (f : AqUnit → AqUnit) : (m.modAq u f).lane = m.lane := rfl
@[simp] theorem Main.modAq_port (m : Main) (u : Nat) (f : AqUnit → AqUnit) : (m.modAq u f).port = m.port := rfl
@[simp] theorem Main.modAq_ee (m : Main) (u : Nat) (f : AqUnit → AqUnit) : (m.modAq u f).ee = m.ee := rfl
@[simp] theorem Main.modAq_op (m : Main) (u : Nat) (f : AqUnit → AqUnit) : (m.modAq u f).op = m.op := rfl
@[simp] theorem Main.modAq_trips (m : Main) (u : Nat) (f : AqUnit → AqUnit) : (m.modAq u f).trips = m.trips := rfl
@[simp] theorem Main.modAq_tripOn (m : Main) (u : Nat) (f : AqUnit → AqUnit) : (m.modAq u f).tripOn = m.tripOn := rfl
@[simp] theorem Main.modAq_cam (m : Main) (u : Nat) (f : AqUnit → AqUnit) : (m.modAq u f).cam = m.cam := rfl
@[simp] theorem Main.modAq_tabs (m : Main) (u : Nat) (f : AqUnit → AqUnit) : (m.modAq u f).tabs = m.tabs := rfl
@[simp] theorem Main.modAq_vm (m : Main) (u : Nat) (f : AqUnit → AqUnit) : (m.modAq u f).vm = m.vm := rfl
@[simp] theorem Main.modAq_ev (m : Main) (u : Nat) (f : AqUnit → AqUnit) : (m.modAq u f).ev = m.ev := rfl
@[simp] theorem Main.modAq_field (m : Main) (u : Nat) (f : AqUnit → AqUnit) : (m.modAq u f).field = m.field := rfl
@[simp] theorem Main.modAq_store (m : Main) (u : Nat) (f : AqUnit → AqUnit) : (m.modAq u f).store = m.store := rfl
@[simp] theorem Main.modAq_host (m : Main) (u : Nat) (f : AqUnit → AqUnit) : (m.modAq u f).host = m.host := rfl
@[simp] theorem Main.modAq_ps (m : Main) (u : Nat) (f : AqUnit → AqUnit) : (m.modAq u f).ps = m.ps := rfl
@[simp] theorem Main.modAq_sfT (m : Main) (u : Nat) (f : AqUnit → AqUnit) : (m.modAq u f).sfT = m.sfT := rfl
@[simp] theorem Main.modAq_out (m : Main) (u : Nat) (f : AqUnit → AqUnit) : (m.modAq u f).out = m.out := rfl
@[simp] theorem Main.modAq_fresh (m : Main) (u : Nat) (f : AqUnit → AqUnit) : (m.modAq u f).fresh = m.fresh := rfl

/-! ### modFc changes `field` only -/

@[simp] theorem Main.modFc_sup (m : Main) (c : Nat) (f : FieldCh → FieldCh) : (m.modFc c f).sup = m.sup := rfl
@[simp] theorem Main.modFc_tb (m : Main) (c : Nat) (f : FieldCh → FieldCh) : (m.modFc c f).tb = m.tb := rfl
@[simp] theorem Main.modFc_ptp (m : Main) (c : Nat) (f : FieldCh → FieldCh) : (m.modFc c f).ptp = m.ptp := rfl
@[simp] theorem Main.modFc_pdelay (m : Main) (c : Nat) (f : FieldCh → FieldCh) : (m.modFc c f).pdelay = m.pdelay := rfl
@[simp] theorem Main.modFc_fab (m : Main) (c : Nat) (f : FieldCh → FieldCh) : (m.modFc c f).fab = m.fab := rfl
@[simp] theorem Main.modFc_objs (m : Main) (c : Nat) (f : FieldCh → FieldCh) : (m.modFc c f).objs = m.objs := rfl
@[simp] theorem Main.modFc_master8 (m : Main) (c : Nat) (f : FieldCh → FieldCh) : (m.modFc c f).master8 = m.master8 := rfl
@[simp] theorem Main.modFc_sess (m : Main) (c : Nat) (f : FieldCh → FieldCh) : (m.modFc c f).sess = m.sess := rfl
@[simp] theorem Main.modFc_owner (m : Main) (c : Nat) (f : FieldCh → FieldCh) : (m.modFc c f).owner = m.owner := rfl
@[simp] theorem Main.modFc_windows (m : Main) (c : Nat) (f : FieldCh → FieldCh) : (m.modFc c f).windows = m.windows := rfl
@[simp] theorem Main.modFc_prot (m : Main) (c : Nat) (f : FieldCh → FieldCh) : (m.modFc c f).prot = m.prot := rfl
@[simp] theorem Main.modFc_svcMask (m : Main) (c : Nat) (f : FieldCh → FieldCh) : (m.modFc c f).svcMask = m.svcMask := rfl
@[simp] theorem Main.modFc_locked (m : Main) (c : Nat) (f : FieldCh → FieldCh) : (m.modFc c f).locked = m.locked := rfl
@[simp] theorem Main.modFc_line (m : Main) (c : Nat) (f : FieldCh → FieldCh) : (m.modFc c f).line = m.line := rfl
@[simp] theorem Main.modFc_inst (m : Main) (c : Nat) (f : FieldCh → FieldCh) : (m.modFc c f).inst = m.inst := rfl
@[simp] theorem Main.modFc_lane (m : Main) (c : Nat) (f : FieldCh → FieldCh) : (m.modFc c f).lane = m.lane := rfl
@[simp] theorem Main.modFc_port (m : Main) (c : Nat) (f : FieldCh → FieldCh) : (m.modFc c f).port = m.port := rfl
@[simp] theorem Main.modFc_ee (m : Main) (c : Nat) (f : FieldCh → FieldCh) : (m.modFc c f).ee = m.ee := rfl
@[simp] theorem Main.modFc_op (m : Main) (c : Nat) (f : FieldCh → FieldCh) : (m.modFc c f).op = m.op := rfl
@[simp] theorem Main.modFc_trips (m : Main) (c : Nat) (f : FieldCh → FieldCh) : (m.modFc c f).trips = m.trips := rfl
@[simp] theorem Main.modFc_tripOn (m : Main) (c : Nat) (f : FieldCh → FieldCh) : (m.modFc c f).tripOn = m.tripOn := rfl
@[simp] theorem Main.modFc_cam (m : Main) (c : Nat) (f : FieldCh → FieldCh) : (m.modFc c f).cam = m.cam := rfl
@[simp] theorem Main.modFc_tabs (m : Main) (c : Nat) (f : FieldCh → FieldCh) : (m.modFc c f).tabs = m.tabs := rfl
@[simp] theorem Main.modFc_vm (m : Main) (c : Nat) (f : FieldCh → FieldCh) : (m.modFc c f).vm = m.vm := rfl
@[simp] theorem Main.modFc_ev (m : Main) (c : Nat) (f : FieldCh → FieldCh) : (m.modFc c f).ev = m.ev := rfl
@[simp] theorem Main.modFc_aq (m : Main) (c : Nat) (f : FieldCh → FieldCh) : (m.modFc c f).aq = m.aq := rfl
@[simp] theorem Main.modFc_store (m : Main) (c : Nat) (f : FieldCh → FieldCh) : (m.modFc c f).store = m.store := rfl
@[simp] theorem Main.modFc_host (m : Main) (c : Nat) (f : FieldCh → FieldCh) : (m.modFc c f).host = m.host := rfl
@[simp] theorem Main.modFc_ps (m : Main) (c : Nat) (f : FieldCh → FieldCh) : (m.modFc c f).ps = m.ps := rfl
@[simp] theorem Main.modFc_sfT (m : Main) (c : Nat) (f : FieldCh → FieldCh) : (m.modFc c f).sfT = m.sfT := rfl
@[simp] theorem Main.modFc_out (m : Main) (c : Nat) (f : FieldCh → FieldCh) : (m.modFc c f).out = m.out := rfl
@[simp] theorem Main.modFc_fresh (m : Main) (c : Nat) (f : FieldCh → FieldCh) : (m.modFc c f).fresh = m.fresh := rfl

/-! ### modPl changes `line` only -/

@[simp] theorem Main.modPl_sup (m : Main) (p : Nat) (f : PortLink → PortLink) : (m.modPl p f).sup = m.sup := rfl
@[simp] theorem Main.modPl_tb (m : Main) (p : Nat) (f : PortLink → PortLink) : (m.modPl p f).tb = m.tb := rfl
@[simp] theorem Main.modPl_ptp (m : Main) (p : Nat) (f : PortLink → PortLink) : (m.modPl p f).ptp = m.ptp := rfl
@[simp] theorem Main.modPl_pdelay (m : Main) (p : Nat) (f : PortLink → PortLink) : (m.modPl p f).pdelay = m.pdelay := rfl
@[simp] theorem Main.modPl_fab (m : Main) (p : Nat) (f : PortLink → PortLink) : (m.modPl p f).fab = m.fab := rfl
@[simp] theorem Main.modPl_objs (m : Main) (p : Nat) (f : PortLink → PortLink) : (m.modPl p f).objs = m.objs := rfl
@[simp] theorem Main.modPl_master8 (m : Main) (p : Nat) (f : PortLink → PortLink) : (m.modPl p f).master8 = m.master8 := rfl
@[simp] theorem Main.modPl_sess (m : Main) (p : Nat) (f : PortLink → PortLink) : (m.modPl p f).sess = m.sess := rfl
@[simp] theorem Main.modPl_owner (m : Main) (p : Nat) (f : PortLink → PortLink) : (m.modPl p f).owner = m.owner := rfl
@[simp] theorem Main.modPl_windows (m : Main) (p : Nat) (f : PortLink → PortLink) : (m.modPl p f).windows = m.windows := rfl
@[simp] theorem Main.modPl_prot (m : Main) (p : Nat) (f : PortLink → PortLink) : (m.modPl p f).prot = m.prot := rfl
@[simp] theorem Main.modPl_svcMask (m : Main) (p : Nat) (f : PortLink → PortLink) : (m.modPl p f).svcMask = m.svcMask := rfl
@[simp] theorem Main.modPl_locked (m : Main) (p : Nat) (f : PortLink → PortLink) : (m.modPl p f).locked = m.locked := rfl
@[simp] theorem Main.modPl_inst (m : Main) (p : Nat) (f : PortLink → PortLink) : (m.modPl p f).inst = m.inst := rfl
@[simp] theorem Main.modPl_lane (m : Main) (p : Nat) (f : PortLink → PortLink) : (m.modPl p f).lane = m.lane := rfl
@[simp] theorem Main.modPl_port (m : Main) (p : Nat) (f : PortLink → PortLink) : (m.modPl p f).port = m.port := rfl
@[simp] theorem Main.modPl_ee (m : Main) (p : Nat) (f : PortLink → PortLink) : (m.modPl p f).ee = m.ee := rfl
@[simp] theorem Main.modPl_op (m : Main) (p : Nat) (f : PortLink → PortLink) : (m.modPl p f).op = m.op := rfl
@[simp] theorem Main.modPl_trips (m : Main) (p : Nat) (f : PortLink → PortLink) : (m.modPl p f).trips = m.trips := rfl
@[simp] theorem Main.modPl_tripOn (m : Main) (p : Nat) (f : PortLink → PortLink) : (m.modPl p f).tripOn = m.tripOn := rfl
@[simp] theorem Main.modPl_cam (m : Main) (p : Nat) (f : PortLink → PortLink) : (m.modPl p f).cam = m.cam := rfl
@[simp] theorem Main.modPl_tabs (m : Main) (p : Nat) (f : PortLink → PortLink) : (m.modPl p f).tabs = m.tabs := rfl
@[simp] theorem Main.modPl_vm (m : Main) (p : Nat) (f : PortLink → PortLink) : (m.modPl p f).vm = m.vm := rfl
@[simp] theorem Main.modPl_ev (m : Main) (p : Nat) (f : PortLink → PortLink) : (m.modPl p f).ev = m.ev := rfl
@[simp] theorem Main.modPl_aq (m : Main) (p : Nat) (f : PortLink → PortLink) : (m.modPl p f).aq = m.aq := rfl
@[simp] theorem Main.modPl_field (m : Main) (p : Nat) (f : PortLink → PortLink) : (m.modPl p f).field = m.field := rfl
@[simp] theorem Main.modPl_store (m : Main) (p : Nat) (f : PortLink → PortLink) : (m.modPl p f).store = m.store := rfl
@[simp] theorem Main.modPl_host (m : Main) (p : Nat) (f : PortLink → PortLink) : (m.modPl p f).host = m.host := rfl
@[simp] theorem Main.modPl_ps (m : Main) (p : Nat) (f : PortLink → PortLink) : (m.modPl p f).ps = m.ps := rfl
@[simp] theorem Main.modPl_sfT (m : Main) (p : Nat) (f : PortLink → PortLink) : (m.modPl p f).sfT = m.sfT := rfl
@[simp] theorem Main.modPl_out (m : Main) (p : Nat) (f : PortLink → PortLink) : (m.modPl p f).out = m.out := rfl
@[simp] theorem Main.modPl_fresh (m : Main) (p : Nat) (f : PortLink → PortLink) : (m.modPl p f).fresh = m.fresh := rfl

/-! ### modPs changes `ps` only -/

@[simp] theorem Main.modPs_sup (m : Main) (n : Nat) (f : Ps → Ps) : (m.modPs n f).sup = m.sup := rfl
@[simp] theorem Main.modPs_tb (m : Main) (n : Nat) (f : Ps → Ps) : (m.modPs n f).tb = m.tb := rfl
@[simp] theorem Main.modPs_ptp (m : Main) (n : Nat) (f : Ps → Ps) : (m.modPs n f).ptp = m.ptp := rfl
@[simp] theorem Main.modPs_pdelay (m : Main) (n : Nat) (f : Ps → Ps) : (m.modPs n f).pdelay = m.pdelay := rfl
@[simp] theorem Main.modPs_fab (m : Main) (n : Nat) (f : Ps → Ps) : (m.modPs n f).fab = m.fab := rfl
@[simp] theorem Main.modPs_objs (m : Main) (n : Nat) (f : Ps → Ps) : (m.modPs n f).objs = m.objs := rfl
@[simp] theorem Main.modPs_master8 (m : Main) (n : Nat) (f : Ps → Ps) : (m.modPs n f).master8 = m.master8 := rfl
@[simp] theorem Main.modPs_sess (m : Main) (n : Nat) (f : Ps → Ps) : (m.modPs n f).sess = m.sess := rfl
@[simp] theorem Main.modPs_owner (m : Main) (n : Nat) (f : Ps → Ps) : (m.modPs n f).owner = m.owner := rfl
@[simp] theorem Main.modPs_windows (m : Main) (n : Nat) (f : Ps → Ps) : (m.modPs n f).windows = m.windows := rfl
@[simp] theorem Main.modPs_prot (m : Main) (n : Nat) (f : Ps → Ps) : (m.modPs n f).prot = m.prot := rfl
@[simp] theorem Main.modPs_svcMask (m : Main) (n : Nat) (f : Ps → Ps) : (m.modPs n f).svcMask = m.svcMask := rfl
@[simp] theorem Main.modPs_locked (m : Main) (n : Nat) (f : Ps → Ps) : (m.modPs n f).locked = m.locked := rfl
@[simp] theorem Main.modPs_line (m : Main) (n : Nat) (f : Ps → Ps) : (m.modPs n f).line = m.line := rfl
@[simp] theorem Main.modPs_inst (m : Main) (n : Nat) (f : Ps → Ps) : (m.modPs n f).inst = m.inst := rfl
@[simp] theorem Main.modPs_lane (m : Main) (n : Nat) (f : Ps → Ps) : (m.modPs n f).lane = m.lane := rfl
@[simp] theorem Main.modPs_port (m : Main) (n : Nat) (f : Ps → Ps) : (m.modPs n f).port = m.port := rfl
@[simp] theorem Main.modPs_ee (m : Main) (n : Nat) (f : Ps → Ps) : (m.modPs n f).ee = m.ee := rfl
@[simp] theorem Main.modPs_op (m : Main) (n : Nat) (f : Ps → Ps) : (m.modPs n f).op = m.op := rfl
@[simp] theorem Main.modPs_trips (m : Main) (n : Nat) (f : Ps → Ps) : (m.modPs n f).trips = m.trips := rfl
@[simp] theorem Main.modPs_tripOn (m : Main) (n : Nat) (f : Ps → Ps) : (m.modPs n f).tripOn = m.tripOn := rfl
@[simp] theorem Main.modPs_cam (m : Main) (n : Nat) (f : Ps → Ps) : (m.modPs n f).cam = m.cam := rfl
@[simp] theorem Main.modPs_tabs (m : Main) (n : Nat) (f : Ps → Ps) : (m.modPs n f).tabs = m.tabs := rfl
@[simp] theorem Main.modPs_vm (m : Main) (n : Nat) (f : Ps → Ps) : (m.modPs n f).vm = m.vm := rfl
@[simp] theorem Main.modPs_ev (m : Main) (n : Nat) (f : Ps → Ps) : (m.modPs n f).ev = m.ev := rfl
@[simp] theorem Main.modPs_aq (m : Main) (n : Nat) (f : Ps → Ps) : (m.modPs n f).aq = m.aq := rfl
@[simp] theorem Main.modPs_field (m : Main) (n : Nat) (f : Ps → Ps) : (m.modPs n f).field = m.field := rfl
@[simp] theorem Main.modPs_store (m : Main) (n : Nat) (f : Ps → Ps) : (m.modPs n f).store = m.store := rfl
@[simp] theorem Main.modPs_host (m : Main) (n : Nat) (f : Ps → Ps) : (m.modPs n f).host = m.host := rfl
@[simp] theorem Main.modPs_sfT (m : Main) (n : Nat) (f : Ps → Ps) : (m.modPs n f).sfT = m.sfT := rfl
@[simp] theorem Main.modPs_out (m : Main) (n : Nat) (f : Ps → Ps) : (m.modPs n f).out = m.out := rfl
@[simp] theorem Main.modPs_fresh (m : Main) (n : Nat) (f : Ps → Ps) : (m.modPs n f).fresh = m.fresh := rfl

/-! ### modEe changes `ee` only -/

@[simp] theorem Main.modEe_sup (m : Main) (o : Nat) (f : EeOut → EeOut) : (m.modEe o f).sup = m.sup := rfl
@[simp] theorem Main.modEe_tb (m : Main) (o : Nat) (f : EeOut → EeOut) : (m.modEe o f).tb = m.tb := rfl
@[simp] theorem Main.modEe_ptp (m : Main) (o : Nat) (f : EeOut → EeOut) : (m.modEe o f).ptp = m.ptp := rfl
@[simp] theorem Main.modEe_pdelay (m : Main) (o : Nat) (f : EeOut → EeOut) : (m.modEe o f).pdelay = m.pdelay := rfl
@[simp] theorem Main.modEe_fab (m : Main) (o : Nat) (f : EeOut → EeOut) : (m.modEe o f).fab = m.fab := rfl
@[simp] theorem Main.modEe_objs (m : Main) (o : Nat) (f : EeOut → EeOut) : (m.modEe o f).objs = m.objs := rfl
@[simp] theorem Main.modEe_master8 (m : Main) (o : Nat) (f : EeOut → EeOut) : (m.modEe o f).master8 = m.master8 := rfl
@[simp] theorem Main.modEe_sess (m : Main) (o : Nat) (f : EeOut → EeOut) : (m.modEe o f).sess = m.sess := rfl
@[simp] theorem Main.modEe_owner (m : Main) (o : Nat) (f : EeOut → EeOut) : (m.modEe o f).owner = m.owner := rfl
@[simp] theorem Main.modEe_windows (m : Main) (o : Nat) (f : EeOut → EeOut) : (m.modEe o f).windows = m.windows := rfl
@[simp] theorem Main.modEe_prot (m : Main) (o : Nat) (f : EeOut → EeOut) : (m.modEe o f).prot = m.prot := rfl
@[simp] theorem Main.modEe_svcMask (m : Main) (o : Nat) (f : EeOut → EeOut) : (m.modEe o f).svcMask = m.svcMask := rfl
@[simp] theorem Main.modEe_locked (m : Main) (o : Nat) (f : EeOut → EeOut) : (m.modEe o f).locked = m.locked := rfl
@[simp] theorem Main.modEe_line (m : Main) (o : Nat) (f : EeOut → EeOut) : (m.modEe o f).line = m.line := rfl
@[simp] theorem Main.modEe_inst (m : Main) (o : Nat) (f : EeOut → EeOut) : (m.modEe o f).inst = m.inst := rfl
@[simp] theorem Main.modEe_lane (m : Main) (o : Nat) (f : EeOut → EeOut) : (m.modEe o f).lane = m.lane := rfl
@[simp] theorem Main.modEe_port (m : Main) (o : Nat) (f : EeOut → EeOut) : (m.modEe o f).port = m.port := rfl
@[simp] theorem Main.modEe_op (m : Main) (o : Nat) (f : EeOut → EeOut) : (m.modEe o f).op = m.op := rfl
@[simp] theorem Main.modEe_trips (m : Main) (o : Nat) (f : EeOut → EeOut) : (m.modEe o f).trips = m.trips := rfl
@[simp] theorem Main.modEe_tripOn (m : Main) (o : Nat) (f : EeOut → EeOut) : (m.modEe o f).tripOn = m.tripOn := rfl
@[simp] theorem Main.modEe_cam (m : Main) (o : Nat) (f : EeOut → EeOut) : (m.modEe o f).cam = m.cam := rfl
@[simp] theorem Main.modEe_tabs (m : Main) (o : Nat) (f : EeOut → EeOut) : (m.modEe o f).tabs = m.tabs := rfl
@[simp] theorem Main.modEe_vm (m : Main) (o : Nat) (f : EeOut → EeOut) : (m.modEe o f).vm = m.vm := rfl
@[simp] theorem Main.modEe_ev (m : Main) (o : Nat) (f : EeOut → EeOut) : (m.modEe o f).ev = m.ev := rfl
@[simp] theorem Main.modEe_aq (m : Main) (o : Nat) (f : EeOut → EeOut) : (m.modEe o f).aq = m.aq := rfl
@[simp] theorem Main.modEe_field (m : Main) (o : Nat) (f : EeOut → EeOut) : (m.modEe o f).field = m.field := rfl
@[simp] theorem Main.modEe_store (m : Main) (o : Nat) (f : EeOut → EeOut) : (m.modEe o f).store = m.store := rfl
@[simp] theorem Main.modEe_host (m : Main) (o : Nat) (f : EeOut → EeOut) : (m.modEe o f).host = m.host := rfl
@[simp] theorem Main.modEe_ps (m : Main) (o : Nat) (f : EeOut → EeOut) : (m.modEe o f).ps = m.ps := rfl
@[simp] theorem Main.modEe_sfT (m : Main) (o : Nat) (f : EeOut → EeOut) : (m.modEe o f).sfT = m.sfT := rfl
@[simp] theorem Main.modEe_out (m : Main) (o : Nat) (f : EeOut → EeOut) : (m.modEe o f).out = m.out := rfl
@[simp] theorem Main.modEe_fresh (m : Main) (o : Nat) (f : EeOut → EeOut) : (m.modEe o f).fresh = m.fresh := rfl

end Sys2Proof.Machine
end

