-- ==== Sys2Proof/Laws/Ops.lean ====
section
/-! SUPPORT. The shared operations, said once each: what they answer, and what they leave as it was. -/

namespace Sys2Proof.Machine

/-! ### The three ways a meaning acts -/

@[simp] theorem State.onMain_eq (s : State) (f : Main → Main) :
    s.onMain f = .next { s with main := f { s.main with out := {} } } := rfl
@[simp] theorem State.onSafety_eq (s : State) (f : SafetyDie → SafetyDie) :
    s.onSafety f = .next { s with safety := f s.safety } := rfl
@[simp] theorem State.onSignal_eq (s : State) (f : SafetyDie → Main → Main) :
    s.onSignal f = .next { s with main := f s.safety { s.main with out := {} } } := rfl

/-! ### Objects and instances after an update -/

theorem Main.obj_setObj (m : Main) (a b v : Nat) :
    (m.setObj a v).obj b = if b = a then v % 2 ^ 72 else m.obj b := by
  unfold Main.setObj Main.obj
  simp only
  by_cases h : b = a
  · subst h; simp
  · rw [mget_mset_ne _ _ _ _ _ _ h, if_neg h]

@[simp] theorem Main.obj_setObj_same (m : Main) (a v : Nat) : (m.setObj a v).obj a = v % 2 ^ 72 := by
  simp [Main.obj_setObj]

theorem Main.i_modI (m : Main) (i j : Nat) (f : Inst → Inst) :
    (m.modI i f).i j = if j = i then f (m.i i) else m.i j := mget_mmod _ _ _ _ _
theorem Main.ln_modLn (m : Main) (i j : Nat) (f : Lane → Lane) :
    (m.modLn i f).ln j = if j = i then f (m.ln i) else m.ln j := mget_mmod _ _ _ _ _
theorem Main.pt_modPt (m : Main) (i j : Nat) (f : Port → Port) :
    (m.modPt i f).pt j = if j = i then f (m.pt i) else m.pt j := mget_mmod _ _ _ _ _
theorem Main.lop_modOp (m : Main) (i j : Nat) (f : LongOp → LongOp) :
    (m.modOp i f).lop j = if j = i then f (m.lop i) else m.lop j := mget_mmod _ _ _ _ _
theorem Main.se_modSe (m : Main) (i j : Nat) (f : Session → Session) :
    (m.modSe i f).se j = if j = i then f (m.se i) else m.se j := mget_mmod _ _ _ _ _
theorem Main.vmst_modVm (m : Main) (i j : Nat) (f : Master → Master) :
    (m.modVm i f).vmst j = if j = i then f (m.vmst i) else m.vmst j := mget_mmod _ _ _ _ _
theorem Main.lt_modLt (m : Main) (i j : Nat) (f : Latch → Latch) :
    (m.modLt i f).lt j = if j = i then f (m.lt i) else m.lt j := mget_mmod _ _ _ _ _
theorem Main.act_modAct (m : Main) (i j : Nat) (f : Action → Action) :
    (m.modAct i f).act j = if j = i then f (m.act i) else m.act j := mget_mmod _ _ _ _ _
theorem Main.aqu_modAq (m : Main) (i j : Nat) (f : AqUnit → AqUnit) :
    (m.modAq i f).aqu j = if j = i then f (m.aqu i) else m.aqu j := mget_mmod _ _ _ _ _
theorem Main.fc_modFc (m : Main) (i j : Nat) (f : FieldCh → FieldCh) :
    (m.modFc i f).fc j = if j = i then f (m.fc i) else m.fc j := mget_mmod _ _ _ _ _
theorem Main.pl_modPl (m : Main) (i j : Nat) (f : PortLink → PortLink) :
    (m.modPl i f).pl j = if j = i then f (m.pl i) else m.pl j := mget_mmod _ _ _ _ _
theorem Main.psm_modPs (m : Main) (i j : Nat) (f : Ps → Ps) :
    (m.modPs i f).psm j = if j = i then f (m.psm i) else m.psm j := mget_mmod _ _ _ _ _
theorem Main.eeo_modEe (m : Main) (i j : Nat) (f : EeOut → EeOut) :
    (m.modEe i f).eeo j = if j = i then f (m.eeo i) else m.eeo j := mget_mmod _ _ _ _ _

/-- An update of the state-machine part is seen there and nowhere else. -/
theorem Main.core_modC (m : Main) (i j : Nat) (f : Core → Core) :
    ((m.modC i f).i j).core = if j = i then f (m.i i).core else (m.i j).core := by
  unfold Main.modC; rw [Main.i_modI]; split <;> simp_all

/-- Every object keeps its canonical form at a write. -/
theorem Main.objs_keep (m : Main) (a v : Nat) (b : Nat) (h : b ≠ a) : (m.setObj a v).obj b = m.obj b := by
  simp [Main.obj_setObj, h]

/-! ### `forEach`: an induction packaged once -/

@[simp] theorem forEach_nil {α : Type} (f : α → Main → Main) (m : Main) : forEach [] f m = m := rfl
@[simp] theorem forEach_cons {α : Type} (x : α) (l : List α) (f : α → Main → Main) (m : Main) :
    forEach (x :: l) f m = forEach l f (f x m) := rfl

/-- What every application keeps, the whole keeps. -/
theorem forEach_keeps {α : Type} (P : Main → Prop) (f : α → Main → Main) (h : ∀ x m, P m → P (f x m)) :
    ∀ (l : List α) (m : Main), P m → P (forEach l f m)
  | [], _, hm => hm
  | x :: l, m, hm => forEach_keeps P f h l (f x m) (h x m hm)

/-- What every application leaves as it was, the whole leaves. -/
theorem forEach_frame {α β : Type} (g : Main → β) (f : α → Main → Main) (h : ∀ x m, g (f x m) = g m)
    (l : List α) (m : Main) : g (forEach l f m) = g m :=
  forEach_keeps (fun n => g n = g m) f (fun x n hn => (h x n).trans hn) l m rfl

/-! ### Answers -/

/-- OK and the line codes are no aborts (R94, R125). -/
theorem Main.noteAbort_ok (m : Main) (sess a : Nat) : m.noteAbort sess 0 a = m := by simp [Main.noteAbort]
theorem Main.noteAbort_pending (m : Main) (sess a : Nat) : m.noteAbort sess 0x80 a = m := by simp [Main.noteAbort]

/-- R94: an abort writes the session's two abort objects and nothing else. -/
theorem Main.noteAbort_obj (m : Main) (sess c a b : Nat) (h1 : b ≠ hsAddr sess O.HS_ABORT_LAST)
    (h2 : b ≠ hsAddr sess O.HS_ABORT_COUNT) : (m.noteAbort sess c a).obj b = m.obj b := by
  unfold Main.noteAbort Main.inc
  split
  · rfl
  · rw [Main.objs_keep _ _ _ _ h2, Main.objs_keep _ _ _ _ h1]

/-- A write of an object leaves everything but the objects. -/
theorem Main.setObj_frame (m : Main) (a v : Nat) : ∃ o, m.setObj a v = { m with objs := o } :=
  ⟨mset (dflt a) m.objs a (BitVec.ofNat 72 v), rfl⟩

/-- An abort leaves everything but the objects. -/
theorem Main.noteAbort_frame (m : Main) (sess c a : Nat) :
    ∃ o, m.noteAbort sess c a = { m with objs := o } := by
  unfold Main.noteAbort Main.inc
  split
  · exact ⟨m.objs, rfl⟩
  · generalize c * 2 ^ 24 + a % 2 ^ 24 = v
    obtain ⟨o, h⟩ := m.setObj_frame (hsAddr sess O.HS_ABORT_LAST) v
    rw [h]
    obtain ⟨p, h'⟩ := Main.setObj_frame { m with objs := o } (hsAddr sess O.HS_ABORT_COUNT)
      ((Main.obj { m with objs := o } (hsAddr sess O.HS_ABORT_COUNT) + 1) % 2 ^ 36)
    exact ⟨p, h'⟩

/-- What a command answers at once: its status, the length of its data and the data. -/
@[simp] theorem Main.reply_status (m : Main) (sess a c : Nat) (d : List Byte) :
    (m.reply sess a c d).out.status = some c := rfl
@[simp] theorem Main.reply_data (m : Main) (sess a c : Nat) (d : List Byte) : (m.reply sess a c d).out.data = d := rfl
/-- A reply changes no instance and no owner. -/
@[simp] theorem Main.reply_inst (m : Main) (sess a c : Nat) (d : List Byte) : (m.reply sess a c d).inst = m.inst := by
  obtain ⟨o, h⟩ := m.noteAbort_frame sess c a
  simp [Main.reply, h]
@[simp] theorem Main.reply_owner (m : Main) (sess a c : Nat) (d : List Byte) : (m.reply sess a c d).owner = m.owner := by
  obtain ⟨o, h⟩ := m.noteAbort_frame sess c a
  simp [Main.reply, h]

/-! ### A fault cause raised -/

/-- R203: raising a cause writes only the instance's causes since the last boundary. -/
theorem Main.raise_core (m : Main) (i bit j : Nat) (r : Option Nat) (h : j ≠ i) : (m.raise i bit r).i j = m.i j := by
  unfold Main.raise Main.modC; rw [Main.i_modI]; simp [h]
theorem Main.raise_raised (m : Main) (i bit : Nat) (r : Option Nat) :
    ((m.raise i bit r).i i).core.raised = (m.i i).core.raised ||| 2 ^ bit := by
  unfold Main.raise; rw [Main.core_modC]; simp

end Sys2Proof.Machine
end

