-- ==== Sys2Proof/Machine/Outputs.lean ====
section
/-! DEFINITION. The levels that stand at the output lands: the modulator clocks (R231, R233, R484), the PWM outputs (R253,
R258, R259, R267) and, with chapter 8, the serial clocks. They are functions of the state; no command reads one. -/

namespace Sys2Proof.Machine

/-- R231: the level of MCLK `c` at extended time `t`: low while its bit in DV_MCLK_EN is clear or the outputs are held, else high for
the first half of each period. -/
def Main.mclkLevel (m : Main) (c t : Nat) : Bool :=
  !m.outputsHeld && (m.obj O.DV_MCLK_EN).testBit c && decide (m.mclkPhase c t < m.obj (O.DV_MCLKc_PERIOD + c) / 2)

/-- R258, R259: whether a phase with widths `c1` and `c2` is active `x` time units into a period. -/
def phaseActive (align period minPulse c1 c2 x : Nat) : Bool :=
  if tooNarrow align period minPulse c1 c2 ∨ (c1 = 0 ∧ c2 = 0) then false
  else if align = 0 then decide (c1 = hold36 ∨ x < c1)
  else
    let lo := if c1 = hold36 then 0 else (period - c1) / 2
    let hi := if c2 = hold36 then period else period - (period - c2) / 2
    decide (lo ≤ x ∧ x < hi)

/-- The widths of phase `x` (0 U, 1 V, 2 W) of a lane: in force before the latest update point, and from it on. -/
def Lane.width0 (l : Lane) (x : Nat) : Nat := match x with | 0 => l.wU0 | 1 => l.wV0 | _ => l.wW0
def Lane.width (l : Lane) (x : Nat) : Nat := match x with | 0 => l.wU | 1 => l.wV | _ => l.wW
/-- The duty of phase `x` of a set. -/
def CmpSet.phase (c : CmpSet) (x : Nat) : Word := match x with | 0 => c.u | 1 => c.v | _ => c.w

/-- R258: whether phase `x` of axis `a` calls for its high side at extended time `t`, from the latest update point up to the
next. In the first half of a period with a mid-period update, c2 is that of the set that waits for the mid-period, where one
does, else c1 (log 124). -/
def Main.phaseOn (m : Main) (a x t : Nat) : Bool :=
  let l := m.ln a
  let half := l.upT + l.period / 2
  let next := match l.pend with
    | some c => if m.obj (pwAddr a O.PW_UPDATE) = 1 ∧ c.at_ = half ∧ l.shEnd = none then
        (compareWidth l.period (m.obj (pwAddr a O.PW_REFRESH)) (c.phase x)).1 else l.width x
    | none => l.width x
  let act := phaseActive (m.obj (pwAddr a O.PW_ALIGN)) l.period (m.obj (pwAddr a O.PW_MIN_PULSE))
  if l.mid then act (l.width0 x) (l.width x) (t + l.period / 2 - l.upT) else act (l.width x) next (t - l.upT)

/-- R253, R267: the level of PWM output 3a + x at extended time `t`: the inactive one at the safe level. STRAP_PWM_POL high makes
the high level the active one (DESIGN CHOICE, log 125); during module reach the level `land` at the STRAP_PWM_POL land takes
the place of the sampled strap (R484). -/
def Main.pwmLevel (m : Main) (land : Bool) (a x t : Nat) : Bool :=
  (!m.pwmSafe a && m.phaseOn a x t) == (if m.sup.moduleHeld then land else m.sup.straps.pwmPol)

/-! ### Peripheral masters (R527, R528) -/

/-- The bits of PSn_MOSI in the order of time (R527). -/
def Main.psBits (m : Main) (n : Nat) : List Bool :=
  (wireBytes (m.objB (psAddr n O.PSn_LSB_FIRST)) (m.psm n).tx).flatMap bitsOf

/-- PSn_SCLK at `x` time units after the first clock edge of the transfer: its idle level, high in modes 2 and 3, and the other
one in the first half of each of the bits' periods. -/
def Main.psSclk (m : Main) (n x : Nat) : Bool :=
  let per := m.psPeriod n
  let on := (m.psm n).busy && decide (x < per * (m.psBits n).length) && decide (x % per < per / 2)
  on != decide (2 ≤ m.obj (psAddr n O.PSn_MODE))

/-- PSn_MOSI at `x` time units after the first clock edge: each bit is sampled at the first edge of its period in modes 0 and 2
and changes at the second; in modes 1 and 3 it changes at the first edge. -/
def Main.psMosi (m : Main) (n x : Nat) : Option Bool :=
  let per := m.psPeriod n
  let early := if m.obj (psAddr n O.PSn_MODE) % 2 = 0 then per / 2 else 0
  if (m.psm n).busy then (m.psBits n)[min ((x + early) / per) ((m.psBits n).length - 1)]? else none

end Sys2Proof.Machine
end

