-- ==== Sys2Proof/Machine/Package.lean ====
section
/-! DEFINITION. What the lands carry (R547-R554), the levels and supplies within which the module works (R532, R533, R540,
R542, R543), and what it draws and dissipates (R535, R555, R556). No command acts on any of it; the figures are in the rules' own
units. -/

namespace Sys2Proof.Machine

/-! ### The land map (R547-R554) -/

/-- What a land carries. The lines of a feedback port are 0 FBA to 3 FBD, of an emulation output 0 A, 1 B, 2 Z, of the local host port
0 HOST_CS_N, 1 HOST_SCLK, 2 HOST_MOSI, 3 HOST_MISO, of a peripheral master 0 SCLK, 1 MOSI, 2 MISO; straps are numbered in the order
of R549; the ports of `mdi` are 0 LA, 1 LB, 2 SV; `b` is the second line of a two-channel input or output. -/
inductive Land
  | pwm (out : Nat) | sd (input : Nat) | fb (port line : Nat)
  | mclk (c : Nat) | trip (t : Nat) | evt (s : Nat) | ee (o line : Nat) | gpio (g : Nat) | host (line : Nat) | ps (n line : Nat)
  | strap (k : Nat) | resetN | xrefIn | dbg (k : Nat)
  | mdi (port pair : Nat) (neg : Bool)
  | si (n : Nat) (b : Bool) | chainIn (b : Bool) | chainOut (b : Bool) | gtVs (n : Nat) | gtOut (n : Nat) | swT (n : Nat) | swC (n : Nat)
  | swCom | safeRstN
  | field (c : Nat) | fioRstN
  | vcore | vio | vfield | vsafe | vss | fgnd | keepOut
  deriving DecidableEq, Repr

/-- R548: the axis blocks, rows 1 to 32 and columns 1 to 24. -/
def axisLand (row col : Nat) : Land :=
  let n := 8 * ((row - 1) / 4) + (col - 1) / 3
  let dc := (col - 1) % 3
  match (row - 1) % 4 with
  | 0 => .pwm (3 * n + dc)
  | 1 => if dc = 2 then .fb n 3 else .sd (2 * n + dc)
  | 2 => .fb n dc
  | _ => .vss

/-- R549: the miscellaneous block, rows 33 to 38 and columns 1 to 24. -/
def miscLand (row col : Nat) : Land :=
  let k := col - 1
  match row with
  | 33 => if k < 8 then .mclk k else if k < 16 then .trip (k - 8) else .vss
  | 34 => if k < 16 then .evt k else .vss
  | 35 => .ee (k / 3) (k % 3)
  | 36 => if k < 16 then .gpio k else if k < 20 then .host (k - 16) else .vss
  | 37 =>
    if k < 6 then .ps (k / 3) (k % 3) else if k < 16 then .strap (k - 6) else if k = 16 then .resetN else if k = 17 then .xrefIn
    else if 19 ≤ k ∧ k < 23 then .dbg (k - 19) else .vss
  | _ => .vss

/-- R550: the power block, columns 25 to 30. -/
def powerLand (row col : Nat) : Land :=
  if col = 25 ∨ col = 30 then .vss
  else if row ≤ 2 ∨ 37 ≤ row then .vio
  else if (row + col) % 2 = 0 then .vcore else .vss

/-- R551: the network block, rows 1 to 8 and columns 31 to 38. -/
def networkLand (row col : Nat) : Land :=
  let k := col - 31
  match row with
  | 1 => .mdi 0 (k / 2) (k % 2 == 1)
  | 3 => .mdi 1 (k / 2) (k % 2 == 1)
  | 5 => if k < 4 then .mdi 2 (k / 2) (k % 2 == 1) else .vss
  | 7 => .vio
  | _ => .vss

/-- R552: the safety block, rows 9 to 20 and columns 31 to 38. -/
def safetyLand (row col : Nat) : Land :=
  let k := col - 31
  match row with
  | 9 => .si (k / 2) (k % 2 == 1)
  | 10 => if k < 2 then .chainIn (k == 1) else if k < 4 then .chainOut (k == 3) else .vsafe
  | 12 | 13 => let n := 4 * (row - 12) + k / 2; if k % 2 = 0 then .gtVs n else .gtOut n
  | 15 | 16 | 17 => let n := 4 * (row - 15) + k / 2; if k % 2 = 0 then .swT n else .swC n
  | 18 => if k = 0 then .swCom else if k = 1 then .safeRstN else .vss
  | _ => .vss

/-- R553: the field block, rows 25 to 38 and columns 35 to 38. -/
def fieldLand (row col : Nat) : Land :=
  if row ≤ 32 then .field (4 * (row - 25) + (col - 35))
  else if row = 33 then (if col = 35 then .fioRstN else .fgnd)
  else if row ≤ 35 then .vfield else .fgnd

/-- R547: the land at a row and a column; none outside 1 to 38. -/
def landAt (row col : Nat) : Option Land :=
  if row = 0 ∨ 38 < row ∨ col = 0 ∨ 38 < col then none
  else if col ≤ 24 then some (if row ≤ 32 then axisLand row col else miscLand row col)
  else if col ≤ 30 then some (powerLand row col)
  else if row ≤ 8 then some (networkLand row col)
  else if row ≤ 20 then some (safetyLand row col)
  else if row ≤ 24 ∨ col ≤ 34 then some .keepOut
  else some (fieldLand row col)

/-! ### Levels (R540, R542) -/

/-- R540: what an LVCMOS input reads at `mv` millivolts; none between VIL and VIH, where the hysteresis decides. -/
def lvcmosLevel (mv : Int) : Option Bool := if mv ≤ 800 then some false else if 2000 ≤ mv then some true else none

/-- R542: what FIO_RST_N and SAFE_RST_N read at `mv` millivolts. -/
def rstLevel (mv : Int) : Option Bool := if mv < 2000 then some false else if 8000 < mv then some true else none

/-- R542: whether a seal switch's contact of `ohm` ohms is closed. -/
def sealClosed (ohm : Nat) : Option Bool := if ohm ≤ 100 then some true else if 1000000 ≤ ohm then some false else none

/-! ### Supplies (R532, R533, R535) -/

/-- The supplies and temperatures at the module: VCORE in 0.1 mV, the others in mV, temperatures in degrees Celsius. -/
structure Conditions where
  vcore    : Int
  vio      : Int
  vfield   : Int
  vsafe    : Int
  ambient  : Int
  junction : Int
  deriving DecidableEq, Repr

/-- R533: the module meets its rules under these conditions. -/
def Conditions.operating (c : Conditions) : Bool :=
  decide (8245 ≤ c.vcore ∧ c.vcore ≤ 8755 ∧ 3135 ≤ c.vio ∧ c.vio ≤ 3465 ∧ 18000 ≤ c.vfield ∧ c.vfield ≤ 32000 ∧ 18000 ≤ c.vsafe ∧
    c.vsafe ≤ 32000 ∧ -40 ≤ c.ambient ∧ c.ambient ≤ 85 ∧ -40 ≤ c.junction ∧ c.junction ≤ 125)

/-- R532: the conditions stay within the absolute maximum ratings. -/
def Conditions.withinRatings (c : Conditions) : Bool :=
  decide (-3000 ≤ c.vcore ∧ c.vcore ≤ 10000 ∧ -300 ≤ c.vio ∧ c.vio ≤ 3900 ∧ -500 ≤ c.vfield ∧ c.vfield ≤ 36000 ∧ -3000 ≤ c.vsafe ∧
    c.vsafe ≤ 36000 ∧ c.junction ≤ 150)

/-- R543: XREF_IN accepts a reference of this frequency, in Hz, and amplitude, in mV peak to peak. -/
def xrefAccepts (hz amplitude : Nat) : Bool :=
  decide (99995000 ≤ hz ∧ hz ≤ 100005000 ∧ 600 ≤ amplitude ∧ amplitude ≤ 3300)

/-- R535: the typical VCORE current with no best-effort work running, in mA: 1.10 A + 5.0 A × DV_LOAD_RT_PM / 1000. -/
def Main.vcoreTypical (m : Main) : Nat := 1100 + 5 * m.obj O.DV_LOAD_RT_PM

/-- R535: the typical VIO current, in mA: the base, each line port by its speed, SV, the field die's logic and the outputs. -/
def Main.vioTypical (m : Main) : Nat :=
  150 + (List.range 3).foldl (fun t p => t + (match (m.pl p).phy with | 0 => 0 | 1 => 50 | _ => if p = 2 then 50 else 160)) 0 + 40 + 40

/-! ### Junctions (R555, R556) -/

/-- R555: lid and junction temperatures in °C for an ambient temperature, the heatsink's K/W and the powers of the logic side and
of the safety die in W: the lid, the main die, the safety die. -/
def junctions (ambient sink logic safety : Rat) : Rat × Rat × Rat :=
  let lid := ambient + (logic + safety) * sink
  (lid, lid + logic / 10, lid + safety * 12 / 10)

/-- R555: the field die's junction over the copper of its lands. -/
def fieldJunction (copper power : Rat) : Rat := copper + 6 * power

end Sys2Proof.Machine
end

