-- ==== Sys2Proof/WellFormed.lean ====
section
/-! DEFINITION. The checks a command's operands pass before it can stand for something that happens to the module:
the sizes the spec gives to what the outside world supplies. A meaning is total and answers for ill-formed operands
too; statements about what the outside world can send name these checks. -/

namespace Sys2Proof

/-- A request (R117, R515): LEN in 16 bits, and the request part of the data area no longer than 4096 bytes. -/
def Req.wf (q : Req) : Bool := decide (q.len < 65536) && decide (q.data.length ≤ 4096)

/-- An event entry (R143): its time is an extended time. -/
def EventEntry.wf (e : EventEntry) : Bool := decide (e.time < 2 ^ 72)

/-- A frame that the line engine can tell: its addresses, its EtherType and its FCS. One above 1522 bytes is received and
stomped (R132), one above 9022 bytes is longer than any Ethernet frame. -/
def frameWf (l : List Byte) : Bool := decide (18 ≤ l.length) && decide (l.length ≤ 9022)

/-- An instant (R162): the fraction of the period is below 1. -/
def Instant.wf (i : Instant) : Bool := decide (0 ≤ i.phi) && decide (i.phi < 1)

/-- The sizes of a command's operands: action entries and templates in whole units of eight
words, twelve seal switches, frames from their addresses to their FCS, fractions of a period below 1. -/
def Instr.wf : Instr → Bool
  | .slotBoundary x => decide (x.replicas.length ≤ 16)
  | .read q | .write q | .fetch q | .openSession q | .closeSession q | .readAt q | .writeAt q | .bwrite q
  | .segment q | .readInc q => q.wf
  | .ntrig _ es | .carrier _ es => es.all EventEntry.wf
  | .damekFrame _ x => frameWf x.bytes
  | .serviceFrame b => frameWf b
  | .foreignFrame _ x => frameWf x.bytes
  | .sync _ t g => t.wf && frameWf g.frame
  | .followUp _ g => frameWf g.frame
  | .announce _ g => frameWf g.frame
  | .pdelayReq _ g t u => t.wf && u.wf && frameWf g.frame
  | .pdelayResp _ t _ | .pdelayIntervalExpiry _ t => t.wf
  | .actionWrite _ off ws => off % 8 == 0 && ws.length % 8 == 0 && decide (off + ws.length ≤ 8192)
  | .templateWrite _ off ws => off % 8 == 0 && ws.length % 8 == 0 && decide (off + ws.length ≤ 128)
  | .refinementChainMiss es => !es.isEmpty
  | .safetyFieldReachRelease sw | .sealRead sw => sw.length == 12
  | .cfCommit _ v | .cfFwUpdate _ v | .dvSelftest _ v | .rsFullReset _ v => decide (v < 2 ^ 36)
  | .psXfer _ _ b => decide (b.length ≤ 256)
  | .psTransferEnd _ b => decide (b.length ≤ 256)
  | .hostFrameRefused _ b => decide (b.length ≤ 4105)
  | _ => true

end Sys2Proof
end

