-- ==== Sys2Proof/Tests/Slice0.lean ====
section
/-! SUPPORT. The model's own tests: the worked examples of the spec, ill-formed operands that the checks refuse, and for
every statement with hypotheses a state and operands that meet the hypotheses of each of its clauses. -/

open Sys2Proof Sys2Proof.Machine

namespace Sys2Proof.Tests

set_option Elab.async false

/-- The module in RUN at 10 ms of extended time, changed by `f`: S0 and S8 open in service mode, S0 owns every domain. -/
def run (f : Main → Main) : State :=
  { State.reset with
    safety := {}
    main := f { Main.reset with
      locked := true
      sup := { Main.reset.sup with boot := .run, bypass := false }
      tb := { running := true, acc := 40000000 * 2 ^ 30, slotDue := 40040000 }
      owner := (List.range 155).map (fun d => (d, 1))
      sess := [(0, { isOpen := true, service := true }), (8, { isOpen := true, service := true })] } }

/-! ### Worked examples of the spec -/

/-- Chapter 0, units: a belt speed, half of full scale down, a millisecond and the nominal increment. -/
theorem test_units :
    velQ 0x00186A000#36 = 100000 ∧ fracQ 0xC00000000#36 = -1 / 2 ∧ unitsPerMs = 0x3D0900 ∧
      State.reset.main.tb.inc = BitVec.ofNat 36 (40 * 2 ^ 30) := by decide +kernel

/-- R13 and the example of chapter 4: AX_TARGET_POS[17], AX_STOP[12], AX_ACTUAL_POS[12]. -/
theorem test_addresses :
    instAddr 17 O.TARGET_POS = 0x311020 ∧ instAddr 12 O.STOP = 0x30C012 ∧ instAddr 12 O.ACTUAL_POS = 0x30C030 := by
  decide +kernel

/-- Chapter 4, the example: a quick stop, a position and a velocity on the line. -/
theorem test_words_on_the_line :
    bytesOfWords [2#36] = [0x00, 0x00, 0x00, 0x00, 0x20] ∧ bytesOfWords [0x000700000#36] = [0x00, 0x07, 0x00, 0x00, 0x00] ∧
      bytesOfWords [0x00186A000#36] = [0x00, 0x18, 0x6A, 0x00, 0x00] := by decide +kernel

/-- Chapter 4, the example: the Damek header arrives with HOPS 0x0C4 and leaves with 0x0C5. -/
theorem test_hops :
    withHops (List.replicate 14 0 ++ [0x10, 0x0C, 0x40, 0x00, 0x1F, 0x40, 0x00, 0x39]) =
      List.replicate 14 0 ++ [0x10, 0x0C, 0x50, 0x00, 0x1F, 0x40, 0x00, 0x39] := by decide +kernel

/-- R112: the check value of the CRC-32 of IEEE 802.3, over the digits 1 to 9. -/
theorem test_crc32 :
    crc32 [0x31, 0x32, 0x33, 0x34, 0x35, 0x36, 0x37, 0x38, 0x39] = 0xCBF43926#32 := by decide +kernel

/-- Chapter 3, the example: OP_STATUS of an auto-tune at its start, at progress 500 and at its end. -/
theorem test_op_status :
    ({ seq := 5, kind := 3, busy := true } : LongOp).status = 0x5000C4000 ∧
      ({ seq := 5, kind := 3, busy := true, prog := 500, partialR := true } : LongOp).status = 0x57D0E4000 ∧
      ({ seq := 5, kind := 3, finished := true, prog := 1000, partialR := true } : LongOp).status = 0x5FA0E8000 := by
  decide +kernel

/-- Chapter 3, the example: the CONTROL word that starts an auto-tune. -/
theorem test_control_word : (run id).start.controlWord 40 (.currentLoopAutoTune 0 ⟨40, by omega⟩) = some 0x130000 := by
  decide +kernel

/-- Chapter 3, the example: S0 and S3 claim axis 40 within one window, and S0 owns it. -/
theorem test_claim_window :
    (match exec (.claimWindowClose 40) (run (fun m => { m with
        owner := [], windows := [(40, { opened := 35999000, claimants := [{ sess := 3 }, { sess := 0 }] })] })) with
     | .next t => t.main.ownerOf 40 | _ => some 99) = some 0 := by decide +kernel

/-- Chapter 5, the example: across the wrap of the time word the instant lies 25 165 824 units ahead. -/
theorem test_time_across_the_wrap :
    (0x000800000#36 - 0xFFF000000#36).toNat = 25165824 ∧ atOrAfter 0x000800000#36 0xFFF000000#36 = true ∧
      atOrAfter 0xFFF000000#36 0x000800000#36 = false := by decide +kernel

/-- R159: the last reference period before the wrap of A. -/
theorem test_edge_at_the_wrap :
    (match step { (run (fun m => { m with tb := { m.tb with acc := BitVec.ofNat 66 (2 ^ 66 - 1), epoch := 6 } })) with pending := [] } with
     | .next t => (t.main.tb.acc.toNat, t.main.tb.epoch.toNat) | _ => (0, 0)) = (40 * 2 ^ 30 - 1, 7) := by decide +kernel

/-- Chapter 8, the example: a read of 24 bits at 5 MHz lasts 5.15 us, its monoflop check 5.05 us after T0. -/
theorem test_serial_read_times :
    (run (fun m => (((m.setObj (fbAddr 3 O.FB_SER_PERIOD) 800).setObj (fbAddr 3 O.FB_SER_BITS) 24).setObj
      (fbAddr 3 O.FB_SER_DLY) 200).setObj (fbAddr 3 O.FB_SER_TRAIL) 0)).main.serMono 3 + 400 = 20600 := by decide +kernel

/-- Chapter 9, the example: the move of 400 000 increments first planned ends at 2.45 s. -/
theorem test_move_plan :
    (planMove 0 0 { target := 400000, vel := 200000, acc := 1000000, dec := 800000, shape := 1 }).tEnd = 49 / 20 := by
  decide +kernel

/-- Chapter 10, the example: a cyclic linear cam of four points, three members engaged, 30 000 increments on at 100 000/s. -/
theorem test_cam_point :
    (let m := (run (fun m => { m with cam := [(0, 0x010800004#36), (1, 6000), (2, 24000), (5, 6000), (6, 12000), (7, 18000)] })).main
     (m.camHead 0).words = 8 ∧ (m.camEval 0 4500).p = 18000 ∧ (m.camEval 0 750).p = 3000 ∧ (m.camEval 0 750).v = 4) := by
  decide +kernel

/-- Chapter 11, the example: the blend of a segment with SHAPE 0 lasts 0.4 s and covers 36 000 increments. -/
theorem test_segment_blend :
    (let g : Segment := { p0 := 18553440, v0 := 100000 * 256, v1 := 80000 * 256, acc := 50000 * 16 }
     g.blend.dur = 2 / 5 ∧ (g.eval 1600000000).p = 18589440 ∧ (g.eval 1600000000).v = 80000) := by decide +kernel

/-- Chapter 11, the example: the fields of an entry's word 0, and its status after the first refinement. -/
theorem test_action_words :
    fld 0x130000A51#36 35 32 = 1 ∧ fld 0x130000A51#36 31 28 = 3 ∧ fld 0x130000A51#36 15 0 = 0xA51 ∧
      ({ st := 2, tag := 0xA51 } : Action).status = 0x200000A51#36 := by decide +kernel

/-- Chapter 2, the example: the load of one axis at k = 1, m = 4, p = 2 is 30 125 000 pu/s. -/
theorem test_axis_load :
    loadRt ((run (fun m => (((m.setObj (instAddr 3 O.AX_CL_K) 1).setObj (instAddr 3 O.AX_VL_M) 4).setObj
      (instAddr 3 O.AX_PL_P) 2).modC 3 (fun c => { c with chains := 2 }))).main.axisChains 3) = 30125000 := by decide +kernel

/-- Chapter 14, the example: seal switches that read 0xD43 set 50 ms of discrepancy and an SS1 delay of 500 ms. -/
theorem test_seal_switches :
    ({ cfg := { sw := 0xD43 } } : SafetyDie).discMs = 50 ∧ ({ cfg := { sw := 0xD43 } } : SafetyDie).ss1Ms = 500 ∧
      ({ cfg := { sw := 0xD43 } } : SafetyDie).cfgInvalid = false := by decide +kernel

/-- Chapter 14, the example: the demand of channel A of SI0 takes the zone to SS1. -/
theorem test_demand_to_ss1 :
    (let z : Zone := { st := .run, closed := true, signal := false }
     let d : SafetyDie := { cfg := { sw := 0x543 }, testing := false, si0 := { a := false, b := false }, zone0 := z, zone1 := z }
     match exec (.safetyChannelChange (.si 0) false ⟨true, 1000⟩ 1000000) { run id with safety := d } with
     | .next t => (t.safety.zone0.st, t.safety.zone1.st, t.safety.zone0.closed) | _ => (.fault, .fault, false)) =
      (.ss1, .ss1, true) := by decide +kernel

/-- Chapter 15, the example: the cause of an episode is its module source, else its first. -/
theorem test_reset_cause :
    causeOf [(.lockup, 0), (.resetPin, 5)] = sourceCode .resetPin ∧ causeOf [(.lockup, 0)] = sourceCode .lockup := by
  decide +kernel

/-- Chapter 16, the example: the OPEN frame of the local host port passes every test of R518. -/
theorem test_host_frame :
    (let b : List Byte := [0x04, 0x10, 0x00, 0x00, 0x00, 0x00, 0x05]
     hostFrameCode (b ++ bytesOfNat 2 (check16 b)) = 0 ∧ hostFrameCode b = aFrame) := by decide +kernel

/-- Chapter 16, the example: MISO of frame 2 without its check bytes: OPEN answered with HS_SERVICE 0. -/
theorem test_host_reply :
    ({ status := 0, seq := 0x10, data := [0, 0, 0, 0, 0] } : HostReply).bytes.take 9 = [0, 0x10, 0, 5, 0, 0, 0, 0, 0] := by
  decide +kernel

/-- Chapter 17, the lands of AX12, the last land of AX63, FIO_RST_N, and the 68 VCORE and 16 VIO lands of the power block. -/
theorem test_lands :
    (landAt 5 13, landAt 5 15, landAt 6 13, landAt 6 15, landAt 7 13, landAt 7 15) =
      (some (.pwm 36), some (.pwm 38), some (.sd 24), some (.fb 12 3), some (.fb 12 0), some (.fb 12 2)) ∧
    landAt 31 24 = some (.fb 63 2) ∧ landAt 33 35 = some .fioRstN ∧
    ((List.range 38).flatMap (fun r => (List.range 6).map (fun c => powerLand (r + 1) (c + 25)))).count .vcore = 68 ∧
    ((List.range 38).flatMap (fun r => (List.range 6).map (fun c => powerLand (r + 1) (c + 25)))).count .vio = 16 := by
  decide +kernel

/-! ### Operands that the checks refuse -/

/-- A request with LEN beyond 16 bits, or with more than 4096 bytes of data. -/
theorem test_ill_formed_requests :
    (Instr.read { sess := 0, seq := 0, mode3 := false, addr := 0, len := 65536, data := [] }).wf = false ∧
      (Instr.write { sess := 0, seq := 0, mode3 := false, addr := 0, len := 0, data := List.replicate 4097 0 }).wf = false ∧
      (Instr.read { sess := 0, seq := 0, mode3 := false, addr := 0, len := 65535, data := [] }).wf = true := by decide +kernel

/-- A time beyond extended time, a frame without room for its FCS or beyond the longest, a fraction of a whole period. -/
theorem test_ill_formed_frames :
    (Instr.ntrig 0 [{ valid := true, kind := 0x40, source := 0, id := 0, time := 2 ^ 72, value := 0 }]).wf = false ∧
      (Instr.sync .la { phi := 1 } { frame := List.replicate 60 0 }).wf = false ∧
      (Instr.followUp .la { frame := [] }).wf = false ∧ (Instr.announce .la { frame := List.replicate 17 0 }).wf = false ∧
      (Instr.pdelayReq .la { frame := List.replicate 60 0 } {} { phi := -1 }).wf = false ∧
      (Instr.pdelayIntervalExpiry .la { phi := 1 }).wf = false ∧
      (Instr.damekFrame .la { bytes := List.replicate 9023 0 }).wf = false ∧
      (Instr.serviceFrame (List.replicate 9023 0)).wf = false ∧
      (Instr.foreignFrame .sv { bytes := List.replicate 9023 0 }).wf = false := by decide +kernel

/-- A PTP frame of a clock 01..08, port 1, to the address of its kind, with sequence 5 and an interval of 1 s. -/
def ptpFrame (kind flags : Byte) (tail : List Byte) : PtpFrame :=
  { frame := sealFrame ((if kind = 2 ∨ kind = 3 then ptpPeer else ptpPrimary) ++ List.replicate 6 1 ++ [0x88, 0xF7]
      ++ [kind, 2, 0, 0x2C, 0, 0, flags, 0] ++ List.replicate 8 0 ++ List.replicate 4 0
      ++ [1, 2, 3, 4, 5, 6, 7, 8, 0, 1] ++ [0, 5] ++ [0, 0] ++ tail) true }

/-- IEEE 1588: the fields of a PTP frame, and a Sync with its correctionField 0x30C0000 higher (R171 at 1000 Mb/s, NT_PDELAY 0:
780 ns). -/
theorem test_ptp_fields :
    (let g := ptpFrame 0 2 [0, 0, 0, 0, 0, 1, 0, 0, 0, 2]
     g.kind = some 0 ∧ g.twoStep = true ∧ g.correction = 0 ∧ g.seqId = 5 ∧ g.master = [1, 2, 3, 4, 5, 6, 7, 8, 0, 1] ∧
       g.originTime = 4000000008 ∧ g.interval = 4000000000 ∧
       ({ frame := g.corrected (780 * 65536) } : PtpFrame).correction = 780 * 65536 ∧
       frameGood (g.corrected (780 * 65536)) = true) := by decide +kernel

/-- Entries that are not whole or not in the queue, templates beyond their memory, an empty list of missed entries. -/
theorem test_ill_formed_entries :
    (Instr.actionWrite 0 4 (List.replicate 8 0)).wf = false ∧ (Instr.actionWrite 0 8 (List.replicate 7 0)).wf = false ∧
      (Instr.actionWrite 0 8192 (List.replicate 8 0)).wf = false ∧ (Instr.templateWrite 0 128 (List.replicate 8 0)).wf = false ∧
      (Instr.refinementChainMiss []).wf = false := by decide +kernel

/-- Switches other than twelve, values beyond a word, transfers beyond 256 bytes, frames beyond 4105 bytes. -/
theorem test_ill_formed_values :
    (Instr.sealRead []).wf = false ∧ (Instr.safetyFieldReachRelease []).wf = false ∧ (Instr.cfCommit 0 (2 ^ 36)).wf = false ∧
      (Instr.psXfer 0 0 (List.replicate 257 0)).wf = false ∧ (Instr.psTransferEnd 0 (List.replicate 257 0)).wf = false ∧
      (Instr.hostFrameRefused false (List.replicate 4106 0)).wf = false ∧
      (Instr.slotBoundary { replicas := List.replicate 17 0 }).wf = false := by decide +kernel

/-- The table gives no row any bits: no word spells a command, and placing one leaves the state as it is. -/
theorem test_no_word_spells_a_command :
    decodeTableWord 16 0x1234 = none ∧ (State.reset.withFetchWord 16 0x1234).pending = [] := by decide +kernel

/-! ### Hypotheses that are met -/

/-- Where no instance is listed none homes and none has a parent. -/
theorem test_no_instance_listed (m : Main) (h : m.inst = []) : m.noHoming ∧ ∀ i, (m.i i).parent = none := by
  constructor <;> intro i <;> simp only [Main.i, h] <;> rfl

/-- The statements about the whole machine: a queue with a command at its front, an empty queue with the time base stopped and
running, two time words less than 2^35 apart, and states of the safety die that keep its promise, one of them in RUN. -/
theorem test_meets_whole_machine :
    ({ State.reset with pending := [.masterLoss] } : State).pending = .masterLoss :: [] ∧
    (State.reset.pending = [] ∧ State.reset.main.tb.running = false) ∧ ((run id).pending = [] ∧ (run id).main.tb.running = true) ∧
    (((5 : Nat) : Int) - (7 : Nat) < 2 ^ 35 ∧ ((7 : Nat) : Int) - (5 : Nat) < 2 ^ 35) ∧
    (onSafetyDie .safetySelfTestEnd = true ∧ onSafetyDie .softFull = false) ∧
    (let z : Zone := { st := .run, closed := true, signal := false }
     let d : SafetyDie := { testing := false, zone0 := z, zone1 := z }
     d.zone0.closed = true ∧ (d.zone0.st = .run ∨ d.zone0.st = .ss1) ∧ d.zone0 = d.zone1 ∧ d.fault = .none) := by
  decide +kernel

theorem test_meets_TimeWordsOrderInstants :
    (∃ x y : Nat, (x : Int) - y < 2 ^ 35 ∧ (y : Int) - x < 2 ^ 35 ∧ x = 0 ∧ y = 2 ^ 35 - 1) ∧
    (∃ d : Nat, 2 ^ 35 ≤ d ∧ d < 2 ^ 36 ∧ d = 2 ^ 35) := by
  exact ⟨⟨0, 2 ^ 35 - 1, by decide, by decide, rfl, rfl⟩, ⟨2 ^ 35, by decide, by decide, rfl⟩⟩

/-- The promise of the safety die where its zones run, and a step from there. -/
theorem test_meets_safety_die_inv :
    (let z : Zone := { st := .run, closed := true, signal := false }
     let s : State := { run id with pending := [.ss1DelayEnd ⟨0, 0⟩], safety := { testing := false, zone0 := z, zone1 := z } }
     s.safety.Inv ∧ ∃ t, step s = .next t) := by
  refine ⟨?_, _, rfl⟩
  simp [SafetyDie.Inv, Zone.Inv]

/-- The hypotheses of each clause of `RefusedRowWriteChangesNothing` hold together somewhere. -/
theorem test_meets_RefusedRowWriteChangesNothing :
  (let s := run id
   let cmd : Instr := .enable 1 3
   let c := cmd
   let r : RowWrite := (s.start.rowWrite c).getD ⟨0,0,false,[]⟩
   let code := (s.start.frontWrite r.sess r.addr r.at_ r.data).getD 0
   s.start.rowWrite c = some r ∧ (s.start.frontWrite r.sess r.addr r.at_ r.data) = some code) ∧
  (let c : Instr := .evLtArm 0 5 1
   let s := run (fun m => m.setObj O.DV_BE_SHED 1)
   let r : RowWrite := (s.start.rowWrite c).getD ⟨0,0,false,[]⟩
   s.start.rowWrite c = some r ∧ s.start.frontWrite r.sess r.addr r.at_ r.data = none ∧ isStop r.addr = false ∧ s.start.beRoom = false) ∧
  (let c : Instr := .fbZArm 0 3 1
   let s := run id
   let r : RowWrite := (s.start.rowWrite c).getD ⟨0,0,false,[]⟩
   let d : WData := ((info? r.addr).bind (fun o => parseWrite r.addr o r.at_ r.data)).getD { words := [] }
   let code := aState
   s.start.rowWrite c = some r ∧ s.start.frontWrite r.sess r.addr r.at_ r.data = none ∧ (info? r.addr).bind (fun o => parseWrite r.addr o r.at_ r.data) = some d ∧ (isStop r.addr || s.start.beRoom) = true ∧ s.start.barred r.addr = false ∧ s.start.writeRefusal r.addr d = some code) := by
  decide +kernel

/-- The hypotheses of each clause of `ClaimFollowsTheDomain` hold together somewhere. -/
theorem test_meets_ClaimFollowsTheDomain :
  (let sess : Sess := 0
   let code := 0x105
   let d := 5
   let s := run id
   domainOfCode code = some d ∧ s.rowAccepted (.claim sess code) = true) := by
  decide +kernel

/-- The hypotheses of each clause of `ReleasesAndBreaks` hold together somewhere. -/
theorem test_meets_ReleasesAndBreaks :
  (let sess : Sess := 0
   let code := 0x105
   let d := 5
   let s := run id
   domainOfCode code = some d ∧ s.main.windowOpen d = false ∧ s.rowAccepted (.release sess code) = true) ∧
  (let sess : Sess := 0
   let code := 0x105
   let d := 5
   let s := run id
   domainOfCode code = some d ∧ s.main.windowOpen d = false ∧ s.rowAccepted (.breakDomain sess code) = true) ∧
  (let sess : Sess := 0
   let code := 0x105
   let d := 5
   let s := run (fun m => { m with owner := [], windows := [(5, { opened := 7, claimants := [{ sess := 8 },{sess := 0}] })] })
   domainOfCode code = some d ∧ s.main.windowOpen d = true ∧ s.rowAccepted (.release sess code) = true) ∧
  (let sess : Sess := 0
   let code := 0x105
   let d := 5
   let s := run (fun m => { m with owner := [], windows := [(5, { opened := 7, claimants := [{ sess := 8 },{sess := 0}] })] })
   domainOfCode code = some d ∧ s.main.windowOpen d = true ∧ s.rowAccepted (.breakDomain sess code) = true) := by
  decide +kernel

/-- The hypotheses of each clause of `LowestSessionWinsTheWindow` hold together somewhere. -/
theorem test_meets_LowestSessionWinsTheWindow :
  (let d : Fin 155 := 5
   let s := run (fun m => { m with owner := [], windows := [(5, { opened := 7, claimants := [{ sess := 8 },{sess := 0}] })] })
   s.main.windowOpen d = true ∧ (mget {} s.main.windows d).opened + s.main.obj (hsAddr 0 O.HS_CLAIM_WINDOW) * unitsPerUs ≤ s.main.now) := by
  decide +kernel

/-- The hypotheses of each clause of `LapseClosesAndReleases` hold together somewhere. -/
theorem test_meets_LapseClosesAndReleases :
  (let n : Sess := 0
   let s := run (fun m => m.setObj (hsAddr 0 O.HS_LEASE) 5)
   s.main.leaseOver n = true) := by
  decide +kernel

/-- The hypotheses of each clause of `LoadAddingRowsAskTheLedger` hold together somewhere. -/
theorem test_meets_LoadAddingRowsAskTheLedger :
  (let sess : Sess := 0
   let v := 100
   let s := run id
   v < 2 ^ 36 ∧ s.rowAccepted (.dvBrimWrite sess v) = true) ∧
  (let sess : Sess := 0
   let i : InstId := 3
   let s := run (fun m => m.modC 3 (fun c => { c with st := sReady }))
   (s.main.i i).core.st = sReady ∧ s.rowAccepted (.enable sess i) = true) ∧
  (let sess : Sess := 0
   let a : Ax := 3
   let s := run (fun m => (m.modC 3 (fun c => { c with st := sReady })))
   s.rowAccepted (.motorIdentification sess ⟨a.val, by omega⟩) = true) ∧
  (let sess : Sess := 0
   let a : Ax := 3
   let s := run (fun m => (m.modC 3 (fun c => { c with st := sReady })))
   s.rowAccepted (.currentLoopAutoTune sess ⟨a.val, by omega⟩) = true) ∧
  (let sess : Sess := 0
   let a : Ax := 3
   let obj : Fin 4 := 0
   let v := 2
   let s := run id
   v < 2 ^ 36 ∧ s.rowAccepted (.loopPeriodWrite sess a obj v) = true) ∧
  (let sess : Sess := 0
   let v := 0
   let s := run (fun m => m.setObj O.DV_EE_EN 3)
   v < 2 ^ 36 ∧ s.rowAccepted (.dvEeEnWrite sess v) = true) := by
  decide +kernel

/-- The hypotheses of each clause of `PlainWritesAreStored` hold together somewhere. -/
theorem test_meets_PlainWritesAreStored :
  (let sess : Sess := 0
   let i : InstId := 70
   let v := 2
   let s := run id
   v < 2 ^ 36 ∧ s.rowAccepted (.stopWrite sess i v) = true) ∧
  (let sess : Sess := 0
   let i : InstId := 3
   let obj : Fin 5 := 0
   let v : Word := 77
   let s := run id
   (s.main.i i).motion.plan = none ∧ s.rowAccepted (.profileWrite sess i obj v) = true) := by
  decide +kernel

/-- The hypotheses of each clause of `EnableModeAndMoveRows` hold together somewhere. -/
theorem test_meets_EnableModeAndMoveRows :
  (let sess : Sess := 0
   let i : InstId := 3
   let s := run (fun m => m.modC 3 (fun c => { c with st := sRun }))
   s.rowAccepted (.disable sess i) = true) ∧
  (let sess : Sess := 0
   let i : InstId := 3
   let md : Fin 16 := 1
   let s := run id
   s.main.enable i = false ∧ md.val ≠ 2 ∧ s.main.mode i ≠ 2 ∧ md.val ≠ s.main.mode i ∧ s.rowAccepted (.modeChange sess i md) = true) ∧
  (let sess : Sess := 0
   let a : Ax := 3
   let rel := false
   let s := run (fun m => (((m.setObj (instAddr 3 O.PROFILE_VEL) 256000).setObj (instAddr 3 O.PROFILE_ACC) 16000).setObj (instAddr 3 O.PROFILE_DEC) 16000).modC 3 (fun c => { c with st := sRun, atTarget := true }))
   s.main.mode a = 0 ∧ s.rowAccepted (.startMove sess ⟨a.val, by omega⟩ false rel) = true) := by
  decide +kernel

/-- The hypotheses of each clause of `FaultResetAndAbortRows` hold together somewhere. -/
theorem test_meets_FaultResetAndAbortRows :
  (let sess : Sess := 0
   let a : Ax := 3
   let s := run (fun m => ((m.setObj (instAddr 3 O.FAULT_CAUSE) 4).modC 3 (fun c => { c with st := sFault })).setObj (pwAddr 3 O.PW_TRIP_SRC) 1)
   (s.main.i a).core.st = sFault ∧ s.rowAccepted (.faultReset sess ⟨a.val, by omega⟩) = true) ∧
  (let sess : Sess := 0
   let a : Ax := 3
   let s := run (fun m => (m.modOp 3 (fun _ => { busy := true, kind := 2, prog := 7 })).modC 3 (fun c => { c with st := sReady, chains := 1 }))
   s.rowAccepted (.opAbort sess ⟨a.val, by omega⟩) = true ∧ (s.main.lop a).busy = true ∧ (s.main.lop a).kind ≠ 1 ∧ s.main.enable a = false) ∧
  (let sess : Sess := 0
   let a : Ax := 3
   let h : Homing := { method := 2, step := 2 }
   let s := run (fun m => (m.modOp 3 (fun _ => { busy := true, kind := 1 })).modI 3 (fun x => { x with home := some { method := 2, step := 2 }, core := { x.core with st := sRun } }))
   s.rowAccepted (.opAbort sess ⟨a.val, by omega⟩) = true ∧ (s.main.lop a).busy = true ∧ (s.main.lop a).kind = 1 ∧ (s.main.i a).core.st = sRun ∧ (s.main.i a).home = some h ∧ h.step ≠ 0 ∧ h.failCode = none) := by
  decide +kernel

/-- The hypotheses of each clause of `HomingStarts` hold together somewhere. -/
theorem test_meets_HomingStarts :
  (let sess : Sess := 0
   let a : Ax := 3
   let s := run (fun m => (m.setObj (instAddr 3 O.HOME_METHOD) 1).setObj (fbAddr 3 O.FB_MODE) 1)
   s.rowAccepted (.homingStart sess ⟨a.val, by omega⟩) = true ∧ s.main.enable a = false ∧ s.main.io a O.MODULO = 0 ∧ (s.main.lop a).busy = false ∧ s.main.io a O.HOME_METHOD = 1) ∧
  (let sess : Sess := 0
   let a : Ax := 3
   let s := run (fun m => (m.setObj (instAddr 3 O.HOME_METHOD) 0).setObj (fbAddr 3 O.FB_MODE) 3)
   s.rowAccepted (.homingStart sess ⟨a.val, by omega⟩) = true ∧ s.main.enable a = false ∧ s.main.io a O.MODULO = 0 ∧ (s.main.lop a).busy = false ∧ s.main.io a O.HOME_METHOD = 0 ∧ s.main.obj (fbAddr a O.FB_MODE) = 3) := by
  decide +kernel

/-- The hypotheses of each clause of `LaneAndPortRows` hold together somewhere. -/
theorem test_meets_LaneAndPortRows :
  (let sess : Sess := 0
   let a : Ax := 3
   let s := run (fun m => (m.setMode 3 2).modC 3 (fun c => { c with st := sRun }))
   s.rowAccepted (.pwOpmodeWrite sess a 1) = true) ∧
  (let sess : Sess := 0
   let a : Ax := 3
   let s := run (fun m => (m.setObj (pwAddr 3 O.PW_OPMODE) 1).modLn 3 (fun l => { l with shadow := true, shPend := some {} }))
   s.rowAccepted (.pwOpmodeWrite sess a 0) = true) ∧
  (let sess : Sess := 0
   let a : Ax := 3
   let s := run (fun m => ((m.setObj (pwAddr 3 O.PW_OPMODE) 1).setObj (pwAddr 3 O.PW_SH_PERIOD) 80000).modLn 3 (fun l => { l with shadow := true }))
   s.rowAccepted (.pwShCommit sess a 1) = true) ∧
  (let sess : Sess := 0
   let p : Ax := 3
   let v := 1
   let s := run (fun m => m.modC 3 (fun c => { c with homed := true }))
   v < 2 ^ 36 ∧ s.rowAccepted (.fbModeWrite sess p v) = true) ∧
  (let sess : Sess := 0
   let p : Ax := 3
   let v := 1
   let s := run (fun m => (m.setObj (fbAddr 3 O.FB_MODE) 1).setObj (fbAddr 3 O.FB_Z_MODE) 2)
   v < 2 ^ 36 ∧ s.rowAccepted (.fbZArm sess p 1) = true) := by
  decide +kernel

/-- The hypotheses of each clause of `HoopAndLinkRows` hold together somewhere. -/
theorem test_meets_HoopAndLinkRows :
  (let sess : Sess := 0
   let hp : Hp := 2
   let code := 0x103
   let k := 3
   let s := run (fun m => (m.setObj (instAddr 66 O.HP_KIND) 1).setObj (instAddr 66 O.HP_PERIOD) (m.posPeriod 3))
   memberOf code = some k ∧ s.rowAccepted (.hpAdd sess hp code) = true ∧
     onlyRemoves s.start.chainsOf (s.start.joinCore (64 + hp.val) k).chainsOf = true) ∧
  (let sess : Sess := 0
   let hp : Hp := 2
   let code := 0x103
   let k := 3
   let s := run (fun m => ((((m.setObj (instAddr 66 O.HP_KIND) 1).setObj (instAddr 66 O.HP_PERIOD) (m.posPeriod 3)).setMode 3 2).modC 3
     (fun c => { c with st := sRun, chains := 2 })))
   memberOf code = some k ∧ s.rowAccepted (.hpAdd sess hp code) = true ∧
     onlyRemoves s.start.chainsOf (s.start.joinCore (64 + hp.val) k).chainsOf = false) ∧
  (let sess : Sess := 0
   let hp : Hp := 2
   let code := 0x103
   let k := 3
   let s := run (fun m => (((m.setObj (instAddr 66 O.HP_KIND) 1).setMode 3 3).modI 66 (fun x => { x with members := [4, 3] })).modI 3 (fun x => { x with parent := some 66 }))
   memberOf code = some k ∧ s.rowAccepted (.hpRemove sess hp code) = true ∧ (s.main.i (64 + hp.val)).members.contains k = true) ∧
  (let sess : Sess := 0
   let i : InstId := 66
   let s := run (fun m => (((m.setObj (instAddr 66 O.LINK_DEN) 1).setObj (instAddr 66 O.HP_SRC) 0x300).setMode 66 3).modC 66 (fun c => { c with st := sRun }))
   s.rowAccepted (.linkEngage sess i) = true ∧ (s.main.i i).parent = none) ∧
  (let sess : Sess := 0
   let i : InstId := 3
   let s := run (fun m => (((m.setObj (instAddr 3 O.LINK_DEN) 1).setMode 3 3).modC 3 (fun c => { c with st := sRun })).modLink 3 (fun l => { l with st := 3 }))
   s.rowAccepted (.linkDisengage sess i) = true ∧ (s.main.i i).link.st ≠ 0) ∧
  (let sess : Sess := 0
   let i : InstId := 3
   let s := run (fun m => (((m.setObj (instAddr 3 O.LINK_DEN) 1).setMode 3 3).modC 3 (fun c => { c with st := sRun })).modLink 3 (fun l => { l with st := 3 }))
   s.rowAccepted (.linkDisengageAt sess i) = true ∧ (s.main.i i).link.st ≠ 0) := by
  decide +kernel

/-- The hypotheses of each clause of `StartWritesStartTheirOperation` hold together somewhere. -/
theorem test_meets_StartWritesStartTheirOperation :
  (let sess : Sess := 0
   let v := 2
   let s := run id
   v < 2 ^ 36 ∧ s.rowAccepted (.camCommit sess v) = true) ∧
  (let sess : Sess := 0
   let u : Fin 8 := 2
   let s := run (fun m => m.modAq 2 (fun x => { x with st := 4 }))
   s.rowAccepted (.aqRead sess u 1) = true) ∧
  (let sess : Sess := 0
   let s := run id
   s.rowAccepted (.dvSelftest sess 1) = true) ∧
  (let sess : Sess := 0
   let v := 1
   let s := run id
   v < 2 ^ 36 ∧ s.rowAccepted (.cfCommit sess v) = true) ∧
  (let sess : Sess := 0
   let s := run id
   s.rowAccepted (.cfFwUpdate sess 1) = true) ∧
  (let sess : Sess := 0
   let v := 1
   let c : Instr := .cfCommit sess v
   let s := run id
   v < 2 ^ 36 ∧ s.rowAccepted c = true) ∧
  (let sess : Sess := 0
   let v := 1
   let c : Instr := .cfFwUpdate sess v
   let s := run id
   v < 2 ^ 36 ∧ s.rowAccepted c = true) := by
  decide +kernel

/-- The hypotheses of each clause of `TimeResetAndSecurityRows` hold together somewhere. -/
theorem test_meets_TimeResetAndSecurityRows :
  (let sess : Sess := 0
   let e : BitVec 72 := 0x123456789ABCDEF
   let s := run (fun m => m.setObj (ntAddr 0 O.NT_SYNC_MODE) 1)
   s.rowAccepted (.ntTimeSet sess e) = true) ∧
  (let sess : Sess := 0
   let v : Fin 2 := 1
   let s := run id
   s.rowAccepted (.ntSyncModeWrite sess v) = true ∧ s.main.obj (ntAddr 0 O.NT_SYNC_MODE) ≠ v.val) ∧
  (let sess : Sess := 0
   let s := run id
   s.rowAccepted (.rsFullReset sess 1) = true) ∧
  (let sess : Sess := 0
   let v := 0x305
   let s := run id
   v < 2 ^ 36 ∧ s.rowAccepted (.unitReset sess v) = true ∧ mget 0 s.main.sup.mittens v = 0) ∧
  (let sess : Sess := 0
   let v := 3
   let s := run (fun m => { m with sup := { m.sup with fwBank := some .bankA, fw := [0,0,0,0,0,3] } })
   v < 2 ^ 36 ∧ s.rowAccepted (.cfSecverRaise sess v) = true) := by
  decide +kernel

/-- The hypotheses of each clause of `EventAndActionRows` hold together somewhere. -/
theorem test_meets_EventAndActionRows :
  (let sess : Sess := 0
   let u : Fin 32 := 5
   let s := run (fun m => m.setObj (evAddr 5 O.EV_LT_MODE) 1)
   s.rowAccepted (.evLtArm sess u 1) = true) ∧
  (let sess : Sess := 0
   let w : Word := 7
   let s := run (fun m => m.modAct 7 (fun a => { a with st := 1, fire := some 9 }))
   s.rowAccepted (.evCancel sess w) = true ∧ w.getLsbD 26 = false ∧ (s.main.act (fld w 9 0)).st = 1) ∧
  (let sess : Sess := 0
   let off := 8
   let ws : List Word := [0x60000000#36, 0, 0, 5, 0, 0, 3, 0]
   let s := run id
   off < 2 ^ 36 ∧ s.rowAccepted (.templateWrite sess off ws) = true) ∧
  (let sess : Sess := 0
   let off := 16
   let ws : List Word := [0x110000000#36, 0x300, 5, 5, 0, 90000000, 16, 0]
   let s := run (fun m => m.setObj (ioAddr 16 O.IO_DIR) 1)
   off < 2 ^ 36 ∧ s.rowAccepted (.actionWrite sess off ws) = true ∧ needsLedger (entryWords ws) = true) ∧
  (let sess : Sess := 0
   let off := 16
   let ws : List Word := [0x010000000#36, 0, 0, 90000000, 0, 0, 16, 0]
   let s := run (fun m => m.setObj (ioAddr 16 O.IO_DIR) 1)
   let fire := ext2 (entryWords ws) 2 - s.main.outCorr (entryWords ws)
   off < 2 ^ 36 ∧ s.rowAccepted (.actionWrite sess off ws) = true ∧ needsLedger (entryWords ws) = false ∧ s.main.now < fire) := by
  decide +kernel

/-- The hypotheses of each clause of `AcquisitionAndTransferRows` hold together somewhere. -/
theorem test_meets_AcquisitionAndTransferRows :
  (let sess : Sess := 0
   let u : Fin 8 := 2
   let c : Instr := .aqArm sess u
   let s := run (fun m => m.modAq 2 (fun x => { x with st := 0 }))
   s.rowAccepted c = true) ∧
  (let sess : Sess := 0
   let u : Fin 8 := 2
   let c : Instr := .aqTrigger sess u
   let s := run (fun m => m.modAq 2 (fun x => { x with st := 2 }))
   s.rowAccepted c = true) ∧
  (let sess : Sess := 0
   let u : Fin 8 := 2
   let c : Instr := .aqStop sess u
   let s := run (fun m => m.modAq 2 (fun x => { x with st := 3 }))
   s.rowAccepted c = true) ∧
  (let u : Fin 8 := 2
   let s := run (fun m => m.modAq 2 (fun x => { x with st := 1 }))
   (s.main.aqu u).st = 1) ∧
  (let u : Fin 8 := 2
   let s := run (fun m => (m.setObj (aqAddr 2 O.AQ_POST_T) 2).modAq 2 (fun x => { x with st := 3 }))
   (s.main.aqu u).st = 3 ∧ s.main.obj (aqAddr u O.AQ_POST_T) ≠ 0 ∧ (s.main.aqu u).trigT + s.main.obj (aqAddr u O.AQ_POST_T) * unitsPerMs ≤ s.main.now) ∧
  (let sess : Sess := 0
   let n : Fin 2 := 1
   let b : List Byte := [1,2,3]
   let s := run (fun m => m.setObj (psAddr 1 O.PSn_SEL) 1)
   s.rowAccepted (.psXfer sess n b) = true) := by
  decide +kernel

/-- The hypotheses of each clause of `FieldChannelRows` hold together somewhere. -/
theorem test_meets_FieldChannelRows :
  (let sess : Sess := 0
   let ch : Fin 32 := 20
   let v : Fin 2 := 1
   let s := run (fun m => { m.setObj (ioAddr 20 O.IO_DIR) 1 with field := { link := 2 } })
   s.rowAccepted (.ioOutWrite sess ch v) = true) ∧
  (let sess : Sess := 0
   let ch : Fin 32 := 20
   let s := run (fun m => { m.setObj (ioAddr 20 O.IO_DIR) 1 with field := { link := 2 } })
   s.rowAccepted (.ioDirWrite sess ch 0) = true) ∧
  (let sess : Sess := 0
   let ch : Fin 32 := 20
   let s := run id
   s.rowAccepted (.ioDirWrite sess ch 1) = true) ∧
  (let sess : Sess := 0
   let ch : Fin 32 := 20
   let filt := false
   let v := 1
   let s := run id
   v < 2 ^ 36 ∧ s.rowAccepted (.ioInputConfigWrite sess ch filt v) = true) := by
  decide +kernel

/-- The hypotheses of each clause of `TokensCompleteOrAreDiscarded` hold together somewhere. -/
theorem test_meets_TokensCompleteOrAreDiscarded :
  (let cell : Fin 16 := 3
   let k : Tok := { task := .emulation, inst := 130, seq := 4, step := 0, index := 0, deadline := 5, release := 0 }
   let s := run (fun m => { m with fab := { m.fab with cells := [(3, k)] } })
   s.main.fab.cells.find? (fun p => p.1 == cell.val) = some (cell.val, k) ∧ k.deadline ≤ s.main.now) ∧
  (let cell : Fin 16 := 3
   let k : Tok := { task := .emulation, inst := 130, seq := 4, step := 0, index := 0, deadline := 50000000, release := 0 }
   let s := run (fun m => { m with fab := { m.fab with cells := [(3, k)], missRun := [(missKey 130 4, 1)] } })
   s.main.fab.cells.find? (fun p => p.1 == cell.val) = some (cell.val, k) ∧ k.task = .emulation ∧ s.main.now < k.deadline ∧ seqOlder (mget 0 s.main.fab.lastSeq (seqKey k.inst k.task)) k.seq = false) := by
  decide +kernel

/-- The hypotheses of each clause of `LedgerDecidesTheOldestRequest` hold together somewhere. -/
theorem test_meets_LedgerDecidesTheOldestRequest :
  (let r : LReq := { addr := instAddr 3 O.CONTROL, change := .control 3 1 }
   let rest : List LReq := []
   let s := run (fun m => { m.modC 3 (fun c => { c with st := sReady }) with fab := { m.fab with reqs := [r] } })
   s.main.fab.reqs = r :: rest ∧ r.key = none ∧ r.sess < 10) ∧
  (let r : LReq := { addr := O.DV_BRIM, change := .objWrite O.DV_BRIM 300 }
   let rest : List LReq := [{ addr := instAddr 3 O.CONTROL, change := .control 3 1 }]
   let s := run (fun m => { m with fab := { m.fab with
     reqs := r :: rest, map := [{ owner := 3, kind := 0, period := 1, deadline := 4000, cost := 8000 }] } })
   s.main.fab.reqs = r :: rest ∧ r.key = none ∧ r.sess < 10 ∧ r.change.isBrim = true ∧
     (slotChecks s.main.fab.map 300 slots).isSome = true) ∧
  (let r : LReq := { addr := instAddr 3 O.CONTROL, change := .control 3 1 }
   let rest : List LReq := []
   let s := run (fun m => { m.modC 3 (fun c => { c with st := sOff }) with fab := { m.fab with reqs := [r] } })
   s.main.fab.reqs = r :: rest ∧ r.key = none ∧ r.sess < 10 ∧ (s.start.changeRefusal r.change).isSome = true) := by
  decide +kernel

/-- The hypotheses of each clause of `MissedReleasesRaiseTheirCause` hold together somewhere. -/
theorem test_meets_MissedReleasesRaiseTheirCause :
  (let a : Ax := 3
   let s := run (fun m => { m with fab := { m.fab with map := [{ owner := 3, kind := 0, period := 1, cost := 80, serial := 80 }] } })
   s.main.hasChain a 0 = true) ∧
  (let i : InstId := 3
   let s := run (fun m => { m with fab := { m.fab with map := [{ owner := 3, kind := 1, period := 1, cost := 80, serial := 80 }], missRun := [(missKey 3 1, 2)] } })
   s.main.hasChain i (if i.val < 64 then 1 else 2) = true) ∧
  (let s := run (fun m => { m with fab := { m.fab with map := [{ owner := 128, kind := 3, period := 1, cost := 80, serial := 80 }] } })
   s.main.hasChain 128 3 = true) := by
  decide +kernel

/-- The hypotheses of each clause of `TripsHoldTheirAxes` hold together somewhere. -/
theorem test_meets_TripsHoldTheirAxes :
  (let t0 : Fin 8 := 2
   let s := run id
   (s.main.obj O.DV_TRIP_EN).testBit t0 = false) ∧
  (let t0 : Fin 8 := 2
   let s := run (fun m => (m.setObj O.DV_TRIP_EN 4).setObj (pwAddr 3 O.PW_TRIP_SEL) 4)
   (s.main.obj O.DV_TRIP_EN).testBit t0 = true ∧ (s.main.obj (pwAddr 3 O.PW_TRIP_SEL)).testBit t0 = true ∧ s.main.obj (pwAddr 3 O.PW_TRIP_SRC) = 0) ∧
  (let a : Ax := 3
   let u : List Bool := List.replicate 200 true
   let s := run (fun m => ((m.setObj (instAddr 3 O.AX_MOTOR_TYPE) 1).setObj (pwAddr 3 O.PW_OC_LIMIT) 0x100000000))
   s.main.io a O.AX_MOTOR_TYPE ≠ 0 ∧ 0 < fracQ (s.main.objW (pwAddr a O.PW_OC_LIMIT)) ∧ fracQ (s.main.objW (pwAddr a O.PW_OC_LIMIT)) < absQ (s.main.phaseCurrent a (s.main.obj (pwAddr a O.PW_OSR_TRIP)) O.PW_SD_OFS_U u) ∧ s.main.obj (pwAddr a O.PW_TRIP_SRC) = 0) ∧
  (let a : Ax := 3
   let s := run (fun m => m.modLn 3 (fun l => { l with oc := true }))
   (s.main.io a O.AX_MOTOR_TYPE = 0 ∨ s.main.obj (pwAddr a O.PW_OC_LIMIT) = 0)) := by
  decide +kernel

/-- The hypotheses of each clause of `UpdatePointsAndEnablingSteps` hold together somewhere. -/
theorem test_meets_UpdatePointsAndEnablingSteps :
  (let a : Ax := 3
   let t0 := 30000100
   let s := run (fun m => (m.modLn 3 (fun l => { l with start := some 30000100 })).modC 3 (fun c => { c with st := sEnabling, seq := .await }))
   (s.main.ln a).start = some t0 ∧ (s.main.ln a).upT = 0 ∧ (s.main.ln a).pend = none ∧ t0 ≤ s.main.now) ∧
  (let a : Ax := 3
   let t0 := 30000100
   let c : CmpSet := { u := 5, v := 6, w := 7, at_ := 7 }
   let s := run (fun m => (m.modLn 3 (fun l => { l with start := some 30000100, upT := 30000100, pend := some { u := 5, v := 6, w := 7, at_ := 7 } })).modC 3 (fun c => { c with st := sRun }))
   (s.main.ln a).start = some t0 ∧ (s.main.ln a).upT ≠ 0 ∧ (s.main.ln a).shadow = false ∧ (s.main.ln a).shEnd = none ∧ (s.main.ln a).pend = some c ∧ c.at_ ≤ (s.main.ln a).upT + s.main.updInterval a ∧
   (s.main.ln a).upT + s.main.updInterval a ≤ s.main.now) ∧
  (let a : Ax := 3
   let s := run (fun m => (m.modC 3 (fun c => { c with st := sEnabling, seq := .settling })).modLn 3 (fun l => { l with closed := true }))
   (s.main.i a).core.st = sEnabling ∧ (s.main.i a).core.seq = .settling ∧ (s.main.ln a).closed = true) ∧
  (let a : Ax := 3
   let s := run (fun m => (({ m with tb := { m.tb with epoch := 1 } }).modC 3 (fun c => { c with st := sEnabling, seq := .align1 })).modPt 3 (fun p => { p with enc := 55 }))
   (s.main.i a).core.rampT + s.main.obj (pwAddr a O.PW_ALIGN_TIME) * unitsPerMs ≤ s.main.now ∧ (s.main.i a).core.seq = .align1) ∧
  (let a : Ax := 3
   let s := run (fun m => (((({ m with tb := { m.tb with epoch := 1 } }).modC 3 (fun c => { c with st := sEnabling, seq := .align2 })).setObj (pwAddr 3 O.PW_ENC_PER_REV) 4000).setObj (instAddr 3 O.AX_POLE_PAIRS) 2).modPt 3 (fun p => { p with enc := 3500 }))
   (s.main.i a).core.rampT + s.main.obj (pwAddr a O.PW_ALIGN_TIME) * unitsPerMs ≤ s.main.now ∧ (s.main.i a).core.seq = .align2 ∧ alignGood (s.main.obj (pwAddr a O.PW_ENC_PER_REV)) (s.main.io a O.AX_POLE_PAIRS) (s.main.obj (pwAddr a O.PW_COMM_TOL)) (s.main.ln a).c1 (s.main.pt a).enc = true) := by
  decide +kernel

/-- The hypotheses of each clause of `SequenceStepsAndLimitsOfError` hold together somewhere. -/
theorem test_meets_SequenceStepsAndLimitsOfError :
  (let s := run (fun m => m.modC 3 (fun c => { c with st := sEnabling, seq := .brakeRel, power := true, chains := 2, rampT := 40000000 }))
   (s.main.i 3).core.st = sEnabling ∧ (s.main.i 3).core.seq = .brakeRel ∧ s.main.brakeTime 3 O.AX_BRAKE_RELEASE_T = true) ∧
  (let s := run (fun m => (m.modC 3 (fun c => { c with st := sDisabling, seq := .engage, power := true, chains := 2 })).setObj (instAddr 3 O.AX_BRAKE_ENGAGE_T) 10)
   (s.main.i 3).core.seq = .engage ∧ s.main.brakeTime 3 O.AX_BRAKE_ENGAGE_T = true) ∧
  (let s := run (fun m => m.modC 3 (fun c => { c with st := sStopping, seq := .ramp, power := true, chains := 2, still := some 0 }))
   let c := (s.main.i 3).core
   c.st = sStopping ∧ c.seq = .ramp ∧ s.main.atStandstill 3 = true) ∧
  (let s := run (fun m => m.modC 3 (fun c => { c with st := sEnabling, seq := .run, power := true, chains := 2 }))
   s.main.quiet 3 ∧ (s.main.i 3).core.stop = 0) ∧
  (let s := run (fun m => m.modC 3 (fun c => { c with st := sReaction, seq := .powerOff, chains := 2 }))
   s.main.quiet 3) ∧
  (let s := run (fun m => (m.modC 3 (fun c => { c with st := sStopping, seq := .ramp, power := true, chains := 2 })).setObj (instAddr 3 O.STOP_TMAX) 4)
   s.main.io 3 O.STOP_TMAX ≠ 0 ∧ (s.main.i 3).core.rampT + s.main.io 3 O.STOP_TMAX * unitsPerMs ≤ s.main.now ∧ (s.main.i 3).core.seq = .ramp ∧ (s.main.i 3).core.st = sStopping) ∧
  (let s := run (fun m => m.modC 3 (fun c => { c with st := sStopping, raised := 2 ^ cStopTimeout, raisedR := 0 }))
   (s.main.i 3).core.raised.testBit cStopTimeout = true ∧ (s.main.i 3).core.raisedR = 0 ∧
     (s.main.i 3).core.movedAt ≠ some s.main.now ∧ (s.main.i 3).core.safe = false) ∧
  (let i : InstId := 3
   let s := run (fun m => (((m.setObj (instAddr 3 O.FE_LIMIT) 10).setObj (instAddr 3 O.FOLLOW_ERR) 11)).modC 3 (fun c => { c with st := sRun }))
   0 < s.main.ioI i O.FE_LIMIT ∧ s.main.mode i = 0 ∧ s.main.ioI i O.FE_LIMIT < ((s.main.ioI i O.FOLLOW_ERR).natAbs : Int) ∧ (s.main.i i).home = none) ∧
  (let i : InstId := 3
   let s := run (fun m => (((m.setObj (instAddr 3 O.VE_LIMIT) 2560)).setMode 3 1).modI 3 (fun x => { x with core := { x.core with st := sRun }, loop := { x.loop with vCmd := 100 } }))
   0 < velQ (s.main.objW (instAddr i O.VE_LIMIT)) ∧ s.main.mode i = 1 ∧ velQ (s.main.objW (instAddr i O.VE_LIMIT)) < absQ ((s.main.i i).loop.vCmd - s.main.actualVel i)) := by
  decide +kernel

/-- The hypotheses of each clause of `SafetySignalsReachTheAxes` hold together somewhere. -/
theorem test_meets_SafetySignalsReachTheAxes :
  (let s := run id
   s.safety.held = false ∧ (s.safety.zone 0).signal = true) ∧
  (let s := run (fun m => m.modC 3 (fun c => { c with st := sRun, power := true, chains := 2, safe := true }))
   (s.main.i 3).core.safe = true ∧ (s.main.i 3).core.st ≠ sSafeOff ∧ (s.main.i 3).core.movedAt ≠ some s.main.now) ∧
  (let s : State := { run id with safety := { zone0 := { st := .run, closed := true, signal := false } } }
   s.safety.held = false ∧ (s.safety.zone 0).signal = false) ∧
  (let s := run (fun m => (m.modC 3 (fun c => { c with st := sSafeOff })).setObj (instAddr 3 O.FAULT_CAUSE) 4)
   s.main.quiet 3 ∧ (s.main.i 3).core.st = sSafeOff) ∧
  (let s := run (fun m => m.modC 3 (fun c => { c with st := sRun, power := true, chains := 2 }))
   s.safety.held = false ∧ (s.safety.zone 0).st ≠ .run) := by
  decide +kernel

/-- The hypotheses of each clause of `QuadratureCountsAndPortTimers` hold together somewhere. -/
theorem test_meets_QuadratureCountsAndPortTimers :
  (let p : Ax := 3
   let raw : BitVec 4 := 1
   let w : LineRuns := { a := { ago := 3 }, b := { ago := 3 }, c := { ago := 3 }, d := { ago := 3 } }
   let s := run (fun m => m.setObj (fbAddr 3 O.FB_MODE) 1)
   let o := (s.main.pt p).lines
   let l := s.main.filtered p raw w
   let ca := o.getLsbD 0 != l.getLsbD 0
   let cb := o.getLsbD 1 != l.getLsbD 1
   s.main.obj (fbAddr p O.FB_MODE) = 1 ∧ s.main.mittenClosed (0x100 + p.val) = false ∧ l.getLsbD 2 = (s.main.pt p).lines.getLsbD 2 ∧ l.getLsbD 3 = (s.main.pt p).lines.getLsbD 3 ∧ (ca != cb) = true) ∧
  (let p : Ax := 3
   let raw : BitVec 4 := 3
   let w : LineRuns := { a := { ago := 3 }, b := { ago := 3 }, c := { ago := 3 }, d := { ago := 3 } }
   let s := run (fun m => m.setObj (fbAddr 3 O.FB_MODE) 1)
   let o := (s.main.pt p).lines
   let l := s.main.filtered p raw w
   let ca := o.getLsbD 0 != l.getLsbD 0
   let cb := o.getLsbD 1 != l.getLsbD 1
   s.main.obj (fbAddr p O.FB_MODE) = 1 ∧ s.main.mittenClosed (0x100 + p.val) = false ∧ l.getLsbD 2 = (s.main.pt p).lines.getLsbD 2 ∧ l.getLsbD 3 = (s.main.pt p).lines.getLsbD 3 ∧ ca = true ∧ cb = true) ∧
  (let p : Ax := 3
   let s := run (fun m => ((m.setObj (fbAddr 3 O.FB_MODE) 2).setObj (pwAddr 3 O.PW_COMM_SRC) 1).modC 3 (fun c => { c with st := sRun, power := true, chains := 2 }))
   s.main.obj (fbAddr p O.FB_MODE) = 2 ∧ hallSector (s.main.pt p).lines = none ∧
     (s.main.pt p).illT + s.main.obj (fbAddr p O.FB_HALL_ILL_T) * unitsPerUs ≤ s.main.now ∧ s.main.hallPort 3 = p.val ∧
     (s.main.pt p).decT + s.main.obj (fbAddr p O.FB_ERR_DECAY) * unitsPerUs ≤ s.main.now) := by
  decide +kernel

/-- The hypotheses of each clause of `SerialReads` hold together somewhere. -/
theorem test_meets_SerialReads :
  (let p : Ax := 3
   let s := run (fun m => m.setObj (fbAddr 3 O.FB_MODE) 3)
   s.main.obj (fbAddr p O.FB_MODE) = 3 ∧ s.main.mittenClosed (0x100 + p.val) = false ∧ (s.main.pt p).lastMono = none) ∧
  (let p : Ax := 3
   let s := run (fun m => m.setObj (fbAddr 3 O.FB_MODE) 3)
   s.main.obj (fbAddr p O.FB_MODE) = 3 ∧ s.main.mittenClosed (0x100 + p.val) = false ∧ (s.main.pt p).lastMono = none ∧ (s.main.pt p).readT0 = none) ∧
  (let p : Ax := 3
   let t0 := 39900000
   let s := run (fun m => (m.setObj (fbAddr 3 O.FB_MODE) 3).modPt 3 (fun q => { q with readT0 := some 39900000 }))
   (s.main.pt p).readT0 = some t0 ∧ t0 + s.main.serMono p ≤ s.main.now ∧ (s.main.i p).home = none) := by
  decide +kernel

/-- The hypotheses of each clause of `LimitsLatchAndRelease` hold together somewhere. -/
theorem test_meets_LimitsLatchAndRelease :
  (let i : InstId := 3
   let side : Side := .pos
   let neg := side == .neg
   let lat : Limits → Bool := fun l => if neg then l.negLat else l.posLat
   let s := run (fun m => ({ ((((m.setObj (instAddr 3 O.LIM_POS_IN) 4).setObj (instAddr 3 O.LIM_POL) 0).modFc 4 (fun f => { f with level := true })).modI 3 (fun x => { x with core := { x.core with st := sOff }, motion := { x.motion with velSp := 0 }, loop := { x.loop with vCmd := 0 } })) with field := { ((((m.setObj (instAddr 3 O.LIM_POS_IN) 4).setObj (instAddr 3 O.LIM_POL) 0).modFc 4 (fun f => { f with level := true })).modI 3 (fun x => { x with core := { x.core with st := sOff }, motion := { x.motion with velSp := 0 }, loop := { x.loop with vCmd := 0 } })).field with link := 2 } }))
   s.main.limActive i neg = true ∧ lat (s.main.i i).lim = false ∧ (s.main.i i).home = none ∧ (s.main.i i).core.st < sEnabling) ∧
  (let i : InstId := 3
   let side : Side := .pos
   let neg := side == .neg
   let lat : Limits → Bool := fun l => if neg then l.negLat else l.posLat
   let s := run (fun m => ({ ((((m.setObj (instAddr 3 O.LIM_POS_IN) 4).setObj (instAddr 3 O.LIM_POL) 0).modFc 4 (fun f => { f with level := true })).modI 3 (fun x => { x with core := { x.core with st := sRun }, motion := { x.motion with velSp := 10 }, loop := { x.loop with vCmd := 10 } })).setObj (instAddr 3 O.LIM_REACT) 2 with field := { ((((m.setObj (instAddr 3 O.LIM_POS_IN) 4).setObj (instAddr 3 O.LIM_POL) 0).modFc 4 (fun f => { f with level := true })).modI 3 (fun x => { x with core := { x.core with st := sRun }, motion := { x.motion with velSp := 10 }, loop := { x.loop with vCmd := 10 } })).field with link := 2 } }))
   s.main.limActive i neg = true ∧ lat (s.main.i i).lim = false ∧ (s.main.i i).home = none ∧ (s.main.i i).core.st = sRun ∧ towards (s.main.direction i) neg = true ∧ s.main.io i O.LIM_REACT = 2 ∧ (s.main.i i).link.st = 0 ∧ (s.main.lop i).busy = false) ∧
  (let i : InstId := 3
   let side : Side := .pos
   let neg := side == .neg
   let s := run (fun m => ({ ((((m.setObj (instAddr 3 O.LIM_POS_IN) 4).setObj (instAddr 3 O.LIM_POL) 0).modFc 4 (fun f => { f with level := false })).modI 3 (fun x => { x with core := { x.core with st := sOff }, motion := { x.motion with velSp := 0 }, loop := { x.loop with vCmd := 0 } })).modLim 3 (fun l => { l with posLat := true }) with field := { ((((m.setObj (instAddr 3 O.LIM_POS_IN) 4).setObj (instAddr 3 O.LIM_POL) 0).modFc 4 (fun f => { f with level := false })).modI 3 (fun x => { x with core := { x.core with st := sOff }, motion := { x.motion with velSp := 0 }, loop := { x.loop with vCmd := 0 } })).field with link := 2 } }).setObj (instAddr 3 O.LIM_REL_T) 4)
   s.main.limActive i neg = false ∧ (s.main.fc (s.main.limCh i neg)).levT + s.main.io i O.LIM_REL_T * unitsPerMs ≤ s.main.now) := by
  decide +kernel

/-- The hypotheses of each clause of `HomingEventsAndTimeouts` hold together somewhere. -/
theorem test_meets_HomingEventsAndTimeouts :
  (let i : InstId := 3
   let h : Homing := { method := 2, step := 3, cand := some (7, 9) }
   let s := run (fun m => (m.setObj (instAddr 3 O.HOME_METHOD) 2 |>.setObj (fbAddr 3 O.FB_MODE) 1 |>.modOp 3 (fun _ => { busy := true, kind := 1 })).modI 3 (fun x => { x with home := some ({ method := 2, step := 3, cand := some (7, 9) } : Homing), core := { x.core with st := sRun, power := true, chains := 2 } }))
   let c : Int × Nat := (7, 9)
   (s.main.i i).home = some h ∧ h.step = 3 ∧ h.cand = some c ∧ c.2 + s.main.io i O.HOME_DEBOUNCE * unitsPerMs ≤ s.main.now ∧ s.main.obj (fbAddr i O.FB_MODE) ≠ 3) ∧
  (let i : InstId := 3
   let h : Homing := { method := 7, step := 7, hsSince := some 0 }
   let s := run (fun m => (m.setObj (instAddr 3 O.HOME_METHOD) 7 |>.setObj (fbAddr 3 O.FB_MODE) 1 |>.setObj (instAddr 3 O.HOME_HS_T) 5 |>.modOp 3 (fun _ => { busy := true, kind := 1 })).modI 3 (fun x => { x with home := some ({ method := 7, step := 7, hsSince := some 0 } : Homing), core := { x.core with st := sRun, power := true, chains := 2 }, loop := { x.loop with iqSp := 1 } }))
   (s.main.i i).home = some h ∧ h.step = 7 ∧ h.method = 7 ∧ s.main.hardStop i = true ∧ since h.hsSince (s.main.io i O.HOME_HS_T) s.main.now = true ∧ s.main.io i O.HOME_GOTO = 0 ∧ s.main.io i O.MODULO = 0) ∧
  (let i : InstId := 3
   let h : Homing := { method := 0, step := 0 }
   let s := run (fun m => (({ m with tb := { m.tb with acc := 56402616320 * 2 ^ 30, epoch := 5, slotDue := 400000040000 } } : Main).modOp 3 (fun _ => { busy := true, kind := 1 })).modI 3 (fun x => { x with home := some ({ method := 0, step := 0 } : Homing), core := { x.core with st := sRun, power := true, chains := 2 } }))
   (s.main.i i).home = some h ∧ h.failCode = none ∧ (s.main.lop i).busy = true ∧ (s.main.lop i).kind = 1 ∧ h.method = 0 ∧ h.step = 0 ∧ h.started + 100 * unitsPerMs ≤ s.main.now) ∧
  (let i : InstId := 3
   let h : Homing := { method := 0, step := 0 }
   let s := run (fun m => (({ m with tb := { m.tb with acc := 56402616320 * 2 ^ 30, epoch := 5, slotDue := 400000040000 } } : Main).modOp 3 (fun _ => { busy := true, kind := 1 })).modI 3 (fun x => { x with home := some ({ method := 0, step := 0 } : Homing), core := { x.core with st := sRun, power := true, chains := 2 } }))
   (s.main.i i).home = some h ∧ h.failCode = none ∧ (s.main.lop i).busy = true ∧ (s.main.lop i).kind = 1 ∧ h.step = 0 ∧ s.main.io i O.HOME_TMAX * 1000 * unitsPerMs ≤ (s.main.lop i).ranFor s.main.now) ∧
  (let i : InstId := 3
   let h : Homing := { method := 2, step := 2 }
   let s := run (fun m => (({ m with tb := { m.tb with acc := 56402616320 * 2 ^ 30, epoch := 5, slotDue := 400000040000 } } : Main).modOp 3 (fun _ => { busy := true, kind := 1 })).modI 3 (fun x => { x with home := some ({ method := 2, step := 2 } : Homing), core := { x.core with st := sRun, power := true, chains := 2 } }))
   (s.main.i i).home = some h ∧ h.failCode = none ∧ (s.main.lop i).busy = true ∧ (s.main.lop i).kind = 1 ∧ h.step ≠ 0 ∧ (s.main.i i).core.st = sRun ∧ s.main.io i O.HOME_TMAX * 1000 * unitsPerMs ≤ (s.main.lop i).ranFor s.main.now) := by
  decide +kernel

/-- The hypotheses of each clause of `SessionCommands` hold together somewhere. -/
theorem test_meets_SessionCommands :
  (let sess : Sess := 0
   let q : Req := { sess := 0, seq := 5, mode3 := false, addr := 0, len := 0, data := [] }
   let s := run id
   sess.val ≠ 9 ∧ q.sess = sess ∧ s.main.hears sess false = true) ∧
  (let sess : Sess := 8
   let q : Req := { sess := 8, seq := 5, mode3 := false, addr := 0, len := 0, data := [] }
   let s := run (fun m => { m with sess := [] })
   sess.val ≠ 9 ∧ q.sess = sess ∧ s.main.hears sess false = true ∧ q.addr.toNat < 2 ∧ (s.main.se sess).isOpen = false) ∧
  (let sess : Sess := 0
   let q : Req := { sess := 0, seq := 5, mode3 := false, addr := 1, len := 0, data := [] }
   let s := run id
   sess.val ≠ 9 ∧ q.sess = sess ∧ s.main.hears sess false = true ∧ q.addr.toNat < 2 ∧ (s.main.se sess).isOpen = true) ∧
  (let sess : Sess := 0
   let q : Req := { sess := 0, seq := 5, mode3 := false, addr := 0, len := 0, data := [] }
   let s := run (fun m => { m with windows := [(5, { opened := 7, claimants := [{ sess := 0 },{sess := 8}] })] })
   sess.val ≠ 9 ∧ q.sess = sess ∧ s.main.hears sess false = true) := by
  decide +kernel

/-- The hypotheses of each clause of `RequestsAreQueuedWithATicket` hold together somewhere. -/
theorem test_meets_RequestsAreQueuedWithATicket :
  (let q : Req := { sess := 0, seq := 5, mode3 := false, addr := BitVec.ofNat 24 (ntAddr 0 O.NT_NODE_ADDR), len := 100, data := [] }
   let a := q.addr.toNat
   let n := q.sess.val
   let s := run id
   let m := s.start.touch n
   let o? := info? q.addr.toNat
   let d := (m.readData n a 0 q.len).elim (fun _ => []) id
   o?.isSome ∧ q.sess.val ≠ 9 ∧ s.main.hears n false = true ∧ m.frontRead n a false = none ∧ (o?.map (·.rind)) = some true ∧ m.readData n a 0 q.len = .inr d) ∧
  (let q : Req := { sess := 0, seq := 5, mode3 := false, addr := BitVec.ofNat 24 (instAddr 3 O.TARGET_POS), len := 100, data := [] }
   let a := q.addr.toNat
   let n := q.sess.val
   let s := run id
   let m := s.start.touch n
   let o? := info? q.addr.toNat
   o?.isSome ∧ s.main.hears n false = true ∧ m.frontRead n a false = none ∧ (o?.map (·.rind)) = some false ∧ m.beRoom = true ∧ (s.main.se n).places.length < 16) ∧
  (let q : Req := { sess := 0, seq := 5, mode3 := false, addr := BitVec.ofNat 24 (evAddr 0 O.EV_QUEUE), len := 36, data := bytesOfWords [5] }
   let a := q.addr.toNat
   let n := q.sess.val
   let s := run id
   let m := s.start.touch n
   let o? := info? q.addr.toNat
   o?.isSome ∧ s.main.hears n false = true ∧ m.frontRead n a true = none ∧ m.beRoom = true ∧ (s.main.se n).places.length < 16) ∧
  (let q : Req := { sess := 0, seq := 5, mode3 := false, addr := BitVec.ofNat 24 (instAddr 3 O.TARGET_POS), len := 0, data := bytesOfWords [5] }
   let a := q.addr.toNat
   let n := q.sess.val
   let s := run id
   let m := s.start.touch n
   let o? := info? q.addr.toNat
   o?.isSome ∧ s.main.hears n true = true ∧ m.frontWrite n a false q.data = none ∧ isStop a = false ∧ m.beRoom = true ∧ (s.main.se n).places.length < 16) ∧
  (let q : Req := { sess := 0, seq := 5, mode3 := false, addr := BitVec.ofNat 24 (evAddr 0 O.EV_TPL), len := 0, data := bytesOfWords [8,1,2,3,4,5,6,7,8] }
   let a := q.addr.toNat
   let n := q.sess.val
   let s := run id
   let m := s.start.touch n
   let o? := info? q.addr.toNat
   o?.isSome ∧ s.main.hears n true = true ∧ m.frontWrite n a true q.data = none ∧ m.beRoom = true ∧ (s.main.se n).places.length < 16) := by
  decide +kernel

/-- The hypotheses of each clause of `FetchAnswersByTheTicket` hold together somewhere. -/
theorem test_meets_FetchAnswersByTheTicket :
  (let q : Req := { sess := 0, seq := 5, mode3 := false, addr := 7, len := 2, data := [] }
   let s := run (fun m => { m with sess := [(0, { isOpen := true, ticket := 9, places := [{ ticket := 7, stage := 2, status := 0, len := 3, data := [1,2,3] }, { ticket := 8 }] })] })
   q.sess.val ≠ 9 ∧ s.main.hears q.sess false = true) := by
  decide +kernel

/-- The hypotheses of each clause of `HostPortFrames` hold together somewhere. -/
theorem test_meets_HostPortFrames :
  (let q : Req := { sess := 9, seq := 5, mode3 := false, addr := BitVec.ofNat 24 (ntAddr 0 O.NT_NODE_ADDR), len := 5, data := bytesOfWords [5] }
   let s := run (fun m => { m with sess := [(9, { isOpen := true, service := true })], host := { m.host with busy := true, reply := { status := 0, seq := 7, data := [9] } } })
   q.sess.val = 9 ∧ s.main.hears 9 false = true) ∧
  (let q : Req := { sess := 9, seq := 5, mode3 := false, addr := BitVec.ofNat 24 (instAddr 3 O.TARGET_POS), len := 16, data := [] }
   let s := run (fun m => { m with sess := [(9, { isOpen := true, service := true })], host := { m.host with busy := false, reply := { status := 0, seq := 7, data := [9] } } })
   q.sess.val = 9 ∧ s.main.hears 9 false = true ∧ q.len ≤ 4096 ∧ s.main.host.busy = false ∧ ((s.portStart q.mode3).incWord 9 q.addr.toNat).isRight ∧ (s.portStart q.mode3).beRoom = true) ∧
  (let q : Req := { sess := 0, seq := 5, mode3 := false, addr := 0, len := 0, data := [] }
   let s := run id
   q.sess.val ≠ 9 ∧ s.main.hears q.sess false = true) ∧
  (let s := run (fun m => { m with sess := [(9, { isOpen := true, service := true })], host := { m.host with busy := false, reply := { status := 0, seq := 7, data := [9] } } })
   s.main.portOpen = true) ∧
  (let b : List Byte := [1,2,3]
   let s := run (fun m => { m with sess := [(9, { isOpen := true, service := true })], host := { m.host with busy := false, reply := { status := 0, seq := 7, data := [9] } } })
   s.main.portOpen = true ∧ b.headD 0 ≠ 0 ∧ hostFrameCode b ≠ 0) := by
  decide +kernel

/-- The hypotheses of each clause of `QueuedWorkEnds` hold together somewhere. -/
theorem test_meets_QueuedWorkEnds :
  (let sess : Sess := 0
   let ticket : Byte := 8
   let x : BeItem := { key := { sess := 0, ticket := 8 }, cmd := .read, addr := instAddr 3 O.TARGET_POS, len := 10 }
   let rest : List BeItem := [{ key := { sess := 1, ticket := 2 }, cmd := .read, addr := instAddr 4 O.TARGET_POS, len := 5 }]
   let s := run (fun m => { m with sess := [(0, { isOpen := true, places := [{ ticket := 8 }] })], fab := { m.fab with queue := x :: rest } })
   let m : Main := { s.start with fab := { s.main.fab with queue := rest } }
   let d := (m.readData sess x.addr 0 x.len).elim (fun _ => []) id
   sess.val ≠ 9 ∧ s.main.tb.running = true ∧ s.main.fab.queue = x :: rest ∧ x.key.sess = sess.val ∧ x.key.ticket = ticket.toNat ∧ x.cmd = .read ∧
     s.main.fab.waiting = [] ∧ s.main.fab.cells.length < 16 ∧ m.barred x.addr = false ∧ m.readData sess x.addr 0 x.len = .inr d) ∧
  (let n : Fin 2 := 1
   let s := run (fun m => { m with ps := [(1, { busy := true, tx := [1,2], key := some { sess := 0, ticket := 3 } })] })
   (s.main.psm n).busy = true ∧ (s.main.psm n).startT + s.main.psTime n ≤ s.main.now) := by
  decide +kernel

/-- The hypotheses of each clause of `BroadcastWrites` hold together somewhere. -/
theorem test_meets_BroadcastWrites :
  (let q : Req := { sess := 0, seq := 5, mode3 := false, addr := BitVec.ofNat 24 (instAddr 3 O.STOP), len := 0, data := bytesOfWords [2] }
   let n := q.sess.val
   let a := q.addr.toNat
   let s := run id
   let m := s.start.touch n
   let d := ((info? a).bind (fun o => parseWrite a o false q.data)).getD { words := [] }
   q.sess.val ≠ 9 ∧ s.main.hears q.sess true = true ∧ isStop a = true ∧ instOf a ≠ 0xFF ∧ m.frontWrite n a false q.data = none ∧ ((info? a).bind (fun o => parseWrite a o false q.data)) = some d ∧ m.writeRefusal a d = none) ∧
  (let q : Req := { sess := 3, seq := 5, mode3 := false, addr := BitVec.ofNat 24 (0x3FF * 2^12 + O.STOP), len := 0, data := bytesOfWords [2] }
   let n := q.sess.val
   let a := q.addr.toNat
   let s := run id
   isStop a = true ∧ instOf a = 0xFF ∧ (∀ k : InstId, s.main.owns n k = false)) ∧
  (let q : Req := { sess := 0, seq := 5, mode3 := false, addr := 0, len := 0, data := [] }
   let n := q.sess.val
   let s := run id
   n ≠ 8 ∧ s.main.sup.straps.addrMode = false ∧ s.main.obj (ntAddr 0 O.NT_ADDR_VALID) = 0) ∧
  (let q : Req := { sess := 0, seq := 5, mode3 := false, addr := BitVec.ofNat 24 (cmAddr 2 O.CM_VM_SEGMENT), len := 0, data := bytesOfWords [0, 0, 90000000, 0, 0, 0, 100, 100, 0] }
   let n := q.sess.val
   let a := q.addr.toNat
   let s := run (fun m => let m := m.setObj (ntAddr 0 O.NT_SYNC_MODE) 1; m)
   let m := s.start.touch n
   let d := ((info? a).bind (fun o => parseWrite a o false q.data)).getD { words := [] }
   areaOf a = 11 ∧ numOf a = O.CM_VM_SEGMENT ∧ m.frontWrite n a false q.data = none ∧ ((info? a).bind (fun o => parseWrite a o false q.data)) = some d ∧ m.bootBars a = false ∧ m.segRefusal (instOf a) (segmentOf d.words) = none) := by
  decide +kernel

/-- The hypotheses of each clause of `NetworkEntries` hold together somewhere. -/
theorem test_meets_NetworkEntries :
  (let sess : Sess := 0
   let s := run id
   sess.val ≠ 9 ∧ s.main.hears sess true = true) ∧
  (let sess : Sess := 0
   let own : EventEntry := { valid := true, kind := 0x40, source := 9, id := 3, time := 39000001, value := 5 }
   let es : List EventEntry := [{ valid := true, kind := 0x40, source := 8, id := 3, time := 38000001, value := 5 }, { valid := false, kind := 0x40, source := 9, id := 3, time := 39000001, value := 5 }]
   let out := (placeEntry own es).getD []
   let s := run (fun m => { m with line := { m.line with txq := [own] } })
   sess.val ≠ 9 ∧ s.main.hears sess true = true ∧ placeEntry own es = some out) ∧
  (let sess : Sess := 0
   let es : List EventEntry := [{ valid := false, kind := 0x40, source := 9, id := 3, time := 39000001, value := 5 }]
   let s := run id
   sess.val ≠ 9 ∧ s.main.hears sess true = true ∧ (s.main.line.txq = [] ∨ ∀ e ∈ es, e.valid = true)) := by
  decide +kernel

/-- The hypotheses of each clause of `FramesFindTheirWay` hold together somewhere. -/
theorem test_meets_FramesFindTheirWay :
  (let b : List Byte := sealFrame (List.replicate 12 1 ++ [0x88, 0xB5] ++ [0x18,0,0,0,0,7,0,14] ++ List.replicate 14 0) true
   let s := run (fun m => { m with line := { m.line with  ports := [(0, { phy := 2, up := true }), (1, { phy := 2, up := true }), (2, { phy := 1, up := true })] } })
   let p : LPort := .la
   let i := LPort.num p
   let seen := s.main.line.seqs.contains (BitVec.ofNat 16 (headerOf b / 65536))
   s.main.lineReady (LPort.num p) = true ∧ s.main.isDamek b = true ∧ headerOk b = true ∧ (false && s.main.line.cut.contains (LPort.num p)) = false ∧ frameGood b = true ∧ s.main.portUp (1 - i) = true ∧ (loopedOf b || seen) = true) ∧
  (let b : List Byte := sealFrame (List.replicate 12 1 ++ [0x88, 0xB5] ++ [0x18,0,0,0,0,7,0,14] ++ List.replicate 14 0) true
   let s := run (fun m => { m with line := { m.line with  ports := [(0, { phy := 2, up := true }), (1, { phy := 2, up := false }), (2, { phy := 1, up := true })] } })
   let p : LPort := .la
   let i := LPort.num p
   s.main.lineReady (LPort.num p) = true ∧ s.main.isDamek b = true ∧ headerOk b = true ∧ (false && s.main.line.cut.contains (LPort.num p)) = false ∧ s.main.portUp (1 - i) = false ∧ loopedOf b = true) ∧
  (let b : List Byte := sealFrame (List.replicate 12 1 ++ [0x88, 0xB5] ++ [0x10,0,0,0,0,7,0,14] ++ List.replicate 14 0) true
   let s := run (fun m => { m with line := { m.line with  ports := [(0, { phy := 2, up := true }), (1, { phy := 2, up := true }), (2, { phy := 1, up := true })] } })
   let p : LPort := .la
   let seen := s.main.line.seqs.contains (BitVec.ofNat 16 (headerOf b / 65536))
   s.main.lineReady (LPort.num p) = true ∧ s.main.isDamek b = true ∧ headerOk b = true ∧ (false && s.main.line.cut.contains (LPort.num p)) = false ∧ loopedOf b = false ∧ seen = false) ∧
  (let b : List Byte := sealFrame (List.replicate 12 1 ++ [0x88, 0xB5] ++ [0x10,0,0,0,0,7,0,14] ++ List.replicate 14 0) true
   let s := run (fun m => { m with line := { m.line with  ports := [(0, { phy := 2, up := true }), (1, { phy := 2, up := true }), (2, { phy := 1, up := true })] } })
   s.main.svRuns = true ∧ s.main.isDamek b = true) ∧
  (let b : List Byte := sealFrame (List.replicate 12 1 ++ [8,0] ++ [0x10,0,0,0,0,7,0,14] ++ List.replicate 14 0) true
   let s := run (fun m => { m with line := { m.line with  ports := [(0, { phy := 2, up := true }), (1, { phy := 2, up := true }), (2, { phy := 1, up := true })] } })
   s.main.svRuns = true ∧ s.main.isDamek b = false) ∧
  (let b : List Byte := sealFrame (List.replicate 12 1 ++ [8,0] ++ [0x10,0,0,0,0,7,0,14] ++ List.replicate 14 0) true
   let s := run (fun m => { m with line := { m.line with  ports := [(0, { phy := 2, up := true }), (1, { phy := 2, up := true }), (2, { phy := 1, up := true })] } })
   s.main.svRuns = true ∧ s.main.isDamek b = false) ∧
  (let b : List Byte := sealFrame (List.replicate 12 1 ++ [8,0] ++ [0x10,0,0,0,0,7,0,14] ++ List.replicate 14 0) true
   let p : Port3 := .lb
   let s := run (fun m => { m with line := { m.line with  ports := [(0, { phy := 2, up := true }), (1, { phy := 2, up := true }), (2, { phy := 1, up := true })] } })
   p ≠ .sv ∧ s.main.lineReady (Port3.num p) = true ∧ s.main.isDamek b = false ∧ natOfBytes ((b.drop 12).take 2) ≠ 0x88F7 ∧ (true && s.main.line.cut.contains (Port3.num p)) = false) ∧
  (let p : LPort := .la
   let f : LineFrame := { bytes := List.replicate 64 1, cut := true }
   let s := run (fun m => { m with line := { m.line with cut := [0, 1], ports := [(0, { phy := 2, up := true }), (1, { phy := 2, up := true })] } })
   s.main.sup.moduleHeld = false ∧ (s.main.pl (1 - LPort.num p)).phy ≠ 0 ∧ f.cut = true ∧ s.main.line.cut.contains (LPort.num p) = true) := by
  decide +kernel

/-- The hypotheses of each clause of `PortsFollowTheirLinks` hold together somewhere. -/
theorem test_meets_PortsFollowTheirLinks :
  (let p : Port3 := .lb
   let v : LinkSpeed := .m1000
   let s := run (fun m => { m with line := { m.line with  ports := [(0, { phy := 2, up := true }), (1, { phy := 2, up := false }), (2, { phy := 1, up := true })] } })
   let i := Port3.num p
   let o := s.main.pl (1 - i)
   s.main.sup.moduleHeld = false ∧ s.main.offers i (match v with | .m100 => 1 | .m1000 => 2) = true ∧ (i = 2 ∨ o.up = false ∨ o.phy = (match v with | .m100 => 1 | .m1000 => 2))) ∧
  (let p : Port3 := .la
   let e := 30000000
   let s := run (fun m => { m with line := { m.line with ports := [(0, { phy := 2, healEnd := some 30000000 })] } })
   let i := Port3.num p
   let o := s.main.pl (1 - i)
   (s.main.pl i).healEnd = some e ∧ e ≤ s.main.now ∧ (s.main.pl i).phy ≠ 0 ∧ (s.main.pl i).up = false ∧ (i = 2 ∨ o.up = false ∨ o.phy = (s.main.pl i).phy)) ∧
  (let p : Port3 := .lb
   let s := run (fun m => { m with line := { m.line with  ports := [(0, { phy := 2, up := true }), (1, { phy := 2, up := true }), (2, { phy := 1, up := true })] } })
   let i := Port3.num p
   (s.main.pl i).up = true) := by
  decide +kernel

/-- The hypotheses of each clause of `PtpMessagesPassAndSteer` hold together somewhere. -/
theorem test_meets_PtpMessagesPassAndSteer :
  (let port : LPort := .la
   let p := LPort.num port
   let g := ptpFrame 0 0 (List.replicate 10 0)
   let s := run (fun m => { m.setObj (ntAddr 0 O.NT_SYNC_STATE) 0 with ptp := { m.ptp with master := none }, line := { m.line with ports := [(0, { phy := 2, up := true }), (1, { phy := 2, up := true })] } })
   s.main.lineReady (LPort.num port) = true ∧ s.main.portUp (1 - LPort.num port) = true ∧ s.main.line.cut = [] ∧ s.main.takesPtp p g 0 = true ∧ s.main.follows g.domain g.master = false) ∧
  (let port : LPort := .la
   let p := LPort.num port
   let g := ptpFrame 0 2 (List.replicate 10 0)
   let s := run (fun m => { m.setObj (ntAddr 0 O.NT_SYNC_STATE) 2 with ptp := { m.ptp with master := some [1, 2, 3, 4, 5, 6, 7, 8, 0, 1] }, line := { m.line with ports := [(0, { phy := 2, up := true }), (1, { phy := 2, up := true })] } })
   s.main.lineReady (LPort.num port) = true ∧ s.main.portUp (1 - LPort.num port) = true ∧ s.main.line.cut = [] ∧ s.main.takesPtp p g 0 = true ∧ s.main.follows g.domain g.master = true ∧ g.twoStep = true) ∧
  (let port : LPort := .la
   let p := LPort.num port
   let g := ptpFrame 0 0 (List.replicate 10 0)
   let s := run (fun m => { m.setObj (ntAddr 0 O.NT_SYNC_STATE) 2 |>.setObj (ntAddr 0 O.NT_PTP_PORT) 0 with ptp := { m.ptp with master := some [1, 2, 3, 4, 5, 6, 7, 8, 0, 1] }, line := { m.line with ports := [(0, { phy := 2, up := true }), (1, { phy := 2, up := true })] } })
   s.main.lineReady (LPort.num port) = true ∧ s.main.portUp (1 - LPort.num port) = true ∧ s.main.line.cut = [] ∧ s.main.takesPtp p g 0 = true ∧ s.main.follows g.domain g.master = true ∧ g.twoStep = false ∧ s.main.obj (ntAddr 0 O.NT_PTP_PORT) = p ∧ (s.main.syncState = 1 ∨ s.main.syncState = 2) ∧ s.main.ptp.deciding = false) ∧
  (let port : LPort := .la
   let p := LPort.num port
   let g := ptpFrame 8 0 (List.replicate 10 0)
   let s := run (fun m => { m.setObj (ntAddr 0 O.NT_SYNC_STATE) 2 with ptp := { m.ptp with master := some [1, 2, 3, 4, 5, 6, 7, 8, 0, 1] }, line := { m.line with ports := [(0, { phy := 2, up := true }), (1, { phy := 2, up := true })] } })
   s.main.lineReady (LPort.num port) = true ∧ s.main.portUp (1 - LPort.num port) = true ∧ s.main.line.cut = [] ∧ s.main.takesPtp p g 8 = true ∧ s.main.ptp.held.find? (fun h => h.port == p) = none) ∧
  (let port : LPort := .la
   let p := LPort.num port
   let g := ptpFrame 8 0 (List.replicate 10 0)
   let s := run (fun m => { m.setObj (ntAddr 0 O.NT_SYNC_STATE) 2 with ptp := { m.ptp with master := some [1, 2, 3, 4, 5, 6, 7, 8, 0, 1], held := [{ port := 0, master := [1, 2, 3, 4, 5, 6, 7, 8, 0, 1], seqId := 5 }] }, line := { m.line with ports := [(0, { phy := 2, up := true }), (1, { phy := 2, up := true })] } })
   s.main.lineReady (LPort.num port) = true ∧ s.main.portUp (1 - LPort.num port) = true ∧ s.main.line.cut = [] ∧ s.main.takesPtp p g 8 = true ∧ (s.main.ptp.held.find? (fun h => h.port == p)).map (·.seqId) = some g.seqId ∧ s.main.follows g.domain g.master = true ∧ (s.main.ptp.held.find? (fun h => h.port == p)).map (·.master) = some g.master) ∧
  (let port : LPort := .la
   let p := LPort.num port
   let g := ptpFrame 11 0 (List.replicate 30 0)
   let s := run (fun m => { m.setObj (ntAddr 0 O.NT_SYNC_STATE) 0 with ptp := { m.ptp with announces := [{ port := 0, at_ := 39000000, msg := ptpFrame 11 0 (List.replicate 30 0) }] }, line := { m.line with ports := [(0, { phy := 2, up := true }), (1, { phy := 2, up := true })] } })
   s.main.lineReady (LPort.num port) = true ∧ s.main.portUp (1 - LPort.num port) = true ∧ s.main.line.cut = [] ∧ s.main.takesPtp p g 11 = true ∧ s.main.sup.boot = .run ∧ s.main.obj (ntAddr 0 O.NT_SYNC_MODE) = 0 ∧ s.main.obj (ntAddr 0 O.NT_PTP_DOMAIN) = g.domain ∧ 0 < g.timeout ∧ g.stepsRemoved < 255 ∧ (let h : Heard := { port := 0, at_ := 39000000, msg := ptpFrame 11 0 (List.replicate 30 0) }
    s.main.ptp.announces = [h] ∧ h.port = p ∧ h.msg.master = g.master ∧ s.main.now ≤ h.at_ + 4 * g.interval)) := by
  decide +kernel

/-- The hypotheses of each clause of `PeerDelayLossAndStep` hold together somewhere. -/
theorem test_meets_PeerDelayLossAndStep :
  (let port : LPort := .la
   let p := LPort.num port
   let g := ptpFrame 2 0 (List.replicate 20 0)
   let s := run (fun m => { m with pdelay := [(0, {})], line := { m.line with ports := [(0, { phy := 2, up := true }), (1, { phy := 2, up := true })] } })
   s.main.lineReady (LPort.num port) = true ∧ s.main.line.cut = [] ∧ s.main.takesPtp p g 2 = true ∧ (s.main.pd p).due ≤ s.main.now) ∧
  (let port : LPort := .la
   let p := LPort.num port
   let g : PdelayMsg := { seqId := 5, twoStep := false, reqReceipt := 100, respOrigin := 200, correction := 65536 }
   let s := run (fun m => { m with pdelay := [(0, { waiting := true, seqId := 5, sent := 39900000 , results := [] })], line := { m.line with ports := [(0, { phy := 2, up := true }), (1, { phy := 2, up := true })] } })
   s.main.lineReady (LPort.num port) = true ∧ (s.main.pd p).waiting = true ∧ (s.main.pd p).seqId = g.seqId ∧ g.twoStep = false) ∧
  (let port : LPort := .la
   let p := LPort.num port
   let g : PdelayMsg := { seqId := 5, twoStep := true, reqReceipt := 100, respOrigin := 200, correction := 65536 }
   let s := run (fun m => { m with pdelay := [(0, { waiting := true, seqId := 5, sent := 39900000 })], line := { m.line with ports := [(0, { phy := 2, up := true }), (1, { phy := 2, up := true })] } })
   s.main.lineReady (LPort.num port) = true ∧ (s.main.pd p).waiting = true ∧ (s.main.pd p).seqId = g.seqId ∧ g.twoStep = true) ∧
  (let port : LPort := .la
   let p := LPort.num port
   let sq : BitVec 16 := 5
   let t4 : Int := 39999000
   let receipt : Int := 100
   let corr : Int := 5
   let s := run (fun m => { m with pdelay := [(0, { waiting := true, seqId := 5, sent := 39900000 , recv := some (39999000, 100, 5) })], line := { m.line with ports := [(0, { phy := 2, up := true }), (1, { phy := 2, up := true })] } })
   s.main.lineReady (LPort.num port) = true ∧ (s.main.pd p).recv = some (t4, receipt, corr) ∧ (s.main.pd p).waiting = true ∧ (s.main.pd p).seqId = sq) ∧
  (let s := run (fun m => { m.setObj (ntAddr 0 O.NT_SYNC_STATE) 1 |>.setObj (ntAddr 0 O.NT_SYNC_TIMEOUT) 1 with ptp := { m.ptp with master := some [1,2,3,4,5,6,7,8]  }, line := { m.line with ports := [(0, { phy := 2, up := true }), (1, { phy := 2, up := true })] } })
   s.main.obj (ntAddr 0 O.NT_SYNC_MODE) = 0 ∧ s.main.lost = true ∧ (s.main.syncState = 1 ∨ s.main.syncState = 2 ∨ s.main.syncState = 4)) ∧
  (let v : Nat := 123456789
   let s := run (fun m => { m with tb := { m.tb with step := some (true, (123456789 : Nat)) } })
   s.main.tb.step = some (true, (v : Int)) ∧ v < 2 ^ 72 ∧ s.main.tb.running = true ∧ s.main.stepAllowed = true) ∧
  (let v := 5
   let s := run (fun m => { m.modC 3 (fun c => { c with st := sRun }) with tb := { m.tb with step := some (true, 5) } })
   s.main.tb.step = some (true, (v : Int)) ∧ s.main.stepAllowed = false) := by
  decide +kernel

/-- The hypotheses of each clause of `MastersFollowTheirSegments` hold together somewhere. -/
theorem test_meets_MastersFollowTheirSegments :
  (let v : Fin 16 := 2
   let g : Segment := { tStart := 90000000, tEnd := 0, v0 := 1000, v1 := 1000, raw := [1,2] }
   let s := run (fun m => { m with vm := [(2, { placing := [(39999999, g)] })] })
   let x := s.main.vmst v
   x.placing = [(39999999, g)] ∧ 39999999 < slotStart s.main.now ∧ (x.st = 0 ∨ x.st = 1) ∧ (∀ q ∈ x.queue, g.tStart ≤ q.tStart) ∧
     slotStart s.main.now < g.tStart ∧ slotStart s.main.now ≤ 40000000) ∧
  (let v : Fin 16 := 2
   let g : Segment := { tStart := 39000000, tEnd := 0, v0 := 1000, v1 := 1000, raw := [1,2] }
   let s := run (fun m => { m with vm := [(2, { placing := [(39999999, g)] })] })
   let x := s.main.vmst v
   x.placing = [(39999999, g)] ∧ x.st = 0 ∧ x.queue = [] ∧ g.tStart ≤ slotStart s.main.now) ∧
  (let v : Fin 16 := 2
   let g : Segment := { tStart := 39000000, tEnd := 0, v0 := 1000, v1 := 1000, raw := [1,2] }
   let rest : List Segment := []
   let s := run (fun m => { m with vm := [(2, { queue := [g], st := 0 })] })
   let x := s.main.vmst v
   x.queue = g :: rest ∧ g.tStart ≤ s.main.now ∧ x.st ≠ 4) ∧
  (let v : Fin 16 := 2
   let g : Segment := { tStart := 3900000, tEnd := 39000000, v0 := 1000, v1 := 1000, raw := [1,2] }
   let s := run (fun m => { m with vm := [(2, { st := 2, force := some g })] })
   let x := s.main.vmst v
   x.st = 2 ∧ x.force = some g ∧ g.tEnd ≠ 0 ∧ g.tEnd ≤ s.main.now ∧ x.queue = []) ∧
  (let v : Fin 16 := 2
   let g : Segment := { tStart := 3900000, tEnd := 39000000, v0 := 1000, v1 := 1000, raw := [1,2] }
   let s := run (fun m => { m.setObj (cmAddr 2 O.CM_VM_GRACE) 1 with vm := [(2, { st := 3, force := some g, overT := 36000000 })] })
   let x := s.main.vmst v
   let due := x.overT + s.main.obj (cmAddr v O.CM_VM_GRACE) * unitsPerMs
   x.st = 3 ∧ x.queue = [] ∧ due ≤ s.main.now ∧ s.main.now ≤ due + unitsPerSlot) ∧
  (let v : Fin 16 := 2
   let g : Segment := { tStart := 3900000, tEnd := 39000000, v0 := 1000, v1 := 1000, raw := [1,2] }
   let s := run (fun m => { m with vm := [(2, { st := 4, force := some g, outT := 30000000 })] })
   let x := s.main.vmst v
   x.st = 4 ∧ s.main.runoutEnd v ≤ s.main.now) := by
  decide +kernel

/-- The hypotheses of each clause of `EdgesAndCaptures` hold together somewhere. -/
theorem test_meets_EdgesAndCaptures :
  (let src : Fin 16 := 3
   let level := true
   let raw : Instant := { ago := 4, phi := 1 / 2 }
   let u : Fin 32 := 5
   let t0 := 39000000
   let s := run (fun m => (((m.setObj (evAddr 5 O.EV_LT_SRC) 4099).setObj (evAddr 5 O.EV_LT_EDGE) 3).setObj (evAddr 5 O.EV_LT_MODE) 1).modLt 5 (fun l => { l with armed := some 39000000 }))
   let t' := s.main.tb.stampOf raw - s.main.obj (evAddr 0 (O.EV_SRC_DLY + src))
   s.main.obj (evAddr 0 (O.EV_EVT_FILT_N + src)) ≤ raw.ago ∧ ({ raw with ago := 1 } : Instant).ago < s.main.obj (evAddr 0 (O.EV_EVT_FILT_N + src)) ∧
   s.main.ev.levels.getLsbD src ≠ level ∧ s.main.obj (evAddr u O.EV_LT_SRC) = 4096 + src ∧ (s.main.obj (evAddr u O.EV_LT_EDGE)).testBit (if level then 0 else 1) = true ∧ s.main.obj (evAddr u O.EV_LT_MODE) = 1 ∧ (s.main.lt u).waiting = [] ∧ (s.main.lt u).armed = some t0 ∧ t0 ≤ t' ∧ s.main.mittenClosed 0x1000 = false) ∧
  (let u : Fin 32 := 5
   let e : LatchEdge := { t := 39000000, level := true }
   let s := run (fun m => (m.setObj (evAddr 5 O.EV_LT_RULE) 255).modLt 5 (fun l => { l with armed := some 38000000, waiting := [{ t := 39500000, level := false }, e] }))
   earliest (s.main.lt u).waiting = some e ∧ s.main.obj (evAddr u O.EV_LT_TGT) = 0 ∧ s.main.obj (evAddr u O.EV_LT_NETSEND) = 0 ∧ 16 ≤ s.main.obj (evAddr u O.EV_LT_RULE)) ∧
  (let a : Ax := 3
   let u : Fin 32 := 5
   let e : LatchEdge := { t := 39000000, level := true }
   let s := run (fun m => (m.setObj (evAddr 5 O.EV_LT_TGT) 259).modLt 5 (fun l => { l with armed := some 38000000, waiting := [{ t := 39500000, level := false }, e] }))
   earliest (s.main.lt u).waiting = some e ∧ s.main.obj (evAddr u O.EV_LT_TGT) = 256 + a ∧ s.main.obj (fbAddr a O.FB_MODE) = 0) := by
  decide +kernel

/-- The hypotheses of each clause of `ActionsRun` hold together somewhere. -/
theorem test_meets_ActionsRun :
  (let e : Fin 1024 := 9
   let t0 := 39999999
   let s := run (fun m => { (m.setObj (ioAddr 20 O.IO_DIR) 1).modAct 9 (fun a => { a with words := [0x10000000, 0, 0, 39999999, 0, 0, 20, 0] , st := 1, fire := some 39999999 }) with field := { link := 2 } })
   let a := s.main.act e
   let kind := fld (a.words.getD 0 0) 31 28
   a.fire = some t0 ∧ (a.st = 1 ∨ a.st = 2) ∧ a.overdue = false ∧ t0 ≤ s.main.now ∧ (kind = 1 ∨ kind = 2) ∧
     s.main.itsTurn (s.main.tb.edgeOf t0) (1 + e) = true ∧ s.main.superseded (s.main.tb.edgeOf t0) (1 + e) 20 = false ∧ s.main.brakeAxis 20 = none ∧
     s.main.field.link = 2 ∧ ({ s with main := { s.main with field := { link := 0 } } } : State).main.field.link ≠ 2 ∧
     ({ s with main := { s.main with field := { link := 0 } } } : State).main.act e = a) ∧
  (let e : Fin 1024 := 9
   let s := run (fun m => { (m.setObj (ioAddr 20 O.IO_DIR) 1).modAct 9 (fun a => { a with words := [0x10000000, 0, 0, 39999999, 0, 0, 20, 0] , st := 1, overdue := true, overT := 39990000 }) with field := { link := 2 } })
   let a := s.main.act e
   let kind := fld (a.words.getD 0 0) 31 28
   a.dueAt = some 40000000 ∧ a.overdue = true ∧ 40000000 ≤ s.main.now ∧ (kind = 1 ∨ kind = 2) ∧
     s.main.itsTurn (s.main.tb.edgeOf 40000000) (1 + e) = true ∧ s.main.brakeAxis 20 = none) ∧
  (let e : Fin 1024 := 9
   let s := run (fun m => { (m.setObj (ioAddr 20 O.IO_DIR) 1).modAct 9 (fun a => { a with words := [0x110000000, 0x300, 5, 5, 0, 30000000, 20, 0] , st := 2, charged := true }) with field := { link := 2 } })
   let a := s.main.act e
   (a.st = 1 ∨ a.st = 2) ∧ a.overdue = false ∧ a.fire = none ∧ e.val ∉ s.main.ev.moves ∧ fld (a.words.getD 0 0) 35 32 ≠ 0 ∧
     ext2 a.words 4 ≠ 0 ∧ ext2 a.words 4 ≤ slotStart s.main.now) ∧
  (let e : Fin 1024 := 9
   let ch : Fin 32 := 20
   let t0 := 39999999
   let s := run (fun m => { (m.setObj (ioAddr 20 O.IO_DIR) 1).modAct 9 (fun a => { a with words := [0x30000000, 0, 0, 5, 0, 0, 20, 1] , st := 3 }) with ev := { (m.modAct 9 (fun a => { a with st := 3 })).ev with pulses := [(20, (9, 40000000))] }, field := { link := 2 } })
   mget (0, 0) s.main.ev.pulses ch = (e.val, t0 + 1) ∧ t0 ≤ s.main.now ∧ s.main.itsTurn (s.main.tb.edgeOf t0) 0 = true ∧ s.main.field.link = 2 ∧
     (s.main.fc ch).offDead = false ∧ s.main.brakeAxis ch = none ∧ s.main.superseded (s.main.tb.edgeOf t0) 0 ch = false) := by
  decide +kernel

/-- The hypotheses of each clause of `SlotBoundaryEndsFullPostParts` hold together somewhere. -/
theorem test_meets_SlotBoundaryEndsFullPostParts :
  (let s := run (fun m => { m with tb := {} })
   s.main.tb.running = false) ∧
  (let s := run (fun m => ((m.setObj (aqAddr 2 O.AQ_DEPTH) 66).setObj (aqAddr 2 O.AQ_PRE) 64).modAq 2 (fun x => { x with st := 3, post := [{},{},{}] }))
   s.main.tb.running = true) := by
  decide +kernel

/-- The hypotheses of each clause of `LongOperationsEnd` hold together somewhere. -/
theorem test_meets_LongOperationsEnd :
  (let k : Fin 139 := 137
   let s := run (fun m => m.modOp 137 (fun _ => { kind := 4, busy := false }))
   ((s.main.lop k).busy = false ∨ (s.main.lop k).paused = true)) ∧
  (let u : Fin 8 := 2
   let s := run (fun m => m.modOp (opAQ 2) (fun _ => { kind := 6, busy := true }))
   (s.main.lop (opAQ u)).busy = true ∧ (s.main.lop (opAQ u)).kind = 6 ∧ (s.main.lop (opAQ u)).result = []) ∧
  (let s0 : State := run (fun m => { (m.setObj (cmAddr 2 O.CM_TAB_BASE) 100).modOp opCM (fun _ => { kind := 4, busy := true, param := 2, prog := 6, started := 5 }) with cam := [] })
   let s : State := { s0 with main := { s0.main with tb := { s0.main.tb with epoch := 3 } } }
   (s.main.lop opCM).busy = true ∧ (s.main.lop opCM).kind = 4 ∧ s.main.tb.running = true ∧ 10000 * unitsPerMs ≤ (s.main.lop opCM).ranFor s.main.now) ∧
  (let s := run (fun m => { (m.setObj (cmAddr 2 O.CM_TAB_BASE) 100).modOp opCM (fun _ => { kind := 4, busy := true, param := 2, prog := 6, started := 5 }) with cam := [] })
   let tb := (s.main.lop opCM).param
   let base := s.main.obj (cmAddr tb O.CM_TAB_BASE)
   (s.main.lop opCM).busy = true ∧ (s.main.lop opCM).kind = 4 ∧ s.main.opLate opCM = false ∧ s.main.camHeaderBad base = true) ∧
  (let s := run (fun m => { (m.setObj (cmAddr 2 O.CM_TAB_BASE) 100).modOp opCM (fun _ => { kind := 4, busy := true, param := 2, prog := 6, started := 5 }) with cam := [(100, 0x010000002), (101, 1000), (103, BitVec.ofNat 36 (crcWords [7, 9])), (104, 7), (105, 9)] })
   let tb := (s.main.lop opCM).param
   let base := s.main.obj (cmAddr tb O.CM_TAB_BASE)
   let n := (s.main.camHead base).words
   (s.main.lop opCM).busy = true ∧ (s.main.lop opCM).kind = 4 ∧ s.main.opLate opCM = false ∧ s.main.camHeaderBad base = false ∧ base + n ≤ 1048576 ∧ s.main.camTouches base n = false ∧ crcWords ((List.range (n - 4)).map (fun k => s.main.camW (base + 4 + k))) = fld (s.main.camW (base + 3)) 31 0 ∧ (s.main.tab tb).retained = none) := by
  decide +kernel

/-- The hypotheses of each clause of `FieldLinkAndReach` hold together somewhere. -/
theorem test_meets_FieldLinkAndReach :
  (let s := run (fun m => { (m.setObj (ioAddr 20 O.IO_DIR) 1).setObj (ioAddr 20 O.IO_OUT) 1 with field := { link := 2, chans := [(20, { cmd := true, level := true })] } })
   s.main.inst = [] ∧ s.main.field.link ≠ 0) ∧
  (let s := run id
   s.main.inst = [] ∧ s.main.field.link = 0 ∧ s.main.field.reach = false ∧ s.main.mittenClosed 0x3000 = false) ∧
  (let s := run (fun m => { m with field := { link := 1, chans := [(20, { cmd := true, level := true })] } })
   s.main.inst = [] ∧ s.main.field.link = 1) ∧
  (let s := run (fun m => { (m.setObj (ioAddr 20 O.IO_DIR) 1) with field := { link := 2, chans := [(20, { cmd := true, level := true })] } })
   s.main.inst = []) ∧
  (let s := run (fun m => { m with field := { reach := true } })
   s.main.inst = []) := by
  decide +kernel

/-- The hypotheses of each clause of `FieldChannelsReport` hold together somewhere. -/
theorem test_meets_FieldChannelsReport :
  (let s := run (fun m => { m with field := { link := 1, chans := [(20, {  })] } })
   let arrival : FieldArrival := { held := 500000 }
   s.main.field.link ≠ 2 ∧ 0 < arrival.held ∧ s.main.obj (ioAddr 20 O.IO_IN_FILT) * 1000 ≤ arrival.held * 20 ∧
   ((run (fun m => m.setObj (ioAddr 20 O.IO_RB_T) 2)).main.obj (ioAddr 20 O.IO_RB_T)) * unitsPerMs ≤ s.main.now) ∧
  (let level := true
   let ch : Fin 32 := 20
   let s := run (fun m => { m with field := { link := 2, chans := [(20, {  })] } })
   let f := s.main.fc ch
   s.main.field.link = 2 ∧ f.level ≠ level ∧ s.main.inst = []) ∧
  (let ch : Fin 32 := 4
   let s := run (fun m => { m.setObj (ioAddr 4 O.IO_WB_EN) 1 with field := { link := 2, chans := [(4, {  })] } })
   s.main.obj (ioAddr ch O.IO_WB_EN) ≠ 0 ∧ s.main.field.link = 2 ∧ s.main.inst = []) ∧
  (let ch : Fin 32 := 20
   let s := run (fun m => { (m.setObj (ioAddr 20 O.IO_DIR) 1).setObj (instAddr 3 O.AX_BRAKE_OUT) 20 with field := { link := 2, chans := [(20, { cmd := true })] } })
   let f := s.main.fc ch
   s.main.isOut ch = true ∧ s.main.field.link = 2 ∧ s.main.brakeAxis ch = some 3 ∧ f.demag = false ∧ f.short = false ∧ f.hot = false ∧ f.level ≠ f.cmd) ∧
  (let ch : Fin 32 := 20
   let s := run (fun m => { (m.setObj (ioAddr 20 O.IO_DIR) 1).setObj (instAddr 3 O.AX_BRAKE_OUT) 20 with field := { link := 2, chans := [(20, { cmd := true })] } })
   let f := s.main.fc ch
   s.main.isOut ch = true ∧ s.main.field.link = 2 ∧ s.main.brakeAxis ch = some 3 ∧ f.cmd = true) ∧
  (let ch : Fin 32 := 20
   let s := run (fun m => { (m.setObj (ioAddr 20 O.IO_DIR) 1).setObj (instAddr 3 O.AX_BRAKE_OUT) 20 with field := { link := 2, chans := [(20, { cmd := true })] } })
   let f := s.main.fc ch
   s.main.isOut ch = true ∧ s.main.field.link = 2 ∧ s.main.brakeAxis ch = some 3 ∧ f.cmd = true) ∧
  (let ch : Fin 32 := 20
   let s := run (fun m => { (m.setObj (ioAddr 20 O.IO_DIR) 1).setObj (instAddr 3 O.AX_BRAKE_OUT) 20|>.setObj (ioAddr 20 O.IO_OL_EN) 1 with field := { link := 2, chans := [(20, { cmd := true })] } })
   let f := s.main.fc ch
   s.main.isOut ch = true ∧ s.main.field.link = 2 ∧ s.main.brakeAxis ch = some 3 ∧ f.cmd = true ∧ f.short = false ∧ f.hot = false ∧ s.main.obj (ioAddr ch O.IO_OL_EN) ≠ 0) ∧
  (let ch : Fin 32 := 20
   let s := run (fun m => { m with field := { link := 2, chans := [(20, { demag := true })] } })
   let f := s.main.fc ch
   f.demag = true) ∧
  (let mv : Nat := 0
   mv ≤ 17000) ∧
  (let mv : Nat := 17501
   17500 < mv ∧ mv < 65536) := by
  decide +kernel

/-- The hypotheses of each clause of `SafetyConfigurationIsRead` hold together somewhere. -/
theorem test_meets_SafetyConfigurationIsRead :
  (let s : State := { run id with safety := { held := true } }
   let d := s.safety
   d.held = true) ∧
  (let s : State := { run id with safety := { cfg := { invalid := 1 } } }
   let d := s.safety
   d.held = false ∧ d.testing = true ∧ d.fault = .none) ∧
  (let s : State := { run id with safety := { cfg := { sw := 1 } } }
   let d := s.safety
   d.held = false) := by
  decide +kernel

/-- The hypotheses of each clause of `DemandsStopTheirZone` hold together somewhere. -/
theorem test_meets_DemandsStopTheirZone :
  (let s : State := { run id with safety := { cfg := { sw := 0 }, testing := false, zone0 := { st := .run, closed := true, signal := false }, zone1 := { st := .run, closed := true, signal := false }, si0 := { a := false, b := false }, si1 := { a := false, b := false }, si2 := { a := false, b := false }, si3 := { a := false, b := false }, chain := { a := false, b := false } } }
   s.safety.held = false ∧ s.safety.sw 11 = false ∧ s.safety.sw 4 = false ∧ s.safety.zone0.st = .run ∧ s.safety.zone1 = s.safety.zone0 ∧
     (s.safety.inp .chain).a = false ∧ (999 : Nat) < 1000) ∧
  (let i : SafeIn := .si 2
   let s : State := { run id with safety := { cfg := { sw := 20 }, testing := false, zone0 := { st := .run, closed := true, signal := false }, zone1 := { st := .run, closed := true, signal := false }, si0 := { a := false, b := false }, si1 := { a := false, b := false }, si2 := { a := false, b := false }, si3 := { a := false, b := false }, chain := { a := false, b := false } } }
   s.safety.held = false ∧ s.safety.sw 11 = false ∧ s.safety.sw 4 = true ∧ i = .si 2 ∧ s.safety.sw 2 = true ∧ s.safety.zoneDemand 0 = false ∧ s.safety.zone1.st = .run ∧ (s.safety.inp i).a = false) ∧
  (let i : SafeIn := .chain
   let s : State := { run id with safety := { testing := false, chain := { a := true, b := false, latched := true } } }
   s.safety.held = false ∧ s.safety.monitored i = true ∧ (s.safety.inp i).a ≠ (s.safety.inp i).b ∧
     (s.safety.inp i).chgT + s.safety.discMs * 1000 ≤ 10000 ∧ 9999 < (s.safety.inp i).chgT + s.safety.discMs * 1000 ∧ s.safety.clock ≤ 9999) ∧
  (let z : Fin 2 := 0
   let s : State := { run id with safety := { cfg := { sw := 272 }, testing := false, zone0 := { st := .ss1, closed := true }, zone1 := { st := .ss1, closed := true } } }
   s.safety.held = false ∧ (s.safety.zone z).st = .ss1 ∧ (s.safety.zone z).ss1T + s.safety.ss1Ms * 1000 ≤ 100000 ∧
     99999 < (s.safety.zone z).ss1T + s.safety.ss1Ms * 1000 ∧ s.safety.clock ≤ 99999) := by
  decide +kernel

/-- The hypotheses of each clause of `RestartsFaultsAndStatus` hold together somewhere. -/
theorem test_meets_RestartsFaultsAndStatus :
  (let z : Fin 2 := 0
   let s : State := { run id with safety := { cfg := { sw := 16 }, testing := false, zone0 := { st := .sto }, zone1 := { st := .sto }, si0 := { a := false, b := false }, si1 := { a := false, b := false }, si2 := { a := false, b := false }, si3 := { a := false, b := false }, chain := { a := false, b := false } } }
   s.safety.held = false ∧ s.safety.sw 11 = false ∧ s.safety.zoneDemand z = false ∧ s.safety.fault = .none ∧ (s.safety.zone z).st = .sto ∧
     s.safety.clock ≤ 99999 ∧ 99999 < (s.safety.zone z).freeT + 100000 ∧ (s.safety.zone z).freeT + 100000 ≤ 100000) ∧
  (let z : Fin 2 := 0
   let s : State := { run id with safety := { cfg := { sw := 16 }, testing := false, zone0 := { st := .run, closed := true, releasing := true }, zone1 := { st := .run, closed := true, releasing := true } } }
   s.safety.held = false ∧ (s.safety.zone z).releasing = true ∧ (s.safety.zone z).gtT + 20000 ≤ 20000) ∧
  (let f : UnitFault := .chainOut
   let s : State := { run id with safety := { testing := false, zone0 := { st := .sto, closed := true, signal := false }, zone1 := { st := .sto, closed := true, signal := false }, fault := .none, si0 := { a := false, b := false }, si1 := { a := false, b := false }, si2 := { a := false, b := false }, si3 := { a := false, b := false }, chain := { a := false, b := false } } }
   s.safety.held = false ∧ (s.safety.chainOut = false ∨ False) ∧ (s.safety.gtClosed 3 = true ∨ f ≠ .gauntlet)) ∧
  (let f : UnitFault := .gauntlet
   let s : State := { run id with safety := { testing := false, zone0 := { st := .run, closed := true, signal := false }, zone1 := { st := .run, closed := true, signal := false }, fault := .none, si0 := { a := false, b := false }, si1 := { a := false, b := false }, si2 := { a := false, b := false }, si3 := { a := false, b := false }, chain := { a := false, b := false } } }
   s.safety.held = false ∧ (s.safety.chainOut = false ∨ True) ∧ (s.safety.gtClosed 3 = true ∨ f ≠ .gauntlet)) ∧
  (let f : UnitFault := .gauntlet
   let s : State := { run id with safety := { testing := false, zone0 := { st := .run, closed := true, signal := false }, zone1 := { st := .run, closed := true, signal := false }, fault := .none, si0 := { a := false, b := false }, si1 := { a := false, b := false }, si2 := { a := false, b := false }, si3 := { a := false, b := false }, chain := { a := false, b := false } } }
   s.safety.held = false ∧ (s.safety.chainOut = false ∨ True) ∧ (s.safety.gtClosed 3 = true ∨ f ≠ .gauntlet)) ∧
  (let f : UnitFault := .gauntlet
   let s : State := { run id with safety := { testing := false, zone0 := { st := .run, closed := true, signal := false }, zone1 := { st := .run, closed := true, signal := false }, fault := .none, si0 := { a := false, b := false }, si1 := { a := false, b := false }, si2 := { a := false, b := false }, si3 := { a := false, b := false }, chain := { a := false, b := false } } }
   s.safety.held = false ∧ (s.safety.chainOut = false ∨ True) ∧ (s.safety.gtClosed 3 = true ∨ f ≠ .gauntlet)) ∧
  (let f : UnitFault := .internal
   let s : State := { run id with safety := { testing := false, zone0 := { st := .run, closed := true, signal := false }, zone1 := { st := .run, closed := true, signal := false }, fault := .none, si0 := { a := false, b := false }, si1 := { a := false, b := false }, si2 := { a := false, b := false }, si3 := { a := false, b := false }, chain := { a := false, b := false } } }
   s.safety.held = false ∧ (s.safety.chainOut = false ∨ True) ∧ (s.safety.gtClosed 3 = true ∨ f ≠ .gauntlet)) ∧
  (let f : UnitFault := .chainOut
   let s : State := { run id with safety := { testing := false, zone0 := { st := .sto, closed := true, signal := false }, zone1 := { st := .sto, closed := true, signal := false }, fault := .none, si0 := { a := false, b := false }, si1 := { a := false, b := false }, si2 := { a := false, b := false }, si3 := { a := false, b := false }, chain := { a := false, b := false } } }
   s.safety.held = false ∧ (s.safety.chainOut = false ∨ True) ∧ (s.safety.gtClosed 3 = true ∨ f ≠ .gauntlet)) ∧
  (let s : State := { run id with safety := { testing := false, zone0 := { st := .run, closed := true, signal := false }, zone1 := { st := .sto } } }
   s.safety.held = false ∧ s.main.sfT + 5 * unitsPerMs ≤ s.main.now ∧
     (let r : State := { s with main := { s.main with sfT := 39000000 } }; r.main.now < r.main.sfT + 5 * unitsPerMs)) := by
  decide +kernel

/-- The hypotheses of each clause of `ReachesHoldAndRelease` hold together somewhere. -/
theorem test_meets_ReachesHoldAndRelease :
  (let src : ResetSource := .por
   let s := run (fun m => { m with sup := { m.sup with  otpDebug := true, tryA := 3, soft := some 5 } })
   s.main.resetReady src = true) ∧
  (let src : ResetSource := .softFull
   let s := run (fun m => { m with sup := { m.sup with  otpDebug := true, tryA := 3, soft := some 5 } })
   s.main.resetReady src = true) ∧
  (let src : ResetSource := .debug
   let s := run (fun m => { m with sup := { m.sup with  otpDebug := true, tryA := 3, soft := some 5 } })
   s.main.resetReady src = true) ∧
  (let s := run (fun m => { m with sup := { m.sup with coreHeld := true, moduleHeld := true, asserted := [.watchdog] } })
   s.main.sup.moduleHeld = true ∧ s.main.sup.asserted.any moduleSource = false) ∧
  (let s := { State.reset with main := { State.reset.main with sup := { State.reset.main.sup with coreHeld := true, episode := [(.watchdog, 0), (.resetPin, 3), (.por, 3)], episodes := 7 } } }
   s.main.sup.coreHeld = true ∧ s.main.sup.moduleHeld = false ∧ s.main.sup.asserted = [] ∧ s.main.sup.episode ≠ []) := by
  decide +kernel

/-- The hypotheses of each clause of `BootSteps` hold together somewhere. -/
theorem test_meets_BootSteps :
  (let s : State := { State.reset with main := { State.reset.main with sup := { State.reset.main.sup with boot := .trims  } } }
   s.main.bootAt .trims = true) ∧
  (let s : State := { State.reset with main := { State.reset.main with sup := { State.reset.main.sup with boot := .firmware  } } }
   s.main.bootAt .firmware = true ∧ s.main.sup.order = []) ∧
  (let b : Bank := .bankA
   let s : State := { State.reset with main := { State.reset.main with sup := { State.reset.main.sup with boot := .config , fwBank := some .bankA } } }
   s.main.bootAt .config = true ∧ s.main.sup.fwBank = some b) ∧
  (let s : State := { State.reset with main := { State.reset.main with sup := { State.reset.main.sup with boot := .timebase  } } }
   s.main.bootAt .timebase = true) ∧
  (let s : State := { State.reset with main := { State.reset.main with sup := { State.reset.main.sup with boot := .apply  } } }
   s.main.bootAt .apply = true) := by
  decide +kernel

/-- The hypotheses of each clause of `MittensMove` hold together somewhere. -/
theorem test_meets_MittensMove :
  (let u : Fin 8 := 2
   let s := run (fun m => { m.modAq 2 (fun x => { x with st := 3 }) |>.modOp (opAQ 2) (fun _ => { kind := 6, busy := true }) with sup := { m.sup with mittens := [(0x302, 1)] } })
   s.main.mittenDue (0x300 + u) 1 = true) ∧
  (let u : Fin 8 := 2
   let s := run (fun m => { m with ee := [(2, { acc := 5 })], sup := { m.sup with mittens := [(0x802, 1)] } })
   s.main.mittenDue (0x800 + u) 1 = true) ∧
  (let a : Ax := 3
   let s := run (fun m => { (m.modC 3 (fun c => { c with chains := 2, homed := true })).modLn 3 (fun l => { l with hold := true, period := 8000 }) with sup := { m.sup with mittens := [(0x103, 1)] } })
   s.main.mittenDue (0x100 + a) 1 = true ∧ (s.main.lop a).busy = false ∧ (s.main.i a).core.chains ≠ 0) ∧
  (let e : Fin 1024 := 5
   let u : Fin 32 := 2
   let s := run (fun m => { (m.setObj (evAddr 2 O.EV_LT_MODE) 1) with
     ev := { m.ev with entries := [(5, { st := 3, words := [0, 0, 0, 0, 0, 0, 20, 7] })], pulses := [(20, (5, 50000000))], moves := [7]
                       latches := [(2, { armed := some 3, waiting := [{ t := 5, level := true }] })] }
     sup := { m.sup with mittens := [(0x1000, 1)] } })
   s.main.mittenDue 0x1000 1 = true ∧ (s.main.act e).live = true ∧ s.main.obj (evAddr u O.EV_LT_MODE) = 1) ∧
  (let s := run (fun m => { m with host := { m.host with busy := true, seq := 4 }, sup := { m.sup with mittens := [(0x2000, 1)] } })
   s.main.mittenDue 0x2000 1 = true) ∧
  (let n : Fin 2 := 1
   let s := run (fun m => { m with ps := [(1, { busy := true, tx := [1, 2], key := some { sess := 0, ticket := 3 } })], sup := { m.sup with mittens := [(0x2200, 1)] } })
   s.main.mittenDue (0x2100 + 0x100 * n) 1 = true) ∧
  (let s := run (fun m => { m with field := { m.field with link := 2 }, sup := { m.sup with mittens := [(0x3000, 1)] } })
   s.main.mittenDue 0x3000 1 = true) ∧
  (let code := 0x1000
   let s := run (fun m => { m with sup := { m.sup with mittens := [(0x302, 1), (0x1000, 1)], mittenT := [(0x1000, 40000000)] } })
   mget 0 s.main.sup.mittens code = 1 ∧ mget 0 s.main.sup.mittenT code ≤ s.main.now) ∧
  (let code := 0x1000
   let s := run (fun m => { m with sup := { m.sup with mittens := [(0x302, 1), (0x1000, 2)], mittenT := [(0x1000, 39968000)] } })
   mget 0 s.main.sup.mittens code = 2 ∧ mget 0 s.main.sup.mittenT code ≤ s.main.now) ∧
  (let code := 0x1000
   let s := run (fun m => { m with sup := { m.sup with mittens := [(0x302, 1), (0x1000, 3)] } })
   mget 0 s.main.sup.mittens code = 3 ∧ mget 0 s.main.sup.mittenT code ≤ s.main.now) ∧
  (let code := 0x1000
   let s := run (fun m => { m with sup := { m.sup with mittens := [(0x1000, 1)], mittenT := [(0x1000, 40040000)] } })
   s.main.now < mget 0 s.main.sup.mittenT code) := by
  decide +kernel

end Sys2Proof.Tests
end

section
/-! Lapse of a session (R84, R85, R138): what the end of a session does to the owners, the windows and the sessions, and
from it the statement about SESSION_LAPSE. -/

namespace Sys2Proof.Machine

/-! ### Sparse data: many keys erased, every value changed -/

/-- Keys erased one after another, each under a test: the value read is the default where the test held for a key of the
list. -/
theorem mget_foldl_merase {α : Type} (d : α) (p : Nat → Prop) [DecidablePred p] (ks : List Nat) (l : Map α) (j : Nat) :
    mget d (ks.foldl (fun o k => if p k then merase o k else o) l) j = if j ∈ ks ∧ p j then d else mget d l j := by
  induction ks generalizing l with
  | nil => simp
  | cons k ks ih =>
    rw [List.foldl_cons, ih]
    by_cases hp : p k
    · rw [if_pos hp, mget_merase]
      by_cases hj : j = k
      · subst hj; simp [hp]
      · simp [hj]
    · rw [if_neg hp]
      have hk : p j → j ≠ k := fun hpj e => hp (e ▸ hpj)
      by_cases hpj : p j
      · simp [hpj, hk hpj]
      · simp [hpj]

/-- A change of every listed value, read with the changed default. -/
theorem mget_map {α : Type} (d : α) (f : α → α) (l : Map α) (j : Nat) :
    mget (f d) (l.map (fun q => (q.1, f q.2))) j = f (mget d l j) := by
  induction l with
  | nil => rfl
  | cons q r ih =>
    rw [List.map_cons, mget, mget, ih]
    exact (apply_ite f _ _ _).symm

/-! ### Owners and windows -/

theorem Main.ownerOf_eq_some_iff (m : Main) (d n : Nat) : m.ownerOf d = some n ↔ mget 0 m.owner d = n + 1 := by
  unfold Main.ownerOf
  split <;> simp_all

/-- The owner of a domain depends only on the entry of the domain. -/
theorem Main.ownerOf_congr {m m' : Main} {d : Nat} (h : mget 0 m'.owner d = mget 0 m.owner d) :
    m'.ownerOf d = m.ownerOf d := by
  unfold Main.ownerOf
  rw [h]

theorem Main.ownerOf_eq_none {m : Main} {d : Nat} (h : mget 0 m.owner d = 0) : m.ownerOf d = none := by
  unfold Main.ownerOf
  rw [h]

/-- R84: of a window from which a session has withdrawn, every claimant of that session has withdrawn. -/
theorem Window.withdrawn_of_mem_withdraw {w : Window} {n : Nat} {c : Claimant} (hc : c ∈ (w.withdraw n).claimants)
    (hn : c.sess = n) : c.withdrawn = true := by
  obtain ⟨c₀, -, rfl⟩ := List.mem_map.1 hc
  by_cases h : c₀.sess = n
  · rw [if_pos h]
  · rw [if_neg h] at hn
    exact absurd hn h

/-! ### The end of a session -/

/-- The end of a session writes owners, windows and sessions only. -/
theorem Main.endSession_frame (m : Main) (n : Nat) :
    ∃ o w e, m.endSession n = { m with owner := o, windows := w, sess := e } := ⟨_, _, _, rfl⟩

@[simp] theorem Main.obj_endSession (m : Main) (n a : Nat) : (m.endSession n).obj a = m.obj a := rfl

theorem Main.se_endSession (m : Main) (n k : Nat) :
    (m.endSession n).se k = if k = n then { m.se n with isOpen := false, service := false, places := [] } else m.se k :=
  Main.se_modSe _ n k _

/-- R84: the session owns no domain, and every other owner stays. -/
theorem Main.ownerOf_endSession (m : Main) (n : Nat) {d : Nat} (hd : d < 155) :
    (m.endSession n).ownerOf d = if m.ownerOf d = some n then none else m.ownerOf d := by
  have hget : mget 0 (m.endSession n).owner d =
      if d ∈ List.range 155 ∧ mget 0 m.owner d = n + 1 then 0 else mget 0 m.owner d :=
    mget_foldl_merase 0 (fun k => mget 0 m.owner k = n + 1) (List.range 155) m.owner d
  by_cases h : m.ownerOf d = some n
  · rw [if_pos h]
    refine Main.ownerOf_eq_none ?_
    rw [hget, if_pos ⟨List.mem_range.2 hd, (m.ownerOf_eq_some_iff d n).1 h⟩]
  · rw [if_neg h]
    refine Main.ownerOf_congr ?_
    rw [hget, if_neg (fun e => h ((m.ownerOf_eq_some_iff d n).2 e.2))]

/-- R84: the session has withdrawn from every window. -/
theorem Main.window_endSession (m : Main) (n d : Nat) :
    mget {} (m.endSession n).windows d = (mget {} m.windows d).withdraw n :=
  mget_map {} (fun w => w.withdraw n) m.windows d

/-! ### The lapse -/

/-- A counter's increment stays within its 36 bits. -/
theorem Main.obj_inc_same (m : Main) (a : Nat) : (m.inc a).obj a = (m.obj a + 1) % 2 ^ 36 := by
  have hlt : (m.obj a + 1) % 2 ^ 36 < 2 ^ 72 := by omega
  rw [Main.inc, Main.obj_setObj_same, Nat.mod_eq_of_lt hlt]

@[simp] theorem State.leaseOver_start (s : State) (n : Nat) : s.start.leaseOver n = s.main.leaseOver n := by
  unfold Main.leaseOver
  rfl

/-- SESSION_LAPSE of a session whose lease has run out ends the session and counts the lapse (R85). -/
theorem execSessionLapse_of_leaseOver {n : Sess} {s : State} (h : s.main.leaseOver n = true) :
    exec (.sessionLapse n) s =
      .next { s with main := (s.start.endSession n).inc (hsAddr n O.HS_LAPSE_COUNT) } := by
  have hexec : exec (.sessionLapse n) s = execSessionLapse n s := rfl
  have hstart : ({ s.main with out := {} } : Main) = s.start := rfl
  rw [hexec, execSessionLapse, State.onMain_eq, hstart, State.leaseOver_start, if_pos h]

/-- Ending a session and counting its lapse writes owners, windows, sessions and objects only. -/
theorem Main.inc_endSession_frame (m : Main) (n a : Nat) :
    ∃ o w e b, (m.endSession n).inc a = { m with owner := o, windows := w, sess := e, objs := b } := by
  obtain ⟨o, w, e, he⟩ := m.endSession_frame n
  obtain ⟨b, hb⟩ := (m.endSession n).setObj_frame a (((m.endSession n).obj a + 1) % 2 ^ 36)
  exact ⟨o, w, e, b, by rw [Main.inc, hb, he]⟩

/-- R85: the lease has run out when it is not 0, the session is open, and HS_LEASE milliseconds have passed since its last
record; at exactly that instant it has (log 58). -/
theorem Main.leaseOver_iff (m : Main) (n : Nat) :
    m.leaseOver n = true ↔ m.obj (hsAddr n O.HS_LEASE) ≠ 0 ∧ (m.se n).isOpen = true ∧
      (m.se n).last + m.obj (hsAddr n O.HS_LEASE) * unitsPerMs ≤ m.now := by
  simp [Main.leaseOver, and_assoc]

/-- Settles O13: the lapse is the end of the session and one increment, whose effects are read off one by one. -/
theorem lapseClosesAndReleases : Obligations.LapseClosesAndReleases := by
  unfold Obligations.LapseClosesAndReleases
  refine ⟨fun n s h => ⟨_, execSessionLapse_of_leaseOver h, ?frame, ?closed, ?places, ?owners, ?withdrawn, ?others,
    ?count, ?objects⟩, fun n s => s.main.leaseOver_iff n, by decide, by decide⟩
  case frame =>
    obtain ⟨o, w, e, b, hf⟩ := s.start.inc_endSession_frame n (hsAddr n O.HS_LAPSE_COUNT)
    rw [hf]
    rfl
  case closed => exact congrArg Session.isOpen ((s.start.se_endSession n n).trans (if_pos rfl))
  case places => exact congrArg Session.places ((s.start.se_endSession n n).trans (if_pos rfl))
  case owners => exact fun d => s.start.ownerOf_endSession n d.isLt
  case withdrawn =>
    intro d c hc hn
    have hw : c ∈ ((mget {} s.main.windows d).withdraw n).claimants := s.start.window_endSession n d ▸ hc
    exact Window.withdrawn_of_mem_withdraw hw hn
  case others =>
    intro k hk
    have hne : k.val ≠ n.val := fun e => hk (Fin.ext e)
    exact (s.start.se_endSession n k).trans (if_neg hne)
  case count =>
    rw [Main.obj_inc_same, Main.obj_endSession]
    rfl
  case objects =>
    intro a ha
    have hne : a ≠ hsAddr n O.HS_LAPSE_COUNT := by simpa using ha
    exact (Main.objs_keep _ _ _ a hne).trans (s.start.obj_endSession n a)

end Sys2Proof.Machine
end

section
/-! FETCH on the line and the service port (R123, R137): a heard record is answered from the answer places of its session,
which it leaves as they are. -/

namespace Sys2Proof.Machine

/-! ### Records that the node hears -/

/-- What the command before it sent out does not decide whether a record is heard. -/
@[simp] theorem State.hears_start (s : State) (n : Nat) (w : Bool) : s.start.hears n w = s.main.hears n w := rfl

/-- A further frame does not decide whether its records are heard. -/
@[simp] theorem Main.hears_frameIn (m : Main) (n : Nat) (w : Bool) : m.frameIn.hears n w = m.hears n w := rfl

/-- R123: a record on the line or SV that the node hears notes its session as heard and shows its answer. -/
theorem Main.request_of_hears {m : Main} {q : Req} {w : Bool} (f : Main → Main × Ans) (hn : q.sess.val ≠ 9)
    (hh : m.hears q.sess w = true) : m.request q w f = Main.shown (f (m.frameIn.touch q.sess)) := by
  have hf : (!m.frameIn.hears q.sess w) = false := by rw [Main.hears_frameIn, hh]; rfl
  rw [Main.request, hf, if_neg Bool.false_ne_true, if_neg hn]

/-- A record that arrives notes the time in its session and changes no other. -/
theorem Main.se_touch (m : Main) (n k : Nat) :
    (m.touch n).se k = if k = n then { m.se n with last := m.now } else m.se k :=
  m.se_modSe n k _

/-- A record that arrives leaves the answer places of every session. -/
@[simp] theorem Main.places_touch (m : Main) (n k : Nat) : ((m.touch n).se k).places = (m.se k).places := by
  rw [Main.se_touch]
  split
  case isTrue h => rw [h]
  case isFalse => rfl

/-- A record that arrives writes the sessions only. -/
theorem Main.touch_frame (m : Main) (n : Nat) : ∃ e, m.touch n = { m with sess := e } := ⟨_, rfl⟩

@[simp] theorem Main.shown_status (r : Main × Ans) : (Main.shown r).out.status = some r.2.status := rfl
@[simp] theorem Main.shown_data (r : Main × Ans) : (Main.shown r).out.data = r.2.data := rfl
@[simp] theorem Main.shown_rlen (r : Main × Ans) : (Main.shown r).out.rlen = r.2.rlen := rfl
@[simp] theorem Main.shown_se (r : Main × Ans) (k : Nat) : (Main.shown r).se k = r.1.se k := rfl

/-- Showing an answer writes the output only. -/
theorem Main.shown_frame (r : Main × Ans) : ∃ u, Main.shown r = { r.1 with out := u } := ⟨_, rfl⟩

/-! ### The answer to a ticket -/

/-- The answer place of a session that holds a ticket (R135). -/
def Main.placeOf (m : Main) (sess ticket : Nat) : Option Answer := (m.se sess).places.find? (fun p => p.ticket == ticket)

theorem Main.placeOf_touch (m : Main) (n k ticket : Nat) : (m.touch n).placeOf k ticket = m.placeOf k ticket := by
  rw [Main.placeOf, Main.placeOf, Main.places_touch]

section
variable {m : Main} {sess addr len : Nat} {p : Answer}

/-- R137: a ticket that no place holds. -/
theorem Main.fetchFrame_of_none (h : m.placeOf sess addr = none) :
    m.fetchFrame sess addr len = (m, { status := aNoTicket }) := by
  rw [Main.placeOf] at h
  rw [Main.fetchFrame, h]

/-- R137: a ticket whose answer is ready. -/
theorem Main.fetchFrame_of_ready (h : m.placeOf sess addr = some p) (hp : p.stage = 2) :
    m.fetchFrame sess addr len = (m, { status := p.status, data := p.data.take len, rlen := min p.len len }) := by
  rw [Main.placeOf] at h
  simp only [Main.fetchFrame, h, if_pos hp]

/-- R137: a ticket whose answer is not ready. -/
theorem Main.fetchFrame_of_waiting (h : m.placeOf sess addr = some p) (hp : p.stage ≠ 2) :
    m.fetchFrame sess addr len = (m, { status := aPending, rlen := p.ticket }) := by
  rw [Main.placeOf] at h
  simp only [Main.fetchFrame, h, if_neg hp]

end

/-- R137: FETCH changes nothing, the answer places included. -/
@[simp] theorem Main.fetchFrame_fst (m : Main) (sess addr len : Nat) : (m.fetchFrame sess addr len).1 = m := by
  cases h : m.placeOf sess addr with
  | none => rw [Main.fetchFrame_of_none h]
  | some p =>
    by_cases hp : p.stage = 2
    · rw [Main.fetchFrame_of_ready h hp]
    · rw [Main.fetchFrame_of_waiting h hp]

/-! ### The row FETCH -/

/-- A FETCH that is heard on the line or SV shows the answer to its ticket. -/
theorem exec_fetch_of_hears {q : Req} {s : State} (hn : q.sess.val ≠ 9) (hh : s.main.hears q.sess false = true) :
    exec (.fetch q) s = .next
      { s with main := Main.shown ((s.start.frameIn.touch q.sess).fetchFrame q.sess q.addr.toNat q.len) } := by
  have hexec : exec (.fetch q) s = execFetch q s := rfl
  have hstart : ({ s.main with out := {} } : Main) = s.start := rfl
  rw [hexec, execFetch, State.onMain_eq, hstart, if_neg hn, Main.request_of_hears _ hn (s.hears_start _ _ ▸ hh)]

/-- Settles O39: the answer is that of the place which holds the ticket, a place that the record's arrival leaves as it is. It
is taken by the whole of ADDR, so that an ADDR which is no ticket's number is answered NO_TICKET (log 49). -/
theorem fetchAnswersByTheTicket : Obligations.FetchAnswersByTheTicket := by
  unfold Obligations.FetchAnswersByTheTicket
  intro q s hn hh
  have hplace : (s.start.frameIn.touch q.sess).placeOf q.sess q.addr.toNat = s.main.placeOf q.sess q.addr.toNat :=
    Main.placeOf_touch _ _ _ _
  refine ⟨_, exec_fetch_of_hears hn hh, ?frame, ?heard, ?others, ?answer⟩
  case frame =>
    obtain ⟨u, hu⟩ := Main.shown_frame ((s.start.frameIn.touch q.sess).fetchFrame q.sess q.addr.toNat q.len)
    obtain ⟨e, he⟩ := s.start.frameIn.touch_frame q.sess
    rw [hu, Main.fetchFrame_fst, he]
    rfl
  case heard =>
    rw [Main.shown_se, Main.fetchFrame_fst, Main.se_touch, if_pos rfl]
    rfl
  case others =>
    intro k hk
    rw [Main.shown_se, Main.fetchFrame_fst, Main.se_touch, if_neg hk]
    rfl
  case answer =>
    split
    case h_1 hnone =>
      rw [Main.fetchFrame_of_none (hplace.trans hnone), Main.shown_status]
    case h_2 p hsome =>
      by_cases hp : p.stage = 2
      · rw [if_pos hp, Main.fetchFrame_of_ready (hplace.trans hsome) hp]
        exact ⟨Main.shown_status _, Main.shown_data _, Main.shown_rlen _⟩
      · rw [if_neg hp, Main.fetchFrame_of_waiting (hplace.trans hsome) hp, Main.shown_status]

end Sys2Proof.Machine
end

section
/-! The order of time words (R165): the difference of two instants as the words show it, which is their difference within the
horizon of 2^35 units and 2^36 units less than it beyond. -/

namespace Sys2Proof.Machine

/-- R165: the difference of two time words, read as an S36, is 0 or positive. -/
theorem atOrAfter_iff (a b : Word) : atOrAfter a b = true ↔ 0 ≤ (a - b).toInt :=
  decide_eq_true_iff

/-! ### The signed difference of two instants -/

theorem sdiff_eq_bmod (a b : Int) : sdiff a b = (a - b).bmod (2 ^ 36) := by
  rw [sdiff, BitVec.toInt_ofInt]

/-- Within the horizon the wrap of the time word is not seen. -/
theorem sdiff_of_within_horizon {a b : Int} (hlo : b - a ≤ 2 ^ 35) (hhi : a - b < 2 ^ 35) : sdiff a b = a - b := by
  rw [sdiff_eq_bmod]
  exact Int.bmod_eq_of_le (by omega) (by omega)

/-- Of instants 2^35 to 2^36 units apart the difference has wrapped once. -/
theorem sdiff_of_beyond_horizon {a b : Int} (hlo : 2 ^ 35 ≤ a - b) (hhi : a - b < 2 ^ 36) :
    sdiff a b = a - b - 2 ^ 36 := by
  calc sdiff a b = (a - b).bmod (2 ^ 36) := sdiff_eq_bmod a b
    _ = (a - b - 2 ^ 36).bmod (2 ^ 36) := (Int.sub_bmod_right (a - b) (2 ^ 36)).symm
    _ = a - b - 2 ^ 36 := Int.bmod_eq_of_le (by omega) (by omega)

/-! ### The words of two instants -/

/-- The words of two instants differ by the signed difference of the instants. -/
theorem toInt_wordN_sub (x y : Nat) : (wordN x - wordN y).toInt = sdiff x y := by
  rw [sdiff_eq_bmod, BitVec.toInt_sub, wordN, wordN, BitVec.toInt_ofNat', BitVec.toInt_ofNat', Int.bmod_sub_bmod,
    Int.sub_bmod_bmod]

theorem atOrAfter_wordN_iff (x y : Nat) : atOrAfter (wordN x) (wordN y) = true ↔ 0 ≤ sdiff x y := by
  rw [atOrAfter_iff, toInt_wordN_sub]

/-- Settles O3: the words of two instants compare by the sign of `sdiff`, which is that of the instants' own difference within
the horizon, and negative beyond it. -/
theorem timeWordsOrderInstants : Obligations.TimeWordsOrderInstants := by
  unfold Obligations.TimeWordsOrderInstants
  refine ⟨atOrAfter_iff, ?within, ?beyond⟩
  case within =>
    intro x y hxy hyx
    rw [atOrAfter_wordN_iff, sdiff_of_within_horizon hyx.le hxy]
    omega
  case beyond =>
    intro y d hlo hhi
    have hwrapped : sdiff ↑(y + d) y = (↑(y + d) - y) - 2 ^ 36 := sdiff_of_beyond_horizon (by omega) (by omega)
    rw [← Bool.not_eq_true, atOrAfter_wordN_iff, hwrapped]
    omega

end Sys2Proof.Machine
end

section
/-! Words as one bit string (R113): a bit string is cut into bytes and filled with zero bits at its end, and the words are
the first bits of what the bytes carry. -/

namespace Sys2Proof.Machine

/-! ### Bits and numbers -/

@[simp] theorem length_bitsOf {w : Nat} (v : BitVec w) : (bitsOf v).length = w := by simp [bitsOf]

theorem natOfBits_concat (l : List Bool) (b : Bool) : natOfBits (l ++ [b]) = 2 * natOfBits l + b2n b := by
  simp [natOfBits]

theorem natOfBits_append_zeros (l : List Bool) (k : Nat) :
    natOfBits (l ++ List.replicate k false) = natOfBits l * 2 ^ k := by
  induction k with
  | zero => simp
  | succ k ih =>
    rw [List.replicate_succ', ← List.append_assoc, natOfBits_concat, ih, b2n, if_neg Bool.false_ne_true]
    ring

theorem testBit_two_mul_add_b2n_succ (n i : Nat) (b : Bool) : (2 * n + b2n b).testBit (i + 1) = n.testBit i := by
  rw [Nat.testBit_succ]
  congr 1
  cases b <;> (simp [b2n]; try omega)

theorem testBit_two_mul_add_b2n_zero (n : Nat) (b : Bool) : (2 * n + b2n b).testBit 0 = b := by
  cases b <;> simp [b2n]

/-- The bits of the number that a bit string is, read back in as many places, are the bit string. -/
theorem bitsOf_natOfBits {w : Nat} (l : List Bool) (h : l.length = w) : bitsOf (BitVec.ofNat w (natOfBits l)) = l := by
  subst h
  refine List.ext_getElem (length_bitsOf _) fun i hi hl => ?_
  simp only [bitsOf, List.getElem_map, List.getElem_range, BitVec.getLsbD_ofNat]
  have hlast : l.length - 1 - i < l.length := by omega
  simp only [hlast, decide_true, Bool.true_and]
  clear hlast hi
  induction l using List.reverseRecOn with
  | nil => simp at hl
  | append_singleton l b ih =>
    rw [natOfBits_concat]
    rcases Nat.lt_or_ge i l.length with hil | hil
    · have hplace : (l ++ [b]).length - 1 - i = l.length - 1 - i + 1 := by simp; omega
      rw [hplace, testBit_two_mul_add_b2n_succ, ih hil, List.getElem_append_left hil]
    · have hi : i = l.length := by simp at hl; omega
      subst hi
      rw [List.getElem_concat_length rfl, List.length_append, List.length_singleton, Nat.add_sub_cancel, Nat.sub_self,
        testBit_two_mul_add_b2n_zero]

theorem natOfBits_bitsOf {w : Nat} (v : BitVec w) : BitVec.ofNat w (natOfBits (bitsOf v)) = v := by
  have hbits : bitsOf (BitVec.ofNat w (natOfBits (bitsOf v))) = bitsOf v :=
    bitsOf_natOfBits _ (length_bitsOf v)
  refine BitVec.eq_of_getLsbD_eq fun i hi => ?_
  have hget := congrArg (fun l => l[w - 1 - i]?) hbits
  have hplace : w - 1 - (w - 1 - i) = i := by omega
  have hlt : w - 1 - i < w := by omega
  simpa [bitsOf, hplace, hlt] using hget

/-! ### A bit string in bytes -/

/-- Eight bits in front are the first byte. -/
theorem bytesOfBits_append_of_length_eight {a : List Bool} (r : List Bool) (h : a.length = 8) :
    bytesOfBits (a ++ r) = BitVec.ofNat 8 (natOfBits a) :: bytesOfBits r := by
  match a, h with
  | [_, _, _, _, _, _, _, _], _ => rfl

/-- Fewer than eight bits are filled with zero bits to one byte. -/
theorem bytesOfBits_of_length_lt_eight {l : List Bool} (h0 : l ≠ []) (h : l.length < 8) :
    bytesOfBits l = [BitVec.ofNat 8 (natOfBits (l ++ List.replicate (8 - l.length) false))] := by
  rw [natOfBits_append_zeros]
  unfold bytesOfBits
  split
  · simp at h; omega
  · exact absurd rfl h0
  · rfl

/-- R113: the bytes carry the bit string with zero bits behind it, in the fewest bytes that hold it. -/
theorem bytesOfBits_carries (l : List Bool) :
    (∃ k, (bytesOfBits l).flatMap bitsOf = l ++ List.replicate k false) ∧ (bytesOfBits l).length = (l.length + 7) / 8 := by
  induction hn : l.length using Nat.strong_induction_on generalizing l with
  | _ n ih =>
    subst hn
    rcases Nat.lt_or_ge l.length 8 with hlt | hge
    · by_cases h0 : l = []
      · subst h0; exact ⟨⟨0, rfl⟩, rfl⟩
      · have hfilled : (l ++ List.replicate (8 - l.length) false).length = 8 := by simp; omega
        have hpos : 0 < l.length := List.length_pos_iff.2 h0
        rw [bytesOfBits_of_length_lt_eight h0 hlt]
        refine ⟨⟨8 - l.length, ?_⟩, by rw [List.length_singleton]; omega⟩
        rw [List.flatMap_singleton, bitsOf_natOfBits _ hfilled]
    · have hfirst : (l.take 8).length = 8 := by simp; omega
      have hrest : (l.drop 8).length = l.length - 8 := by simp
      obtain ⟨⟨k, hk⟩, hlen⟩ := ih (l.drop 8).length (by omega) (l.drop 8) rfl
      have hbyte : bitsOf (BitVec.ofNat 8 (natOfBits (l.take 8))) = l.take 8 :=
        bitsOf_natOfBits _ hfirst
      rw [← List.take_append_drop 8 l, bytesOfBits_append_of_length_eight _ hfirst]
      refine ⟨⟨k, ?_⟩, ?_⟩
      · rw [List.flatMap_cons, hbyte, hk, List.append_assoc]
      · rw [List.length_cons, hlen, List.length_append]
        omega

/-! ### Words -/

theorem length_flatMap_bitsOf (l : List Word) : (l.flatMap bitsOf).length = 36 * l.length := by
  simp [List.length_flatMap, Nat.mul_comm]

/-- The words of a bit string that begins with the bits of words. -/
theorem wordsOfBitsN_flatMap_bitsOf (l : List Word) (r : List Bool) :
    wordsOfBitsN l.length (l.flatMap bitsOf ++ r) = l := by
  induction l with
  | nil => rfl
  | cons w l ih =>
    have hw : (bitsOf w).length = 36 := length_bitsOf w
    rw [List.length_cons, wordsOfBitsN, List.flatMap_cons, List.append_assoc, List.take_left' hw, List.drop_left' hw,
      natOfBits_bitsOf, ih]

theorem length_bytesOfWords (l : List Word) : (bytesOfWords l).length = (9 * l.length + 1) / 2 := by
  rw [bytesOfWords, (bytesOfBits_carries _).2, length_flatMap_bitsOf]
  omega

@[simp] theorem wordsOfBytes_bytesOfWords (l : List Word) : wordsOfBytes (bytesOfWords l) = l := by
  obtain ⟨k, hk⟩ := (bytesOfBits_carries (l.flatMap bitsOf)).1
  have hcount : 2 * (bytesOfWords l).length / 9 = l.length := by
    rw [length_bytesOfWords]
    omega
  rw [wordsOfBytes, hcount, bytesOfWords, hk, wordsOfBitsN_flatMap_bitsOf]

/-- Settles O4: the bytes carry the words' bits with zero bits behind them, fewer than a word holds. -/
theorem packedWordsComeBack : Obligations.PackedWordsComeBack := by
  unfold Obligations.PackedWordsComeBack
  exact fun l => ⟨wordsOfBytes_bytesOfWords l, length_bytesOfWords l⟩

end Sys2Proof.Machine
end

section
/-! The two dies (chapter 14, R483) and the promise of the safety die (R459, R467-R471): each command acts on one of the
dies, and every operation of the safety die keeps its promise. -/

namespace Sys2Proof.Machine

/-! ### On which die a command acts -/

/-- A command of chapter 14 writes the safety die and nothing else. -/
theorem exec_of_onSafetyDie {c : Instr} (h : onSafetyDie c = true) (s : State) :
    ∃ d, exec c s = .next { s with safety := d } := by
  cases c <;> cases h <;> exact ⟨_, rfl⟩

/-- Every other command writes the main die and nothing else. -/
theorem exec_of_not_onSafetyDie {c : Instr} (h : onSafetyDie c = false) (s : State) :
    ∃ m, exec c s = .next { s with main := m } := by
  cases c <;> cases h <;> exact ⟨_, rfl⟩

/-- Settles O5: by the die that the command acts on. -/
theorem diesAreSeparate : Obligations.DiesAreSeparate := by
  unfold Obligations.DiesAreSeparate
  intro c s t ht
  cases h : onSafetyDie c with
  | true =>
    obtain ⟨d, hd⟩ := exec_of_onSafetyDie h s
    cases hd.symm.trans ht
    exact ⟨rfl, fun _ => rfl, nofun⟩
  | false =>
    obtain ⟨m, hm⟩ := exec_of_not_onSafetyDie h s
    cases hm.symm.trans ht
    exact ⟨rfl, nofun, fun _ => rfl⟩

/-! ### The promise of a zone -/

/-- An open zone: its state is none of those with closed gauntlets, the signal acts, and no withdrawal runs. -/
theorem Zone.Inv.of_open {x : Zone} (hc : x.closed = false) (hs : x.signal = true) (hr : x.releasing = false)
    (h1 : x.st ≠ .run) (h2 : x.st ≠ .ss1) : x.Inv := by
  simp [Zone.Inv, *]

/-- A closed zone: its state is RUN or SS1. -/
theorem Zone.Inv.of_closed {x : Zone} (hc : x.closed = true) (hst : x.st = .run ∨ x.st = .ss1) : x.Inv := by
  simp [Zone.Inv, *]

theorem Zone.Inv.ite {p : Prop} [Decidable p] {x y : Zone} (hx : p → x.Inv) (hy : ¬p → y.Inv) :
    (if p then x else y).Inv := iteInduction hx hy

/-- Both choices in FAULT. -/
theorem Zone.ite_st_of_fault {p : Prop} [Decidable p] {x y : Zone} (hx : x.st = .fault) (hy : y.st = .fault) :
    (if p then x else y).st = .fault := by
  split <;> assumption

theorem Zone.Inv.default : ({} : Zone).Inv := .of_open rfl rfl rfl nofun nofun

theorem Zone.Inv.toSto (x : Zone) (t : Nat) : (x.toSto t).Inv := .of_open rfl rfl rfl nofun nofun

theorem Zone.Inv.toFault (x : Zone) (t : Nat) : (x.toFault t).Inv := .of_open rfl rfl rfl nofun nofun

theorem Zone.Inv.toRun (x : Zone) (t : Nat) : (x.toRun t).Inv := .of_closed rfl (.inl rfl)

/-- R467-R469: a demand keeps the promise: STO opens the gauntlets, SS1 leaves them closed. -/
theorem Zone.Inv.demand {x : Zone} (h : x.Inv) (ss1 : Bool) (t : Nat) : (x.demand ss1 t).Inv := by
  unfold Zone.demand
  split
  next hrun =>
    cases ss1 with
    | true => exact .of_closed (h.1.2 (.inl hrun)) (.inr rfl)
    | false => exact .toSto x t
  next => exact h

theorem Zone.Inv.restart {x : Zone} (h : x.Inv) (demanded : Bool) (t : Nat) : (x.restart demanded t).Inv := by
  unfold Zone.restart
  split
  · exact .toRun x t
  · exact h

/-- A zone in FAULT stays in FAULT at a demand. -/
theorem Zone.demand_st_of_fault {x : Zone} (h : x.st = .fault) (ss1 : Bool) (t : Nat) : (x.demand ss1 t).st = .fault := by
  simp [Zone.demand, h]

/-! ### The promise of the die -/

theorem SafetyDie.Inv.ite {p : Prop} [Decidable p] {d e : SafetyDie} (hd : p → d.Inv) (he : ¬p → e.Inv) :
    (if p then d else e).Inv := iteInduction hd he

/-- The promise speaks of the zones, the configuration and the unit fault only. -/
theorem SafetyDie.Inv.congr {d e : SafetyDie} (h : d.Inv) (h0 : e.zone0 = d.zone0) (h1 : e.zone1 = d.zone1)
    (hc : e.cfg = d.cfg) (hf : e.fault = d.fault) : e.Inv := by
  have hsw : e.sw 4 = d.sw 4 := by rw [SafetyDie.sw, hc]; rfl
  rw [SafetyDie.Inv, h0, h1, hf, hsw]
  exact h

/-- R459: in the single-zone wiring both zones are demanded alike. -/
theorem SafetyDie.zoneDemand_eq {d : SafetyDie} (h : d.sw 4 = false) : d.zoneDemand 0 = d.zoneDemand 1 := by
  simp [SafetyDie.zoneDemand, h]

/-- With no unit fault latched, zones that keep their own promise, alike in the single-zone wiring, keep that of the die. -/
theorem SafetyDie.Inv.of_no_fault {d : SafetyDie} (h0 : d.zone0.Inv) (h1 : d.zone1.Inv)
    (hsame : d.sw 4 = false → d.zone0 = d.zone1) (hf : d.fault = .none) : d.Inv :=
  ⟨h0, h1, hsame, fun h => absurd hf h⟩

/-- With a zone that is not in FAULT no unit fault is latched. -/
theorem SafetyDie.Inv.no_fault {d : SafetyDie} (h : d.Inv) {z : Fin 2} (hz : (d.zone z).st ≠ .fault) : d.fault = .none := by
  obtain ⟨-, -, -, hfault⟩ := h
  by_contra hf
  obtain ⟨h0, h1⟩ := hfault hf
  unfold SafetyDie.zone at hz
  split at hz
  · exact hz h0
  · exact hz h1

/-- R459: a change of a zone that keeps the zone's promise, on a die without a unit fault. -/
theorem SafetyDie.Inv.modZone {d : SafetyDie} (h : d.Inv) (hf : d.fault = .none) (z : Fin 2) {f : Zone → Zone}
    (hkeep : ∀ x : Zone, x.Inv → x.st = (d.zone z).st → x.releasing = (d.zone z).releasing → (f x).Inv) : (d.modZone z f).Inv := by
  obtain ⟨h0, h1, hsame, -⟩ := h
  have hz : z = 0 ∨ z = 1 := by omega
  unfold SafetyDie.modZone
  cases hsw : d.sw 4 with
  | true =>
    rcases hz with rfl | rfl
    · exact .of_no_fault (hkeep _ h0 rfl rfl) h1 (fun hsw' => absurd (hsw.symm.trans hsw') nofun) hf
    · exact .of_no_fault h0 (hkeep _ h1 rfl rfl) (fun hsw' => absurd (hsw.symm.trans hsw') nofun) hf
  | false =>
    have he : d.zone1 = d.zone0 := (hsame hsw).symm
    have hz0 : d.zone z = d.zone0 := by
      unfold SafetyDie.zone
      split
      · rfl
      · exact he
    have hi : (f d.zone0).Inv := hkeep _ h0 (hz0 ▸ rfl) (hz0 ▸ rfl)
    exact .of_no_fault hi (he ▸ hi) (fun _ => congrArg f he.symm) hf

/-- R470: a unit fault puts both zones in FAULT with their gauntlets open. -/
theorem SafetyDie.Inv.unitFault {d : SafetyDie} (h : d.Inv) (f : UnitFault) : (d.unitFault f).Inv :=
  ⟨.toFault _ _, .toFault _ _, fun hsw => congrArg (Zone.toFault · d.clock) (h.2.2.1 hsw), fun _ => ⟨rfl, rfl⟩⟩

/-- R467: what the demands of the inputs do to the zones. -/
theorem SafetyDie.Inv.act {d : SafetyDie} (h : d.Inv) : d.act.Inv := by
  obtain ⟨h0, h1, hsame, hfault⟩ := h
  refine ⟨?zone0, ?zone1, ?same, ?fault⟩
  case zone0 => exact .ite (fun _ => h0.demand _ _) (fun _ => h0)
  case zone1 => exact .ite (fun _ => h1.demand _ _) (fun _ => h1)
  case same =>
    intro hsw
    have hsw' : d.sw 4 = false := hsw
    simp only [SafetyDie.act, SafetyDie.zoneDemand_eq hsw', hsame hsw']
  case fault =>
    intro hf
    obtain ⟨hf0, hf1⟩ := hfault hf
    exact ⟨Zone.ite_st_of_fault (Zone.demand_st_of_fault hf0 _ _) hf0, Zone.ite_st_of_fault (Zone.demand_st_of_fault hf1 _ _) hf1⟩

/-- R471: a restart, which no die with a unit fault makes. -/
theorem SafetyDie.Inv.restart {d : SafetyDie} (h : d.Inv) : d.restart.Inv := by
  unfold SafetyDie.restart
  split
  next => exact h
  next hf =>
    obtain ⟨h0, h1, hsame, -⟩ := h
    refine .of_no_fault (h0.restart _ _) (h1.restart _ _) (fun hsw => ?_) (not_not.1 hf)
    have hsw' : d.sw 4 = false := hsw
    simp only [SafetyDie.zoneDemand_eq hsw', hsame hsw']

/-- R471: noting since when the zones are without a demand, by a die before with the same wiring. -/
theorem SafetyDie.Inv.free {d : SafetyDie} (h : d.Inv) (d0 : SafetyDie) (hc : d0.cfg = d.cfg) : (d.free d0).Inv := by
  obtain ⟨h0, h1, hsame, hfault⟩ := h
  refine ⟨?zone0, ?zone1, ?same, ?fault⟩
  case zone0 => exact .ite (fun _ => h0) (fun _ => h0)
  case zone1 => exact .ite (fun _ => h1) (fun _ => h1)
  case same =>
    intro hsw
    have hsw' : d.sw 4 = false := hsw
    have hsw0 : d0.sw 4 = false := by rw [SafetyDie.sw, hc]; exact hsw'
    simp only [SafetyDie.free, SafetyDie.zoneDemand_eq hsw0, SafetyDie.zoneDemand_eq hsw', hsame hsw']
  case fault =>
    intro hf
    obtain ⟨hf0, hf1⟩ := hfault hf
    exact ⟨Zone.ite_st_of_fault hf0 hf0, Zone.ite_st_of_fault hf1 hf1⟩

theorem SafetyDie.at_frame (d : SafetyDie) (us : Nat) : ∃ t, d.at_ us = { d with clock := t } := by
  unfold SafetyDie.at_
  split
  · exact ⟨d.clock, rfl⟩
  · exact ⟨_, rfl⟩

theorem SafetyDie.Inv.at_ {d : SafetyDie} (h : d.Inv) (us : Nat) : (d.at_ us).Inv := by
  obtain ⟨t, ht⟩ := d.at_frame us
  rw [ht]
  exact h.congr rfl rfl rfl rfl

/-- A change of an input writes the inputs only. -/
theorem SafetyDie.setInp_frame (d : SafetyDie) (i : SafeIn) (x : SafeInput) :
    ∃ a b c e f, d.setInp i x = { d with si0 := a, si1 := b, si2 := c, si3 := e, chain := f } := by
  unfold SafetyDie.setInp
  split
  · exact ⟨_, _, _, _, _, rfl⟩
  · split <;> exact ⟨_, _, _, _, _, rfl⟩

/-- An input's new reading, with the times of the zones noted. -/
theorem SafetyDie.Inv.setInp_free {d : SafetyDie} (h : d.Inv) (i : SafeIn) (x : SafeInput) (d0 : SafetyDie)
    (hc : d0.cfg = d.cfg) : ((d.setInp i x).free d0).Inv := by
  obtain ⟨a, b, c, e, f, hs⟩ := d.setInp_frame i x
  rw [hs]
  refine SafetyDie.Inv.free ?_ d0 hc
  exact h.congr rfl rfl rfl rfl

/-! ### The commands of the safety die -/

theorem SafetyDie.Inv.channelChange {d : SafetyDie} (h : d.Inv) (i : SafeIn) (chB : Bool) (level : SafeLevel) (us : Nat) :
    (d.channelChange i chB level us).Inv := by
  have hat : (d.at_ us).Inv := h.at_ us
  have hnew := fun x => hat.setInp_free i x (d.at_ us) rfl
  have hpulse : ∀ x p, SafetyDie.Inv { ((d.at_ us).setInp i x).free (d.at_ us) with pulse := p } :=
    fun x p => (hnew x).congr rfl rfl rfl rfl
  refine .ite (fun _ => h) fun _ => .ite (fun _ => hat) fun _ => .ite (fun _ => ?_) (fun _ => (hnew _).act)
  exact .ite (fun _ => (hpulse _ _).act.restart) (fun _ => (hpulse _ _).act)

theorem SafetyDie.Inv.discrepancy {d : SafetyDie} (h : d.Inv) (i : SafeIn) (us : Nat) : (d.discrepancy i us).Inv := by
  have hat : (d.at_ us).Inv := h.at_ us
  have hcount : ∀ n, SafetyDie.Inv { d.at_ us with discs := n } := fun n => hat.congr rfl rfl rfl rfl
  exact .ite (fun _ => h) fun _ => .ite (fun _ => hat) fun _ => ((hcount _).setInp_free i _ _ rfl).act

theorem SafetyDie.Inv.gauntletFault {d : SafetyDie} (h : d.Inv) (gt : Fin 8) : (d.gauntletFault gt).Inv := by
  unfold SafetyDie.gauntletFault
  split
  · exact h
  · exact SafetyDie.Inv.unitFault (h.congr rfl rfl rfl rfl) .gauntlet

/-- A die with its zones at their start and no unit fault. -/
theorem SafetyDie.Inv.of_start {d : SafetyDie} (h0 : d.zone0 = {}) (h1 : d.zone1 = {}) (hf : d.fault = .none) : d.Inv :=
  .of_no_fault (h0 ▸ .default) (h1 ▸ .default) (fun _ => h0.trans h1.symm) hf

/-- Settles O7. -/
theorem safetyDieInvAtReset : Obligations.SafetyDieInvAtReset := by
  unfold Obligations.SafetyDieInvAtReset
  exact .of_start rfl rfl rfl

/-- The answer, where it is a next state, keeps the promise of the safety die. -/
def Answered.KeepsSafetyInv (o : Answered) : Prop := ∀ t, o = .next t → t.safety.Inv

theorem State.keepsSafetyInv_next {s : State} (h : s.safety.Inv) : Answered.KeepsSafetyInv (.next s) := by
  rintro t ⟨⟩
  exact h

section
variable {s : State}

theorem execSafetySelfTestEnd_keeps (h : s.safety.Inv) : Answered.KeepsSafetyInv (execSafetySelfTestEnd s) := by
  refine State.keepsSafetyInv_next ?_
  dsimp only
  generalize s.safety = d at h ⊢
  split
  next => exact h
  next =>
    have htested : SafetyDie.Inv { d with testing := false } := h.congr rfl rfl rfl rfl
    split
    next => exact htested
    next hf =>
      split
      next => exact htested.unitFault .seal
      next =>
        refine .of_no_fault ?zone0 ?zone1 ?same (not_not.1 hf)
        case zone0 => exact .ite (fun _ => .toRun _ _) (fun _ => .toSto _ _)
        case zone1 => exact .ite (fun _ => .toRun _ _) (fun _ => .toSto _ _)
        case same =>
          intro hsw
          have hsw' : SafetyDie.sw { d with testing := false } 4 = false := hsw
          simp only [SafetyDie.zoneDemand_eq hsw']
          simp only [h.2.2.1 hsw']

theorem execSealRead_keeps (l : List SealRead) (h : s.safety.Inv) : Answered.KeepsSafetyInv (execSealRead l s) := by
  refine State.keepsSafetyInv_next ?_
  have hread : SafetyDie.Inv { s.safety with nowInvalid := switchInvalid l } := h.congr rfl rfl rfl rfl
  dsimp only
  split
  next => exact h
  next =>
    split
    · exact hread.unitFault .seal
    · exact hread

/-- R469: only a zone in SS1 ends its delay, so no unit fault is latched then. -/
theorem execSs1DelayEnd_keeps (zone : SafeStep (Fin 2)) (h : s.safety.Inv) :
    Answered.KeepsSafetyInv (execSs1DelayEnd zone s) := by
  refine State.keepsSafetyInv_next ?_
  have hat := h.at_ zone.us
  dsimp only
  split
  next hend =>
    have hf : (s.safety.at_ zone.us).fault = .none := hat.no_fault (z := zone.part) (by rw [hend.1]; nofun)
    have hcount : ((s.safety.at_ zone.us).count 1).Inv := hat.congr rfl rfl rfl rfl
    exact hcount.modZone hf _ (fun x _ _ _ => .toSto x _)
  next => exact hat

/-- R471: only a zone of a die without a unit fault restarts by itself. -/
theorem execAutoRestart_keeps (zone : SafeStep (Fin 2)) (h : s.safety.Inv) :
    Answered.KeepsSafetyInv (execAutoRestart zone s) := by
  refine State.keepsSafetyInv_next ?_
  have hat := h.at_ zone.us
  dsimp only
  split
  next => exact hat
  next hgo =>
    have hf : (s.safety.at_ zone.us).fault = .none := by simp at hgo; tauto
    split
    · exact hat.modZone hf _ (fun x _ _ _ => .toRun x _)
    · exact hat.modZone hf _ (fun x hx _ _ => hx)
    · exact hat

/-- R471: the signal of a zone whose withdrawal runs is withdrawn with its gauntlets closed. -/
theorem execSafeLevelReleaseDelay_keeps (zone : SafeStep (Fin 2)) (h : s.safety.Inv) :
    Answered.KeepsSafetyInv (execSafeLevelReleaseDelay zone s) := by
  refine State.keepsSafetyInv_next ?_
  have hat := h.at_ zone.us
  dsimp only
  generalize s.safety.at_ zone.us = d at hat ⊢
  split
  next hend =>
    have hclosed : ∀ x : Zone, x.Inv → x.releasing = (d.zone zone.part).releasing → x.closed = true := fun x hx hr => by
      by_contra hc
      have hrel := (hx.2 (Bool.not_eq_true _ ▸ hc)).2
      exact Bool.false_ne_true (hrel.symm.trans (hr.trans hend.1))
    have hf : d.fault = .none := by
      refine hat.no_fault (z := zone.part) fun hst => ?_
      have hz : (d.zone zone.part).Inv := by
        unfold SafetyDie.zone
        split
        · exact hat.1
        · exact hat.2.1
      have := hz.1.1 (hclosed _ hz rfl)
      simp [hst] at this
    exact hat.modZone hf _ (fun x hx _ hr => .of_closed (hclosed x hx hr) (hx.1.1 (hclosed x hx hr)))
  next => exact hat

end

/-- Every command of chapter 14 keeps the promise. -/
theorem exec_keepsSafetyInv_of_onSafetyDie {c : Instr} (hc : onSafetyDie c = true) {s : State} (h : s.safety.Inv) :
    Answered.KeepsSafetyInv (exec c s) := by
  cases c <;> cases hc
  case safetyFieldReach => exact State.keepsSafetyInv_next (.of_start rfl rfl rfl)
  case safetyFieldReachRelease l =>
    exact State.keepsSafetyInv_next
      (.ite (fun _ => .of_start rfl rfl rfl) (fun _ => h))
  case safetySelfTestEnd => exact execSafetySelfTestEnd_keeps h
  case sealRead l => exact execSealRead_keeps l h
  case safetyChannelChange i b l us => exact State.keepsSafetyInv_next (h.channelChange i b l us)
  case discrepancyFault i => exact State.keepsSafetyInv_next (h.discrepancy i.part i.us)
  case ss1DelayEnd z => exact execSs1DelayEnd_keeps z h
  case autoRestart z => exact execAutoRestart_keeps z h
  case safeLevelReleaseDelay z => exact execSafeLevelReleaseDelay_keeps z h
  case chainTestPulse b f =>
    exact State.keepsSafetyInv_next (.ite (fun _ => h) (fun _ => h.unitFault _))
  case chainOutReadbackFault =>
    exact State.keepsSafetyInv_next (.ite (fun _ => h) (fun _ => h.unitFault _))
  case safetyInternalFault =>
    exact State.keepsSafetyInv_next (.ite (fun _ => h) (fun _ => h.unitFault _))
  case gauntletTestPulse gt hi p =>
    exact State.keepsSafetyInv_next
      (.ite (fun _ => h.gauntletFault gt) (fun _ => h))
  case gauntletCurrentLimit gt =>
    exact State.keepsSafetyInv_next
      (.ite (fun _ => h.gauntletFault _) (fun _ => h))
  case gauntletReadbackCheck gt ok =>
    exact State.keepsSafetyInv_next
      (.ite (fun _ => h.at_ _) (fun _ => (h.at_ _).gauntletFault _))

/-! ### The steps -/

/-- Settles O1. -/
theorem stepRunsTheFrontCommand : Obligations.StepRunsTheFrontCommand := by
  unfold Obligations.StepRunsTheFrontCommand
  intro c rest s h
  rw [step, h]

/-- Settles O8: an edge of the clock and a command of the main die leave the safety die, a command of the safety die keeps
its promise. -/
theorem everyStepKeepsTheSafetyDieInv : Obligations.EveryStepKeepsTheSafetyDieInv := by
  unfold Obligations.EveryStepKeepsTheSafetyDieInv
  intro s t hinv ht
  cases hp : s.pending with
  | nil =>
    rw [step, hp] at ht
    cases ht
    exact hinv
  | cons c rest =>
    rw [stepRunsTheFrontCommand c rest s hp] at ht
    cases hc : onSafetyDie c with
    | true => exact exec_keepsSafetyInv_of_onSafetyDie (s := { s with pending := rest }) hc hinv t ht
    | false =>
      obtain ⟨-, -, hsafe⟩ := diesAreSeparate c _ t ht
      rw [hsafe hc]
      exact hinv

end Sys2Proof.Machine
end

section
/-! The machine as a whole: an edge of the reference clock (R159) and the state after reset. -/

namespace Sys2Proof.Machine

/-- Edges of the reference write the time base and the emulation outputs only. -/
theorem Main.edges_frame (m : Main) (n : Nat) : ∃ e, m.edges n = { m with tb := m.tb.edges n, ee := e } := by
  refine forEach_keeps (fun k => ∃ e, k = { m with tb := m.tb.edges n, ee := e }) _ ?_ (List.range 8) _ ⟨m.ee, rfl⟩
  rintro o k ⟨e, rfl⟩
  split
  · exact ⟨_, rfl⟩
  · exact ⟨e, rfl⟩

theorem TimeBase.edges_acc (t : TimeBase) (n : Nat) :
    (t.edges n).acc.toNat = (t.acc.toNat + n * t.inc.toNat) % 2 ^ 66 := by
  simp only [TimeBase.edges, BitVec.toNat_ofNat]
  omega

/-- One edge carries into the epoch at most once. -/
theorem TimeBase.edges_one_epoch (t : TimeBase) :
    (t.edges 1).epoch.toNat =
      if 2 ^ 66 ≤ t.acc.toNat + t.inc.toNat then (t.epoch.toNat + 1) % 2 ^ 36 else t.epoch.toNat := by
  have hacc : t.acc.toNat < 2 ^ 66 := t.acc.isLt
  have hinc : t.inc.toNat < 2 ^ 36 := t.inc.isLt
  have hepoch : t.epoch.toNat < 2 ^ 36 := t.epoch.isLt
  simp only [TimeBase.edges, BitVec.toNat_ofNat]
  split <;> omega

/-- Settles O2. -/
theorem referenceEdgeAdvancesTheTimeBase : Obligations.ReferenceEdgeAdvancesTheTimeBase := by
  unfold Obligations.ReferenceEdgeAdvancesTheTimeBase
  intro s hs
  have hstep : step s = .next s.tick := by rw [step, hs]
  refine ⟨fun hstopped => ?stopped, fun hrunning => ⟨_, hstep, ?running⟩⟩
  case stopped =>
    rw [hstep, State.tick, Main.tick, if_neg (hstopped ▸ Bool.false_ne_true)]
  case running =>
    obtain ⟨e, he⟩ := s.main.edges_frame 1
    rw [State.tick, Main.tick, if_pos hrunning, he]
    refine ⟨rfl, rfl, ?_, s.main.tb.edges_one_epoch⟩
    simpa using s.main.tb.edges_acc 1

/-- Settles O6: one state, evaluated. -/
theorem resetValues : Obligations.ResetValues := by
  unfold Obligations.ResetValues
  decide +kernel

end Sys2Proof.Machine
end

section
/-! Writes of one object as rows of their own (R92, log 45): what a row command is, what the checks decide, and what an
accepted or a refused write answers. -/

namespace Sys2Proof.Machine

/-! ### Row commands -/

/-- A row command is the write of its object that it names. -/
theorem exec_of_rowWrite {c : Instr} {s : State} {r : RowWrite} (h : s.start.rowWrite c = some r) :
    exec c s = .next { s with main := s.start.writeNow r.sess r.addr r.at_ r.data } := by
  cases c <;> cases h <;> rfl

/-- An accepted row command is a write that passes every check. -/
theorem State.rowAccepted_iff (s : State) (c : Instr) : s.rowAccepted c = true ↔
    ∃ r, s.start.rowWrite c = some r ∧ s.start.accepts r.sess r.addr r.at_ r.data = true := by
  unfold State.rowAccepted
  cases s.start.rowWrite c with
  | none => simp
  | some r => simp

/-! ### Checks 1 to 5 -/

theorem Main.access_inl_range {m : Main} {sess a : Nat} {write at_ : Bool} {c : Nat}
    (h : m.access sess a write at_ = .inl c) : 0 < c ∧ c < 0x80 := by
  revert h
  unfold Main.access
  dsimp only
  split
  · rintro ⟨⟩; decide
  · split_ifs <;> rintro ⟨⟩ <;> decide

theorem Main.access_inr_info {m : Main} {sess a : Nat} {write at_ : Bool} {o : ObjInfo}
    (h : m.access sess a write at_ = .inr o) : info? a = some o := by
  revert h
  unfold Main.access
  dsimp only
  split
  · nofun
  next hinfo =>
    rw [hinfo]
    split_ifs <;> rintro ⟨⟩ <;> rfl

/-- R93: checks 1 to 5 refuse with an abort code. -/
theorem Main.frontWrite_code_range {m : Main} {sess a : Nat} {at_ : Bool} {data : List Byte} {c : Nat}
    (h : m.frontWrite sess a at_ data = some c) : 0 < c ∧ c < 0x80 := by
  revert h
  unfold Main.frontWrite
  split
  next hacc => rintro ⟨⟩; exact Main.access_inl_range hacc
  next =>
    split
    · rintro ⟨⟩; decide
    · split_ifs <;> rintro ⟨⟩
      decide

/-- A write that passes checks 1 to 5 names an object, and its data has that object's length. -/
theorem Main.exists_parse_of_frontWrite {m : Main} {sess a : Nat} {at_ : Bool} {data : List Byte}
    (h : m.frontWrite sess a at_ data = none) : ∃ o d, info? a = some o ∧ parseWrite a o at_ data = some d := by
  revert h
  unfold Main.frontWrite
  split
  · nofun
  next o hacc =>
    split
    · nofun
    next d hparse => exact fun _ => ⟨o, d, Main.access_inr_info hacc, hparse⟩

/-- What an accepted write has passed. -/
theorem Main.accepts_iff (m : Main) (sess a : Nat) (at_ : Bool) (data : List Byte) : m.accepts sess a at_ data = true ↔
    m.frontWrite sess a at_ data = none ∧ ∃ o d, info? a = some o ∧ parseWrite a o at_ data = some d ∧
      (isStop a || m.beRoom) = true ∧ m.barred a = false ∧ m.writeRefusal a d = none := by
  unfold Main.accepts
  cases m.frontWrite sess a at_ data with
  | some c => simp
  | none =>
    cases info? a with
    | none => simp
    | some o =>
      cases hp : parseWrite a o at_ data with
      | none => simp [hp]
      | some d => simp [hp, and_assoc]

/-! ### Answers -/

/-- A write that is answered shows its answer; one that is not shows PENDING (R125). -/
def Main.finish (r : Main × Option Nat) (sess a : Nat) : Main :=
  match r.2 with
  | some c => r.1.reply sess a c
  | none => r.1.pendingShown

@[simp] theorem Main.finish_ok (m : Main) (sess a : Nat) : Main.finish m.ok sess a = m.reply sess a 0 := rfl

/-- The answer OK writes what the command sends out and nothing else. -/
theorem Main.reply_ok_frame (m : Main) (sess a : Nat) :
    m.reply sess a 0 = { m with out := { m.out with status := some 0, rlen := 0, data := [], taken := true } } := by
  rw [Main.reply, Main.noteAbort_ok]
  rfl

@[simp] theorem Main.pendingShown_reply (m : Main) (sess a c : Nat) :
    (m.reply sess a c).pendingShown = m.reply sess a c := rfl

/-! ### The outcome of a write -/

section
variable {m : Main} {sess a : Nat} {at_ : Bool} {data : List Byte}

/-- A write that fails one of checks 1 to 5. -/
theorem Main.writeNow_of_frontWrite {c : Nat} (h : m.frontWrite sess a at_ data = some c) :
    m.writeNow sess a at_ data = m.reply sess a c := by
  rw [Main.writeNow, h]

/-- A write that passes checks 1 to 5. -/
theorem Main.writeNow_of_parse {o : ObjInfo} {d : WData} (h : m.frontWrite sess a at_ data = none)
    (hi : info? a = some o) (hp : parseWrite a o at_ data = some d) : m.writeNow sess a at_ data =
      if isStop a || m.beRoom then (m.runWrite sess a d none).pendingShown else m.reply sess a aBusy := by
  simp only [Main.writeNow, h, hi, hp]

/-- A write that one of checks 6 to 9 refuses. -/
theorem Main.runWrite_of_refused {d : WData} {c : Nat} (hb : m.barred a = false) (hr : m.writeRefusal a d = some c) :
    m.runWrite sess a d none = m.reply sess a c := by
  rw [Main.runWrite, hb, if_neg Bool.false_ne_true, hr]
  rfl

/-- An accepted write takes its effect and answers. -/
theorem Main.writeNow_of_accepts (h : m.accepts sess a at_ data = true) : ∃ o d, info? a = some o ∧
    parseWrite a o at_ data = some d ∧ m.writeRefusal a d = none ∧
    m.writeNow sess a at_ data = (Main.finish (m.writeEffect sess a d none) sess a).pendingShown := by
  obtain ⟨hfront, o, d, hi, hp, hroom, hb, hr⟩ := (m.accepts_iff sess a at_ data).1 h
  refine ⟨o, d, hi, hp, hr, ?_⟩
  rw [Main.writeNow_of_parse hfront hi hp, if_pos hroom, Main.runWrite, hb, if_neg Bool.false_ne_true, hr]
  cases hans : (m.writeEffect sess a d none).2 with
  | some c => simp only [Main.finish, hans]; rfl
  | none =>
    simp only [Main.finish, hans]
    unfold Main.pendingShown
    split_ifs <;> rfl

end

/-! ### Refused writes -/

theorem hsAddr_ne {n k l : Nat} (h : k ≠ l) : hsAddr n k ≠ hsAddr n l := fun e => h (Nat.add_left_cancel e)

/-- R94: an abort is noted in HS_ABORT_LAST and HS_ABORT_COUNT of its session. -/
theorem Main.noteAbort_counts (m : Main) (sess a : Nat) {c : Nat} (h0 : 0 < c) (h1 : c < 0x80) :
    (m.noteAbort sess c a).obj (hsAddr sess O.HS_ABORT_LAST) = c * 2 ^ 24 + a % 2 ^ 24 ∧
    (m.noteAbort sess c a).obj (hsAddr sess O.HS_ABORT_COUNT) =
      (m.obj (hsAddr sess O.HS_ABORT_COUNT) + 1) % 2 ^ 36 := by
  have hne : hsAddr sess O.HS_ABORT_LAST ≠ hsAddr sess O.HS_ABORT_COUNT := hsAddr_ne (by decide)
  have habort : ¬(c = 0 ∨ 0x80 ≤ c) := by omega
  rw [Main.noteAbort, if_neg habort]
  refine ⟨?_, ?_⟩
  · rw [Main.inc, Main.objs_keep _ _ _ _ hne, Main.obj_setObj_same]
    omega
  · rw [Main.obj_inc_same, Main.objs_keep _ _ _ _ hne.symm]

/-- Settles O9: whichever check refuses the write, the answer is one reply with that check's code. -/
theorem refusedRowWriteChangesNothing : Obligations.RefusedRowWriteChangesNothing := by
  unfold Obligations.RefusedRowWriteChangesNothing
  intro c s r code hrow hcode
  have hreply : s.start.writeNow r.sess r.addr r.at_ r.data = s.start.reply r.sess r.addr code ∧ 0 < code ∧ code < 0x80 := by
    rcases hcode with hfront | ⟨hfront, hstop, hroom, rfl⟩ | ⟨o, d, hfront, hi, hp, hroom, hb, hr, h0, h1⟩
    · exact ⟨Main.writeNow_of_frontWrite hfront, Main.frontWrite_code_range hfront⟩
    · obtain ⟨o, d, hi, hp⟩ := Main.exists_parse_of_frontWrite hfront
      rw [Main.writeNow_of_parse hfront hi hp, hstop, hroom]
      exact ⟨rfl, by decide⟩
    · rw [Main.writeNow_of_parse hfront hi hp, if_pos hroom, Main.runWrite_of_refused hb hr]
      exact ⟨rfl, h0, h1⟩
  obtain ⟨hwrite, h0, h1⟩ := hreply
  obtain ⟨hlast, hcount⟩ := s.start.noteAbort_counts r.sess r.addr h0 h1
  refine ⟨_, exec_of_rowWrite hrow, ?_⟩
  rw [hwrite]
  refine ⟨?frame, rfl, hlast, hcount, ?objects⟩
  case frame =>
    obtain ⟨o, ho⟩ := s.start.noteAbort_frame r.sess code r.addr
    rw [Main.reply, ho]
    rfl
  case objects =>
    intro b hb
    simp only [List.mem_cons, List.not_mem_nil, or_false, not_or] at hb
    exact Main.noteAbort_obj _ _ _ _ _ hb.1 hb.2

end Sys2Proof.Machine
end

section
/-! Accepted writes of one word: the object that an address names, the effect that its area gives the write, and what the
row answers. -/

namespace Sys2Proof.Machine

/-! ### Addresses (R12) -/

section
variable {p n : Nat}

theorem hsAddr_parts (hp : p < 256) (hn : n < 4096) :
    areaOf (hsAddr p n) = 2 ∧ instOf (hsAddr p n) = p ∧ numOf (hsAddr p n) = n := by
  unfold areaOf instOf numOf hsAddr; omega
theorem fbAddr_parts (hp : p < 256) (hn : n < 4096) :
    areaOf (fbAddr p n) = 5 ∧ instOf (fbAddr p n) = p ∧ numOf (fbAddr p n) = n := by
  unfold areaOf instOf numOf fbAddr; omega
theorem pwAddr_parts (hp : p < 256) (hn : n < 4096) :
    areaOf (pwAddr p n) = 6 ∧ instOf (pwAddr p n) = p ∧ numOf (pwAddr p n) = n := by
  unfold areaOf instOf numOf pwAddr; omega
theorem evAddr_parts (hp : p < 256) (hn : n < 4096) :
    areaOf (evAddr p n) = 7 ∧ instOf (evAddr p n) = p ∧ numOf (evAddr p n) = n := by
  unfold areaOf instOf numOf evAddr; omega
theorem aqAddr_parts (hp : p < 256) (hn : n < 4096) :
    areaOf (aqAddr p n) = 10 ∧ instOf (aqAddr p n) = p ∧ numOf (aqAddr p n) = n := by
  unfold areaOf instOf numOf aqAddr; omega
/-- Axes 0 to 63 stand in area 3, hoops as instances 64 to 127 in area 4 (R15). -/
theorem instAddr_parts_axis (hp : p < 64) (hn : n < 4096) :
    areaOf (instAddr p n) = 3 ∧ instOf (instAddr p n) = p ∧ numOf (instAddr p n) = n := by
  unfold areaOf instOf numOf instAddr; rw [if_pos hp]; omega
theorem instAddr_parts_hoop (hp : 64 ≤ p) (hp' : p < 128) (hn : n < 4096) :
    areaOf (instAddr p n) = 4 ∧ instOf (instAddr p n) = p - 64 ∧ numOf (instAddr p n) = n := by
  unfold areaOf instOf numOf instAddr; rw [if_neg (by omega)]; omega

theorem instAddr_ne {k l : Nat} (h : k ≠ l) : instAddr p k ≠ instAddr p l := by
  unfold instAddr; split <;> omega

end

/-! ### The effect of a write of one word, by area -/

/-- An object that stands at the address has one word. -/
def wordObj (a : Nat) : Bool := (info? a).all (fun o => o.ty != .domain && o.ty != .ext)

section
variable {m : Main} {sess a : Nat} {w : Word} {key : Option Key}

/-- Only the objects that are part of a chain change load. -/
theorem Main.changesLoad_of_not_chainObj (m : Main) {v : Nat} (h : chainObj a = false) : m.changesLoad a v = false := by
  rw [Main.changesLoad, h]; rfl

/-- A write that changes load is placed before the ledger. -/
theorem Main.wordEffect_of_changesLoad (h : m.changesLoad a w.toNat = true) : m.wordEffect sess a w key =
    (m.askLedger { sess := sess, addr := a, key := key, change := .objWrite a w.toNat }, none) := by
  simp [Main.wordEffect, h]

theorem chainObj_of_area (h : areaOf a ≠ 0 ∧ areaOf a ≠ 3 ∧ areaOf a ≠ 4 ∧ areaOf a ≠ 7) : chainObj a = false := by
  unfold chainObj
  split <;> simp_all

theorem ne_brim_of_area (h : areaOf a ≠ 0) : a ≠ O.DV_BRIM := by
  rintro rfl
  exact h (by decide)

/-- The effect of a write that changes no load, by area. -/
theorem Main.wordEffect_dv (hc : m.changesLoad a w.toNat = false) (hb : a ≠ O.DV_BRIM) (h : areaOf a = 0) :
    m.wordEffect sess a w key = (m.dvEffect w.toNat (numOf a)).ok := by
  simp [Main.wordEffect, hc, hb, h]
theorem Main.wordEffect_nt (h : areaOf a = 1) : m.wordEffect sess a w key = (m.ntEffect w.toNat (numOf a)).ok := by
  simp [Main.wordEffect, m.changesLoad_of_not_chainObj (chainObj_of_area (a := a) (by omega)), ne_brim_of_area (a := a) (by omega), h]
theorem Main.wordEffect_hs (h : areaOf a = 2) : m.wordEffect sess a w key = m.hsEffect sess a w.toNat key := by
  simp [Main.wordEffect, m.changesLoad_of_not_chainObj (chainObj_of_area (a := a) (by omega)), ne_brim_of_area (a := a) (by omega), h]
theorem Main.wordEffect_port (h : areaOf a = 5) :
    m.wordEffect sess a w key = (m.portEffect (instOf a) w.toNat (numOf a)).ok := by
  simp [Main.wordEffect, m.changesLoad_of_not_chainObj (chainObj_of_area (a := a) (by omega)), ne_brim_of_area (a := a) (by omega), h]
theorem Main.wordEffect_lane (h : areaOf a = 6) :
    m.wordEffect sess a w key = (m.laneEffect (instOf a) w.toNat (numOf a)).ok := by
  simp [Main.wordEffect, m.changesLoad_of_not_chainObj (chainObj_of_area (a := a) (by omega)), ne_brim_of_area (a := a) (by omega), h]
theorem Main.wordEffect_ev (hc : m.changesLoad a w.toNat = false) (h : areaOf a = 7) :
    m.wordEffect sess a w key = (m.evEffect (instOf a) w (numOf a)).ok := by
  simp [Main.wordEffect, hc, ne_brim_of_area (a := a) (by omega), h]
theorem Main.wordEffect_aq (h : areaOf a = 10) :
    m.wordEffect sess a w key = (m.aqEffect (instOf a) w.toNat (numOf a)).ok := by
  simp [Main.wordEffect, m.changesLoad_of_not_chainObj (chainObj_of_area (a := a) (by omega)), ne_brim_of_area (a := a) (by omega), h]
theorem Main.wordEffect_rs (h : areaOf a = 12) : m.wordEffect sess a w key = (m.rsEffect w.toNat (numOf a)).ok := by
  simp [Main.wordEffect, m.changesLoad_of_not_chainObj (chainObj_of_area (a := a) (by omega)), ne_brim_of_area (a := a) (by omega), h]
theorem Main.wordEffect_cf (h : areaOf a = 13) : m.wordEffect sess a w key = (m.cfEffect w.toNat (numOf a)).ok := by
  simp [Main.wordEffect, m.changesLoad_of_not_chainObj (chainObj_of_area (a := a) (by omega)), ne_brim_of_area (a := a) (by omega), h]

/-- Of an axis or hoop: by its number. -/
theorem Main.wordEffect_inst {i n : Nat} (hi : i < 128) (hn : n < 4096) (hc : m.changesLoad (instAddr i n) w.toNat = false) :
    m.wordEffect sess (instAddr i n) w key = m.instEffect sess i w n key := by
  rcases Nat.lt_or_ge i 64 with h64 | h64
  · obtain ⟨ha, hinst, hnum⟩ := instAddr_parts_axis h64 hn
    simp [Main.wordEffect, hc, ne_brim_of_area (a := instAddr i n) (by omega), ha, hinst, hnum]
  · obtain ⟨ha, hinst, hnum⟩ := instAddr_parts_hoop h64 hi hn
    simp [Main.wordEffect, hc, ne_brim_of_area (a := instAddr i n) (by omega), ha, hinst, hnum, Nat.add_sub_cancel' h64]

end

/-! ### Rows that write one word -/

theorem wordN_toNat (v : Nat) : (wordN v).toNat = v % 2 ^ 36 := BitVec.toNat_ofNat v 36
theorem wordN_toNat_of_lt {v : Nat} (h : v < 2 ^ 36) : (wordN v).toNat = v := by rw [wordN_toNat, Nat.mod_eq_of_lt h]

/-- The data of a write of one word. -/
theorem parseWrite_word {a : Nat} {o : ObjInfo} {d : WData} {v : Nat} (ho : o.ty ≠ .domain)
    (hp : parseWrite a o false (bytesOfWords [wordN v]) = some d) : d = { words := [wordN v] } := by
  have hlen : (bytesOfWords [wordN v]).length = 5 := by simp [length_bytesOfWords]
  cases hty : o.ty <;> simp_all [parseWrite]

/-- A row command that writes one word and is accepted takes the word's effect and answers. -/
theorem exec_of_rowAccepted_word {c : Instr} {s : State} {sess a v : Nat}
    (hrow : s.start.rowWrite c = some (.word sess a v)) (hobj : wordObj a = true) (h : s.rowAccepted c = true) :
    s.start.writeRefusal a { words := [wordN v] } = none ∧ exec c s = .next { s with main :=
      (Main.finish (s.start.wordEffect sess a (wordN v) none) sess a).pendingShown } := by
  obtain ⟨r, hr, hacc⟩ := (s.rowAccepted_iff c).1 h
  obtain rfl : r = .word sess a v := Option.some.inj (hr.symm.trans hrow)
  obtain ⟨o, d, hi, hp, hrefusal, hwrite⟩ := Main.writeNow_of_accepts hacc
  have hi : info? a = some o := hi
  have hty : o.ty ≠ .domain ∧ o.ty ≠ .ext := by simpa [wordObj, hi] using hobj
  obtain rfl := parseWrite_word hty.1 hp
  have hvalue : wordN (WData.value { words := [wordN v] }) = wordN v := by
    simp [WData.value, wordN, ← BitVec.toNat_inj]
  have heffect : s.start.writeEffect sess a { words := [wordN v] } none = s.start.wordEffect sess a (wordN v) none := by
    rw [Main.writeEffect, hi]
    cases hto : o.ty <;> simp_all
  refine ⟨hrefusal, ?_⟩
  rw [exec_of_rowWrite hrow, hwrite]
  exact congrArg (fun e => Host.Outcome.next { s with main := (Main.finish e sess a).pendingShown }) heffect

/-- The same for a word whose effect is complete: the answer is OK. -/
theorem exec_of_rowAccepted_ok {c : Instr} {s : State} {sess a v : Nat} {m : Main}
    (hrow : s.start.rowWrite c = some (.word sess a v)) (hobj : wordObj a = true) (h : s.rowAccepted c = true)
    (he : s.start.wordEffect sess a (wordN v) none = m.ok) : exec c s = .next { s with main := m.reply sess a 0 } := by
  rw [(exec_of_rowAccepted_word hrow hobj h).2, he]
  rfl

/-- A write whose effect is complete is done. -/
theorem done_reply (s : State) (m : Main) (sess a : Nat) : Done s { s with main := m.reply sess a 0 } := ⟨rfl, rfl⟩

/-- The answer OK leaves every object as it was. -/
@[simp] theorem Main.obj_reply_ok (m : Main) (sess a b : Nat) : (m.reply sess a 0).obj b = m.obj b := by
  rw [Main.reply_ok_frame]; rfl

/-! ### What an answer and a write of an object leave as it was -/

section
variable (m : Main) (sess a v k : Nat)

@[simp] theorem Main.i_reply_ok : (m.reply sess a 0).i k = m.i k := by rw [Main.reply_ok_frame]; rfl
@[simp] theorem Main.ln_reply_ok : (m.reply sess a 0).ln k = m.ln k := by rw [Main.reply_ok_frame]; rfl
@[simp] theorem Main.pt_reply_ok : (m.reply sess a 0).pt k = m.pt k := by rw [Main.reply_ok_frame]; rfl
@[simp] theorem Main.lop_reply_ok : (m.reply sess a 0).lop k = m.lop k := by rw [Main.reply_ok_frame]; rfl
@[simp] theorem Main.se_reply_ok : (m.reply sess a 0).se k = m.se k := by rw [Main.reply_ok_frame]; rfl
@[simp] theorem Main.vmst_reply_ok : (m.reply sess a 0).vmst k = m.vmst k := by rw [Main.reply_ok_frame]; rfl
@[simp] theorem Main.lt_reply_ok : (m.reply sess a 0).lt k = m.lt k := by rw [Main.reply_ok_frame]; rfl
@[simp] theorem Main.act_reply_ok : (m.reply sess a 0).act k = m.act k := by rw [Main.reply_ok_frame]; rfl
@[simp] theorem Main.aqu_reply_ok : (m.reply sess a 0).aqu k = m.aqu k := by rw [Main.reply_ok_frame]; rfl
@[simp] theorem Main.fc_reply_ok : (m.reply sess a 0).fc k = m.fc k := by rw [Main.reply_ok_frame]; rfl
@[simp] theorem Main.pl_reply_ok : (m.reply sess a 0).pl k = m.pl k := by rw [Main.reply_ok_frame]; rfl
@[simp] theorem Main.psm_reply_ok : (m.reply sess a 0).psm k = m.psm k := by rw [Main.reply_ok_frame]; rfl
@[simp] theorem Main.eeo_reply_ok : (m.reply sess a 0).eeo k = m.eeo k := by rw [Main.reply_ok_frame]; rfl
@[simp] theorem Main.now_reply_ok : (m.reply sess a 0).now = m.now := by rw [Main.reply_ok_frame]; rfl

@[simp] theorem Main.i_setObj : (m.setObj a v).i k = m.i k := rfl
@[simp] theorem Main.ln_setObj : (m.setObj a v).ln k = m.ln k := rfl
@[simp] theorem Main.pt_setObj : (m.setObj a v).pt k = m.pt k := rfl
@[simp] theorem Main.lop_setObj : (m.setObj a v).lop k = m.lop k := rfl
@[simp] theorem Main.se_setObj : (m.setObj a v).se k = m.se k := rfl
@[simp] theorem Main.vmst_setObj : (m.setObj a v).vmst k = m.vmst k := rfl
@[simp] theorem Main.lt_setObj : (m.setObj a v).lt k = m.lt k := rfl
@[simp] theorem Main.act_setObj : (m.setObj a v).act k = m.act k := rfl
@[simp] theorem Main.aqu_setObj : (m.setObj a v).aqu k = m.aqu k := rfl
@[simp] theorem Main.fc_setObj : (m.setObj a v).fc k = m.fc k := rfl
@[simp] theorem Main.pl_setObj : (m.setObj a v).pl k = m.pl k := rfl
@[simp] theorem Main.psm_setObj : (m.setObj a v).psm k = m.psm k := rfl
@[simp] theorem Main.eeo_setObj : (m.setObj a v).eeo k = m.eeo k := rfl
@[simp] theorem Main.now_setObj : (m.setObj a v).now = m.now := rfl

end

section
/-! The main die as a command finds it differs from the state's in what the command before it sent out only. -/

variable (s : State) (k : Nat)

@[simp] theorem State.i_start : s.start.i k = s.main.i k := rfl
@[simp] theorem State.ln_start : s.start.ln k = s.main.ln k := rfl
@[simp] theorem State.pt_start : s.start.pt k = s.main.pt k := rfl
@[simp] theorem State.lop_start : s.start.lop k = s.main.lop k := rfl
@[simp] theorem State.se_start : s.start.se k = s.main.se k := rfl
@[simp] theorem State.vmst_start : s.start.vmst k = s.main.vmst k := rfl
@[simp] theorem State.lt_start : s.start.lt k = s.main.lt k := rfl
@[simp] theorem State.act_start : s.start.act k = s.main.act k := rfl
@[simp] theorem State.aqu_start : s.start.aqu k = s.main.aqu k := rfl
@[simp] theorem State.fc_start : s.start.fc k = s.main.fc k := rfl
@[simp] theorem State.pl_start : s.start.pl k = s.main.pl k := rfl
@[simp] theorem State.psm_start : s.start.psm k = s.main.psm k := rfl
@[simp] theorem State.eeo_start : s.start.eeo k = s.main.eeo k := rfl
@[simp] theorem State.obj_start : s.start.obj k = s.main.obj k := rfl
@[simp] theorem State.objW_start : s.start.objW k = s.main.objW k := rfl
@[simp] theorem State.now_start : s.start.now = s.main.now := rfl

end

/-- A row that is accepted and whose effect is complete answers with the effect's outcome. -/
theorem completes_of_rowAccepted_ok {c : Instr} {s : State} {sess a v : Nat} {m : Main} {P : State → Prop}
    (hrow : s.start.rowWrite c = some (.word sess a v)) (hobj : wordObj a = true) (h : s.rowAccepted c = true)
    (he : s.start.wordEffect sess a (wordN v) none = m.ok) (hP : P { s with main := m.reply sess a 0 }) :
    Completes c s P :=
  ⟨_, exec_of_rowAccepted_ok hrow hobj h he, hP⟩

end Sys2Proof.Machine
end

section
/-! Releases and breaks of domains (R84). -/

namespace Sys2Proof.Machine

/-- A domain code is short. -/
theorem lt_of_domainOfCode {code d : Nat} (h : domainOfCode code = some d) : code < 2 ^ 36 := by
  by_contra hlarge
  unfold domainOfCode at h
  have hkind : 8 ≤ code / 256 := by omega
  split at h <;> try omega
  cases h

theorem wordObj_release (n : Sess) : wordObj (hsAddr n O.HS_RELEASE) = true := by
  revert n; decide +kernel

theorem wordObj_break : wordObj (hsAddr 0 O.HS_BREAK) = true := by decide +kernel

section
variable {m : Main} {sess d : Nat}

theorem Main.hsEffect_release {code : Nat} (hs : sess < 256) (hd : domainOfCode code = some d) :
    m.hsEffect sess (hsAddr sess O.HS_RELEASE) code none = (m.releaseDomain sess d).ok := by
  obtain ⟨-, -, hnum⟩ := hsAddr_parts (n := O.HS_RELEASE) hs (by decide)
  simp [Main.hsEffect, hd, hnum]

theorem Main.hsEffect_break {code : Nat} (hd : domainOfCode code = some d) :
    m.hsEffect sess (hsAddr 0 O.HS_BREAK) code none = (m.breakDomainNow d).ok := by
  obtain ⟨-, hinst, hnum⟩ := hsAddr_parts (p := 0) (n := O.HS_BREAK) (by decide) (by decide)
  simp [Main.hsEffect, hd, hnum, hinst]

/-- The end of the ownership of one domain. -/
theorem Main.ownerOf_disown (m : Main) (d e : Nat) : (m.disown d).ownerOf e = if e = d then none else m.ownerOf e := by
  have hget : mget 0 (m.disown d).owner e = if e = d then 0 else mget 0 m.owner e := mget_merase 0 m.owner d e
  by_cases he : e = d
  · rw [if_pos he] at hget ⊢
    exact Main.ownerOf_eq_none hget
  · rw [if_neg he] at hget ⊢
    exact Main.ownerOf_congr hget

/-- R84 with no window open: a release ends its own session's ownership only. -/
theorem Main.ownerOf_releaseDomain (hw : m.windowOpen d = false) (e : Nat) : (m.releaseDomain sess d).ownerOf e =
    if e = d ∧ m.ownerOf d = some sess then none else m.ownerOf e := by
  unfold Main.releaseDomain
  rw [hw, if_neg Bool.false_ne_true]
  by_cases ho : m.ownerOf d = some sess
  · simp [Main.owns, ho, Main.ownerOf_disown]
  · simp [Main.owns, ho]

/-- With no window open a release writes the owners only. -/
theorem Main.releaseDomain_frame_closed (hw : m.windowOpen d = false) :
    ∃ o, m.releaseDomain sess d = { m with owner := o } := by
  unfold Main.releaseDomain
  rw [hw, if_neg Bool.false_ne_true]
  split
  · exact ⟨_, rfl⟩
  · exact ⟨m.owner, rfl⟩

/-- R84 while a window is open: the session withdraws from it. -/
theorem Main.releaseDomain_of_open (hw : m.windowOpen d = true) : m.releaseDomain sess d =
    { m with windows := mplace d ((mget {} m.windows d).withdraw sess) m.windows } := by
  rw [Main.releaseDomain, hw, if_pos rfl]

end

/-- An accepted HS_RELEASE is the release of its domain. -/
theorem completes_release {sess : Sess} {code d : Nat} {s : State} {P : State → Prop} (hd : domainOfCode code = some d)
    (h : s.rowAccepted (.release sess code) = true)
    (hP : P { s with main := (s.start.releaseDomain sess d).reply sess (hsAddr sess O.HS_RELEASE) 0 }) :
    Completes (.release sess code) s P := by
  have hs : sess.val < 256 := by omega
  refine completes_of_rowAccepted_ok rfl (wordObj_release sess) h ?_ hP
  rw [Main.wordEffect_hs (hsAddr_parts hs (by decide)).1, wordN_toNat_of_lt (lt_of_domainOfCode hd), Main.hsEffect_release hs hd]

/-- An accepted HS_BREAK is the break of its domain. -/
theorem completes_breakDomain {sess : Sess} {code d : Nat} {s : State} {P : State → Prop} (hd : domainOfCode code = some d)
    (h : s.rowAccepted (.breakDomain sess code) = true)
    (hP : P { s with main := (s.start.breakDomainNow d).reply sess (hsAddr 0 O.HS_BREAK) 0 }) :
    Completes (.breakDomain sess code) s P := by
  refine completes_of_rowAccepted_ok rfl wordObj_break h ?_ hP
  rw [Main.wordEffect_hs (by decide), wordN_toNat_of_lt (lt_of_domainOfCode hd), Main.hsEffect_break hd]

/-- Settles O11: with no window open the two rows end an ownership, while one is open the release withdraws a claim. -/
theorem releasesAndBreaks : Obligations.ReleasesAndBreaks := by
  unfold Obligations.ReleasesAndBreaks
  refine ⟨fun sess code d s hd hw => ⟨fun h => completes_release hd h ?release, fun h => completes_breakDomain hd h ?broken⟩,
    fun sess code d s hd hw => ⟨fun h => completes_release hd h ?withdraw, fun h => completes_breakDomain hd h ?stays⟩⟩
  case release =>
    have howner := fun e => Main.ownerOf_releaseDomain (m := s.start) (sess := sess) hw e
    obtain ⟨o, ho⟩ := Main.releaseDomain_frame_closed (m := s.start) (sess := sess) hw
    rw [Main.reply_ok_frame]
    refine ⟨?_, rfl, ?_, fun e he => ?_⟩
    · rw [ho]; rfl
    · exact (howner d).trans (by simp only [true_and]; rfl)
    · exact (howner e).trans (if_neg fun hed => he hed.1)
  case broken =>
    have hbreak : s.start.breakDomainNow d = s.start.disown d := by
      rw [Main.breakDomainNow, if_neg]
      exact hw ▸ Bool.false_ne_true
    rw [Main.reply_ok_frame, hbreak]
    refine ⟨rfl, rfl, ?_, fun e he => ?_⟩
    · exact (s.start.ownerOf_disown d d).trans (if_pos rfl)
    · exact (s.start.ownerOf_disown d e).trans (if_neg he)
  case withdraw =>
    rw [Main.reply_ok_frame, Main.releaseDomain_of_open (m := s.start) hw]
    have hwindow : mget {} (mplace d ((mget {} s.main.windows d).withdraw sess) s.main.windows) d =
        (mget {} s.main.windows d).withdraw sess := by rw [mget_mplace, if_pos rfl]
    have hopened := congrArg Window.opened hwindow
    have hclaimants := congrArg Window.claimants hwindow
    exact ⟨rfl, rfl, hopened, hclaimants⟩
  case stays =>
    have hbreak : s.start.breakDomainNow d = s.start := by
      rw [Main.breakDomainNow, if_pos]
      exact hw
    rw [Main.reply_ok_frame, hbreak]
    exact ⟨rfl, rfl⟩

end Sys2Proof.Machine
end

section
/-! Rows whose write stores its value (R91, R310). -/

namespace Sys2Proof.Machine

/-! ### Stored values -/

/-- A one-word object that keeps what is written to it, with no reserved bits. -/
def plainObj (a : Nat) : Bool :=
  wordObj a && (info? a).any (fun o => o.own != .w1c && o.svc != .w1c && o.own != .wo && o.svc != .wo) &&
    storeMask a == 2 ^ 36 - 1

theorem wordObj_of_plainObj {a : Nat} (h : plainObj a = true) : wordObj a = true := by
  simp only [plainObj, Bool.and_eq_true] at h
  exact h.1.1

theorem Main.store1_of_plainObj (m : Main) {a v : Nat} (h : plainObj a = true) (hv : v < 2 ^ 36) :
    m.store1 a v = m.setObj a v := by
  simp only [plainObj, Bool.and_eq_true, beq_iff_eq] at h
  obtain ⟨⟨-, hinfo⟩, hmask⟩ := h
  have hand : v &&& (2 ^ 36 - 1) = v := by rw [Nat.and_two_pow_sub_one_eq_mod, Nat.mod_eq_of_lt hv]
  unfold Main.store1
  rw [hmask, hand]
  cases ho : info? a with
  | none => simp [ho] at hinfo
  | some o =>
    simp only [ho, Option.any_some, Bool.and_eq_true, bne_iff_ne, ne_eq] at hinfo
    obtain ⟨⟨⟨h1, h2⟩, h3⟩, h4⟩ := hinfo
    simp [h1, h2, h3, h4]

/-- A word keeps its value in the 72 bits of an object. -/
theorem Main.obj_setObj_same_of_lt (m : Main) (a : Nat) {v : Nat} (hv : v < 2 ^ 36) : (m.setObj a v).obj a = v := by
  rw [Main.obj_setObj_same]; omega

/-- A write that stores one object and answers OK. -/
theorem objsOnly_setObj (s : State) (a v sess b : Nat) :
    ObjsOnly s { s with main := (s.start.setObj a v).reply sess b 0 } [a] := by
  refine ⟨by rw [Main.reply_ok_frame]; rfl, fun c hc => ?_⟩
  exact (Main.obj_reply_ok _ _ _ _).trans (Main.objs_keep _ _ _ _ (by simpa using hc))

/-! ### STOP and the profile objects -/

theorem plainObj_stop (i : InstId) : plainObj (instAddr i O.STOP) = true := by revert i; decide +kernel

theorem plainObj_profile (i : InstId) (k : Fin 5) : plainObj (instAddr i (profileObjs.getD k.val O.TARGET_POS)) = true := by
  revert i k; decide +kernel

theorem not_chainObj_profile (i : InstId) (k : Fin 5) :
    chainObj (instAddr i (profileObjs.getD k.val O.TARGET_POS)) = false := by revert i k; decide +kernel

theorem not_chainObj_stop (i : InstId) : chainObj (instAddr i O.STOP) = false := by revert i; decide +kernel

section
variable {m : Main} {sess i : Nat} {w : Word} {key : Option Key}

theorem Main.instEffect_stop : m.instEffect sess i w O.STOP key = (m.store1 (instAddr i O.STOP) w.toNat).ok := by
  have hrange : ¬(O.PROFILE_VEL ≤ O.STOP ∧ O.STOP ≤ O.BLEND_SHAPE) := by decide
  simp only [Main.instEffect, if_neg hrange]
  simp

/-- A profile object written while no plan is there (R310). -/
theorem Main.instEffect_profile (hp : (m.i i).motion.plan = none) (k : Fin 5) :
    m.instEffect sess i w (profileObjs.getD k.val O.TARGET_POS) key =
      (m.store1 (instAddr i (profileObjs.getD k.val O.TARGET_POS)) w.toNat).ok := by
  have hstore : ∀ a v, ((m.store1 a v).i i).motion.plan = none := by
    intro a v
    unfold Main.store1
    split
    · exact hp
    · split_ifs <;> exact hp
  have hplan : ∀ a v n, (m.store1 a v).profileChange i n = m.store1 a v := by
    intro a v n
    simp only [Main.profileChange, hstore]
  fin_cases k <;> simp [Main.instEffect, profileObjs, hplan]

end

/-- Settles O15. -/
theorem plainWritesAreStored : Obligations.PlainWritesAreStored := by
  unfold Obligations.PlainWritesAreStored
  refine ⟨fun sess i v s hv h => ?stop, fun sess i obj v s hplan h => ?profile⟩
  case stop =>
    have heffect : s.start.wordEffect sess (instAddr i O.STOP) (wordN v) none =
        (s.start.setObj (instAddr i O.STOP) v).ok := by
      rw [Main.wordEffect_inst i.isLt (by decide) (Main.changesLoad_of_not_chainObj _ (not_chainObj_stop i)),
        Main.instEffect_stop, wordN_toNat_of_lt hv, Main.store1_of_plainObj _ (plainObj_stop i) hv]
    refine completes_of_rowAccepted_ok rfl (wordObj_of_plainObj (plainObj_stop i)) h heffect ⟨done_reply _ _ _ _,
      objsOnly_setObj _ _ _ _ _, ?_⟩
    exact (Main.obj_reply_ok _ _ _ _).trans (Main.obj_setObj_same_of_lt _ _ hv)
  case profile =>
    have hn : profileObjs.getD obj.val O.TARGET_POS < 4096 := by
      clear h; revert obj; decide
    have hv : v.toNat < 2 ^ 36 := v.isLt
    have heffect : s.start.wordEffect sess (instAddr i (profileObjs.getD obj.val O.TARGET_POS)) (wordN v.toNat) none =
        (s.start.setObj (instAddr i (profileObjs.getD obj.val O.TARGET_POS)) v.toNat).ok := by
      rw [Main.wordEffect_inst i.isLt hn (Main.changesLoad_of_not_chainObj _ (not_chainObj_profile i obj)),
        Main.instEffect_profile (m := s.start) hplan, wordN_toNat_of_lt hv, Main.store1_of_plainObj _ (plainObj_profile i obj) hv]
    refine completes_of_rowAccepted_ok rfl (wordObj_of_plainObj (plainObj_profile i obj)) h heffect ⟨done_reply _ _ _ _,
      objsOnly_setObj _ _ _ _ _, ?_⟩
    exact (Main.obj_reply_ok _ _ _ _).trans (Main.obj_setObj_same_of_lt _ _ hv)

end Sys2Proof.Machine
end

section
/-! Rows of lanes and ports, of time and reset, and of field channels (R263-R280, R176-R178, R485-R508, R431-R440). -/

namespace Sys2Proof.Machine

/-! ### The objects of these rows -/

theorem wordObj_pw (a : Ax) : wordObj (pwAddr a O.PW_OPMODE) = true ∧ wordObj (pwAddr a O.PW_SH_COMMIT) = true := by
  revert a; decide +kernel
theorem wordObj_fb (p : Ax) : wordObj (fbAddr p O.FB_MODE) = true ∧ wordObj (fbAddr p O.FB_Z_ARM) = true := by
  revert p; decide +kernel
theorem plainObj_ntSyncMode : plainObj (ntAddr 0 O.NT_SYNC_MODE) = true := by decide +kernel
theorem wordObj_rs : wordObj (rsAddr O.RS_FULL_RESET) = true ∧ wordObj (rsAddr O.RS_UNIT_RESET) = true := by decide +kernel
theorem wordObj_cf : wordObj (cfAddr 0 O.CF_COMMIT) = true ∧ wordObj (cfAddr 0 O.CF_FW_UPDATE) = true ∧
    wordObj (cfAddr 0 O.CF_SECVER_RAISE) = true := by decide +kernel

/-! ### Lanes -/

/-- The effect of a write of an object of a lane, by its number. -/
theorem Main.wordEffect_pwAddr (m : Main) (sess : Nat) (a : Ax) {n : Nat} (hn : n < 4096) (w : Word) :
    m.wordEffect sess (pwAddr a n) w none = (m.laneEffect a w.toNat n).ok := by
  obtain ⟨ha, hi, hnum⟩ := pwAddr_parts (p := a.val) (n := n) (by omega) hn
  rw [Main.wordEffect_lane ha, hi, hnum]

theorem Main.laneEffect_opMode (m : Main) (a v : Nat) : m.laneEffect a v O.PW_OPMODE = m.opMode a v := by
  simp [Main.laneEffect]

/-- R263: PW_OPMODE 1 takes the lane into shadow mode. -/
theorem Main.ln_opMode_one (m : Main) (a : Nat) : ((m.opMode a 1).ln a).shadow = true := by
  simp only [Main.opMode, if_true, Main.ln_setObj]
  split
  next h => exact h
  next => simp [Main.ln_modLn]

/-- Entering shadow mode writes PW_OPMODE and no other object. -/
theorem Main.obj_opMode_one (m : Main) (a b : Nat) :
    (m.opMode a 1).obj b = if b = pwAddr a O.PW_OPMODE then 1 else m.obj b := by
  simp only [Main.opMode, if_true, Main.obj_setObj]
  split_ifs <;> rfl

/-- R266: PW_OPMODE 0 takes the lane out of shadow mode, and notes when. -/
theorem Main.ln_opMode_zero (m : Main) (a : Nat) : (m.opMode a 0).ln a =
    if (m.ln a).shadow then { m.ln a with shadow := false, shEnd := some m.now, shPend := none, pend := none } else m.ln a := by
  simp only [Main.opMode, Main.endShadow, zero_ne_one, if_false, Main.ln_setObj]
  split <;> simp [Main.ln_modLn]

theorem Main.ln_shadowCommit (m : Main) (a b : Nat) : (m.shadowCommit a).ln b = if b = a then
    { m.ln a with shPend := some ⟨m.objW (pwAddr a O.PW_SH_CMP_U), m.objW (pwAddr a O.PW_SH_CMP_V),
        m.objW (pwAddr a O.PW_SH_CMP_W), m.now, m.obj (pwAddr a O.PW_SH_PERIOD)⟩ } else m.ln b :=
  m.ln_modLn a b _

/-! ### Feedback ports -/

theorem Main.wordEffect_fbAddr (m : Main) (sess : Nat) (p : Ax) {n : Nat} (hn : n < 4096) (w : Word) :
    m.wordEffect sess (fbAddr p n) w none = (m.portEffect p w.toNat n).ok := by
  obtain ⟨ha, hi, hnum⟩ := fbAddr_parts (p := p.val) (n := n) (by omega) hn
  rw [Main.wordEffect_port ha, hi, hnum]

/-- R272: a write of FB_MODE notes the mode for the boundary. -/
theorem Main.pt_portEffect_mode (m : Main) (p v q : Nat) : (m.portEffect p v O.FB_MODE).pt q = if q = p then
    { m.pt p with newMode := if v = m.obj (fbAddr p O.FB_MODE) then none else some v } else m.pt q :=
  m.pt_modPt p q (fun x => { x with newMode := if v = m.obj (fbAddr p O.FB_MODE) then none else some v })

/-- R302: a write of FB_MODE clears HOMED. -/
theorem Main.homed_portEffect_mode (m : Main) (p v : Nat) : ((m.portEffect p v O.FB_MODE).i p).core.homed = false :=
  congrArg Core.homed ((Main.core_modC _ p p (fun c => { c with homed := false })).trans (if_pos rfl))

/-- R280: FB_Z_ARM 1 arms the zeroing. -/
theorem Main.portEffect_zArm (m : Main) (p : Nat) :
    m.portEffect p 1 O.FB_Z_ARM = m.modPt p (fun x => { x with zArmed := true }) := by
  simp [Main.portEffect]

/-- R263, R264, R266: PW_OPMODE and PW_SH_COMMIT of a lane. -/
theorem laneRows (sess : Sess) (a : Ax) (s : State) :
    (s.rowAccepted (.pwOpmodeWrite sess a 1) = true → Completes (.pwOpmodeWrite sess a 1) s (fun t => Done s t ∧
      (t.main.ln a).shadow = true ∧ t.main.obj (pwAddr a O.PW_OPMODE) = 1 ∧ ObjsBut s.main t.main [pwAddr a O.PW_OPMODE])) ∧
    (s.rowAccepted (.pwOpmodeWrite sess a 0) = true → Completes (.pwOpmodeWrite sess a 0) s (fun t => Done s t ∧
      (t.main.ln a).shadow = false ∧ t.main.obj (pwAddr a O.PW_OPMODE) = 0 ∧
      ((s.main.ln a).shadow = true → (t.main.ln a).shEnd = some s.main.now ∧ (t.main.ln a).shPend = none))) := by
  refine ⟨fun h => ?shadow, fun h => ?loop⟩
  case shadow =>
    refine completes_of_rowAccepted_ok (m := s.start.opMode a 1) rfl (wordObj_pw a).1 h ?_ ⟨done_reply _ _ _ _, ?_⟩
    · rw [Main.wordEffect_pwAddr _ _ _ (by decide), Main.laneEffect_opMode]; rfl
    · refine ⟨?_, ?_, fun b hb => ?_⟩
      · simp [Main.ln_opMode_one]
      · simp [Main.obj_opMode_one]
      · simp_all [Main.obj_opMode_one]
  case loop =>
    refine completes_of_rowAccepted_ok (m := s.start.opMode a 0) rfl (wordObj_pw a).1 h ?_ ⟨done_reply _ _ _ _, ?_⟩
    · rw [Main.wordEffect_pwAddr _ _ _ (by decide), Main.laneEffect_opMode]; rfl
    · refine ⟨?_, ?_, fun hsh => ?_⟩
      · simp only [Main.ln_reply_ok, Main.ln_opMode_zero]
        split <;> simp_all
      · simp [Main.opMode]
      · simp [Main.ln_opMode_zero, hsh]

/-- R272, R302: FB_MODE of a port. -/
theorem fbModeRow (sess : Sess) (p : Ax) {v : Nat} (s : State) (hv : v < 2 ^ 36)
    (h : s.rowAccepted (.fbModeWrite sess p v) = true) : Completes (.fbModeWrite sess p v) s (fun t => Done s t ∧
      t.main.objs = s.main.objs ∧ (t.main.i p).core.homed = false ∧
      t.main.pt p = { s.main.pt p with newMode := if v = s.main.obj (fbAddr p O.FB_MODE) then none else some v } ∧
      (∀ q, q ≠ p.val → t.main.pt q = s.main.pt q)) := by
  refine completes_of_rowAccepted_ok (m := s.start.portEffect p v O.FB_MODE) rfl (wordObj_fb p).1 h ?_
    ⟨done_reply _ _ _ _, ?_⟩
  · rw [Main.wordEffect_fbAddr _ _ _ (by decide), wordN_toNat_of_lt hv]
  · exact ⟨rfl, by simp [Main.homed_portEffect_mode], by simp [Main.pt_portEffect_mode]; rfl,
      fun q hq => by simp [Main.pt_portEffect_mode, hq]⟩

/-- Settles O19. -/
theorem laneAndPortRows : Obligations.LaneAndPortRows := by
  unfold Obligations.LaneAndPortRows
  refine ⟨fun sess a s => ⟨(laneRows sess a s).1, (laneRows sess a s).2, fun h => ?commit⟩,
    fun sess p v s hv => ⟨fun h => fbModeRow sess p s hv h, fun h => ?arm⟩⟩
  case commit =>
    refine completes_of_rowAccepted_ok (m := s.start.shadowCommit a) rfl (wordObj_pw a).2 h ?_ ⟨done_reply _ _ _ _, ?_⟩
    · rw [Main.wordEffect_pwAddr _ _ _ (by decide)]; rfl
    · exact ⟨rfl, fun b hb => by simp [Main.ln_shadowCommit, hb], by simp [Main.ln_shadowCommit]⟩
  case arm =>
    refine completes_of_rowAccepted_ok (m := s.start.modPt p (fun x => { x with zArmed := true })) rfl (wordObj_fb p).2 h ?_
      ⟨done_reply _ _ _ _, rfl, ?_, fun q hq => ?_⟩
    · rw [Main.wordEffect_fbAddr _ _ _ (by decide), wordN_toNat_of_lt (by decide), Main.portEffect_zArm]
    · simp [Main.pt_modPt]
    · simp [Main.pt_modPt, hq]

end Sys2Proof.Machine
end

section
/-! Starts of long operations (R97, R33): an accepted start takes an entry of the token table, so that DV_TOKENS_PEAK can
grow with it. -/

namespace Sys2Proof.Machine

/-- A module in RUN with its time base running, in which S0 is open in service mode and owns every domain; changed by `f`. -/
def State.inService (f : Main → Main) : State :=
  { main := f { Main.reset with
      locked := true
      sup := { Main.reset.sup with boot := .run, bypass := false }
      tb := { running := true, acc := 40000000 * 2 ^ 30, slotDue := 40040000 }
      owner := (List.range 155).map (fun d => (d, 1))
      sess := [(0, { isOpen := true, service := true })] } }

/-- The state that a command leaves; the state as it was where it answers none. -/
def State.after (s : State) (c : Instr) : State :=
  match exec c s with
  | .next t => t
  | _ => s

theorem State.after_eq {s t : State} {c : Instr} (h : exec c s = .next t) : s.after c = t := by
  rw [State.after, h]

/-- Of a command that completes, what is claimed holds of the state it leaves. -/
theorem Completes.after {c : Instr} {s : State} {P : State → Prop} (h : Completes c s P) : P (s.after c) := by
  obtain ⟨t, ht, hP⟩ := h
  rwa [State.after_eq ht]

/-- A self-test started on a module with no token in use: DV_TOKENS_PEAK goes from 0 to 1. -/
theorem selftest_start_grows_peak : (State.inService id).rowAccepted (.dvSelftest 0 1) = true ∧
    (State.inService id).main.obj O.DV_TOKENS_PEAK = 0 ∧
    ((State.inService id).after (.dvSelftest 0 1)).main.obj O.DV_TOKENS_PEAK = 1 := by
  decide +kernel

/-- Refutes O21: a start writes DV_TOKENS_PEAK where the operation's token is one more than were ever in use (R33), so that
the objects do not stay as they were. -/
theorem not_startWritesStartTheirOperation : ¬ Obligations.StartWritesStartTheirOperation := by
  unfold Obligations.StartWritesStartTheirOperation
  rintro ⟨h, -⟩
  obtain ⟨hacc, hbefore, hafter⟩ := selftest_start_grows_peak
  obtain ⟨-, -, hself, -⟩ := h 0 0 0 (State.inService id) (by decide)
  obtain ⟨-, hframe, -⟩ := (hself hacc).after
  have hobjs : ((State.inService id).after (.dvSelftest 0 1)).main.objs = (State.inService id).main.objs :=
    congrArg (fun t => t.main.objs) hframe
  have hpeak : ((State.inService id).after (.dvSelftest 0 1)).main.obj O.DV_TOKENS_PEAK =
      (State.inService id).main.obj O.DV_TOKENS_PEAK := by rw [Main.obj, hobjs, Main.obj]
  omega

end Sys2Proof.Machine
end

section
/-! Rows of time, reset and security (R176-R178, R485-R508). -/

namespace Sys2Proof.Machine

/-! ### Time -/

/-- A row command that writes an EXT72 object and is accepted. -/
theorem exec_ntTimeSet_of_rowAccepted {sess : Sess} {e : BitVec 72} {s : State}
    (h : s.rowAccepted (.ntTimeSet sess e) = true) : exec (.ntTimeSet sess e) s =
      .next { s with main := (s.start.timeSet e.toNat).reply sess (ntAddr 0 O.NT_TIME_SET) 0 } := by
  obtain ⟨r, hr, hacc⟩ := (s.rowAccepted_iff _).1 h
  cases hr
  obtain ⟨o, d, hi, hp, -, hwrite⟩ := Main.writeNow_of_accepts hacc
  have ho : info? (ntAddr 0 O.NT_TIME_SET) = some o := hi
  have hext : (info? (ntAddr 0 O.NT_TIME_SET)).map (·.ty) = some .ext := by decide +kernel
  rw [ho, Option.map_some, Option.some.injEq] at hext
  have hlen : (bytesOfWords [wordN (e.toNat / 2 ^ 36), wordN e.toNat]).length = 9 := by simp [length_bytesOfWords]
  have hd : d = { words := [wordN (e.toNat / 2 ^ 36), wordN e.toNat] } := by simp_all [parseWrite]
  have hvalue : d.value = e.toNat := by
    have he : e.toNat < 2 ^ 72 := e.isLt
    simp only [hd, WData.value, List.foldl_cons, List.foldl_nil, wordN_toNat]
    omega
  have heffect : s.start.writeEffect sess (ntAddr 0 O.NT_TIME_SET) d none = (s.start.timeSet e.toNat).ok := by
    rw [Main.writeEffect, ho]
    simp only [hext, hvalue]
    rw [if_pos (by decide)]
  have hexec := exec_of_rowWrite (c := .ntTimeSet sess e) (s := s) rfl
  rw [hexec, hwrite]
  change Host.Outcome.next { s with main := (Main.finish (s.start.writeEffect sess (ntAddr 0 O.NT_TIME_SET) d none) sess
    (ntAddr 0 O.NT_TIME_SET)).pendingShown } = _
  rw [heffect]
  rfl

/-- R178: NT_SYNC_MODE changed. -/
theorem Main.ntEffect_syncMode {m : Main} {v : Nat} (hv : v < 2) (h : m.obj (ntAddr 0 O.NT_SYNC_MODE) ≠ v) :
    (m.ntEffect v O.NT_SYNC_MODE).tb =
      { m.tb with inc := if v = 1 then m.objW (ntAddr 0 O.NT_INC_MANUAL) else 0xA00000000 } ∧
    ∀ b, (m.ntEffect v O.NT_SYNC_MODE).obj b = if b = ntAddr 0 O.NT_SYNC_STATE then 0
      else if b = ntAddr 0 O.NT_SYNC_MODE then v else m.obj b := by
  have hobj : ∀ b, (m.ntEffect v O.NT_SYNC_MODE).obj b =
      ((m.setObj (ntAddr 0 O.NT_SYNC_MODE) v).setObj (ntAddr 0 O.NT_SYNC_STATE) 0).obj b := by
    intro b
    simp only [Main.ntEffect, if_true, if_neg (Ne.symm h), Main.store1_of_plainObj _ plainObj_ntSyncMode (v := v) (by omega)]
    split <;> rfl
  refine ⟨?_, fun b => ?_⟩
  · simp only [Main.ntEffect, if_true, if_neg (Ne.symm h), Main.store1_of_plainObj _ plainObj_ntSyncMode (v := v) (by omega)]
    have hmanual : ((m.setObj (ntAddr 0 O.NT_SYNC_MODE) v).setObj (ntAddr 0 O.NT_SYNC_STATE) 0).obj (ntAddr 0 O.NT_INC_MANUAL) =
        m.obj (ntAddr 0 O.NT_INC_MANUAL) := by
      rw [Main.objs_keep _ _ _ _ (by decide), Main.objs_keep _ _ _ _ (by decide)]
    split
    · exact congrArg (fun n => { m.tb with inc := BitVec.ofNat 36 n }) hmanual
    · rfl
  · rw [hobj, Main.obj_setObj, Main.obj_setObj, Nat.mod_eq_of_lt (by omega : v < 2 ^ 72)]
    rfl

/-! ### Reset and security -/

/-- R489: a request for a unit whose mitten is open. -/
theorem Main.unitRequest_of_open {m : Main} {code : Nat} (h : mget 0 m.sup.mittens code = 0) (hc : code < 2 ^ 36) :
    (∀ u, mget 0 (m.unitRequest code).sup.mittens u = if u = code then 1 else mget 0 m.sup.mittens u) ∧
    mget 0 (m.unitRequest code).sup.mittenT code = slotStart m.now + unitsPerSlot ∧
    ∀ b, (m.unitRequest code).obj b = if b = rsAddr O.RS_UNIT_COUNT then (m.obj b + 1) % 2 ^ 36
      else if b = rsAddr O.RS_UNIT_LAST then code else m.obj b := by
  have hne : rsAddr O.RS_UNIT_COUNT ≠ rsAddr O.RS_UNIT_LAST := by decide
  unfold Main.unitRequest
  rw [if_neg (not_not.2 h)]
  refine ⟨fun u => mget_mplace 0 m.sup.mittens code u 1, mget_mset_same 0 m.sup.mittenT code (slotStart m.now + unitsPerSlot), fun b => ?_⟩
  rw [Main.inc, Main.obj_setObj]
  split
  next hb =>
    subst hb
    rw [Main.objs_keep _ _ _ _ hne, Nat.mod_eq_of_lt (by omega)]
    rfl
  next =>
    rw [Main.obj_setObj, Nat.mod_eq_of_lt (by omega : code < 2 ^ 72)]
    rfl

/-- Settles O22. -/
theorem timeResetAndSecurityRows : Obligations.TimeResetAndSecurityRows := by
  unfold Obligations.TimeResetAndSecurityRows
  refine ⟨fun sess e s => ⟨fun h => ?timeSet, fun v h hmode => ?syncMode⟩,
    fun sess v s hv => ⟨fun h => ?full, fun h hopen => ?unit, fun h => ?security⟩⟩
  case timeSet => exact ⟨_, exec_ntTimeSet_of_rowAccepted h, done_reply _ _ _ _, rfl⟩
  case syncMode =>
    have hvlt : v.val < 2 := v.isLt
    obtain ⟨htb, hobj⟩ := Main.ntEffect_syncMode (m := s.start) hvlt hmode
    refine completes_of_rowAccepted_ok (m := s.start.ntEffect v O.NT_SYNC_MODE) rfl
      (wordObj_of_plainObj plainObj_ntSyncMode) h ?_ ⟨done_reply _ _ _ _, ?_, ?_, ?_, fun b hb => ?_⟩
    · rw [Main.wordEffect_nt (by decide), wordN_toNat_of_lt (by omega)]; rfl
    · rw [Main.obj_reply_ok, hobj, if_neg (by decide), if_pos rfl]
    · rw [Main.obj_reply_ok, hobj, if_pos rfl]
    · exact htb
    · simp only [List.mem_cons, List.not_mem_nil, or_false, not_or] at hb
      rw [Main.obj_reply_ok, hobj, if_neg hb.2, if_neg hb.1]
      rfl
  case full =>
    refine completes_of_rowAccepted_ok rfl wordObj_rs.1 h (Main.wordEffect_rs (by decide)) ⟨done_reply _ _ _ _, rfl⟩
  case unit =>
    obtain ⟨hmittens, htime, hobj⟩ := Main.unitRequest_of_open (m := s.start) hopen hv
    refine completes_of_rowAccepted_ok (m := s.start.unitRequest v) rfl wordObj_rs.2 h ?_
      ⟨done_reply _ _ _ _, ?_, htime, fun u hu => ?_, ?_, ?_, fun b hb => ?_⟩
    · rw [Main.wordEffect_rs (by decide), wordN_toNat_of_lt hv]; rfl
    · exact (hmittens v).trans (if_pos rfl)
    · exact (hmittens u).trans (if_neg hu)
    · rw [Main.obj_reply_ok, hobj, if_neg (by decide), if_pos rfl]
    · rw [Main.obj_reply_ok, hobj, if_pos rfl]; rfl
    · simp only [List.mem_cons, List.not_mem_nil, or_false, not_or] at hb
      rw [Main.obj_reply_ok, hobj, if_neg hb.2, if_neg hb.1]
      rfl
  case security =>
    refine completes_of_rowAccepted_ok (m := { s.start with sup := { s.start.sup with secVer := v } }) rfl wordObj_cf.2.2 h
      ?_ ⟨done_reply _ _ _ _, rfl⟩
    rw [Main.wordEffect_cf (by decide), wordN_toNat_of_lt hv]
    rfl

end Sys2Proof.Machine
end

section
/-! The input time constants (R431): EV_IN_CORR is the midpoint as far as 72 bits hold it. -/

namespace Sys2Proof.Machine

/-- A module whose IO_IN_FILT of channel 0 holds more than its 8 bits, a value that the midpoint of R431 does not fit with. -/
def State.filterTooLong : State := .inService (fun m => m.setObj (ioAddr 0 O.IO_IN_FILT) (2 ^ 70))

/-- IO_IN_TYPE is written there, and EV_IN_CORR takes the midpoint modulo 2^72. -/
theorem inputType_written_with_filter_too_long : State.filterTooLong.rowAccepted (.ioInputConfigWrite 0 0 false 1) = true ∧
    (State.filterTooLong.after (.ioInputConfigWrite 0 0 false 1)).main.obj (evAddr 0 (O.EV_IN_CORR + 16 + 0)) < 2 ^ 72 ∧
    (State.filterTooLong.after (.ioInputConfigWrite 0 0 false 1)).main.obj (ioAddr 0 O.IO_IN_FILT) = 2 ^ 70 := by
  decide +kernel

/-- Refutes O25: the statement asks for the midpoint itself in every state, and in one whose IO_IN_FILT is 2^70 the midpoint
is beyond what an object holds. -/
theorem not_fieldChannelRows : ¬ Obligations.FieldChannelRows := by
  unfold Obligations.FieldChannelRows
  intro h
  obtain ⟨hacc, hlt, hfilt⟩ := inputType_written_with_filter_too_long
  obtain ⟨-, -, -, hconfig⟩ := h 0 0 State.filterTooLong
  obtain ⟨-, -, -, hmid⟩ := (hconfig false 1 (by decide) hacc).after
  have hlt' := hmid ▸ hlt
  have hfilt' : (State.filterTooLong.after (.ioInputConfigWrite 0 0 false 1)).main.obj (ioAddr ((0 : Fin 32) : Nat) O.IO_IN_FILT) =
      2 ^ 70 := hfilt
  rw [hfilt'] at hlt'
  omega

end Sys2Proof.Machine
end

section
/-! Acquisition commands and instants (R410-R421), and the start of a peripheral transfer (R528). -/

namespace Sys2Proof.Machine

/-! ### What recording leaves as it was -/

/-- What the writing of records of unit `u` leaves as it was: the unit's state and arm time, the other units, and AQ_ARM_TIME. -/
structure Main.Recorded (u : Nat) (m n : Main) : Prop where
  st : (n.aqu u).st = (m.aqu u).st
  armT : (n.aqu u).armT = (m.aqu u).armT
  others : ∀ k, k ≠ u → n.aqu k = m.aqu k
  armObj : n.obj (aqAddr u O.AQ_ARM_TIME) = m.obj (aqAddr u O.AQ_ARM_TIME)

theorem aqAddr_ne {u k l : Nat} (h : k ≠ l) : aqAddr u k ≠ aqAddr u l := fun e => h (Nat.add_left_cancel e)

section
variable {u : Nat} {m n k : Main}

theorem Main.Recorded.refl (u : Nat) (m : Main) : Main.Recorded u m m := ⟨rfl, rfl, fun _ _ => rfl, rfl⟩

theorem Main.Recorded.trans (h : Main.Recorded u m n) (h' : Main.Recorded u n k) : Main.Recorded u m k :=
  ⟨h'.st.trans h.st, h'.armT.trans h.armT, fun j hj => (h'.others j hj).trans (h.others j hj), h'.armObj.trans h.armObj⟩

/-- A change of the unit that keeps its state and arm time. -/
theorem Main.Recorded.modAq (m : Main) {f : AqUnit → AqUnit} (hst : (f (m.aqu u)).st = (m.aqu u).st)
    (ht : (f (m.aqu u)).armT = (m.aqu u).armT) : Main.Recorded u m (m.modAq u f) := by
  refine ⟨?_, ?_, fun j hj => ?_, rfl⟩
  · rw [Main.aqu_modAq, if_pos rfl, hst]
  · rw [Main.aqu_modAq, if_pos rfl, ht]
  · rw [Main.aqu_modAq, if_neg hj]

/-- A write of another object of the unit. -/
theorem Main.Recorded.setObj (m : Main) {c : Nat} (v : Nat) (h : O.AQ_ARM_TIME ≠ c) :
    Main.Recorded u m (m.setObj (aqAddr u c) v) :=
  ⟨rfl, rfl, fun _ _ => rfl, Main.objs_keep _ _ _ _ (aqAddr_ne h)⟩

theorem Main.Recorded.aqPush (m : Main) (r : AqRec) : Main.Recorded u m (m.aqPush u r) := by
  unfold Main.aqPush
  split
  · exact .modAq m rfl rfl
  · exact (Main.Recorded.modAq m rfl rfl).trans (.setObj _ _ (by decide))

theorem Main.Recorded.aqPut (m : Main) (kind ch tag : Nat) (w : Word) : Main.Recorded u m (m.aqPut u kind ch tag w) := by
  unfold Main.aqPut
  dsimp only
  split
  · exact ((Main.Recorded.aqPush m _).trans (.modAq _ rfl rfl)).trans (.aqPush _ _)
  · exact .aqPush m _

/-- R421: an overwritten record changes the tail values only. -/
@[simp] theorem AqUnit.st_overwrite (x : AqUnit) (r : AqRec) : (x.overwrite r).st = x.st := by
  unfold AqUnit.overwrite; split <;> rfl
@[simp] theorem AqUnit.armT_overwrite (x : AqUnit) (r : AqRec) : (x.overwrite r).armT = x.armT := by
  unfold AqUnit.overwrite; split <;> rfl

theorem Main.Recorded.aqStore (m : Main) (r : AqRec) : Main.Recorded u m (m.aqStore u r) := by
  unfold Main.aqStore
  refine (Main.Recorded.setObj (c := O.AQ_FILL) m (min (m.obj (aqAddr u O.AQ_FILL) + 1) (2 ^ 36 - 1)) (by decide)).trans ?_
  dsimp only
  split
  · refine .modAq _ ?_ ?_ <;>
    · split
      · split <;> simp
      · rfl
  · split
    · exact (Main.Recorded.modAq _ rfl rfl).trans (.setObj _ _ (by decide))
    · exact .refl u _
  · exact .refl u _

/-- What each step of a fold records, the whole records. -/
theorem Main.Recorded.foldl {α : Type} (f : Main → α → Main) (hf : ∀ m x, Main.Recorded u m (f m x)) (l : List α) (m : Main) :
    Main.Recorded u m (l.foldl f m) := by
  induction l generalizing m with
  | nil => exact .refl u m
  | cons x l ih => exact (hf m x).trans (ih _)

theorem Main.Recorded.aqDrain (m : Main) : Main.Recorded u m (m.aqDrain u) :=
  (Main.Recorded.modAq m rfl rfl).trans (.foldl _ (fun m r => .aqStore m r) _ _)

theorem Main.Recorded.aqFlush (m : Main) : Main.Recorded u m (m.aqFlush u) := by
  unfold Main.aqFlush
  refine (Main.Recorded.aqDrain m).trans ?_
  dsimp only
  split
  · exact .refl u _
  · exact (((Main.Recorded.modAq _ rfl rfl).trans (.aqPut _ _ _ _ _)).trans (.aqDrain _)).trans (.setObj _ _ (by decide))

end

/-- R414: at its arm instant a unit goes to PRE, with the boundary as its arm time. -/
theorem Main.aqArmNow_spec (m : Main) (u t : Nat) : ((m.aqArmNow u t).aqu u).st = 2 ∧ ((m.aqArmNow u t).aqu u).armT = t ∧
    (m.aqArmNow u t).obj (aqAddr u O.AQ_ARM_TIME) = t % 2 ^ 72 ∧ ∀ k, k ≠ u → (m.aqArmNow u t).aqu k = m.aqu k := by
  let m1 := (m.modAq u (fun x => { st := 2, armT := t, causes := x.causes })).setObj (aqAddr u O.AQ_ARM_TIME) t
  have hst : (m1.aqu u) = { st := 2, armT := t, causes := (m.aqu u).causes } := by
    simp [m1, Main.aqu_modAq]
  have hothers : ∀ k, k ≠ u → m1.aqu k = m.aqu k := fun k hk => by simp [m1, Main.aqu_modAq, hk]
  have hobj : m1.obj (aqAddr u O.AQ_ARM_TIME) = t % 2 ^ 72 := Main.obj_setObj_same _ _ _
  have hrec : Main.Recorded u m1 (m.aqArmNow u t) := by
    refine Main.Recorded.trans ?_ (.aqFlush _)
    refine Main.Recorded.trans ?_ (.foldl _ (fun m c => ?_) _ _)
    · exact (((Main.Recorded.setObj m1 0 (by decide)).trans (.setObj _ 0 (by decide))).trans (.aqPush _ _)).trans
        (.modAq _ rfl rfl)
    · split
      · exact (Main.Recorded.aqPut m _ _ _ _).trans (.modAq _ rfl rfl)
      · exact .refl u m
  refine ⟨?_, ?_, hrec.armObj.trans hobj, fun k hk => (hrec.others k hk).trans (hothers k hk)⟩
  · rw [hrec.st, hst]
  · rw [hrec.armT, hst]

/-! ### Commands of a unit -/

theorem wordObj_aqCmd (u : Fin 8) : wordObj (aqAddr u O.AQ_CMD) = true := by revert u; decide +kernel

theorem Main.wordEffect_aqCmd (m : Main) (sess : Nat) (u : Fin 8) {v : Nat} (hv : v < 2 ^ 36) :
    m.wordEffect sess (aqAddr u O.AQ_CMD) (wordN v) none = (m.aqCommand u v).ok := by
  obtain ⟨ha, hi, hn⟩ := aqAddr_parts (p := u.val) (n := O.AQ_CMD) (by omega) (by decide)
  rw [Main.wordEffect_aq ha, hi, hn, wordN_toNat_of_lt hv]
  rfl

/-- An accepted command of a unit changes it and no other. -/
theorem completes_aqCmd {c : Instr} {sess : Sess} {u : Fin 8} {v : Nat} {s : State} (f : AqUnit → AqUnit) (hv : v < 2 ^ 36)
    (hrow : s.start.rowWrite c = some (.word sess (aqAddr u O.AQ_CMD) v)) (h : s.rowAccepted c = true)
    (hf : s.start.aqCommand u v = s.start.modAq u f) : Completes c s (fun t => Done s t ∧
      t = { s with main := { s.main with out := t.main.out, aq := t.main.aq } } ∧
      (∀ k, k ≠ u.val → t.main.aqu k = s.main.aqu k) ∧ t.main.aqu u = f (s.main.aqu u)) := by
  refine completes_of_rowAccepted_ok (m := s.start.modAq u f) hrow (wordObj_aqCmd u) h ?_
    ⟨done_reply _ _ _ _, rfl, fun k hk => ?_, ?_⟩
  · rw [Main.wordEffect_aqCmd _ _ _ hv, hf]
  · simp [Main.aqu_modAq, hk]
  · simp [Main.aqu_modAq]

theorem Main.aqCommand_trigger (m : Main) (u : Nat) : m.aqCommand u 2 =
    m.modAq u (fun x => { x with causes := x.causes ++ [{ cause := 5, t := m.tb.slotDue }] }) := by
  simp [Main.aqCommand, Main.aqCause]

/-! ### Transfers -/

/-- A transfer that is accepted starts with its bytes and is not answered yet. -/
theorem exec_psXfer_of_rowAccepted {sess : Sess} {n : Fin 2} {b : List Byte} {s : State}
    (h : s.rowAccepted (.psXfer sess n b) = true) : exec (.psXfer sess n b) s =
      .next { s with main := (s.start.xferStart n b (noKey sess)).1.pendingShown } := by
  obtain ⟨r, hr, hacc⟩ := (s.rowAccepted_iff _).1 h
  cases hr
  obtain ⟨o, d, hi, hp, -, hwrite⟩ := Main.writeNow_of_accepts hacc
  have ho : info? (psAddr n O.PSn_XFER) = some o := hi
  have hobj : ∀ n : Fin 2, (info? (psAddr n O.PSn_XFER)).map (·.ty) = some .domain ∧
      byteDomain (psAddr n O.PSn_XFER) = true ∧ psAddr n O.PSn_XFER ≠ evAddr 0 O.EV_QUEUE ∧
      psAddr n O.PSn_XFER ≠ evAddr 0 O.EV_TPL ∧ psAddr n O.PSn_XFER ≠ cmAddr 0 O.CM_MEM ∧
      areaOf (psAddr n O.PSn_XFER) ≠ 11 ∧ psAddr n O.PSn_XFER ≠ cfAddr 0 O.CF_CFG_STAGE ∧
      psAddr n O.PSn_XFER ≠ cfAddr 0 O.CF_FW_STAGE ∧ (psOf (numOf (psAddr n O.PSn_XFER))).map (·.1) = some n.val := by
    decide +kernel
  obtain ⟨hdomain, hbytes, h1, h2, h3, h4, h5, h6, hps⟩ := hobj n
  rw [ho, Option.map_some, Option.some.injEq] at hdomain
  have hd : d.bytes = b := by
    simp only [parseWrite, hdomain, hbytes, Bool.false_and, if_true] at hp
    simp only [Bool.false_eq_true, if_false, Option.ite_none_right_eq_some, Option.some.injEq] at hp
    rw [← hp.2]
  have heffect : s.start.writeEffect sess (psAddr n O.PSn_XFER) d none = s.start.xferStart n b (noKey sess) := by
    rw [Main.writeEffect, ho]
    simp only [hdomain, Main.domainEffect, if_neg h1, if_neg h2, if_neg h3, if_neg h4, if_neg h5, if_neg h6, hd]
    cases hq : psOf (numOf (psAddr n O.PSn_XFER)) with
    | none => simp [hq] at hps
    | some q =>
      have hqn : q.1 = n.val := by simpa [hq] using hps
      simp only [hqn]
      rfl
  rw [exec_of_rowWrite (c := .psXfer sess n b) (s := s) rfl, hwrite]
  change Host.Outcome.next { s with main := (Main.finish (s.start.writeEffect sess (psAddr n O.PSn_XFER) d none) sess
    (psAddr n O.PSn_XFER)).pendingShown } = _
  rw [heffect]
  rfl

/-! ### Instants of a unit -/

theorem exec_aqArmInstant (u : Fin 8) (s : State) : exec (.aqArmInstant u) s = .next { s with
    main := if (s.main.aqu u).st = 1 ∧ (s.main.aqu u).cmdT < slotStart s.main.now then s.start.aqArmNow u (slotStart s.main.now)
    else s.start } := rfl

theorem exec_aqPostTimeout_of_over {u : Fin 8} {s : State} (hst : (s.main.aqu u).st = 3)
    (ht : s.main.obj (aqAddr u O.AQ_POST_T) ≠ 0)
    (hover : (s.main.aqu u).trigT + s.main.obj (aqAddr u O.AQ_POST_T) * unitsPerMs ≤ s.main.now) :
    exec (.aqPostTimeout u) s = .next { s with main := (s.start.aqFlag u 1).modAq u (fun x => { x with st := 4 }) } := by
  have hexec : exec (.aqPostTimeout u) s = .next { s with
      main := if (s.main.aqu u).st = 3 ∧ s.main.obj (aqAddr u O.AQ_POST_T) ≠ 0 ∧
        (s.main.aqu u).trigT + s.main.obj (aqAddr u O.AQ_POST_T) * unitsPerMs ≤ s.main.now then
        (s.start.aqFlag u 1).modAq u (fun x => { x with st := 4 }) else s.start } := rfl
  rw [hexec, if_pos ⟨hst, ht, hover⟩]

theorem Main.obj_lt (m : Main) (a : Nat) : m.obj a < 2 ^ 72 := BitVec.isLt _

theorem Main.obj_orObj_same (m : Main) (a : Nat) {v : Nat} (hv : v < 2 ^ 72) : (m.orObj a v).obj a = m.obj a ||| v := by
  rw [Main.orObj, Main.obj_setObj_same, Nat.mod_eq_of_lt (Nat.or_lt_two_pow (m.obj_lt a) hv)]

/-- Settles O24. -/
theorem acquisitionAndTransferRows : Obligations.AcquisitionAndTransferRows := by
  unfold Obligations.AcquisitionAndTransferRows
  refine ⟨fun sess u s c hc h => ?command, fun u s => ⟨fun hst hnot => ?early, fun hst hdue => ?armed,
    fun hst ht hover => ?timeout⟩, fun sess n b s h => ?transfer⟩
  case command =>
    rcases hc with rfl | rfl | rfl
    · obtain ⟨t, ht, hdone, hframe, hothers, hu⟩ := completes_aqCmd _ (by decide) rfl h rfl
      exact ⟨t, ht, hdone, hframe, hothers, fun _ => hu, nofun, nofun⟩
    · obtain ⟨t, ht, hdone, hframe, hothers, hu⟩ := completes_aqCmd _ (by decide) rfl h (s.start.aqCommand_trigger u)
      exact ⟨t, ht, hdone, hframe, hothers, nofun, fun _ => hu, nofun⟩
    · obtain ⟨t, ht, hdone, hframe, hothers, hu⟩ := completes_aqCmd _ (by decide) rfl h rfl
      exact ⟨t, ht, hdone, hframe, hothers, nofun, nofun, fun _ => hu⟩
  case early =>
    refine ⟨_, exec_aqArmInstant u s, ?_⟩
    rw [if_neg (by omega)]
    rfl
  case armed =>
    refine ⟨_, exec_aqArmInstant u s, ?_⟩
    rw [if_pos ⟨hst, hdue⟩]
    exact s.start.aqArmNow_spec u _
  case timeout =>
    refine ⟨_, exec_aqPostTimeout_of_over hst ht hover, ?_, ?_, fun b hb => ?_, fun k hk => ?_⟩
    · exact ((s.start.aqFlag u 1).aqu_modAq u u _).trans (if_pos rfl)
    · have hflags : ((s.start.aqFlag u 1).obj (aqAddr u O.AQ_FLAGS)).testBit 1 = true := by
        rw [Main.aqFlag, Main.obj_orObj_same _ _ (by decide)]
        simp [show Nat.testBit 2 1 = true from rfl]
      exact hflags
    · exact Main.objs_keep s.start _ _ b (by simpa using hb)
    · exact ((s.start.aqFlag u 1).aqu_modAq u k _).trans (if_neg hk)
  case transfer =>
    refine ⟨_, exec_psXfer_of_rowAccepted h, rfl, rfl, ?_⟩
    have hps : ∀ k, (s.start.xferStart n b (noKey sess)).1.psm k = if k = n.val then
        { busy := true, tx := b, rx := [], key := some (noKey sess), startT := s.start.now } else s.main.psm k :=
      fun k => s.start.psm_modPs n k _
    have hshown : ∀ k, (s.start.xferStart n b (noKey sess)).1.pendingShown.psm k =
        (s.start.xferStart n b (noKey sess)).1.psm k := fun k => rfl
    refine ⟨?_, ?_, ?_, fun k hk => ?_⟩
    · simp [hshown, hps]
    · simp [hshown, hps]
    · simp [hshown, hps]
    · simp [hshown, hps, hk]

end Sys2Proof.Machine
end

section
/-! Rows of the event and action unit (R379, R387-R392, R401, R402). -/

namespace Sys2Proof.Machine

/-! ### Writes of words at an offset -/

/-- The data of a write of words at an offset, to an object of word data. -/
theorem parseWrite_words {a : Nat} {o : ObjInfo} {d : WData} {off : Nat} {ws : List Word} (ho : o.ty = .domain)
    (hb : byteDomain a = false) (hoff : off < 2 ^ 36)
    (hp : parseWrite a o true (bytesOfWords (wordN off :: ws)) = some d) :
    d = { offset := off, words := ws } ∧ (a = evAddr 0 O.EV_TPL → ws.length % 8 = 0) := by
  simp only [parseWrite, ho, hb, wordsOfBytes_bytesOfWords, List.headD_cons, List.tail_cons, wordN_toNat_of_lt hoff,
    if_true, Bool.false_eq_true, if_false] at hp
  split_ifs at hp with h1 h2 h3 h4 h5 h6
  have hd := Option.some.inj hp
  refine ⟨hd.symm, fun ha => ?_⟩
  by_contra hne
  exact h6 ⟨ha, .inr hne⟩

/-- A row command that writes words at an offset and is accepted takes the effect of its domain and answers. -/
theorem exec_of_rowAccepted_words {c : Instr} {s : State} {sess a off : Nat} {ws : List Word}
    (hrow : s.start.rowWrite c = some (.words sess a off ws)) (ho : (info? a).map (·.ty) = some .domain)
    (hb : byteDomain a = false) (hoff : off < 2 ^ 36) (h : s.rowAccepted c = true) :
    (a = evAddr 0 O.EV_TPL → ws.length % 8 = 0) ∧ exec c s = .next { s with main :=
      (Main.finish (s.start.domainEffect sess a { offset := off, words := ws } none) sess a).pendingShown } := by
  obtain ⟨r, hr, hacc⟩ := (s.rowAccepted_iff c).1 h
  obtain rfl : r = .words sess a off ws := Option.some.inj (hr.symm.trans hrow)
  obtain ⟨o, d, hi, hp, -, hwrite⟩ := Main.writeNow_of_accepts hacc
  have hi : info? a = some o := hi
  rw [hi, Option.map_some, Option.some.injEq] at ho
  obtain ⟨rfl, hlen⟩ := parseWrite_words ho hb hoff hp
  have heffect : s.start.writeEffect sess a { offset := off, words := ws } none =
      s.start.domainEffect sess a { offset := off, words := ws } none := by
    rw [Main.writeEffect, hi]
    simp only [ho]
  refine ⟨hlen, ?_⟩
  rw [exec_of_rowWrite hrow, hwrite]
  exact congrArg (fun e => Host.Outcome.next { s with main := (Main.finish e sess a).pendingShown }) heffect

theorem info_evQueue : (info? (evAddr 0 O.EV_QUEUE)).map (·.ty) = some .domain := by decide +kernel
theorem info_evTpl : (info? (evAddr 0 O.EV_TPL)).map (·.ty) = some .domain := by decide +kernel

/-! ### Words placed in sparse data -/

/-- Words placed from an offset, read back. -/
theorem mget_putWords (d : Map Word) (off : Nat) (ws : List Word) (j : Nat) : mget 0 (putWords d off ws) j =
    if off ≤ j ∧ j < off + ws.length then ws.getD (j - off) 0 else mget 0 d j := by
  have hprefix : ∀ n, mget 0 ((List.range n).foldl (fun d k => mset 0 d (off + k) (ws.getD k 0)) d) j =
      if off ≤ j ∧ j < off + n then ws.getD (j - off) 0 else mget 0 d j := by
    intro n
    induction n with
    | zero => rw [if_neg (by omega)]; rfl
    | succ n ih =>
      rw [List.range_succ, List.foldl_append, List.foldl_cons, List.foldl_nil, mget_mset, ih]
      by_cases hj : j = off + n
      · subst hj
        rw [if_pos rfl, if_pos (by omega), Nat.add_sub_cancel_left]
      · rw [if_neg hj]
        exact if_congr (by omega) rfl rfl
  exact hprefix ws.length

/-- The words of whole templates are as many as were written. -/
theorem length_templates (ws : List Word) : ((templates ws).flatMap entryWords).length = 8 * (ws.length / 8) := by
  have h8 : ∀ t, (entryWords t).length = 8 := fun _ => rfl
  simp only [List.length_flatMap, h8, List.map_const', List.sum_replicate, templates, List.length_map, List.length_range,
    smul_eq_mul]
  exact Nat.mul_comm _ _

/-! ### Entries -/

/-- R401: a cancel of an entry that is armed or predicted. -/
theorem Main.act_cancelEntry_of_waiting {m : Main} {e : Nat} (h : (m.act e).st = 1 ∨ (m.act e).st = 2) (k : Nat) :
    (m.cancelEntry e).act k =
      if k = e then { m.act e with st := 5, charged := false, fire := none, overdue := false } else m.act k := by
  unfold Main.cancelEntry
  rw [if_pos h, Main.act_modAct]

theorem Main.cancelEntry_frame_of_waiting {m : Main} {e : Nat} (h : (m.act e).st = 1 ∨ (m.act e).st = 2) :
    ∃ l, m.cancelEntry e = { m with ev := { m.ev with entries := l } } := by
  unfold Main.cancelEntry
  rw [if_pos h]
  exact ⟨_, rfl⟩

/-- R392: a time entry written before its fire time is armed. -/
theorem Main.armEntry_of_future {m : Main} {ws : List Word} (hl : needsLedger ws = false)
    (hf : m.now < ext2 ws 2 - m.outCorr ws) (e : Nat) : m.armEntry e ws = m.modAct e (fun _ => {
      words := ws, st := 1, tag := fld (ws.getD 0 0) 15 0, charged := false, d0 := 2
      fire := some (ext2 ws 2 - m.outCorr ws), word1 := BitVec.ofNat 36 (ext2 ws 2 - m.outCorr ws) }) := by
  simp only [needsLedger, Bool.or_eq_false_iff, bne_eq_false_iff_eq] at hl
  obtain ⟨htrig, hact⟩ := hl
  have hlate : ¬ ext2 ws 2 - m.outCorr ws ≤ (m.modAct e (fun _ => {
      words := ws, st := 1, tag := fld (ws.getD 0 0) 15 0, charged := false, d0 := 2
      fire := some (ext2 ws 2 - m.outCorr ws), word1 := BitVec.ofNat 36 (ext2 ws 2 - m.outCorr ws) })).now := not_le.2 hf
  simp only [Main.armEntry, htrig, hact, if_true, true_and, bne_self_eq_false, Bool.or_self, if_neg hlate]

/-- A request placed before the ledger by a row shows PENDING and changes nothing else. -/
theorem asksLedger_pendingShown (s : State) (r : LReq) (sess a : Nat) :
    AsksLedger s { s with main := (Main.finish (s.start.askLedger r, none) sess a).pendingShown } r := ⟨rfl, rfl⟩

/-! ### Latch units -/

theorem wordObj_evLtArm (u : Fin 32) : wordObj (evAddr u O.EV_LT_ARM) = true ∧ chainObj (evAddr u O.EV_LT_ARM) = false := by
  revert u; decide +kernel
theorem wordObj_evCancel : wordObj (evAddr 0 O.EV_CANCEL) = true ∧ chainObj (evAddr 0 O.EV_CANCEL) = false := by
  decide +kernel

/-- R379: a write of EV_LT_ARM 1 arms the unit at the present time. -/
theorem Main.wordEffect_evLtArm (m : Main) (sess : Nat) (u : Fin 32) :
    m.wordEffect sess (evAddr u O.EV_LT_ARM) (wordN 1) none = (m.modLt u (fun x => { x with armed := some m.now })).ok := by
  obtain ⟨ha, hi, hn⟩ := evAddr_parts (p := u.val) (n := O.EV_LT_ARM) (by omega) (by decide)
  rw [Main.wordEffect_ev (Main.changesLoad_of_not_chainObj _ (wordObj_evLtArm u).2) ha, hi, hn]
  simp [Main.evEffect, wordN]

theorem Main.wordEffect_evCancel (m : Main) (sess : Nat) (w : Word) :
    m.wordEffect sess (evAddr 0 O.EV_CANCEL) w none = (m.cancel w).ok := by
  rw [Main.wordEffect_ev (Main.changesLoad_of_not_chainObj _ wordObj_evCancel.2) (by decide)]
  rfl

/-- Settles O23. -/
theorem eventAndActionRows : Obligations.EventAndActionRows := by
  unfold Obligations.EventAndActionRows
  refine ⟨fun sess s => ⟨fun u h => ?arm, fun w h hindex hst => ?cancel, fun off ws hoff h => ?template⟩,
    fun sess off ws s hoff h => ⟨fun hl => ?ledger, fun hl hf => ?entry⟩⟩
  case arm =>
    refine completes_of_rowAccepted_ok rfl (wordObj_evLtArm u).1 h (s.start.wordEffect_evLtArm sess u)
      ⟨done_reply _ _ _ _, rfl, ?_, fun k hk => ?_⟩
    · simp [Main.lt_modLt]
    · simp [Main.lt_modLt, hk]
  case cancel =>
    have hst' : (s.start.act (fld w 9 0)).st = 1 ∨ (s.start.act (fld w 9 0)).st = 2 := hst
    have hcancel : s.start.cancel w = s.start.cancelEntry (fld w 9 0) := by
      rw [Main.cancel, if_neg (hindex ▸ Bool.false_ne_true)]
    refine completes_of_rowAccepted_ok (m := s.start.cancelEntry (fld w 9 0)) rfl wordObj_evCancel.1 h ?_
      ⟨done_reply _ _ _ _, ?_, ?_, ?_, ?_, fun k hk => ?_⟩
    · have hw : wordN w.toNat = w := by simp [wordN]
      rw [hw, Main.wordEffect_evCancel, hcancel]
    · obtain ⟨l, hl⟩ := Main.cancelEntry_frame_of_waiting hst'
      rw [hl]
      rfl
    · simp [Main.act_cancelEntry_of_waiting hst']
    · simp [Main.act_cancelEntry_of_waiting hst']
    · simp [Main.act_cancelEntry_of_waiting hst']
    · simp [Main.act_cancelEntry_of_waiting hst', hk]
  case template =>
    obtain ⟨hlen, hexec⟩ := exec_of_rowAccepted_words rfl info_evTpl (by decide) hoff h
    have hlen : ws.length % 8 = 0 := hlen rfl
    have hwhole : ((templates ws).flatMap entryWords).length = ws.length := by rw [length_templates]; omega
    refine ⟨_, hexec, ⟨rfl, rfl⟩, rfl, fun k hk => ?_, fun k hk => ?_⟩
    · refine (mget_putWords s.main.ev.tpl off _ (off + k)).trans ?_
      rw [hwhole, if_pos (by omega), Nat.add_sub_cancel_left]
    · refine (mget_putWords s.main.ev.tpl off _ k).trans ?_
      rw [hwhole, if_neg (by omega)]
  case ledger =>
    obtain ⟨-, hexec⟩ := exec_of_rowAccepted_words rfl info_evQueue (by decide) hoff h
    have heffect : s.start.domainEffect sess (evAddr 0 O.EV_QUEUE) { offset := off, words := ws } none =
        (s.start.askLedger { sess := sess, addr := evAddr 0 O.EV_QUEUE, change := .action (off / 8) (entryWords ws) }, none) := by
      rw [Main.domainEffect, if_pos rfl, Main.entryEffect, if_pos hl]
    rw [heffect] at hexec
    exact ⟨_, hexec, asksLedger_pendingShown _ _ _ _⟩
  case entry =>
    obtain ⟨-, hexec⟩ := exec_of_rowAccepted_words rfl info_evQueue (by decide) hoff h
    have heffect : s.start.domainEffect sess (evAddr 0 O.EV_QUEUE) { offset := off, words := ws } none =
        (s.start.armEntry (off / 8) (entryWords ws)).ok := by
      rw [Main.domainEffect, if_pos rfl, Main.entryEffect, if_neg (hl ▸ Bool.false_ne_true)]
    rw [heffect, Main.armEntry_of_future (m := s.start) hl hf] at hexec
    refine ⟨_, hexec, done_reply _ _ _ _, rfl, ?_⟩
    have hact : ∀ k (x : Action), ((s.start.modAct (off / 8) (fun _ => x)).reply sess (evAddr 0 O.EV_QUEUE) 0).act k =
        if k = off / 8 then x else s.main.act k := by
      intro k x
      simp [Main.act_modAct]
    refine ⟨?_, ?_, ?_, ?_, fun k hk => ?_⟩
    · exact congrArg Action.st ((hact _ _).trans (if_pos rfl))
    · exact congrArg Action.fire ((hact _ _).trans (if_pos rfl))
    · exact congrArg Action.words ((hact _ _).trans (if_pos rfl))
    · exact congrArg Action.tag ((hact _ _).trans (if_pos rfl))
    · exact (hact _ _).trans (if_neg hk)

end Sys2Proof.Machine
end

section
/-! Writes of CONTROL (R96): the level fields and command bits of a value, what an accepted write has passed, and what it
leaves. -/

namespace Sys2Proof.Machine

/-! ### The bits of a CONTROL value -/

/-- The command bits of CONTROL (R96). -/
structure Cmds where
  reset : Bool := false
  move  : Bool := false
  queue : Bool := false
  start : Bool := false
  abort : Bool := false

/-- The command bits as a number. -/
def Cmds.bits (c : Cmds) : Nat :=
  8 * b2n c.reset + 16 * b2n c.move + 64 * b2n c.queue + 2 ^ 20 * b2n c.start + 2 ^ 21 * b2n c.abort

/-- The level fields fit their bits. -/
def Levels.Fits (l : Levels) : Prop := l.mode < 16 ∧ l.kind < 16

/-- What the bits of a CONTROL value say. -/
structure ControlBits (v : Nat) (l : Levels) (c : Cmds) : Prop where
  lt : v < 2 ^ 36
  en : v.testBit 0 = l.en
  rel : v.testBit 5 = l.rel
  mode : v / 256 % 16 = l.mode
  kind : v / 65536 % 16 = l.kind
  reset : v.testBit 3 = c.reset
  move : v.testBit 4 = c.move
  queue : v.testBit 6 = c.queue
  start : v.testBit 20 = c.start
  abort : v.testBit 21 = c.abort

theorem b2n_le_one (b : Bool) : b2n b ≤ 1 := by cases b <;> decide
theorem decide_b2n_eq_one (b : Bool) : decide (b2n b = 1) = b := by cases b <;> rfl

/-- A value put together from level fields and command bits reads as such. -/
theorem controlBits_word {l : Levels} (h : l.Fits) (c : Cmds) : ControlBits (l.word c.bits) l c := by
  obtain ⟨hmode, hkind⟩ := h
  have he := b2n_le_one l.en
  have hr := b2n_le_one l.rel
  have h3 := b2n_le_one c.reset
  have h4 := b2n_le_one c.move
  have h6 := b2n_le_one c.queue
  have h20 := b2n_le_one c.start
  have h21 := b2n_le_one c.abort
  have hbit : ∀ k b, l.word c.bits / 2 ^ k % 2 = b2n b → (l.word c.bits).testBit k = b := by
    intro k b hk
    rw [Nat.testBit_eq_decide_div_mod_eq, hk, decide_b2n_eq_one]
  constructor
  case lt => unfold Levels.word Cmds.bits; omega
  case mode => unfold Levels.word Cmds.bits; omega
  case kind => unfold Levels.word Cmds.bits; omega
  all_goals refine hbit _ _ ?_; unfold Levels.word Cmds.bits; omega

theorem levelsOf_fits (v : Nat) : (levelsOf v).Fits := ⟨Nat.mod_lt _ (by decide), Nat.mod_lt _ (by decide)⟩

theorem ControlBits.levelsOf_eq {v : Nat} {l : Levels} {c : Cmds} (h : ControlBits v l c) : levelsOf v = l := by
  unfold levelsOf
  rw [h.en, h.rel, h.mode, h.kind]

/-! ### CONTROL as it stands -/

/-- MODE as CONTROL holds it (R96). -/
theorem Main.mode_eq (m : Main) (i : Nat) : m.mode i = (levelsOf (m.io i O.CONTROL)).mode := by
  unfold Main.mode fld Main.objW levelsOf Main.io
  rw [BitVec.toNat_ofNat]
  dsimp only
  omega

theorem Main.enable_eq (m : Main) (i : Nat) : m.enable i = (levelsOf (m.io i O.CONTROL)).en := rfl

/-- The level fields after a write of CONTROL. -/
theorem Main.levels_setControl (m : Main) (i v : Nat) : levelsOf ((m.setControl i v).io i O.CONTROL) = levelsOf v := by
  have hbits := controlBits_word (levelsOf_fits v) {}
  have hlt := hbits.lt
  have hobj : (m.setControl i v).io i O.CONTROL = (levelsOf v).word 0 := by
    unfold Main.setControl Main.io
    rw [Main.obj_setObj_same]
    exact Nat.mod_eq_of_lt (Nat.lt_trans hlt (by decide))
  rw [hobj]
  exact hbits.levelsOf_eq

theorem Main.mode_setControl (m : Main) (i v : Nat) : (m.setControl i v).mode i = (levelsOf v).mode := by
  rw [Main.mode_eq, Main.levels_setControl]

theorem Main.enable_setControl (m : Main) (i v : Nat) : (m.setControl i v).enable i = (levelsOf v).en := by
  rw [Main.enable_eq, Main.levels_setControl]

/-! ### An accepted write of CONTROL -/

theorem wordObj_control (i : InstId) : wordObj (instAddr i O.CONTROL) = true ∧ chainObj (instAddr i O.CONTROL) = false ∧
    instIx (instAddr i O.CONTROL) = i.val ∧ numOf (instAddr i O.CONTROL) = O.CONTROL ∧
    (areaOf (instAddr i O.CONTROL) = 3 ∨ areaOf (instAddr i O.CONTROL) = 4) ∧ (info? (instAddr i O.CONTROL)).isSome = true := by
  revert i; decide +kernel

theorem firstOf_eq_none {a b : Option Nat} (h : firstOf a b = none) : a = none ∧ b = none := by
  cases a <;> cases b <;> simp_all [firstOf]

/-- A write of one word that nothing refuses passes the checks that rest on other objects. -/
theorem Main.specialRefusal_of_writeRefusal {m : Main} {a v : Nat} (hobj : wordObj a = true)
    (hi : (info? a).isSome = true) (h : m.writeRefusal a { words := [wordN v] } = none) :
    m.specialRefusal a (wordN v) = none := by
  obtain ⟨o, ho⟩ := Option.isSome_iff_exists.1 hi
  have hvalue : wordN (WData.value { words := [wordN v] }) = wordN v := by
    simp [WData.value, wordN, ← BitVec.toNat_inj]
  have hty : o.ty ≠ .domain := by
    rintro hdomain
    simp [wordObj, ho, hdomain] at hobj
  unfold Main.writeRefusal at h
  simp only [ho, hvalue] at h
  cases hd : o.ty <;> simp only [hd] at h hty
  case domain => exact absurd rfl hty
  all_goals exact (firstOf_eq_none h).2

theorem Main.controlRefusal_of_writeRefusal {m : Main} (i : InstId) {v : Nat} (hv : v < 2 ^ 36)
    (h : m.writeRefusal (instAddr i O.CONTROL) { words := [wordN v] } = none) : m.controlRefusal i v = none := by
  obtain ⟨hobj, -, hix, hnum, harea, hinfo⟩ := wordObj_control i
  have hspecial := Main.specialRefusal_of_writeRefusal hobj hinfo h
  have hstart : startsOp (instAddr i O.CONTROL) v = false := by
    unfold startsOp
    rcases harea with ha | ha <;> rw [ha] <;> rfl
  unfold Main.specialRefusal at hspecial
  simp only [wordN_toNat_of_lt hv, hstart, hix, hnum, Bool.false_eq_true, if_false, if_true] at hspecial
  rcases harea with ha | ha <;> rw [ha] at hspecial <;> exact hspecial

/-- What an accepted write of CONTROL has passed. -/
theorem Main.of_controlRefusal_eq_none {m : Main} {i v : Nat} (h : m.controlRefusal i v = none) :
    let mv := if v.testBit 4 then
      (m.setMode i (v / 256 % 16)).moveRefusal i (m.ioI i O.TARGET_POS) (v.testBit 6) (v.testBit 5) else none
    m.controlRange i v mv = false ∧ m.controlState i v mv = false ∧ m.controlRunning i v mv = false := by
  intro mv
  change (if m.controlRange i v mv = true then some aRange else if m.controlState i v mv = true then some aState
    else if m.controlRunning i v mv = true then some aOpRunning
    else if (v.testBit 20 && !m.beRoom) = true then some aBusy else none) = none at h
  generalize mv = k at h ⊢
  split_ifs at h with h1 h2 h3
  exact ⟨Bool.eq_false_iff.2 h1, Bool.eq_false_iff.2 h2, Bool.eq_false_iff.2 h3⟩

theorem Main.wordEffect_control (m : Main) (sess : Nat) (i : InstId) {v : Nat} (hv : v < 2 ^ 36) :
    m.wordEffect sess (instAddr i O.CONTROL) (wordN v) none = m.controlEffect sess i v none := by
  rw [Main.wordEffect_inst i.isLt (by decide) (Main.changesLoad_of_not_chainObj _ (wordObj_control i).2.1),
    Main.instEffect, if_pos rfl, wordN_toNat_of_lt hv]

/-- An accepted row of CONTROL takes the effect of its value. -/
theorem exec_of_controlRow {c : Instr} {s : State} {sess v : Nat} (i : InstId) (hv : v < 2 ^ 36)
    (hrow : s.start.rowWrite c = some (.word sess (instAddr i O.CONTROL) v)) (h : s.rowAccepted c = true) :
    s.start.controlRefusal i v = none ∧ exec c s = .next { s with main :=
      (Main.finish (s.start.controlEffect sess i v none) sess (instAddr i O.CONTROL)).pendingShown } := by
  obtain ⟨hrefusal, hexec⟩ := exec_of_rowAccepted_word hrow (wordObj_control i).1 h
  rw [Main.wordEffect_control _ _ _ hv] at hexec
  exact ⟨Main.controlRefusal_of_writeRefusal i hv hrefusal, hexec⟩

section
variable {m : Main} {sess i v : Nat} {l : Levels} {c : Cmds}

/-- A write that starts identification or auto-tune is placed before the ledger (R225). -/
theorem Main.controlEffect_of_start (hb : ControlBits v l c) (hs : c.start = true) (hk : l.kind ≠ 1) :
    m.controlEffect sess i v none =
      (m.askLedger { sess := sess, addr := instAddr i O.CONTROL, change := .opStart i l.kind v }, none) := by
  unfold Main.controlEffect
  simp only [hb.start, hb.kind, hs, true_and, if_pos hk]

/-- A write that adds load is placed before the ledger. -/
theorem Main.controlEffect_of_loads (hb : ControlBits v l c) (hs : c.start = false) (hl : m.controlLoads i v = true) :
    m.controlEffect sess i v none =
      (m.askLedger { sess := sess, addr := instAddr i O.CONTROL, change := .control i v }, none) := by
  unfold Main.controlEffect
  simp only [hb.start, hs, Bool.false_eq_true, false_and, if_false, hl, if_true]

/-- Any other write takes effect at once. -/
theorem Main.controlEffect_of_now (hb : ControlBits v l c) (hs : c.start = true → l.kind = 1)
    (hl : m.controlLoads i v = false) : m.controlEffect sess i v none = (m.controlNow i v).ok := by
  have hstart : ¬(c.start = true ∧ l.kind ≠ 1) := fun h => h.2 (hs h.1)
  unfold Main.controlEffect
  simp only [hb.start, hb.kind, if_neg hstart, hl, Bool.false_eq_true, if_false]
  rfl

/-- A write adds no load where MODE stays and the axis or hoop is not enabled from READY, nor a hoop in RUN. -/
theorem Main.controlLoads_of_same_mode (hb : ControlBits v l c) (hmode : l.mode = m.mode i)
    (hen : l.en = true → (m.i i).core.st ≠ sReady ∧ i < 64) : m.controlLoads i v = false := by
  unfold Main.controlLoads
  rw [hb.en, hb.mode, hmode]
  cases he : l.en with
  | false => simp
  | true =>
    obtain ⟨hst, h64⟩ := hen he
    have h64' : ¬ 64 ≤ i := by omega
    simp [hst, h64']

/-- The part of an immediate CONTROL write that precedes its command bits. -/
def Main.controlLevels (m : Main) (i v : Nat) : Main :=
  let n := (m.setControl i v).enableWrite i (v.testBit 0)
  if m.mode i = n.mode i then n else n.fromActual i

theorem Main.controlNow_eq (m : Main) (i v : Nat) : m.controlNow i v = (m.controlLevels i v).controlCommands i v := rfl

theorem Main.mode_enableWrite (m : Main) (i k : Nat) (en : Bool) : (m.enableWrite i en).mode k = m.mode k := rfl

/-- Where MODE stays as it is only the level fields are written. -/
theorem Main.controlLevels_of_same_mode (hb : ControlBits v l c) (hmode : l.mode = m.mode i) :
    m.controlLevels i v = (m.setControl i v).enableWrite i l.en := by
  have hsame : m.mode i = ((m.setControl i v).enableWrite i (v.testBit 0)).mode i := by
    rw [Main.mode_enableWrite, Main.mode_setControl, hb.levelsOf_eq, hmode]
  unfold Main.controlLevels
  dsimp only
  rw [if_pos hsame, hb.en]

/-- A value without command bits commands nothing. -/
theorem Main.controlCommands_of_none (m : Main) (i : Nat) (hb : ControlBits v l {}) : m.controlCommands i v = m := by
  unfold Main.controlCommands
  simp [hb.reset, hb.abort, hb.move, hb.start]

end

/-! ### ENABLE as written -/

/-- R189, R196: what a write of ENABLE does to the state machine's part of the axis or hoop. -/
def Core.enableWrite (c : Core) (en : Bool) : Core :=
  if c.st = sDisabling then { c with enPending := en }
  else if 2 ≤ c.st ∧ c.st ≤ 4 then { c with cmd := if en then 0 else 1 }
  else c

theorem Main.i_enableWrite (m : Main) (i k : Nat) (en : Bool) : (m.enableWrite i en).i k =
    if k = i then { m.i i with core := (m.i i).core.enableWrite en } else m.i k := by
  unfold Main.enableWrite Main.modC
  rw [Main.i_modI]
  rfl

@[simp] theorem Core.st_enableWrite (c : Core) (en : Bool) : (c.enableWrite en).st = c.st := by
  unfold Core.enableWrite; split_ifs <;> rfl

@[simp] theorem Main.motion_enableWrite (m : Main) (i k : Nat) (en : Bool) :
    ((m.enableWrite i en).i k).motion = (m.i k).motion := by
  rw [Main.i_enableWrite]
  split
  next h => rw [h]
  next => rfl

@[simp] theorem Main.obj_enableWrite (m : Main) (i a : Nat) (en : Bool) : (m.enableWrite i en).obj a = m.obj a := rfl

end Sys2Proof.Machine
end

section
/-! ENABLE, MODE and START_MOVE as rows (R96, R189, R196, R218, R303, R313). -/

namespace Sys2Proof.Machine

/-- A row of CONTROL whose value is carried out at once. -/
theorem completes_controlNow {c : Instr} {s : State} {sess v : Nat} {l : Levels} {k : Cmds} {P : State → Prop} (i : InstId)
    (hb : ControlBits v l k) (hrow : s.start.rowWrite c = some (.word sess (instAddr i O.CONTROL) v))
    (h : s.rowAccepted c = true) (hs : k.start = true → l.kind = 1) (hl : s.start.controlLoads i v = false)
    (hP : P { s with main := (s.start.controlNow i v).reply sess (instAddr i O.CONTROL) 0 }) : Completes c s P := by
  refine ⟨_, (exec_of_controlRow i hb.lt hrow h).2, ?_⟩
  rw [Main.controlEffect_of_now hb hs hl]
  exact hP

/-! ### ENABLE written 0 -/

/-- The level fields with ENABLE 0. -/
def Levels.disabled (l : Levels) : Levels := { l with en := false }

/-- CONTROL as a write of ENABLE 0 gives it. -/
def Main.disableWord (m : Main) (i : Nat) : Nat := (levelsOf (m.io i O.CONTROL)).disabled.word 0

theorem Main.controlBits_disableWord (m : Main) (i : Nat) :
    ControlBits (m.disableWord i) (levelsOf (m.io i O.CONTROL)).disabled {} :=
  controlBits_word (l := (levelsOf (m.io i O.CONTROL)).disabled) (levelsOf_fits _) {}

/-- What a write of ENABLE 0 leaves. -/
theorem Main.controlNow_disable (m : Main) (i : Nat) :
    m.controlNow i (m.disableWord i) = (m.setControl i (m.disableWord i)).enableWrite i false := by
  have hb := m.controlBits_disableWord i
  rw [Main.controlNow_eq, Main.controlCommands_of_none _ _ hb, Main.controlLevels_of_same_mode hb (m.mode_eq i).symm]
  rfl

theorem disableRow (sess : Sess) (i : InstId) (s : State) (h : s.rowAccepted (.disable sess i) = true) :
    Completes (.disable sess i) s (fun t =>
       Done s t ∧ t = { s with main := { s.main with out := t.main.out, objs := t.main.objs, inst := t.main.inst } } ∧
       ObjsBut s.main t.main [instAddr i O.CONTROL] ∧ InstBut s.main t.main [i.val] ∧
       t.main.enable i = false ∧ t.main.mode i = s.main.mode i ∧
       t.main.i i = (let x := s.main.i i
         if x.core.st = sDisabling then { x with core := { x.core with enPending := false } }
         else if 2 ≤ x.core.st ∧ x.core.st ≤ 4 then { x with core := { x.core with cmd := 1 } }
         else x)) := by
  have hb := s.start.controlBits_disableWord i
  refine completes_controlNow i hb rfl h nofun
    (Main.controlLoads_of_same_mode hb (s.start.mode_eq i).symm nofun) ?_
  rw [Main.controlNow_disable]
  refine ⟨done_reply _ _ _ _, ?_, fun b hne => ?_, fun k hk => ?_, ?_, ?_, ?_⟩
  · rw [Main.reply_ok_frame]; rfl
  · rw [Main.obj_reply_ok, Main.obj_enableWrite, Main.setControl, Main.objs_keep _ _ _ _ (by simpa using hne)]
    rfl
  · rw [Main.i_reply_ok, Main.i_enableWrite, if_neg (by simpa using hk)]
    rfl
  · exact (s.start.enable_setControl i _).trans (congrArg Levels.en hb.levelsOf_eq)
  · exact (s.start.mode_setControl i _).trans ((congrArg Levels.mode hb.levelsOf_eq).trans (s.main.mode_eq i).symm)
  · rw [Main.i_reply_ok, Main.i_enableWrite, if_pos rfl]
    change { s.main.i i with core := (s.main.i i).core.enableWrite false } = _
    simp only [Core.enableWrite, Bool.false_eq_true, if_false]
    split_ifs <;> rfl

/-! ### A change of MODE -/

/-- FOLLOW_ERR is all that a change of mode writes beside CONTROL (R210). -/
theorem Main.errMode_obj (m : Main) (i : Nat) {a : Nat} (h : a ≠ instAddr i O.FOLLOW_ERR) : (m.errMode i).obj a = m.obj a := by
  unfold Main.errMode
  split
  · exact Main.objs_keep _ _ _ _ h
  · rfl

@[simp] theorem Main.i_errMode (m : Main) (i k : Nat) : (m.errMode i).i k = m.i k := by
  unfold Main.errMode
  split <;> rfl

theorem control_ne_followErr (i : Nat) : instAddr i O.CONTROL ≠ instAddr i O.FOLLOW_ERR := instAddr_ne (by decide)

theorem Main.mode_errMode (m : Main) (i : Nat) : (m.errMode i).mode i = m.mode i := by
  unfold Main.mode Main.objW
  rw [Main.errMode_obj _ _ (control_ne_followErr i)]

/-- R210: in MODE 1 FOLLOW_ERR of an axis reads 0. -/
theorem Main.followErr_errMode {m : Main} {i : Nat} (hm : m.mode i = 1) (hi : i < 64) : (m.errMode i).io i O.FOLLOW_ERR = 0 := by
  unfold Main.errMode
  rw [if_pos ⟨.inl hm, .inl hi⟩]
  exact Main.obj_setObj_same _ _ _

theorem Main.obj_fromActual (m : Main) (i : Nat) {a : Nat} (h : a ≠ instAddr i O.FOLLOW_ERR) :
    (m.fromActual i).obj a = m.obj a := Main.errMode_obj _ _ h

/-- R218: outside MODE 2 the set-points start from the actual values, with no move active. -/
theorem Main.motion_fromActual {m : Main} {i : Nat} (hm : m.mode i ≠ 2) :
    let x := ((m.fromActual i).i i).motion
    x.posSp = (m.actualPos i : Rat) ∧ x.velSp = velQ (m.objW (instAddr i O.ACTUAL_VEL)) ∧ x.accSp = 0 ∧ x.plan = none := by
  unfold Main.fromActual Main.modM
  simp [Main.i_modI, hm]

theorem Main.i_fromActual_other (m : Main) {i k : Nat} (h : k ≠ i) : (m.fromActual i).i k = m.i k := by
  unfold Main.fromActual Main.modM
  simp [Main.i_modI, h]

theorem Main.followErr_fromActual {m : Main} {i : Nat} (hm : m.mode i = 1) (hi : i < 64) :
    (m.fromActual i).io i O.FOLLOW_ERR = 0 := Main.followErr_errMode hm hi

theorem Main.mode_fromActual (m : Main) (i : Nat) : (m.fromActual i).mode i = m.mode i := Main.mode_errMode _ _

/-- The level fields with another MODE. -/
def Levels.withMode (l : Levels) (md : Nat) : Levels := { l with mode := md }

/-- CONTROL as a change of MODE gives it. -/
def Main.modeWord (m : Main) (i md : Nat) : Nat := ((levelsOf (m.io i O.CONTROL)).withMode md).word 0

theorem Main.controlBits_modeWord (m : Main) (i : Nat) (md : Fin 16) :
    ControlBits (m.modeWord i md) ((levelsOf (m.io i O.CONTROL)).withMode md) {} :=
  controlBits_word (l := (levelsOf (m.io i O.CONTROL)).withMode md) ⟨md.isLt, (levelsOf_fits _).2⟩ {}

/-- What a change of MODE leaves. -/
theorem Main.controlNow_mode {m : Main} {i : Nat} {md : Fin 16} (h : md.val ≠ m.mode i) :
    m.controlNow i (m.modeWord i md) =
      ((m.setControl i (m.modeWord i md)).enableWrite i (m.enable i)).fromActual i := by
  have hb := m.controlBits_modeWord i md
  have hmode : ((m.setControl i (m.modeWord i md)).enableWrite i ((m.modeWord i md).testBit 0)).mode i = md := by
    rw [Main.mode_enableWrite, Main.mode_setControl, hb.levelsOf_eq]
    rfl
  rw [Main.controlNow_eq, Main.controlCommands_of_none _ _ hb, Main.controlLevels]
  rw [hmode, if_neg h.symm, hb.en]
  rfl

theorem modeChangeRow (sess : Sess) (i : InstId) (md : Fin 16) (s : State) (hen : s.main.enable i = false)
    (hmd : md.val ≠ 2) (hmode : s.main.mode i ≠ 2) (hne : md.val ≠ s.main.mode i)
    (h : s.rowAccepted (.modeChange sess i md) = true) : Completes (.modeChange sess i md) s (fun t =>
       Done s t ∧ ObjsBut s.main t.main [instAddr i O.CONTROL, instAddr i O.FOLLOW_ERR] ∧ InstBut s.main t.main [i.val] ∧
       t.main.mode i = md.val ∧ (md.val = 1 → i.val < 64 → t.main.io i O.FOLLOW_ERR = 0) ∧
       (let x := (t.main.i i).motion
        x.posSp = (s.main.actualPos i : Rat) ∧ x.velSp = velQ (s.main.objW (instAddr i O.ACTUAL_VEL)) ∧ x.accSp = 0 ∧
        x.plan = none)) := by
  have hb := s.start.controlBits_modeWord i md
  have hloads : s.start.controlLoads i (s.start.modeWord i md) = false := by
    have hst : s.start.mode i ≠ 2 := hmode
    have henb : ((levelsOf (s.start.io i O.CONTROL)).withMode md).en = false := hen
    unfold Main.controlLoads
    rw [hb.en, hb.mode, henb]
    simp [Levels.withMode, hmd, hst]
  let n := (s.start.setControl i (s.start.modeWord i md)).enableWrite i (s.start.enable i)
  have hobj : ∀ a, a ≠ instAddr i O.CONTROL → n.obj a = s.main.obj a := fun a ha => Main.objs_keep s.start _ _ _ ha
  have hnmode : n.mode i = md := by
    exact (s.start.mode_setControl i _).trans (congrArg Levels.mode hb.levelsOf_eq)
  have hother : ∀ k, k ≠ i.val → n.i k = s.main.i k := fun k hk =>
    ((s.start.setControl i _).i_enableWrite i k _).trans (if_neg hk)
  refine completes_controlNow i hb rfl h nofun hloads ?_
  rw [Main.controlNow_mode (m := s.start) hne]
  have hmotion := Main.motion_fromActual (m := n) (i := i) (hnmode ▸ hmd)
  have hpos : n.actualPos i = s.main.actualPos i := congrArg (fun w => sgn (BitVec.ofNat 36 w)) (hobj _ (instAddr_ne (by decide)))
  have hvel : n.objW (instAddr i O.ACTUAL_VEL) = s.main.objW (instAddr i O.ACTUAL_VEL) :=
    congrArg (BitVec.ofNat 36) (hobj _ (instAddr_ne (by decide)))
  rw [hpos, hvel] at hmotion
  refine ⟨done_reply _ _ _ _, fun b hb' => ?_, fun k hk => ?_, ?_, fun h1 h64 => ?_, ?_⟩
  · simp only [List.mem_cons, List.not_mem_nil, or_false, not_or] at hb'
    rw [Main.obj_reply_ok, Main.obj_fromActual _ _ hb'.2]
    exact hobj b hb'.1
  · have hk' : k ≠ i.val := by simpa using hk
    rw [Main.i_reply_ok, Main.i_fromActual_other _ hk']
    exact hother k hk'
  · rw [Main.reply_ok_frame]
    exact (Main.mode_fromActual n i).trans hnmode
  · rw [Main.reply_ok_frame]
    exact Main.followErr_fromActual (hnmode.trans h1) h64
  · rw [Main.i_reply_ok]
    exact hmotion

/-! ### START_MOVE -/

/-- The level fields with RELATIVE as given. -/
def Levels.withRel (l : Levels) (rel : Bool) : Levels := { l with rel := rel }

/-- CONTROL as START_MOVE without QUEUE gives it. -/
def Main.moveWord (m : Main) (i : Nat) (rel : Bool) : Nat := ((levelsOf (m.io i O.CONTROL)).withRel rel).word 16

theorem Main.controlBits_moveWord (m : Main) (i : Nat) (rel : Bool) :
    ControlBits (m.moveWord i rel) ((levelsOf (m.io i O.CONTROL)).withRel rel) { move := true } :=
  controlBits_word (l := (levelsOf (m.io i O.CONTROL)).withRel rel) (levelsOf_fits _) { move := true }

/-- START_MOVE outside RUN is refused (R303). -/
theorem Main.moveRefusal_of_not_run {m : Main} {i : Nat} {target : Int} {queue rel : Bool} (h : (m.i i).core.st ≠ sRun) :
    m.moveRefusal i target queue rel = some aRange ∨ m.moveRefusal i target queue rel = some aState := by
  unfold Main.moveRefusal
  dsimp only
  split_ifs <;> simp_all

/-- An accepted START_MOVE finds its axis or hoop in RUN. -/
theorem Main.run_of_move_accepted {m : Main} {i v : Nat} {l : Levels} {c : Cmds} (hb : ControlBits v l c) (hm : c.move = true)
    (h : m.controlRefusal i v = none) : (m.i i).core.st = sRun := by
  obtain ⟨hrange, hstate, -⟩ := Main.of_controlRefusal_eq_none h
  rw [hb.move, hm, if_pos rfl] at hrange hstate
  by_contra hst
  have hst' : ((m.setMode i (v / 256 % 16)).i i).core.st ≠ sRun := hst
  rcases Main.moveRefusal_of_not_run (target := m.ioI i O.TARGET_POS) (queue := v.testBit 6) (rel := v.testBit 5) hst' with hr | hr
  · rw [hr] at hrange
    simp [Main.controlRange] at hrange
  · rw [hr] at hstate
    simp [Main.controlState] at hstate

/-- R303, R313: START_MOVE in MODE 0 without QUEUE takes a plan to be made and clears AT_TARGET. -/
theorem Main.i_startMoveNow {m : Main} {i : Nat} (hm : m.mode i = 0) (target : Int) (rel : Bool) (k : Nat) :
    (m.startMoveNow i target false rel).i k = if k = i then { m.i i with
      core := { (m.i i).core with atTarget := false, winSince := none }
      motion := { (m.i i).motion with
        held := none, plan := some (toPlan (m.captured i (m.moveTarget i target rel)) false) } } else m.i k := by
  unfold Main.startMoveNow Main.modM Main.modC
  rw [if_neg (by omega), if_neg Bool.false_ne_true]
  by_cases hk : k = i
  · subst hk
    simp [Main.i_modI]
  · simp [Main.i_modI, hk]

theorem Main.obj_startMoveNow {m : Main} {i : Nat} (hm : m.mode i = 0) (target : Int) (rel : Bool) (a : Nat) :
    (m.startMoveNow i target false rel).obj a = m.obj a := by
  unfold Main.startMoveNow
  rw [if_neg (by omega), if_neg Bool.false_ne_true]
  rfl

/-- What START_MOVE in MODE 0 without QUEUE leaves. -/
theorem Main.controlNow_move (m : Main) (i : Nat) (rel : Bool) : m.controlNow i (m.moveWord i rel) =
    ((m.setControl i (m.moveWord i rel)).enableWrite i (m.enable i)).startMoveNow i
      (((m.setControl i (m.moveWord i rel)).enableWrite i (m.enable i)).ioI i O.TARGET_POS) false rel := by
  have hb := m.controlBits_moveWord i rel
  rw [Main.controlNow_eq, Main.controlLevels_of_same_mode hb (m.mode_eq i).symm, Main.controlCommands]
  simp only [hb.reset, hb.abort, hb.move, hb.start, hb.queue, hb.rel, Bool.false_eq_true, if_false, if_true, false_and]
  rfl

theorem startMoveRow (sess : Sess) (a : Ax) (rel : Bool) (s : State) (hmode : s.main.mode a = 0)
    (h : s.rowAccepted (.startMove sess ⟨a.val, by omega⟩ false rel) = true) :
    Completes (.startMove sess ⟨a.val, by omega⟩ false rel) s (fun t =>
       Done s t ∧ ObjsBut s.main t.main [instAddr a O.CONTROL] ∧ InstBut s.main t.main [a.val] ∧
       (t.main.i a).core.atTarget = false ∧
       ∃ p, (t.main.i a).motion.plan = some p ∧ p.replan = true ∧ p.isVel = false ∧
         p.move.target = s.main.moveTarget a (s.main.ioI a O.TARGET_POS) rel ∧
         p.move.vel = velQ (s.main.objW (instAddr a O.PROFILE_VEL)) ∧
         p.move.acc = accQ (s.main.objW (instAddr a O.PROFILE_ACC)) ∧ p.move.shape = s.main.io a O.BLEND_SHAPE) := by
  let i : InstId := ⟨a.val, by omega⟩
  have hb := s.start.controlBits_moveWord i rel
  have hrun := Main.run_of_move_accepted hb rfl (exec_of_controlRow i hb.lt rfl h).1
  have hloads : s.start.controlLoads i (s.start.moveWord i rel) = false := by
    refine Main.controlLoads_of_same_mode hb (s.start.mode_eq i).symm fun _ => ⟨?_, a.isLt⟩
    rw [hrun]; decide
  let n := (s.start.setControl i (s.start.moveWord i rel)).enableWrite i (s.start.enable i)
  have hobj : ∀ b, b ≠ instAddr a O.CONTROL → n.obj b = s.main.obj b := fun b hb => Main.objs_keep s.start _ _ _ hb
  have hnum : ∀ num, num ≠ O.CONTROL → n.obj (instAddr a num) = s.main.obj (instAddr a num) := fun num hnum =>
    hobj _ (instAddr_ne hnum)
  have hnmode : n.mode a = 0 :=
    (s.start.mode_setControl i _).trans ((congrArg Levels.mode hb.levelsOf_eq).trans ((s.main.mode_eq a).symm.trans hmode))
  have hmotion : (n.i a).motion = (s.main.i a).motion := (s.start.setControl i _).motion_enableWrite i a _
  refine completes_controlNow i hb rfl h nofun hloads ?_
  rw [Main.controlNow_move]
  refine ⟨done_reply _ _ _ _, fun b hb' => ?_, fun k hk => ?_, ?_, ?_⟩
  · rw [Main.obj_reply_ok]
    exact (Main.obj_startMoveNow hnmode _ _ b).trans (hobj b (by simpa using hb'))
  · have hk' : k ≠ a.val := by simpa using hk
    rw [Main.i_reply_ok]
    exact (Main.i_startMoveNow hnmode _ _ k).trans ((if_neg hk').trans
      (((s.start.setControl i _).i_enableWrite i k _).trans (if_neg hk')))
  · rw [Main.i_reply_ok]
    exact congrArg (fun x => x.core.atTarget) ((Main.i_startMoveNow hnmode _ _ a).trans (if_pos rfl))
  · refine ⟨toPlan (n.captured a (n.moveTarget a (n.ioI a O.TARGET_POS) rel)) false, ?_, rfl, rfl, ?_, ?_, ?_, ?_⟩
    · rw [Main.i_reply_ok]
      exact congrArg (fun x => x.motion.plan) ((Main.i_startMoveNow hnmode _ _ a).trans (if_pos rfl))
    · have htarget : n.ioI a O.TARGET_POS = s.main.ioI a O.TARGET_POS :=
        congrArg (fun w => sgn (BitVec.ofNat 36 w)) (hnum _ (by decide))
      change n.moveTarget a (n.ioI a O.TARGET_POS) rel = _
      unfold Main.moveTarget Main.moveRef Main.io
      rw [hmotion, hnum _ (by decide), hnum _ (by decide), htarget]
    · exact congrArg (fun w => velQ (BitVec.ofNat 36 w)) (hnum _ (by decide))
    · exact congrArg (fun w => accQ (BitVec.ofNat 36 w)) (hnum _ (by decide))
    · exact hnum _ (by decide)

/-- Settles O16: each of the three rows adds no load and is carried out at once. -/
theorem enableModeAndMoveRows : Obligations.EnableModeAndMoveRows := by
  unfold Obligations.EnableModeAndMoveRows
  exact ⟨disableRow, modeChangeRow, startMoveRow⟩

end Sys2Proof.Machine
end

section
/-! Writes that add load (R24, R47, R48, R189, R221, R225, R293, R296): what is placed before the ledger, and what is not. -/

namespace Sys2Proof.Machine

/-- A row whose write is placed before the ledger. -/
theorem completes_asksLedger {c : Instr} {s : State} {sess a v : Nat} {r : LReq} {P : State → Prop}
    (hrow : s.start.rowWrite c = some (.word sess a v)) (hobj : wordObj a = true) (h : s.rowAccepted c = true)
    (he : s.start.wordEffect sess a (wordN v) none = (s.start.askLedger r, none)) (hP : ∀ t, AsksLedger s t r → P t) :
    Completes c s P := by
  have hexec := (exec_of_rowAccepted_word hrow hobj h).2
  rw [he] at hexec
  exact ⟨_, hexec, hP _ (asksLedger_pendingShown _ _ _ _)⟩

/-! ### The brim (R47, R48) -/

theorem wordObj_brim : wordObj O.DV_BRIM = true ∧ chainObj O.DV_BRIM = false := by decide +kernel

theorem Main.wordEffect_brim (m : Main) (sess : Nat) (w : Word) : m.wordEffect sess O.DV_BRIM w none =
    if m.brimNow < w.toNat then (m.askLedger { sess := sess, addr := O.DV_BRIM, change := .objWrite O.DV_BRIM w.toNat }, none)
    else (m.lowerBrim w.toNat).ok := by
  unfold Main.wordEffect
  simp [m.changesLoad_of_not_chainObj (v := w.toNat) wordObj_brim.2]

/-- The brim that one admitted change leaves. -/
def brimAfter (b : Nat) (c : LReq) : Nat := match c.change with | .objWrite a v => if a = O.DV_BRIM then v else b | _ => b

theorem Main.brimNow_eq (m : Main) : m.brimNow = m.fab.commits.foldl brimAfter (m.obj O.DV_BRIM) := rfl

/-- Changes that are no write of DV_BRIM leave the brim. -/
theorem brimAfter_of_not_isBrim {c : LReq} (h : c.change.isBrim = false) (b : Nat) : brimAfter b c = b := by
  unfold brimAfter
  unfold Change.isBrim at h
  cases hc : c.change <;> simp_all

theorem foldl_brimAfter_filter (l : List LReq) (b : Nat) : (l.filter (fun c => !c.change.isBrim)).foldl brimAfter b = b := by
  induction l with
  | nil => rfl
  | cons c l ih =>
    cases hc : c.change.isBrim with
    | true => simpa [List.filter_cons, hc] using ih
    | false => simpa [List.filter_cons, hc, brimAfter_of_not_isBrim hc] using ih

/-- The main die with no raise of the brim awaiting its commit. -/
def Main.dropRaises (m : Main) : Main :=
  { m with fab := { m.fab with commits := m.fab.commits.filter (fun c => !c.change.isBrim) } }

/-- A raise of the brim to `v` awaits its commit. -/
def Main.awaitBrim (m : Main) (v : Nat) : Main :=
  { m with fab := { m.fab with commits := m.fab.commits ++ [{ change := .objWrite O.DV_BRIM v }]
                               staged := some (m.fab.staged.getD m.fab.map) } }

theorem Main.lowerBrim_of_lt {m : Main} {v : Nat} (h : m.obj O.DV_BRIM < v) :
    m.lowerBrim v = m.dropRaises.awaitBrim v := if_pos h
theorem Main.lowerBrim_of_le {m : Main} {v : Nat} (h : v ≤ m.obj O.DV_BRIM) :
    m.lowerBrim v = m.dropRaises.setObj O.DV_BRIM v := if_neg (not_lt.2 h)

/-- R48: the brim that a write which does not raise it leaves. -/
theorem Main.brimNow_lowerBrim (m : Main) {v : Nat} (hv : v < 2 ^ 36) : (m.lowerBrim v).brimNow = v := by
  rcases Nat.lt_or_ge (m.obj O.DV_BRIM) v with h | h
  · have hlast : ∀ l b, List.foldl brimAfter b (l ++ [({ change := .objWrite O.DV_BRIM v } : LReq)]) = v := by
      intro l b
      rw [List.foldl_append]
      rfl
    rw [Main.lowerBrim_of_lt h, Main.brimNow_eq]
    exact hlast _ _
  · rw [Main.lowerBrim_of_le h, Main.brimNow_eq]
    exact (foldl_brimAfter_filter m.fab.commits _).trans (Main.obj_setObj_same_of_lt m.dropRaises O.DV_BRIM hv)

/-- It writes no other object. -/
theorem Main.obj_lowerBrim (m : Main) {v b : Nat} (hb : b ≠ O.DV_BRIM) : (m.lowerBrim v).obj b = m.obj b := by
  rcases Nat.lt_or_ge (m.obj O.DV_BRIM) v with h | h
  · rw [Main.lowerBrim_of_lt h]; rfl
  · rw [Main.lowerBrim_of_le h]; exact Main.objs_keep m.dropRaises _ _ _ hb

/-- A value no higher than the brim in force is taken at once. -/
theorem Main.brim_lowerBrim {m : Main} {v : Nat} (hv : v < 2 ^ 36) (h : v ≤ m.obj O.DV_BRIM) :
    (m.lowerBrim v).obj O.DV_BRIM = v := by
  rw [Main.lowerBrim_of_le h, Main.obj_setObj_same_of_lt _ _ hv]

/-- With no raise awaiting its commit the write stores its value and does nothing else. -/
theorem Main.lowerBrim_of_no_commits {m : Main} {v : Nat} (hc : m.fab.commits = []) (hv : v ≤ m.brimNow) :
    m.lowerBrim v = m.setObj O.DV_BRIM v := by
  rw [Main.brimNow_eq, hc] at hv
  have hdrop : m.dropRaises = m := by
    have hfab : { m.fab with commits := m.fab.commits.filter (fun c => !c.change.isBrim) } = m.fab := by
      rw [hc, List.filter_nil, ← hc]
    unfold Main.dropRaises
    rw [hfab]
  rw [Main.lowerBrim_of_le hv, hdrop]

theorem brimRow (sess : Sess) (v : Nat) (s : State) (hv : v < 2 ^ 36) (h : s.rowAccepted (.dvBrimWrite sess v) = true) :
     Completes (.dvBrimWrite sess v) s (fun t =>
       (v ≤ s.main.brimNow → Done s t ∧ t.main.brimNow = v ∧ ObjsBut s.main t.main [O.DV_BRIM] ∧
         (v ≤ s.main.obj O.DV_BRIM → t.main.obj O.DV_BRIM = v) ∧
         (s.main.fab.commits = [] → ObjsOnly s t [O.DV_BRIM])) ∧
       (s.main.brimNow < v → AsksLedger s t { sess := sess, addr := O.DV_BRIM, change := .objWrite O.DV_BRIM v })) := by
  have heffect := s.start.wordEffect_brim sess (wordN v)
  rw [wordN_toNat_of_lt hv] at heffect
  rcases Nat.lt_or_ge s.start.brimNow v with hlt | hge
  · rw [if_pos hlt] at heffect
    exact completes_asksLedger rfl wordObj_brim.1 h heffect fun t ht => ⟨fun hle => absurd hle (not_le.2 hlt), fun _ => ht⟩
  · rw [if_neg (not_lt.2 hge)] at heffect
    refine completes_of_rowAccepted_ok rfl wordObj_brim.1 h heffect
      ⟨fun _ => ⟨done_reply _ _ _ _, ?_, fun b hb => ?_, fun hle => ?_, fun hc => ?_⟩, fun hlt => absurd hlt (not_lt.2 hge)⟩
    · rw [Main.reply_ok_frame]
      exact s.start.brimNow_lowerBrim hv
    · exact (Main.obj_reply_ok _ _ _ _).trans (s.start.obj_lowerBrim (by simpa using hb))
    · exact (Main.obj_reply_ok _ _ _ _).trans (Main.brim_lowerBrim hv hle)
    · rw [Main.lowerBrim_of_no_commits (m := s.start) hc hge]
      exact objsOnly_setObj _ _ _ _ _

/-! ### ENABLE, identification and auto-tune -/

/-- The level fields with ENABLE 1, and with the kind of an operation. -/
def Levels.enabled (l : Levels) : Levels := { l with en := true }
def Levels.withKind (l : Levels) (k : Nat) : Levels := { l with kind := k }

/-- CONTROL as a write of ENABLE 1, and as a start of an operation gives it. -/
def Main.enableWord (m : Main) (i : Nat) : Nat := (levelsOf (m.io i O.CONTROL)).enabled.word 0
def Main.startWord (m : Main) (i kind : Nat) : Nat := ((levelsOf (m.io i O.CONTROL)).withKind kind).word (2 ^ 20)

theorem Main.controlBits_enableWord (m : Main) (i : Nat) :
    ControlBits (m.enableWord i) (levelsOf (m.io i O.CONTROL)).enabled {} :=
  controlBits_word (l := (levelsOf (m.io i O.CONTROL)).enabled) (levelsOf_fits _) {}

theorem Main.controlBits_startWord (m : Main) (i : Nat) {kind : Nat} (hk : kind < 16) :
    ControlBits (m.startWord i kind) ((levelsOf (m.io i O.CONTROL)).withKind kind) { start := true } :=
  controlBits_word (l := (levelsOf (m.io i O.CONTROL)).withKind kind) ⟨(levelsOf_fits _).1, hk⟩ { start := true }

/-- ENABLE 1 in READY adds load. -/
theorem Main.controlLoads_enable {m : Main} {i : Nat} (hst : (m.i i).core.st = sReady) :
    m.controlLoads i (m.enableWord i) = true := by
  have hen : (m.enableWord i).testBit 0 = true := (m.controlBits_enableWord i).en
  unfold Main.controlLoads
  rw [hen, hst]
  rfl

theorem enableRow (sess : Sess) (i : InstId) (s : State) (hst : (s.main.i i).core.st = sReady)
    (h : s.rowAccepted (.enable sess i) = true) : Completes (.enable sess i) s (fun t => ∃ v, AsksLedger s t
       { sess := sess, addr := instAddr i O.CONTROL, change := .control i v } ∧ levelsOf v =
         { levelsOf (s.main.io i O.CONTROL) with en := true }) := by
  have hb := s.start.controlBits_enableWord i
  refine completes_asksLedger (v := s.start.enableWord i) rfl (wordObj_control i).1 h ?_ fun t ht => ⟨_, ht, hb.levelsOf_eq⟩
  rw [Main.wordEffect_control _ _ _ hb.lt]
  exact Main.controlEffect_of_loads hb rfl (Main.controlLoads_enable (m := s.start) hst)

/-- A start of identification or auto-tune asks the ledger. -/
theorem probeRow {c : Instr} {kind : Nat} (sess : Sess) (i : InstId) (s : State) (hk : kind < 16) (h1 : kind ≠ 1)
    (hrow : s.start.rowWrite c = some (.word sess (instAddr i O.CONTROL) (s.start.startWord i kind)))
    (h : s.rowAccepted c = true) : Completes c s (fun t => ∃ v, AsksLedger s t
         { sess := sess, addr := instAddr i O.CONTROL, change := .opStart i kind v }) := by
  have hb := s.start.controlBits_startWord i hk
  let r : LReq := { sess := sess, addr := instAddr i O.CONTROL, change := .opStart i kind (s.start.startWord i kind) }
  refine completes_asksLedger (r := r) hrow (wordObj_control i).1 h ?_ fun t ht => ⟨_, ht⟩
  rw [Main.wordEffect_control _ _ _ hb.lt]
  exact Main.controlEffect_of_start hb rfl h1

/-! ### Loop periods and DV_EE_EN -/

theorem plainObj_loop (a : Ax) (k : Fin 4) : plainObj (instAddr a (O.AX_CL_K + k.val)) = true := by
  revert a k; decide +kernel
theorem plainObj_eeEn : plainObj O.DV_EE_EN = true := by decide +kernel

/-- A loop object of an axis that changes no chain is stored. -/
theorem Main.instEffect_loop (m : Main) (sess : Nat) (a : Ax) (k : Fin 4) (w : Word) :
    m.instEffect sess a w (O.AX_CL_K + k.val) none = (m.store1 (instAddr a (O.AX_CL_K + k.val)) w.toNat).ok := by
  have h64 : ¬ 64 ≤ a.val := by omega
  have hnum : ∀ k : Fin 4, O.AX_CL_K + k.val ≠ O.CONTROL ∧ O.AX_CL_K + k.val ≠ O.LINK_CMD ∧
      ¬(O.PROFILE_VEL ≤ O.AX_CL_K + k.val ∧ O.AX_CL_K + k.val ≤ O.BLEND_SHAPE) ∧ O.AX_CL_K + k.val ≠ O.POS_OFFSET ∧
      O.AX_CL_K + k.val ≠ O.MODULO ∧ O.AX_CL_K + k.val ≠ O.TARGET_TORQUE ∧ O.AX_CL_K + k.val ≠ O.AX_POLE_PAIRS := by
    decide
  obtain ⟨h1, h2, h3, h4, h5, h6, h7⟩ := hnum k
  simp only [Main.instEffect, h1, h2, h3, h4, h5, h6, h7, h64, if_false, false_and, and_false]

theorem loopPeriodRow (sess : Sess) (a : Ax) (obj : Fin 4) (v : Nat) (s : State) (hv : v < 2 ^ 36)
    (h : s.rowAccepted (.loopPeriodWrite sess a obj v) = true) : Completes (.loopPeriodWrite sess a obj v) s (fun t =>
       let ad := instAddr a (O.AX_CL_K + obj.val)
       (s.start.changesLoad ad v = false → Done s t ∧ ObjsOnly s t [ad] ∧ t.main.obj ad = v) ∧
       (s.start.changesLoad ad v = true → AsksLedger s t { sess := sess, addr := ad, change := .objWrite ad v })) := by
  have hplain := plainObj_loop a obj
  have hw := wordN_toNat_of_lt hv
  cases hc : s.start.changesLoad (instAddr a (O.AX_CL_K + obj.val)) v with
  | true =>
    refine completes_asksLedger rfl (wordObj_of_plainObj hplain) h ?_ fun t ht => ⟨fun h => absurd (hc.symm.trans h) (by decide), fun _ => ht⟩
    rw [Main.wordEffect_of_changesLoad (by rw [hw]; exact hc), hw]
  | false =>
    have hn : O.AX_CL_K + obj.val < 4096 := by
      have hbase : O.AX_CL_K + 4 < 4096 := by decide
      omega
    refine completes_of_rowAccepted_ok (m := s.start.setObj (instAddr a (O.AX_CL_K + obj.val)) v) rfl
      (wordObj_of_plainObj hplain) h ?_ ⟨fun _ => ⟨done_reply _ _ _ _, objsOnly_setObj _ _ _ _ _, ?_⟩, fun h => absurd (hc.symm.trans h) (by decide)⟩
    · rw [Main.wordEffect_inst (by omega) hn (by rw [hw]; exact hc), Main.instEffect_loop, hw, Main.store1_of_plainObj _ hplain hv]
    · exact (Main.obj_reply_ok _ _ _ _).trans (Main.obj_setObj_same_of_lt _ _ hv)

/-- An operation repeated for the numbers of a list, of which only that for `o` changes what `get` reads. -/
theorem forEach_at {β : Type} (I : Main → Prop) (get : Main → β) (f : Nat → Main → Main) (g : β → β) (o : Nat)
    (hI : ∀ k m, I m → I (f k m)) (hother : ∀ k m, I m → k ≠ o → get (f k m) = get m)
    (hown : ∀ m, I m → get (f o m) = g (get m)) {l : List Nat} (hl : l.Nodup) (m : Main) (hm : I m) :
    get (forEach l f m) = if o ∈ l then g (get m) else get m := by
  induction l generalizing m with
  | nil => rfl
  | cons k l ih =>
    obtain ⟨hk, hl⟩ := List.nodup_cons.1 hl
    have hstep := ih hl (f k m) (hI k m hm)
    change get (forEach l f (f k m)) = _
    by_cases hko : k = o
    · subst hko
      rw [hstep, if_neg hk, if_pos (List.mem_cons_self), hown m hm]
    · have hmem : o ∈ k :: l ↔ o ∈ l := by simp [List.mem_cons, Ne.symm hko]
      rw [hstep, hother k m hm hko, if_congr hmem rfl rfl]

/-- R293: the lines of every output whose bit is clear are low. -/
theorem Main.eeo_eeFollow (m : Main) (o : Fin 8) :
    m.eeFollow.eeo o = if (m.obj O.DV_EE_EN).testBit o then m.eeo o else {} := by
  refine (forEach_at (fun k => k.objs = m.objs) (fun k => k.eeo o) _
    (fun e => if (m.obj O.DV_EE_EN).testBit o then e else {}) o.val (fun j k hk => ?_) (fun j k _ hj => ?_) (fun k hk => ?_)
    List.nodup_range m rfl).trans (if_pos (List.mem_range.2 o.isLt))
  · split <;> exact hk
  · split
    · rfl
    · rw [Main.eeo_modEe, if_neg (Ne.symm hj)]
  · have hobj : k.obj O.DV_EE_EN = m.obj O.DV_EE_EN := by unfold Main.obj; rw [hk]
    rw [hobj]
    split
    · rfl
    · rw [Main.eeo_modEe, if_pos rfl]

theorem Main.objs_eeFollow (m : Main) : m.eeFollow.objs = m.objs := by
  refine forEach_keeps (fun k => k.objs = m.objs) _ (fun o k hk => ?_) (List.range 8) m rfl
  split
  · exact hk
  · exact hk

theorem eeEnRow (sess : Sess) (v : Nat) (s : State) (hv : v < 2 ^ 36) (h : s.rowAccepted (.dvEeEnWrite sess v) = true) :
     Completes (.dvEeEnWrite sess v) s (fun t =>
       (s.start.changesLoad O.DV_EE_EN v = true →
         AsksLedger s t { sess := sess, addr := O.DV_EE_EN, change := .objWrite O.DV_EE_EN v }) ∧
       (s.start.changesLoad O.DV_EE_EN v = false → Done s t ∧ t.main.obj O.DV_EE_EN = v ∧
         ∀ o : Fin 8, t.main.eeo o = if v.testBit o then s.main.eeo o else {})) := by
  have hw := wordN_toNat_of_lt hv
  cases hc : s.start.changesLoad O.DV_EE_EN v with
  | true =>
    refine completes_asksLedger rfl (wordObj_of_plainObj plainObj_eeEn) h ?_ fun t ht => ⟨fun _ => ht, nofun⟩
    rw [Main.wordEffect_of_changesLoad (by rw [hw]; exact hc), hw]
  | false =>
    let n := s.start.setObj O.DV_EE_EN v
    have hn : n.obj O.DV_EE_EN = v := Main.obj_setObj_same_of_lt _ _ hv
    have heffect : s.start.dvEffect v (numOf O.DV_EE_EN) = n.eeFollow := by
      have hnum : numOf O.DV_EE_EN = O.DV_EE_EN := by decide
      rw [hnum]
      simp [Main.dvEffect, Main.store1_of_plainObj _ plainObj_eeEn hv, n]
    refine completes_of_rowAccepted_ok (m := n.eeFollow) rfl (wordObj_of_plainObj plainObj_eeEn) h ?_
      ⟨nofun, fun _ => ⟨done_reply _ _ _ _, ?_, fun o => ?_⟩⟩
    · rw [Main.wordEffect_dv (by rw [hw]; exact hc) (by decide) (by decide), hw, heffect]
    · rw [Main.obj_reply_ok, Main.obj, Main.objs_eeFollow]
      exact hn
    · rw [Main.eeo_reply_ok, Main.eeo_eeFollow, hn]
      rfl

/-- Settles O14. -/
theorem loadAddingRowsAskTheLedger : Obligations.LoadAddingRowsAskTheLedger := by
  unfold Obligations.LoadAddingRowsAskTheLedger
  refine ⟨brimRow, enableRow, fun sess a s => ⟨fun h => ?_, fun h => ?_⟩, loopPeriodRow, eeEnRow⟩
  · exact probeRow sess ⟨a.val, by omega⟩ s (by decide) (by decide) rfl h
  · exact probeRow sess ⟨a.val, by omega⟩ s (by decide) (by decide) rfl h

end Sys2Proof.Machine
end

section
/-! The fast trips (R237-R242): what the lines and overcurrents do to the axes they reach, and what they leave. -/

namespace Sys2Proof.Machine

/-! ### Addresses of lanes -/

/-- Objects of the lanes stand apart by axis and by number. -/
theorem pwAddr_inj {a b k l : Nat} (hk : k < 4096) (hl : l < 4096) (h : pwAddr a k = pwAddr b l) : a = b ∧ k = l := by
  unfold pwAddr at h; omega

theorem pwAddr_ne_of_axis {a b k : Nat} (h : a ≠ b) : pwAddr a k ≠ pwAddr b k := by
  unfold pwAddr; omega

/-! ### The lines -/

/-- The trip lines at work on the outputs: those of the inputs are among them (R239). -/
theorem Main.testBit_tripLines {m : Main} {t : Nat} (ht : t < 8) (h : m.trips.testBit t = true) : m.tripLines.testBit t = true := by
  have hfold : ∀ (l : List Nat) (x : Nat), x.testBit t = true →
      (l.foldl (fun t a => if (m.ln a).oc then t ||| m.obj (pwAddr a O.PW_OC_SPREAD) else t) x).testBit t = true := by
    intro l
    induction l with
    | nil => exact fun x hx => hx
    | cons a l ih =>
      intro x hx
      refine ih _ ?_
      dsimp only
      split
      · rw [Nat.testBit_or, hx, Bool.true_or]
      · exact hx
  unfold Main.tripLines
  rw [show (256 : Nat) = 2 ^ 8 from rfl, Nat.testBit_mod_two_pow, hfold _ _ h]
  simp [ht]

theorem Main.tripLines_lt (m : Main) : m.tripLines < 256 := Nat.mod_lt _ (by decide)

/-- The lines rest on the inputs, the overcurrents and PW_OC_SPREAD only. -/
theorem Main.tripLines_congr {m n : Main} (ht : n.trips = m.trips) (hoc : ∀ a, (n.ln a).oc = (m.ln a).oc)
    (ho : ∀ a, n.obj (pwAddr a O.PW_OC_SPREAD) = m.obj (pwAddr a O.PW_OC_SPREAD)) : n.tripLines = m.tripLines := by
  unfold Main.tripLines
  rw [ht]
  simp only [hoc, ho]

/-! ### tripsFollow in parts -/

/-- R242: a line that becomes active is latched and counted. -/
def tripNote (t : Nat) (m : Main) : Main := (m.orObj O.DV_TRIP_LATCH (2 ^ t)).inc (O.DV_TRIPt_COUNT + t)

/-- The lines that become active. -/
def Main.newLines (m : Main) : List Nat := (List.range 8).filter (fun t => m.tripLines.testBit t && !m.tripOn.testBit t)

/-- The lines are taken over, latched and counted. -/
def Main.noteLines (m : Main) : Main := forEach m.newLines tripNote { m with tripOn := m.tripLines }

@[simp] theorem Main.ln_raise (m : Main) (i bit k : Nat) (r : Option Nat) : (m.raise i bit r).ln k = m.ln k := rfl
@[simp] theorem Main.obj_raise (m : Main) (i bit b : Nat) (r : Option Nat) : (m.raise i bit r).obj b = m.obj b := rfl

/-- What acts on an axis: the lines that it selects, and its own overcurrent as bit 8. -/
def tripSrc (lines : Nat) (a : Nat) (m : Main) : Nat :=
  (lines &&& m.obj (pwAddr a O.PW_TRIP_SEL)) + 256 * b2n (m.ln a).oc

/-- The lane with its outputs held. -/
def Lane.withHold (l : Lane) : Lane := { l with hold := true }

/-- R240: an axis on which something newly acts is held, with TRIP raised. -/
def tripMark (lines : Nat) (a : Nat) (m : Main) : Main :=
  if (tripSrc lines a m ||| m.obj (pwAddr a O.PW_TRIP_SRC)) = m.obj (pwAddr a O.PW_TRIP_SRC) then m
  else ((m.orObj (pwAddr a O.PW_TRIP_SRC) (tripSrc lines a m)).modLn a Lane.withHold).raise a cTrip (some 0)

theorem Main.tripsFollow_eq (m : Main) : m.tripsFollow = forEach axes (tripMark m.tripLines) m.noteLines := rfl

/-! ### What the parts leave -/

theorem tripNote_obj (t : Nat) (m : Main) {b : Nat} (h1 : b ≠ O.DV_TRIP_LATCH) (h2 : b ≠ O.DV_TRIPt_COUNT + t) :
    (tripNote t m).obj b = m.obj b := by
  unfold tripNote Main.inc Main.orObj
  rw [Main.objs_keep _ _ _ _ h2, Main.objs_keep _ _ _ _ h1]

/-- Latching and counting write objects only. -/
theorem Main.noteLines_frame (m : Main) : ∃ o, m.noteLines = { m with tripOn := m.tripLines, objs := o } := by
  refine forEach_keeps (fun n => ∃ o, n = { m with tripOn := m.tripLines, objs := o }) tripNote ?_ _ _ ⟨m.objs, rfl⟩
  rintro t n ⟨o, rfl⟩
  exact ⟨_, rfl⟩

/-- Of the objects they write the latch and the counts of the lines. -/
theorem Main.noteLines_obj (m : Main) {b : Nat} (h1 : b ≠ O.DV_TRIP_LATCH) (h2 : ∀ t, t < 8 → b ≠ O.DV_TRIPt_COUNT + t) :
    m.noteLines.obj b = m.obj b := by
  have hlist : ∀ (l : List Nat) (n : Main), (∀ t ∈ l, t < 8) → (forEach l tripNote n).obj b = n.obj b := by
    intro l
    induction l with
    | nil => exact fun _ _ => rfl
    | cons t l ih =>
      intro n hl
      rw [forEach_cons, ih _ (fun k hk => hl k (List.mem_cons_of_mem _ hk)), tripNote_obj _ _ h1 (h2 t (hl t List.mem_cons_self))]
  exact hlist _ _ fun t ht => List.mem_range.1 (List.mem_of_mem_filter ht)

/-- The objects of a lane stand apart from the latch and the counts. -/
theorem Main.noteLines_obj_pw (m : Main) (a n : Nat) : m.noteLines.obj (pwAddr a n) = m.obj (pwAddr a n) := by
  refine m.noteLines_obj ?_ fun t ht => ?_ <;> unfold pwAddr
  · have : O.DV_TRIP_LATCH < 4096 := by decide
    omega
  · have : O.DV_TRIPt_COUNT < 4096 := by decide
    omega

theorem tripMark_frame (lines a : Nat) (m : Main) : ∃ o l i, tripMark lines a m = { m with objs := o, lane := l, inst := i } := by
  unfold tripMark
  split
  · exact ⟨m.objs, m.lane, m.inst, rfl⟩
  · exact ⟨_, _, _, rfl⟩

theorem tripMark_obj (lines a : Nat) (m : Main) {b : Nat} (h : b ≠ pwAddr a O.PW_TRIP_SRC) : (tripMark lines a m).obj b = m.obj b := by
  unfold tripMark
  split
  · rfl
  · exact Main.objs_keep _ _ _ _ h

/-! ### One axis -/

/-- What the fast trips change of an axis: its hold, PW_TRIP_SRC and the causes raised. -/
structure TripView where
  lane : Lane
  src  : Nat
  inst : Inst

/-- The view of axis `a`. -/
def Main.tripView (m : Main) (a : Nat) : TripView := ⟨m.ln a, m.obj (pwAddr a O.PW_TRIP_SRC), m.i a⟩

/-- TRIP raised with reaction 0. -/
def Core.tripped (c : Core) : Core :=
  { c with raised := c.raised ||| 2 ^ cTrip, raisedR := 0 }

/-- The axis with `lines` acting, where it selects those of `sel`. -/
def TripView.follow (lines sel : Nat) (x : TripView) : TripView :=
  let src := (lines &&& sel) + 256 * b2n x.lane.oc
  if (src ||| x.src) = x.src then x
  else ⟨x.lane.withHold, (x.src ||| src) % 2 ^ 72, { x.inst with core := x.inst.core.tripped }⟩

/-- A cause raised with reaction 0 asks for reaction 0. -/
theorem Main.core_raise_zero (m : Main) (i bit : Nat) : ((m.raise i bit (some 0)).i i) =
    { m.i i with core := { (m.i i).core with raised := (m.i i).core.raised ||| 2 ^ bit, raisedR := 0 } } := by
  unfold Main.raise Main.modC
  rw [Main.i_modI, if_pos rfl]
  simp

theorem tripMark_view (lines a : Nat) (m : Main) :
    (tripMark lines a m).tripView a = (m.tripView a).follow lines (m.obj (pwAddr a O.PW_TRIP_SEL)) := by
  unfold tripMark TripView.follow
  have hsrc : tripSrc lines a m = (lines &&& m.obj (pwAddr a O.PW_TRIP_SEL)) + 256 * b2n (m.tripView a).lane.oc := rfl
  rw [hsrc]
  dsimp only
  change (if ((lines &&& m.obj (pwAddr a O.PW_TRIP_SEL)) + 256 * b2n (m.tripView a).lane.oc ||| (m.tripView a).src) =
    (m.tripView a).src then m else _).tripView a = _
  split
  next => rfl
  next =>
    unfold Main.tripView
    rw [Main.core_raise_zero]
    rw [Main.ln_raise, Main.ln_modLn, if_pos rfl, Main.obj_raise]
    congr 1
    exact Main.obj_setObj_same _ _ _

theorem tripMark_view_other (lines : Nat) {a b : Nat} (m : Main) (h : a ≠ b) : (tripMark lines a m).tripView b = m.tripView b := by
  have hobj := tripMark_obj lines a m (b := pwAddr b O.PW_TRIP_SRC) (pwAddr_ne_of_axis (Ne.symm h))
  have hlane : (tripMark lines a m).ln b = m.ln b := by
    unfold tripMark
    split
    · rfl
    · rw [Main.ln_raise, Main.ln_modLn, if_neg (Ne.symm h)]
      rfl
  have hinst : (tripMark lines a m).i b = m.i b := by
    unfold tripMark
    split
    · rfl
    · exact Main.raise_core _ _ _ _ _ (Ne.symm h)
  unfold Main.tripView
  rw [hobj, hlane, hinst]

/-- R240: what the trips leave of axis `a`. -/
theorem Main.tripView_tripsFollow (m : Main) (a : Ax) :
    m.tripsFollow.tripView a = (m.tripView a).follow m.tripLines (m.obj (pwAddr a O.PW_TRIP_SEL)) := by
  have hview : m.noteLines.tripView a = m.tripView a := by
    obtain ⟨o, ho⟩ := m.noteLines_frame
    have hobj := m.noteLines_obj_pw a O.PW_TRIP_SRC
    unfold Main.tripView
    rw [hobj, ho]
    rfl
  rw [Main.tripsFollow_eq]
  refine (forEach_at (fun k => k.obj (pwAddr a O.PW_TRIP_SEL) = m.obj (pwAddr a O.PW_TRIP_SEL)) (fun k => k.tripView a) _
    (fun x => x.follow m.tripLines (m.obj (pwAddr a O.PW_TRIP_SEL))) a.val (fun k n hn => ?_) (fun k n _ hk => ?_)
    (fun n hn => ?_) List.nodup_range m.noteLines (m.noteLines_obj_pw a _)).trans ?_
  · refine (tripMark_obj _ _ _ fun h => ?_).trans hn
    exact absurd (pwAddr_inj (by decide) (by decide) h).2 (by decide)
  · exact tripMark_view_other _ _ hk
  · rw [← hn]
    exact tripMark_view _ _ _
  · rw [if_pos (List.mem_range.2 a.isLt), hview]

/-! ### The whole -/

/-- The trips write objects, lanes and instances only. -/
theorem Main.tripsFollow_frame (m : Main) :
    ∃ o l i, m.tripsFollow = { m with objs := o, lane := l, inst := i, tripOn := m.tripLines } := by
  obtain ⟨o, ho⟩ := m.noteLines_frame
  rw [Main.tripsFollow_eq]
  refine forEach_keeps (fun n => ∃ o l i, n = { m with objs := o, lane := l, inst := i, tripOn := m.tripLines }) _ ?_ axes
    m.noteLines ⟨o, m.lane, m.inst, ho⟩
  rintro a n ⟨o, l, i, rfl⟩
  obtain ⟨o', l', i', h⟩ := tripMark_frame m.tripLines a { m with objs := o, lane := l, inst := i, tripOn := m.tripLines }
  exact ⟨o', l', i', h⟩

/-- The marking of the axes writes PW_TRIP_SRC of the objects. -/
theorem forEach_tripMark_obj (lines : Nat) (l : List Nat) (m : Main) {b : Nat} (h : ∀ a, b ≠ pwAddr a O.PW_TRIP_SRC) :
    (forEach l (tripMark lines) m).obj b = m.obj b :=
  forEach_frame (fun n => n.obj b) _ (fun a n => tripMark_obj lines a n (h a)) l m

/-- Objects outside the device and the lanes stand as they were. -/
theorem Main.obj_tripsFollow (m : Main) {b : Nat} (h0 : areaOf b ≠ 0) (h : ∀ a, b ≠ pwAddr a O.PW_TRIP_SRC) :
    m.tripsFollow.obj b = m.obj b := by
  rw [Main.tripsFollow_eq, forEach_tripMark_obj _ _ _ h, Main.noteLines_obj]
  · rintro rfl
    exact h0 (by decide)
  · rintro t ht rfl
    refine h0 ?_
    unfold areaOf O.DV_TRIPt_COUNT
    omega

end Sys2Proof.Machine
end

section
/-! What the acquisition units write: their own part of the state and their own objects, whatever they record. -/

namespace Sys2Proof.Machine

/-- Of the main die only the acquisition units and their objects have changed. -/
structure Main.AqOnly (m n : Main) : Prop where
  frame : ∃ o a, n = { m with objs := o, aq := a }
  obj : ∀ b, areaOf b ≠ 10 → n.obj b = m.obj b

/-- What each application for an element of the list keeps, the whole keeps. -/
theorem foldl_keeps_mem {α β : Type} (P : β → Prop) (f : β → α → β) (l : List α) (h : ∀ x ∈ l, ∀ m, P m → P (f m x)) :
    ∀ m, P m → P (l.foldl f m) := by
  induction l with
  | nil => exact fun m hm => hm
  | cons x l ih =>
    exact fun m hm => ih (fun y hy => h y (List.mem_cons_of_mem _ hy)) _ (h x List.mem_cons_self m hm)

section
variable {m n k : Main} {u : Nat}

theorem Main.AqOnly.refl (m : Main) : Main.AqOnly m m := ⟨⟨m.objs, m.aq, rfl⟩, fun _ _ => rfl⟩

theorem Main.AqOnly.trans (h : Main.AqOnly m n) (h' : Main.AqOnly n k) : Main.AqOnly m k := by
  refine ⟨?_, fun b hb => (h'.obj b hb).trans (h.obj b hb)⟩
  obtain ⟨o, a, rfl⟩ := h.frame
  obtain ⟨o', a', rfl⟩ := h'.frame
  exact ⟨o', a', rfl⟩

theorem Main.AqOnly.foldl {α : Type} (f : Main → α → Main) (l : List α) (hf : ∀ x ∈ l, ∀ m, Main.AqOnly m (f m x)) (m : Main) :
    Main.AqOnly m (l.foldl f m) :=
  foldl_keeps_mem (Main.AqOnly m) f l (fun x hx k hk => hk.trans (hf x hx k)) m (.refl m)

theorem Main.AqOnly.modAq (m : Main) (u : Nat) (f : AqUnit → AqUnit) : Main.AqOnly m (m.modAq u f) :=
  ⟨⟨m.objs, _, rfl⟩, fun _ _ => rfl⟩

theorem Main.AqOnly.setObj (m : Main) {c : Nat} (v : Nat) (hu : u < 8) (hc : c < 4096) :
    Main.AqOnly m (m.setObj (aqAddr u c) v) := by
  refine ⟨⟨_, m.aq, rfl⟩, fun b hb => Main.objs_keep _ _ _ _ ?_⟩
  rintro rfl
  exact hb (aqAddr_parts (by omega) hc).1

theorem Main.AqOnly.aqPush (m : Main) (hu : u < 8) (r : AqRec) : Main.AqOnly m (m.aqPush u r) := by
  unfold Main.aqPush
  split
  · exact .modAq m u _
  · exact (Main.AqOnly.modAq m u _).trans (.setObj _ _ hu (by decide))

theorem Main.AqOnly.aqPut (m : Main) (hu : u < 8) (kind ch tag : Nat) (w : Word) : Main.AqOnly m (m.aqPut u kind ch tag w) := by
  unfold Main.aqPut
  dsimp only
  split
  · exact ((Main.AqOnly.aqPush m hu _).trans (.modAq _ u _)).trans (.aqPush _ hu _)
  · exact .aqPush m hu _

theorem Main.AqOnly.aqStore (m : Main) (hu : u < 8) (r : AqRec) : Main.AqOnly m (m.aqStore u r) := by
  unfold Main.aqStore
  refine (Main.AqOnly.setObj (c := O.AQ_FILL) m (min (m.obj (aqAddr u O.AQ_FILL) + 1) (2 ^ 36 - 1)) hu (by decide)).trans ?_
  dsimp only
  split
  · exact .modAq _ u _
  · split
    · exact (Main.AqOnly.modAq _ u _).trans (.setObj _ _ hu (by decide))
    · exact .refl _
  · exact .refl _

theorem Main.AqOnly.aqDrain (m : Main) (hu : u < 8) : Main.AqOnly m (m.aqDrain u) :=
  (Main.AqOnly.modAq m u _).trans (.foldl _ _ (fun r _ m => .aqStore m hu r) _)

theorem Main.AqOnly.aqFlush (m : Main) (hu : u < 8) : Main.AqOnly m (m.aqFlush u) := by
  unfold Main.aqFlush
  refine (Main.AqOnly.aqDrain m hu).trans ?_
  dsimp only
  split
  · exact .refl _
  · exact (((Main.AqOnly.modAq _ u _).trans (.aqPut _ hu _ _ _ _)).trans (.aqDrain _ hu)).trans (.setObj _ _ hu (by decide))

theorem Main.AqOnly.aqCause (m : Main) (u cause t : Nat) : Main.AqOnly m (m.aqCause u cause t) := by
  unfold Main.aqCause
  split
  · exact .modAq m u _
  · exact .refl m

/-- What every unit does. -/
theorem Main.AqOnly.units (f : Nat → Main → Main) (hf : ∀ u, u < 8 → ∀ m, Main.AqOnly m (f u m)) (m : Main) :
    Main.AqOnly m (forEach aqUnits f m) :=
  .foldl _ _ (fun u hu m => hf u (List.mem_range.1 hu) m) m

/-- The records of an edge of source `s` in unit `u`. -/
def Main.aqRecordEdge (m : Main) (u s : Nat) (level : Bool) (t : Nat) : Main :=
  if m.aqRecording u then
    ((List.range 8).foldl (fun m c =>
      if m.aqSrc u c = 2 * 2 ^ 32 + s then m.aqPut u 0 c (m.aqTag u c t) (BitVec.ofNat 36 (b2n level)) else m) m).aqFlush u
  else m

theorem Main.AqOnly.aqRecordEdge (m : Main) (hu : u < 8) (s : Nat) (level : Bool) (t : Nat) :
    Main.AqOnly m (m.aqRecordEdge u s level t) := by
  unfold Main.aqRecordEdge
  split
  · refine Main.AqOnly.trans (.foldl _ _ (fun c _ m => ?_) m) (.aqFlush _ hu)
    split
    · exact .aqPut m hu _ _ _ _
    · exact .refl m
  · exact .refl m

/-- The edge as unit `u` takes it: its records, and the cause EVENT where the unit asks for it. -/
def Main.aqEdgeUnit (s : Nat) (level : Bool) (t u : Nat) (m : Main) : Main :=
  let n := m.aqRecordEdge u s level t
  let ev := n.obj (aqAddr u O.AQ_TRIG_EVT)
  if ev % 256 = s ∧ (ev / 256).testBit (if level then 0 else 1) then n.aqCause u 1 t else n

theorem Main.aqEdge_eq (m : Main) (s : Nat) (level : Bool) (t : Nat) :
    m.aqEdge s level t = forEach aqUnits (Main.aqEdgeUnit s level t) m := rfl

theorem Main.AqOnly.aqEdge (m : Main) (s : Nat) (level : Bool) (t : Nat) : Main.AqOnly m (m.aqEdge s level t) := by
  rw [Main.aqEdge_eq]
  refine .units _ (fun u hu m => ?_) m
  unfold Main.aqEdgeUnit
  refine (Main.AqOnly.aqRecordEdge m hu s level t).trans ?_
  generalize m.aqRecordEdge u s level t = n
  dsimp only
  generalize (if level = true then 0 else 1) = b
  split
  · exact .aqCause _ _ _ _
  · exact .refl _

theorem Main.AqOnly.aqNet (m : Main) (id t : Nat) : Main.AqOnly m (m.aqNet id t) := by
  refine .units _ (fun u hu m => ?_) m
  split
  · exact .aqCause _ _ _ _
  · exact .refl _

/-- The whole groups of 32 bits of a channel are recorded. -/
theorem Main.AqOnly.aqGroups (hu : u < 8) (c : Nat) (tag : List Bool × Nat → Nat) (l : List (List Bool × Nat)) (m : Main) :
    Main.AqOnly m (l.foldl (fun m g => m.aqPut u 6 c (m.aqTag u c (tag g)) (BitVec.ofNat 36 (natOfBits g.1))) m) :=
  .foldl _ _ (fun g _ m => .aqPut m hu 6 c (m.aqTag u c (tag g)) _) m

theorem Main.AqOnly.aqRaw (m : Main) (sd : Nat) (bits : List Bool) (s per : Nat) : Main.AqOnly m (m.aqRaw sd bits s per) := by
  refine .units _ (fun u hu m => ?_) m
  split
  · exact .refl m
  · refine Main.AqOnly.trans ?_ (.aqFlush _ hu)
    refine .foldl _ _ (fun c _ m => ?_) m
    split
    · refine Main.AqOnly.trans ?_ (.modAq _ u _)
      exact .aqGroups hu c _ _ m
    · exact .refl m

end

end Sys2Proof.Machine
end

section
/-! Trip lines and overcurrents hold the axes they reach (R236-R242). -/

namespace Sys2Proof.Machine

/-! ### Bits -/

theorem putBit_false_testBit (n b k : Nat) : (putBit n b false).testBit k = (n.testBit k && decide (k ≠ b)) := by
  unfold putBit
  rw [if_neg Bool.false_ne_true]
  cases hb : n.testBit b with
  | false =>
    rw [if_neg Bool.false_ne_true]
    by_cases hk : k = b
    · subst hk; simp [hb]
    · simp [hk]
  | true =>
    rw [if_pos rfl]
    let q := n / 2 ^ b / 2
    let r := n % 2 ^ b
    have hr : r < 2 ^ b := Nat.mod_lt _ (Nat.two_pow_pos b)
    have hodd : n / 2 ^ b % 2 = 1 := by simpa [Nat.testBit_eq_decide_div_mod_eq] using hb
    have hdiv : n / 2 ^ b = 2 * q + 1 := by simp only [q]; omega
    have hn : 2 ^ b * (2 * q + 1) + r = n := by rw [← hdiv]; exact Nat.div_add_mod n (2 ^ b)
    have hsub : n - 2 ^ b = 2 ^ b * (2 * q) + r := by rw [← hn, Nat.mul_add]; omega
    rw [hsub, Nat.testBit_two_pow_mul_add _ hr]
    rw [← hn, Nat.testBit_two_pow_mul_add _ hr]
    rcases Nat.lt_trichotomy k b with hk | hk | hk
    · simp [hk, Nat.ne_of_lt hk]
    · subst hk
      simp
    · obtain ⟨j, rfl⟩ : ∃ j, k = b + (j + 1) := ⟨k - b - 1, by omega⟩
      have hlt : ¬ b + (j + 1) < b := by omega
      have hne : b + (j + 1) ≠ b := by omega
      simp only [hlt, if_false, hne, ne_eq, not_false_eq_true, decide_true, Bool.and_true, Nat.add_sub_cancel_left,
        Nat.testBit_add_one]
      congr 1
      omega

/-! ### Lines that become active -/

/-- R242: a line that becomes active is latched and counted. -/
theorem Main.obj_noteLines {m : Main} {t : Nat} (ht : t < 8) (hon : m.tripLines.testBit t = true)
    (hnew : m.tripOn.testBit t = false) : (m.noteLines.obj O.DV_TRIP_LATCH).testBit t = true ∧
    m.noteLines.obj (O.DV_TRIPt_COUNT + t) = (m.obj (O.DV_TRIPt_COUNT + t) + 1) % 2 ^ 36 := by
  have hmem : t ∈ m.newLines := by
    unfold Main.newLines
    rw [List.mem_filter, List.mem_range]
    exact ⟨ht, by rw [hon, hnew]; rfl⟩
  have hnodup : m.newLines.Nodup := List.nodup_range.filter _
  have hapart : ∀ k, O.DV_TRIP_LATCH ≠ O.DV_TRIPt_COUNT + k := by
    unfold O.DV_TRIP_LATCH O.DV_TRIPt_COUNT
    omega
  have hlatch : ∀ k (n : Main), ((tripNote k n).obj O.DV_TRIP_LATCH).testBit t =
      ((n.obj O.DV_TRIP_LATCH).testBit t || decide (k = t)) := by
    intro k n
    unfold tripNote Main.inc
    rw [Main.objs_keep _ _ _ _ (hapart k), Main.orObj, Main.obj_setObj_same, Nat.testBit_mod_two_pow, Nat.testBit_or,
      Nat.testBit_two_pow]
    simp [show t < 72 by omega]
  constructor
  · refine (forEach_at (fun _ => True) (fun k => (k.obj O.DV_TRIP_LATCH).testBit t) tripNote (fun _ => true) t
      (fun _ _ _ => trivial) (fun k n _ hk => ?_) (fun n _ => ?_) hnodup _ trivial).trans (if_pos hmem)
    · rw [hlatch]; simp [hk]
    · rw [hlatch]; simp
  · refine (forEach_at (fun _ => True) (fun k => k.obj (O.DV_TRIPt_COUNT + t)) tripNote (fun x => (x + 1) % 2 ^ 36) t
      (fun _ _ _ => trivial) (fun k n _ hk => ?_) (fun n _ => ?_) hnodup _ trivial).trans (if_pos hmem)
    · exact tripNote_obj k n (Ne.symm (hapart t)) (by omega)
    · unfold tripNote
      rw [Main.obj_inc_same]
      exact congrArg (fun x => (x + 1) % 2 ^ 36) (Main.objs_keep _ _ _ _ (Ne.symm (hapart t)))

/-- The objects of the device stand apart from those of the lanes. -/
theorem Main.obj_tripsFollow_dv (m : Main) {b : Nat} (hb : b < 4096) : m.tripsFollow.obj b = m.noteLines.obj b := by
  rw [Main.tripsFollow_eq]
  refine forEach_tripMark_obj _ _ _ fun a => ?_
  unfold pwAddr
  omega

/-! ### Axes -/

/-- A hold stands. -/
theorem TripView.hold_follow (lines sel : Nat) {x : TripView} (h : x.lane.hold = true) : (x.follow lines sel).lane.hold = true := by
  unfold TripView.follow
  dsimp only
  split
  · exact h
  · rfl

/-- R240: with nothing acting on the axis before, a source that acts holds it, with TRIP raised and the source in PW_TRIP_SRC. -/
theorem TripView.follow_of_new {lines sel k : Nat} {x : TripView} (hx : x.src = 0) (hl : lines < 256)
    (hbit : ((lines &&& sel) + 256 * b2n x.lane.oc).testBit k = true) :
    (x.follow lines sel).lane.hold = true ∧ (x.follow lines sel).src.testBit k = true ∧
    (x.follow lines sel).inst.core.raised.testBit cTrip = true ∧ (x.follow lines sel).inst.core.raisedR = 0 ∧
    (x.follow lines sel).lane.oc = x.lane.oc := by
  have hne : ¬((lines &&& sel) + 256 * b2n x.lane.oc ||| x.src) = x.src := by
    rw [hx, Nat.or_zero]
    intro h
    rw [h, Nat.zero_testBit] at hbit
    exact absurd hbit (by decide)
  have hlt : (lines &&& sel) + 256 * b2n x.lane.oc < 2 ^ 72 := by
    have hand : lines &&& sel ≤ lines := Nat.and_le_left
    have hb := b2n_le_one x.lane.oc
    omega
  unfold TripView.follow
  dsimp only
  rw [if_neg hne]
  refine ⟨rfl, ?_, ?_, rfl, rfl⟩
  · rw [hx, Nat.zero_or, Nat.mod_eq_of_lt hlt]
    exact hbit
  · change (x.inst.core.raised ||| 2 ^ cTrip).testBit cTrip = true
    rw [Nat.testBit_or, Nat.testBit_two_pow_self, Bool.or_true]

/-- A line among those that act, and selected, is among the sources. -/
theorem testBit_src_of_line {lines sel k b : Nat} (hk : k < 8) (hl : lines.testBit k = true) (hs : sel.testBit k = true) :
    ((lines &&& sel) + 256 * b).testBit k = true := by
  have hmod : ((lines &&& sel) + 256 * b) % 2 ^ 8 = (lines &&& sel) % 2 ^ 8 := by omega
  have h := Nat.testBit_mod_two_pow ((lines &&& sel) + 256 * b) 8 k
  rw [hmod, Nat.testBit_mod_two_pow, Nat.testBit_and, hl, hs] at h
  simpa [hk] using h.symm

/-- An overcurrent is source 8. -/
theorem testBit_src_of_oc {lines sel : Nat} (hl : lines < 256) : ((lines &&& sel) + 256 * b2n true).testBit 8 = true := by
  have hand : lines &&& sel ≤ lines := Nat.and_le_left
  rw [Nat.testBit_eq_decide_div_mod_eq]
  have hdiv : ((lines &&& sel) + 256 * b2n true) / 2 ^ 8 % 2 = 1 := by
    have h1 : b2n true = 1 := rfl
    rw [h1]
    omega
  rw [hdiv]
  rfl

/-! ### The commands -/

/-- The main die with its trip inputs as given. -/
def Main.withTrips (m : Main) (x : Nat) : Main := { m with trips := x }

theorem exec_tripInputQualified (t0 : Fin 8) (s : State) : exec (.tripInputQualified t0) s = .next { s with
    main := if (s.main.obj O.DV_TRIP_EN).testBit t0 then (s.start.withTrips (s.start.trips ||| 2 ^ t0.val)).tripsFollow
    else s.start } := rfl

theorem exec_tripInputUnqualified (t0 : Fin 8) (s : State) : exec (.tripInputUnqualified t0) s = .next { s with
    main := (s.start.withTrips (putBit s.start.trips t0 false)).tripsFollow } := rfl

/-- R237: the overcurrent comparators of an axis test one output of its trip decimators. -/
def Main.ocTest (m : Main) (a : Nat) (u v : List Bool) : Bool :=
  let lim := fracQ (m.objW (pwAddr a O.PW_OC_LIMIT))
  let iu := m.phaseCurrent a (m.obj (pwAddr a O.PW_OSR_TRIP)) O.PW_SD_OFS_U u
  let iv := m.phaseCurrent a (m.obj (pwAddr a O.PW_OSR_TRIP)) O.PW_SD_OFS_V v
  m.io a O.AX_MOTOR_TYPE != 0 && lim != 0 &&
    (decide (lim < absQ iu) || (m.io a O.AX_MOTOR_TYPE == 1 && (decide (lim < absQ iv) || decide (lim < absQ (iu + iv)))))

/-- The lane with the outcome of that test. -/
def Lane.withOc (l : Lane) (oc : Bool) : Lane := { l with oc := oc }

theorem exec_tripDecimatorOutput (a : Ax) (u v : List Bool) (s : State) : exec (.tripDecimatorOutput a u v) s = .next { s with
    main := ((s.start.takeRaw a s.start.now u v).modLn a (fun l => l.withOc (s.start.ocTest a u v))).tripsFollow } := rfl

theorem Main.ocTest_of_over {m : Main} {a : Nat} {u v : List Bool} (hm : m.io a O.AX_MOTOR_TYPE ≠ 0)
    (hlim : 0 < fracQ (m.objW (pwAddr a O.PW_OC_LIMIT)))
    (h : fracQ (m.objW (pwAddr a O.PW_OC_LIMIT)) < absQ (m.phaseCurrent a (m.obj (pwAddr a O.PW_OSR_TRIP)) O.PW_SD_OFS_U u)) :
    m.ocTest a u v = true := by
  unfold Main.ocTest
  simp [hm, ne_of_gt hlim, h]

theorem Main.ocTest_of_none {m : Main} {a : Nat} {u v : List Bool}
    (h : m.io a O.AX_MOTOR_TYPE = 0 ∨ m.obj (pwAddr a O.PW_OC_LIMIT) = 0) : m.ocTest a u v = false := by
  unfold Main.ocTest
  rcases h with hm | hlim
  · simp [hm]
  · have hw : fracQ (m.objW (pwAddr a O.PW_OC_LIMIT)) = 0 := by
      unfold Main.objW
      rw [hlim]
      decide +kernel
    simp [hw]

/-- The new bits of the loop decimators change the acquisition units and the loop only. -/
theorem Main.takeRaw_frame (m : Main) (a t : Nat) (u v : List Bool) :
    ∃ n, Main.AqOnly n (m.takeRaw a t u v) ∧ n.objs = m.objs ∧ n.lane = m.lane ∧ ∀ k, (n.i k).core = (m.i k).core := by
  unfold Main.takeRaw
  dsimp only
  refine ⟨m.modL a (fun l => { l with rawT := max l.rawT (t - m.sdAge a t) }), ?_, rfl, rfl, fun k => ?_⟩
  · split
    · exact .aqRaw _ _ _ _ _
    · exact (Main.AqOnly.aqRaw _ _ _ _ _).trans (.aqRaw _ _ _ _ _)
  · unfold Main.modL
    rw [Main.i_modI]
    split
    next h => rw [h]
    next => rfl

theorem Main.trips_tripsFollow (m : Main) : m.tripsFollow.trips = m.trips := by
  obtain ⟨o, l, i, h⟩ := m.tripsFollow_frame
  rw [h]

/-- The fast trips act on the axis for the first time. -/
theorem Main.tripsFollow_of_new {m : Main} {a : Ax} {k : Nat} (hsrc : m.obj (pwAddr a O.PW_TRIP_SRC) = 0)
    (hbit : ((m.tripLines &&& m.obj (pwAddr a O.PW_TRIP_SEL)) + 256 * b2n (m.ln a).oc).testBit k = true) :
    (m.tripsFollow.ln a).hold = true ∧ (m.tripsFollow.obj (pwAddr a O.PW_TRIP_SRC)).testBit k = true ∧
    (m.tripsFollow.i a).core.raised.testBit cTrip = true ∧ (m.tripsFollow.i a).core.raisedR = 0 := by
  obtain ⟨hhold, hsrcbit, hraised, hr, -⟩ := TripView.follow_of_new (x := m.tripView a) hsrc m.tripLines_lt hbit
  rw [← m.tripView_tripsFollow a] at hhold hsrcbit hraised hr
  exact ⟨hhold, hsrcbit, hraised, hr⟩

/-- The trips leave the overcurrents as they were, and every hold. -/
theorem Main.oc_tripsFollow (m : Main) (a : Ax) : (m.tripsFollow.ln a).oc = (m.ln a).oc := by
  have hkeep : ∀ (lines sel : Nat) (x : TripView), (x.follow lines sel).lane.oc = x.lane.oc := by
    intro lines sel x
    unfold TripView.follow
    dsimp only
    split <;> rfl
  exact (congrArg (fun x => x.lane.oc) (m.tripView_tripsFollow a)).trans (hkeep _ _ _)

theorem Main.hold_tripsFollow {m : Main} {a : Ax} (h : (m.ln a).hold = true) : (m.tripsFollow.ln a).hold = true :=
  (congrArg (fun x => x.lane.hold) (m.tripView_tripsFollow a)).trans (TripView.hold_follow _ _ h)

/-- R238, R240, R242: an input that is active. -/
theorem Main.tripsFollow_of_input {m : Main} {t : Fin 8} (h : m.trips.testBit t = true) :
    m.tripsFollow.trips.testBit t = true ∧
    (m.tripOn.testBit t = false → (m.tripsFollow.obj O.DV_TRIP_LATCH).testBit t = true ∧
      m.tripsFollow.obj (O.DV_TRIPt_COUNT + t) = (m.obj (O.DV_TRIPt_COUNT + t) + 1) % 2 ^ 36) ∧
    ∀ a : Ax, (m.obj (pwAddr a O.PW_TRIP_SEL)).testBit t = true → m.obj (pwAddr a O.PW_TRIP_SRC) = 0 →
      (m.tripsFollow.ln a).hold = true ∧ (m.tripsFollow.obj (pwAddr a O.PW_TRIP_SRC)).testBit t = true ∧
      (m.tripsFollow.i a).core.raised.testBit cTrip = true ∧ (m.tripsFollow.i a).core.raisedR = 0 := by
  have hline := Main.testBit_tripLines t.isLt h
  refine ⟨by rw [Main.trips_tripsFollow, h], fun hnew => ?_, fun a hsel hsrc => ?_⟩
  · have hcount : O.DV_TRIPt_COUNT + t.val < 4096 := by unfold O.DV_TRIPt_COUNT; omega
    have hlatch : O.DV_TRIP_LATCH < 4096 := by decide
    rw [Main.obj_tripsFollow_dv _ hcount, Main.obj_tripsFollow_dv _ hlatch]
    exact Main.obj_noteLines t.isLt hline hnew
  · exact Main.tripsFollow_of_new hsrc (testBit_src_of_line t.isLt hline hsel)

/-- Settles O29. -/
theorem tripsHoldTheirAxes : Obligations.TripsHoldTheirAxes := by
  unfold Obligations.TripsHoldTheirAxes
  refine ⟨fun t0 s => ⟨fun hen => ?unarmed, fun hen => ?qualified⟩, fun t0 s => ?unqualified,
    fun a u v s => ⟨fun hm hlim hover hsrc => ?above, fun h => ?quiet⟩⟩
  case unarmed =>
    refine ⟨_, exec_tripInputQualified t0 s, ?_⟩
    rw [hen, if_neg Bool.false_ne_true]
  case qualified =>
    have htrips : (s.start.trips ||| 2 ^ t0.val).testBit t0 = true := by
      rw [Nat.testBit_or, Nat.testBit_two_pow_self, Bool.or_true]
    refine ⟨_, exec_tripInputQualified t0 s, ?_⟩
    rw [if_pos hen]
    exact Main.tripsFollow_of_input (m := s.start.withTrips (s.start.trips ||| 2 ^ t0.val)) htrips
  case unqualified =>
    have hbit := putBit_false_testBit s.start.trips t0
    refine ⟨_, exec_tripInputUnqualified t0 s, ?_, fun k hk => ?_, fun a hhold => ?_⟩
    · rw [Main.trips_tripsFollow]
      exact (hbit t0).trans (by simp)
    · rw [Main.trips_tripsFollow]
      exact (hbit k).trans (by simp [hk]; rfl)
    · exact Main.hold_tripsFollow (m := s.start.withTrips (putBit s.start.trips t0 false)) hhold
  case above =>
    refine ⟨_, exec_tripDecimatorOutput a u v s, ?_⟩
    obtain ⟨k, hraw, hobjs, -, -⟩ := s.start.takeRaw_frame a s.start.now u v
    have hobj : (s.start.takeRaw a s.start.now u v).obj (pwAddr a O.PW_TRIP_SRC) = 0 := by
      rw [hraw.obj _ (by rw [(pwAddr_parts (by omega) (by decide)).1]; decide), Main.obj, hobjs]
      exact hsrc
    rw [Main.ocTest_of_over (m := s.start) hm hlim hover]
    generalize s.start.takeRaw a s.start.now u v = n at hobj
    have hoc : ((n.modLn a (fun l => l.withOc true)).ln a).oc = true := by rw [Main.ln_modLn, if_pos rfl]; rfl
    obtain ⟨hhold, hsrcbit, hraised, -⟩ := Main.tripsFollow_of_new (m := n.modLn a (fun l => l.withOc true)) (k := 8) hobj
      (by rw [hoc]; exact testBit_src_of_oc (Main.tripLines_lt _))
    exact ⟨(Main.oc_tripsFollow _ _).trans hoc, hhold, hsrcbit, hraised⟩
  case quiet =>
    refine ⟨_, exec_tripDecimatorOutput a u v s, ?_⟩
    rw [Main.ocTest_of_none (m := s.start) h]
    generalize s.start.takeRaw a s.start.now u v = n
    refine (Main.oc_tripsFollow _ _).trans ?_
    rw [Main.ln_modLn, if_pos rfl]
    rfl

end Sys2Proof.Machine
end

section
/-! Missed releases (R63-R66, R400). -/

namespace Sys2Proof.Machine

/-! ### The miss as it is noted -/

/-- A missed release is counted and shown. -/
theorem Main.obj_noteMiss (m : Main) (i kind : Nat) :
    (m.noteMiss i kind).obj O.DV_MISS_COUNT = (m.obj O.DV_MISS_COUNT + 1) % 2 ^ 36 ∧
    (m.noteMiss i kind).obj O.DV_MISS_LAST = instAddr i O.STATUS % 2 ^ 72 := by
  have hne : O.DV_MISS_COUNT ≠ O.DV_MISS_LAST := by decide
  refine ⟨?_, Main.obj_setObj_same _ _ _⟩
  exact (Main.objs_keep _ _ _ _ hne).trans (Main.obj_inc_same _ _)

theorem Main.i_noteMiss (m : Main) (i kind k : Nat) : (m.noteMiss i kind).i k =
    if k = i then { m.i i with core := { (m.i i).core with missT := some m.now } } else m.i k :=
  Main.i_modI m i k (fun x => { x with core := { x.core with missT := some m.now } })

theorem Main.missRun_noteMiss (m : Main) (i kind : Nat) :
    mget 0 (m.noteMiss i kind).fab.missRun (missKey i kind) = mget 0 m.fab.missRun (missKey i kind) + 1 :=
  (mget_mmod 0 m.fab.missRun (missKey i kind) (missKey i kind) (· + 1)).trans (if_pos rfl)

theorem Main.ln_noteMiss (m : Main) (i kind k : Nat) : (m.noteMiss i kind).ln k = m.ln k := rfl

theorem instAddr_status_lt (i : InstId) : instAddr i O.STATUS < 2 ^ 72 := by
  unfold instAddr O.STATUS
  split <;> omega

/-- The second consecutive miss of a current chain: hold, PW_TRIP_SRC bit 9, DEADLINE_CL. -/
def Main.missHold (m : Main) (a : Nat) : Main :=
  ((m.orObj (pwAddr a O.PW_TRIP_SRC) 512).modLn a Lane.withHold).raise a cDeadlineCl (some 0)

/-- R63, R66: what a missed release of a current chain does. -/
theorem exec_currentChainMiss {a : Ax} {s : State} (h : s.main.hasChain a 0 = true) :
    exec (.currentChainMiss a) s = .next { s with
      main := if 2 ≤ mget 0 (s.start.noteMiss a 0).fab.missRun (missKey a 0) then (s.start.noteMiss a 0).missHold a
        else s.start.noteMiss a 0 } := by
  have hexec : exec (.currentChainMiss a) s = .next { s with
      main := if s.start.hasChain a 0 then
        (if 2 ≤ mget 0 (s.start.noteMiss a 0).fab.missRun (missKey a 0) then (s.start.noteMiss a 0).missHold a
          else s.start.noteMiss a 0) else s.start } := rfl
  have h' : s.start.hasChain a 0 = true := h
  rw [hexec, if_pos h']

/-- R64, R66: what a missed release of an outer or hoop chain does. -/
theorem exec_outerChainMiss {i : InstId} {s : State} (h : s.main.hasChain i (if i.val < 64 then 1 else 2) = true) :
    exec (.outerChainMiss i) s = .next { s with
      main := if 3 ≤ mget 0 (s.start.noteMiss i (if i.val < 64 then 1 else 2)).fab.missRun (missKey i (if i.val < 64 then 1 else 2))
        then (s.start.noteMiss i (if i.val < 64 then 1 else 2)).raise i cDeadlineOuter (some 3)
        else s.start.noteMiss i (if i.val < 64 then 1 else 2) } := by
  have hexec : exec (.outerChainMiss i) s = .next { s with
      main := if s.start.hasChain i (if i.val < 64 then 1 else 2) then
        (if 3 ≤ mget 0 (s.start.noteMiss i (if i.val < 64 then 1 else 2)).fab.missRun (missKey i (if i.val < 64 then 1 else 2))
          then (s.start.noteMiss i (if i.val < 64 then 1 else 2)).raise i cDeadlineOuter (some 3)
          else s.start.noteMiss i (if i.val < 64 then 1 else 2)) else s.start } := rfl
  have h' : s.start.hasChain i (if i.val < 64 then 1 else 2) = true := h
  rw [hexec, if_pos h']

/-! ### The hold and the cause -/

theorem Main.missHold_spec (m : Main) (a : Ax) :
    (∀ k, (m.missHold a).ln k = if k = a.val then (m.ln a).withHold else m.ln k) ∧
    ((m.missHold a).obj (pwAddr a O.PW_TRIP_SRC)).testBit 9 = true ∧
    (∀ b, b ≠ pwAddr a O.PW_TRIP_SRC → (m.missHold a).obj b = m.obj b) ∧
    (m.missHold a).fab = m.fab ∧
    ∀ k, (m.missHold a).i k = if k = a.val then { m.i a with core := { (m.i a).core with
      raised := (m.i a).core.raised ||| 2 ^ cDeadlineCl, raisedR := 0 } } else m.i k := by
  refine ⟨fun k => (m.orObj (pwAddr a O.PW_TRIP_SRC) 512).ln_modLn a k Lane.withHold, ?_, fun b hb => Main.objs_keep _ _ _ _ hb, rfl, fun k => ?_⟩
  · have hobj : (m.missHold a).obj (pwAddr a O.PW_TRIP_SRC) = m.obj (pwAddr a O.PW_TRIP_SRC) ||| 512 :=
      m.obj_orObj_same _ (by decide)
    rw [hobj, Nat.testBit_or]
    simp [show Nat.testBit 512 9 = true from rfl]
  · unfold Main.missHold
    split
    next hk => subst hk; exact Main.core_raise_zero _ _ _
    next hk => exact Main.raise_core _ _ _ _ _ hk

/-! ### The refinement chain -/

/-- The entries listed are marked. -/
def Main.markMissed (m : Main) (l : List (Fin 1024)) : Main :=
  forEach l (fun e m => m.modAct e.val (fun a => { a with missed := true })) m

theorem Main.obj_markMissed (m : Main) (l : List (Fin 1024)) (b : Nat) : (m.markMissed l).obj b = m.obj b :=
  forEach_frame (fun n => n.obj b) (fun (e : Fin 1024) m => m.modAct e.val (fun a => { a with missed := true }))
    (fun _ _ => rfl) l m

/-- R400: each keeps its prediction, and no other changes. -/
theorem Main.act_markMissed (l : List (Fin 1024)) (k : Fin 1024) (m : Main) :
    (m.markMissed l).act k = if k ∈ l then { m.act k with missed := true } else m.act k := by
  induction l generalizing m with
  | nil => rfl
  | cons e l ih =>
    have hstep := ih (m.modAct e.val (fun a => { a with missed := true }))
    change ((m.modAct e.val (fun a => { a with missed := true })).markMissed l).act k = _
    rw [hstep, Main.act_modAct]
    by_cases hke : k = e
    · subst hke
      simp
    · have hval : k.val ≠ e.val := fun h => hke (Fin.ext h)
      simp [hke, hval]

/-- R65, R66: what a missed release of the refinement chain does. -/
theorem exec_refinementChainMiss {e : Fin 1024} {es : List (Fin 1024)} {s : State} (h : s.main.hasChain 128 3 = true) :
    exec (.refinementChainMiss (e :: es)) s = .next { s with
      main := ((s.start.inc O.DV_MISS_COUNT).setObj O.DV_MISS_LAST (e.val * 2 ^ 24 + evAddr 0 O.EV_QUEUE)).markMissed (e :: es) } := by
  have hexec : exec (.refinementChainMiss (e :: es)) s = .next { s with
      main := if s.start.hasChain 128 3 then
        ((s.start.inc O.DV_MISS_COUNT).setObj O.DV_MISS_LAST (e.val * 2 ^ 24 + evAddr 0 O.EV_QUEUE)).markMissed (e :: es)
        else s.start } := rfl
  have h' : s.start.hasChain 128 3 = true := h
  rw [hexec, if_pos h']

/-- Settles O28. -/
theorem missedReleasesRaiseTheirCause : Obligations.MissedReleasesRaiseTheirCause := by
  unfold Obligations.MissedReleasesRaiseTheirCause
  refine ⟨⟨fun a s h => ⟨_, exec_currentChainMiss h, ?current⟩, fun i s h => ⟨_, exec_outerChainMiss h, ?outer⟩⟩,
    fun e es s h => ?refinement⟩
  case current =>
    have hrun := s.start.missRun_noteMiss a 0
    obtain ⟨hcount, hlast⟩ := s.start.obj_noteMiss a 0
    rw [Nat.mod_eq_of_lt (instAddr_status_lt ⟨a.val, by omega⟩)] at hlast
    have hinst := s.start.i_noteMiss a 0
    have hlane := s.start.ln_noteMiss a 0
    rw [hrun]
    have hn : mget 0 s.start.fab.missRun (missKey a 0) = mget 0 s.main.fab.missRun (missKey a 0) := rfl
    rw [hn] at hrun ⊢
    generalize mget 0 s.main.fab.missRun (missKey a 0) = n at hrun ⊢
    generalize s.start.noteMiss a 0 = m at *
    by_cases h2 : 1 ≤ n
    · obtain ⟨hln, hbit, hobj, hfab, hi⟩ := m.missHold_spec a
      have hi' : m.i a = { s.main.i a with core := { (s.main.i a).core with missT := some s.main.now } } :=
        (hinst a).trans (if_pos rfl)
      have hdv : ∀ b, b < 4096 → (m.missHold a).obj b = m.obj b := fun b hb => hobj b (by unfold pwAddr; omega)
      rw [if_pos (by omega)]
      dsimp only
      rw [if_pos h2]
      refine ⟨by rw [hfab, hrun], (hdv _ (by decide)).trans hcount, (hdv _ (by decide)).trans hlast, ?_, fun k hk => ?_,
        fun b hb => ?_, ?_, hbit, ?_, ?_⟩
      · rw [hi, if_pos rfl, hi']
      · have hk' : k ≠ a.val := by simpa using hk
        rw [hi, if_neg hk']
        exact (hinst k).trans (if_neg hk')
      · rw [hln, if_neg hb]
        exact hlane b
      · rw [hln, if_pos rfl]; rfl
      · rw [hi, if_pos rfl]
        change ((m.i a).core.raised ||| 2 ^ cDeadlineCl).testBit cDeadlineCl = true
        rw [Nat.testBit_or, Nat.testBit_two_pow_self, Bool.or_true]
      · rw [hi, if_pos rfl]
    · rw [if_neg (by omega)]
      dsimp only
      rw [if_neg h2]
      refine ⟨hrun, hcount, hlast, ?_, fun k hk => ?_, fun b _ => hlane b, hlane a, ?_⟩
      · rw [hinst, if_pos rfl]; rfl
      · rw [hinst, if_neg (by simpa using hk)]; rfl
      · rw [hinst, if_pos rfl]; rfl
  case outer =>
    generalize (if i.val < 64 then 1 else 2) = kind at *
    have hrun := s.start.missRun_noteMiss i kind
    obtain ⟨hcount, hlast⟩ := s.start.obj_noteMiss i kind
    rw [Nat.mod_eq_of_lt (instAddr_status_lt i)] at hlast
    have hinst := s.start.i_noteMiss i kind
    have hlane : (s.start.noteMiss i kind).lane = s.main.lane := rfl
    rw [hrun]
    have hn : mget 0 s.start.fab.missRun (missKey i kind) = mget 0 s.main.fab.missRun (missKey i kind) := rfl
    rw [hn] at hrun ⊢
    dsimp only
    generalize mget 0 s.main.fab.missRun (missKey i kind) = n at hrun ⊢
    generalize s.start.noteMiss i kind = m at *
    by_cases h3 : 2 ≤ n
    · rw [if_pos (by omega), if_pos h3]
      refine ⟨hrun, hcount, hlast, hlane, fun k hk => ?_, ?_⟩
      · have hk' : k ≠ i.val := by simpa using hk
        rw [Main.raise_core _ _ _ _ _ hk']
        exact (hinst k).trans (if_neg hk')
      · rw [Main.raise_raised, Nat.testBit_or, Nat.testBit_two_pow_self, Bool.or_true]
    · rw [if_neg (by omega), if_neg h3]
      refine ⟨hrun, hcount, hlast, hlane, fun k hk => ?_, ?_⟩
      · rw [hinst, if_neg (by simpa using hk)]; rfl
      · rw [hinst, if_pos rfl]; rfl
  case refinement =>
    refine ⟨_, exec_refinementChainMiss h, ?_, ?_, fun k => ?_⟩
    · have hne : O.DV_MISS_COUNT ≠ O.DV_MISS_LAST := by decide
      rw [Main.obj_markMissed, Main.objs_keep _ _ _ _ hne, Main.obj_inc_same]
      rfl
    · have hlt : e.val * 2 ^ 24 + evAddr 0 O.EV_QUEUE < 2 ^ 72 := by
        unfold evAddr O.EV_QUEUE
        omega
      rw [Main.obj_markMissed, Main.obj_setObj_same, Nat.mod_eq_of_lt hlt]
    · rw [Main.act_markMissed, Main.act_setObj, Main.inc, Main.act_setObj, State.act_start]

end Sys2Proof.Machine
end

section
/-! The parts of an axis or hoop: each update reads back on its own axis or hoop and part, and leaves the rest. -/

namespace Sys2Proof.Machine

variable (m : Main) (i k : Nat)

theorem Main.i_modC (f : Core → Core) :
    (m.modC i f).i k = if k = i then { m.i i with core := f (m.i i).core } else m.i k := m.i_modI i k _
theorem Main.i_modM (f : Motion → Motion) :
    (m.modM i f).i k = if k = i then { m.i i with motion := f (m.i i).motion } else m.i k := m.i_modI i k _
theorem Main.i_modL (f : Loop → Loop) :
    (m.modL i f).i k = if k = i then { m.i i with loop := f (m.i i).loop } else m.i k := m.i_modI i k _
theorem Main.i_modLim (f : Limits → Limits) :
    (m.modLim i f).i k = if k = i then { m.i i with lim := f (m.i i).lim } else m.i k := m.i_modI i k _
theorem Main.i_modLink (f : Link → Link) :
    (m.modLink i f).i k = if k = i then { m.i i with link := f (m.i i).link } else m.i k := m.i_modI i k _
theorem Main.i_modHome (f : Homing → Homing) :
    (m.modHome i f).i k = if k = i then { m.i i with home := (m.i i).home.map f } else m.i k := m.i_modI i k _

@[simp] theorem Main.i_modC_same (f : Core → Core) : (m.modC i f).i i = { m.i i with core := f (m.i i).core } := by
  rw [Main.i_modC, if_pos rfl]
@[simp] theorem Main.i_modM_same (f : Motion → Motion) : (m.modM i f).i i = { m.i i with motion := f (m.i i).motion } := by
  rw [Main.i_modM, if_pos rfl]
@[simp] theorem Main.i_modL_same (f : Loop → Loop) : (m.modL i f).i i = { m.i i with loop := f (m.i i).loop } := by
  rw [Main.i_modL, if_pos rfl]
@[simp] theorem Main.i_modLim_same (f : Limits → Limits) : (m.modLim i f).i i = { m.i i with lim := f (m.i i).lim } := by
  rw [Main.i_modLim, if_pos rfl]
@[simp] theorem Main.i_modLink_same (f : Link → Link) : (m.modLink i f).i i = { m.i i with link := f (m.i i).link } := by
  rw [Main.i_modLink, if_pos rfl]
@[simp] theorem Main.i_modHome_same (f : Homing → Homing) :
    (m.modHome i f).i i = { m.i i with home := (m.i i).home.map f } := by rw [Main.i_modHome, if_pos rfl]
@[simp] theorem Main.i_modI_same (f : Inst → Inst) : (m.modI i f).i i = f (m.i i) := by rw [Main.i_modI, if_pos rfl]

/-! ### What the updates of other parts leave -/

@[simp] theorem Main.i_modLn (f : Lane → Lane) : (m.modLn i f).i k = m.i k := rfl
@[simp] theorem Main.i_modPt (f : Port → Port) : (m.modPt i f).i k = m.i k := rfl
@[simp] theorem Main.i_modOp (f : LongOp → LongOp) : (m.modOp i f).i k = m.i k := rfl
@[simp] theorem Main.i_modAct (f : Action → Action) : (m.modAct i f).i k = m.i k := rfl
@[simp] theorem Main.lop_modI (f : Inst → Inst) : (m.modI i f).lop k = m.lop k := rfl
@[simp] theorem Main.lop_modC (f : Core → Core) : (m.modC i f).lop k = m.lop k := rfl
@[simp] theorem Main.lop_modM (f : Motion → Motion) : (m.modM i f).lop k = m.lop k := rfl
@[simp] theorem Main.lop_modL (f : Loop → Loop) : (m.modL i f).lop k = m.lop k := rfl
@[simp] theorem Main.lop_modLn (f : Lane → Lane) : (m.modLn i f).lop k = m.lop k := rfl
@[simp] theorem Main.lop_modHome (f : Homing → Homing) : (m.modHome i f).lop k = m.lop k := rfl
@[simp] theorem Main.obj_modI (f : Inst → Inst) : (m.modI i f).obj k = m.obj k := rfl
@[simp] theorem Main.obj_modC (f : Core → Core) : (m.modC i f).obj k = m.obj k := rfl
@[simp] theorem Main.obj_modM (f : Motion → Motion) : (m.modM i f).obj k = m.obj k := rfl
@[simp] theorem Main.obj_modL (f : Loop → Loop) : (m.modL i f).obj k = m.obj k := rfl
@[simp] theorem Main.obj_modLim (f : Limits → Limits) : (m.modLim i f).obj k = m.obj k := rfl
@[simp] theorem Main.obj_modLink (f : Link → Link) : (m.modLink i f).obj k = m.obj k := rfl
@[simp] theorem Main.obj_modHome (f : Homing → Homing) : (m.modHome i f).obj k = m.obj k := rfl
@[simp] theorem Main.obj_modLn (f : Lane → Lane) : (m.modLn i f).obj k = m.obj k := rfl
@[simp] theorem Main.obj_modPt (f : Port → Port) : (m.modPt i f).obj k = m.obj k := rfl
@[simp] theorem Main.obj_modOp (f : LongOp → LongOp) : (m.modOp i f).obj k = m.obj k := rfl
@[simp] theorem Main.obj_modAct (f : Action → Action) : (m.modAct i f).obj k = m.obj k := rfl
@[simp] theorem Main.ln_modI (f : Inst → Inst) : (m.modI i f).ln k = m.ln k := rfl
@[simp] theorem Main.ln_modC (f : Core → Core) : (m.modC i f).ln k = m.ln k := rfl
@[simp] theorem Main.ln_modM (f : Motion → Motion) : (m.modM i f).ln k = m.ln k := rfl
@[simp] theorem Main.ln_modL (f : Loop → Loop) : (m.modL i f).ln k = m.ln k := rfl
@[simp] theorem Main.ln_modPt (f : Port → Port) : (m.modPt i f).ln k = m.ln k := rfl
@[simp] theorem Main.pt_modI (f : Inst → Inst) : (m.modI i f).pt k = m.pt k := rfl
@[simp] theorem Main.pt_modC (f : Core → Core) : (m.modC i f).pt k = m.pt k := rfl
@[simp] theorem Main.pt_modM (f : Motion → Motion) : (m.modM i f).pt k = m.pt k := rfl
@[simp] theorem Main.pt_modHome (f : Homing → Homing) : (m.modHome i f).pt k = m.pt k := rfl
@[simp] theorem Main.pt_modLn (f : Lane → Lane) : (m.modLn i f).pt k = m.pt k := rfl
@[simp] theorem Main.pt_modOp (f : LongOp → LongOp) : (m.modOp i f).pt k = m.pt k := rfl

end Sys2Proof.Machine
end

section
/-! Shared operations of an axis or hoop: what they do to it and what they leave. -/

namespace Sys2Proof.Machine

/-- R263: leaving shadow mode writes the lane and PW_OPMODE only. -/
theorem Main.endShadow_frame (m : Main) (a : Nat) : ∃ l o, m.endShadow a = { m with lane := l, objs := o } ∧
    ∀ b, b ≠ pwAddr a O.PW_OPMODE → (m.endShadow a).obj b = m.obj b := by
  unfold Main.endShadow
  split
  · exact ⟨_, _, rfl, fun b hb => Main.objs_keep _ _ _ _ hb⟩
  · exact ⟨m.lane, m.objs, rfl, fun _ _ => rfl⟩

/-- The lane of an axis that is powered off. -/
def Lane.poweredOff (l : Lane) : Lane :=
  { l with start := none, upT := 0, closed := false, pend := none, shPend := none, shEnd := none, shSet := none }

/-- The part of power off that every axis and hoop has. -/
def Main.powerDown (m : Main) (i : Nat) : Main :=
  (m.modC i (fun c => { c with power := false, offPos := some (m.actualPos i) })).modL i (fun l => { l with
    id := 0, iq := 0, iqSp := 0, vCmd := 0, overC := 0, wIq := false, wVel := false, wVmax := false })

theorem Main.powerOff_axis (m : Main) {a : Nat} (ha : a < 64) : m.powerOff a =
    (((m.endShadow a).powerDown a).modLn a Lane.poweredOff).setObj (instAddr a O.ACTUAL_IQ) 0 := by
  unfold Main.powerOff
  simp only [if_pos ha]
  rfl

theorem Main.powerOff_hoop (m : Main) {i : Nat} (hi : ¬ i < 64) : m.powerOff i = m.powerDown i := by
  unfold Main.powerOff
  simp only [if_neg hi]
  rfl

theorem Main.i_powerDown (m : Main) (i k : Nat) : ∃ p l, (m.powerDown i).i k = if k = i then
    { m.i i with core := { (m.i i).core with power := false, offPos := some p }, loop := l } else m.i k := by
  unfold Main.powerDown
  by_cases hk : k = i
  · subst hk
    exact ⟨_, _, by simp; exact ⟨rfl, rfl⟩⟩
  · exact ⟨0, {}, by simp [Main.i_modL, Main.i_modC, hk]⟩

/-- R182: power off changes the state machine's power, the loop and the lane. -/
theorem Main.i_powerOff (m : Main) (i k : Nat) : ∃ p l, (m.powerOff i).i k = if k = i then
    { m.i i with core := { (m.i i).core with power := false, offPos := some p }, loop := l } else m.i k := by
  by_cases hi : i < 64
  · obtain ⟨p, l, h⟩ := (m.endShadow i).i_powerDown i k
    obtain ⟨la, o, hs, -⟩ := m.endShadow_frame i
    refine ⟨p, l, ?_⟩
    have hinst : ∀ j, (m.endShadow i).i j = m.i j := fun j => by rw [hs]; rfl
    rw [hinst, hinst] at h
    rw [Main.powerOff_axis m hi]
    exact h
  · rw [Main.powerOff_hoop m hi]
    exact m.i_powerDown i k

theorem Main.powerOff_frame (m : Main) (i : Nat) :
    ∃ l o x, m.powerOff i = { m with lane := l, objs := o, inst := x } := by
  by_cases hi : i < 64
  · obtain ⟨l, o, hs, -⟩ := m.endShadow_frame i
    rw [Main.powerOff_axis m hi, hs]
    exact ⟨_, _, _, rfl⟩
  · rw [Main.powerOff_hoop m hi]
    exact ⟨m.lane, m.objs, _, rfl⟩

/-- R198, R199: a ramp to standstill ends the move and the queue. -/
theorem Main.i_startRamp (m : Main) (i : Nat) (dec : Rat) (k : Nat) : ∃ mo : Motion, mo.ramp.isSome = true ∧ mo.plan = none ∧
    mo.queue = [] ∧ (m.startRamp i dec).i k = if k = i then { m.i i with motion := mo } else m.i k := by
  have hramp : ∀ d, ∃ mo : Motion, mo.ramp.isSome = true ∧ mo.plan = none ∧ mo.queue = [] ∧
      (m.rampAt i d).i k = if k = i then { m.i i with motion := mo } else m.i k := by
    intro d
    unfold Main.rampAt
    rw [Main.i_modM]
    exact ⟨_, rfl, rfl, rfl, rfl⟩
  exact hramp _

/-- It changes the axis or hoop only. -/
theorem Main.startRamp_frame (m : Main) (i : Nat) (dec : Rat) : ∃ x, m.startRamp i dec = { m with inst := x } := ⟨_, rfl⟩

end Sys2Proof.Machine
end

section
/-! FAULT_RESET and OP_ABORT as rows (R103, R208, R225, R240, R329). -/

namespace Sys2Proof.Machine

/-- CONTROL as FAULT_RESET and as OP_ABORT write it. -/
def Main.resetWord (m : Main) (i : Nat) : Nat := (levelsOf (m.io i O.CONTROL)).word 8
def Main.abortWord (m : Main) (i : Nat) : Nat := (levelsOf (m.io i O.CONTROL)).word (2 ^ 21)

theorem Main.controlBits_resetWord (m : Main) (i : Nat) :
    ControlBits (m.resetWord i) (levelsOf (m.io i O.CONTROL)) { reset := true } :=
  controlBits_word (levelsOf_fits _) { reset := true }

theorem Main.controlBits_abortWord (m : Main) (i : Nat) :
    ControlBits (m.abortWord i) (levelsOf (m.io i O.CONTROL)) { abort := true } :=
  controlBits_word (levelsOf_fits _) { abort := true }

/-- The level fields written as they stand. -/
def Main.rewritten (m : Main) (i v : Nat) : Main := (m.setControl i v).enableWrite i (m.enable i)

theorem Main.controlNow_reset (m : Main) (i : Nat) : m.controlNow i (m.resetWord i) = (m.rewritten i (m.resetWord i)).faultReset i := by
  have hb := m.controlBits_resetWord i
  rw [Main.controlNow_eq, Main.controlLevels_of_same_mode hb (m.mode_eq i).symm, Main.controlCommands]
  simp only [hb.reset, hb.abort, hb.move, hb.start, Bool.false_eq_true, if_false, if_true, false_and]
  rfl

theorem Main.controlNow_abort (m : Main) (i : Nat) : m.controlNow i (m.abortWord i) = (m.rewritten i (m.abortWord i)).opAbort i := by
  have hb := m.controlBits_abortWord i
  rw [Main.controlNow_eq, Main.controlLevels_of_same_mode hb (m.mode_eq i).symm, Main.controlCommands]
  simp only [hb.reset, hb.abort, hb.move, hb.start, Bool.false_eq_true, if_false, if_true, false_and]
  rfl

theorem Main.obj_rewritten (m : Main) (i v : Nat) {b : Nat} (h : b ≠ instAddr i O.CONTROL) : (m.rewritten i v).obj b = m.obj b :=
  Main.objs_keep _ _ _ _ h

theorem Main.i_rewritten (m : Main) (i v k : Nat) : (m.rewritten i v).i k =
    if k = i then { m.i i with core := (m.i i).core.enableWrite (m.enable i) } else m.i k :=
  (m.setControl i v).i_enableWrite i k (m.enable i)

theorem State.enable_start (s : State) (i : Nat) : s.start.enable i = s.main.enable i := rfl

theorem Main.lop_rewritten (m : Main) (i v k : Nat) : (m.rewritten i v).lop k = m.lop k := rfl

theorem Main.rowWrite_opAbort (m : Main) (n : Sess) (i : InstId) :
    m.rowWrite (.opAbort n i) = some (.word n (instAddr i O.CONTROL) (m.abortWord i)) := rfl

/-! ### FAULT_RESET -/

/-- R208, R240: FAULT_RESET of an axis in FAULT. -/
theorem Main.faultReset_of_axis {m : Main} {a : Nat} (ha : a < 64) (h : (m.i a).core.st = sFault) :
    m.faultReset a = (m.resetOne a).tripsFollow := by
  have hall : m.resetAll 64 a = m.resetOne a := if_pos ha
  rw [Main.faultReset, if_pos h, hall]

/-- What the reset of one axis leaves, before the trips that still act. -/
structure Main.ResetOf (a : Nat) (m n : Main) : Prop where
  cause : n.io a O.FAULT_CAUSE = 0
  src : n.obj (pwAddr a O.PW_TRIP_SRC) = 0
  st : (n.i a).core.st = (m.i a).core.st
  rst : (n.i a).core.faultRst = true
  hold : (n.ln a).hold = false
  oc : ∀ k, (n.ln k).oc = (m.ln k).oc
  trips : n.trips = m.trips
  sel : ∀ k, n.obj (pwAddr k O.PW_TRIP_SEL) = m.obj (pwAddr k O.PW_TRIP_SEL)
  spread : ∀ k, n.obj (pwAddr k O.PW_OC_SPREAD) = m.obj (pwAddr k O.PW_OC_SPREAD)

theorem Main.resetOne_axis (m : Main) {a : Nat} (ha : a < 64) : m.resetOne a =
    ((((m.setObj (instAddr a O.FAULT_CAUSE) 0).modC a (fun c => { c with faultRst := true })).modLn a
      (fun l => { l with hold := false })).setObj (pwAddr a O.PW_TRIP_SRC) 0).fbReset a := if_pos ha

theorem Main.resetOne_spec (m : Main) {a : Nat} (ha : a < 64) : Main.ResetOf a m (m.resetOne a) := by
  have hpw : ∀ k n, n < 4096 → n ≠ O.PW_TRIP_SRC → pwAddr k n ≠ instAddr a O.FAULT_CAUSE →
      (m.resetOne a).obj (pwAddr k n) = m.obj (pwAddr k n) := by
    intro k n hn hsrc hcause
    have hapart : pwAddr k n ≠ pwAddr a O.PW_TRIP_SRC := fun h => hsrc (pwAddr_inj hn (by decide) h).2
    rw [Main.resetOne_axis m ha]
    exact (Main.objs_keep _ _ _ _ hapart).trans (Main.objs_keep _ _ _ _ hcause)
  have hinst : ∀ k n, pwAddr k n ≠ instAddr a O.FAULT_CAUSE := by
    intro k n
    unfold pwAddr instAddr O.FAULT_CAUSE
    rw [if_pos ha]
    omega
  have hlane : ∀ k, (m.resetOne a).ln k = if k = a then { m.ln a with hold := false } else m.ln k := by
    intro k
    rw [Main.resetOne_axis m ha]
    exact Main.ln_modLn _ _ _ (fun l => { l with hold := false })
  have hcore : ((m.resetOne a).i a).core = { (m.i a).core with faultRst := true } := by
    rw [Main.resetOne_axis m ha]
    exact (Main.core_modC _ _ _ (fun c => { c with faultRst := true })).trans (if_pos rfl)
  have htrips : (m.resetOne a).trips = m.trips := by
    rw [Main.resetOne_axis m ha, Main.fbReset, Main.modPt_trips, Main.setObj_trips, Main.modLn_trips, Main.modC_trips, Main.setObj_trips]
  constructor
  case cause =>
    rw [Main.resetOne_axis m ha]
    exact (Main.objs_keep _ _ _ _ (Ne.symm (hinst a _))).trans (Main.obj_setObj_same _ _ _)
  case src =>
    rw [Main.resetOne_axis m ha]
    exact Main.obj_setObj_same _ _ _
  case st => exact (congrArg Core.st hcore).trans rfl
  case rst => exact (congrArg Core.faultRst hcore).trans rfl
  case hold => rw [hlane, if_pos rfl]
  case oc =>
    intro k
    rw [hlane]
    split
    next h => rw [h]
    next => rfl
  case trips => exact htrips
  case sel => exact fun k => hpw k _ (by decide) (by decide) (hinst k _)
  case spread => exact fun k => hpw k _ (by decide) (by decide) (hinst k _)

/-- Nothing acts on the axis: the trips leave it as it was. -/
theorem TripView.follow_of_idle {lines sel : Nat} {x : TripView} (hl : lines &&& sel = 0) (hoc : x.lane.oc = false) :
    x.follow lines sel = x := by
  unfold TripView.follow
  rw [hl, hoc]
  simp [b2n]

/-- The trips leave the rest of the state machine's part as it was. -/
theorem TripView.core_follow (lines sel : Nat) (x : TripView) :
    (x.follow lines sel).inst.core.st = x.inst.core.st ∧ (x.follow lines sel).inst.core.faultRst = x.inst.core.faultRst := by
  unfold TripView.follow
  dsimp only
  split <;> exact ⟨rfl, rfl⟩

/-- What FAULT_RESET of an axis in FAULT leaves. -/
theorem Main.faultReset_spec {m : Main} {a : Ax} (h : (m.i a).core.st = sFault) :
    (m.faultReset a).io a O.FAULT_CAUSE = 0 ∧ ((m.faultReset a).i a).core.faultRst = true ∧
    ((m.faultReset a).i a).core.st = sFault ∧ (m.tripActs a = false →
      ((m.faultReset a).ln a).hold = false ∧ (m.faultReset a).obj (pwAddr a O.PW_TRIP_SRC) = 0) := by
  have hreset := m.resetOne_spec a.isLt
  rw [Main.faultReset_of_axis a.isLt h]
  generalize m.resetOne a = n at hreset
  have hview := n.tripView_tripsFollow a
  have hcore := TripView.core_follow n.tripLines (n.obj (pwAddr a O.PW_TRIP_SEL)) (n.tripView a)
  rw [← hview] at hcore
  obtain ⟨hst, hrst⟩ := hcore
  refine ⟨?_, ?_, ?_, fun hidle => ?_⟩
  · refine (n.obj_tripsFollow ?_ fun k => ?_).trans hreset.cause
    · rw [(instAddr_parts_axis a.isLt (by decide)).1]; decide
    · have ha : a.val < 64 := a.isLt
      unfold instAddr pwAddr O.FAULT_CAUSE O.PW_TRIP_SRC
      rw [if_pos ha]
      omega
  · exact hrst.trans (hreset.rst)
  · exact hst.trans (hreset.st.trans h)
  · unfold Main.tripActs at hidle
    obtain ⟨hsel, hoc⟩ := Bool.or_eq_false_iff.1 hidle
    have hlines : n.tripLines &&& n.obj (pwAddr a O.PW_TRIP_SEL) = 0 := by
      rw [Main.tripLines_congr hreset.trips hreset.oc hreset.spread, hreset.sel]
      exact bne_eq_false_iff_eq.1 hsel
    rw [TripView.follow_of_idle hlines ((hreset.oc a).trans hoc)] at hview
    exact ⟨(congrArg (fun x => x.lane.hold) hview).trans hreset.hold, (congrArg TripView.src hview).trans hreset.src⟩

/-- R239: what acts on an axis rests on its lane, the lines and PW_TRIP_SEL. -/
theorem Main.tripActs_congr {m n : Main} {a : Nat} (ht : n.trips = m.trips) (hl : n.lane = m.lane)
    (ho : ∀ k l, n.obj (pwAddr k l) = m.obj (pwAddr k l)) : n.tripActs a = m.tripActs a := by
  have hln : ∀ k, n.ln k = m.ln k := fun k => by unfold Main.ln; rw [hl]
  unfold Main.tripActs
  rw [Main.tripLines_congr ht (fun k => by rw [hln]) (fun k => ho k _), ho, hln]

/-! ### OP_ABORT -/

/-- R103: a running operation that is no homing ends at once, with the power off and its chain out. -/
theorem Main.opAbort_probe {m : Main} {i : Nat} (hb : (m.lop i).busy = true) (hk : (m.lop i).kind ≠ 1) :
    m.opAbort i = (m.opFail i 0x01).probeOff i := by
  unfold Main.opAbort
  rw [hb, if_neg hk]
  rfl

theorem Main.lop_opFail (m : Main) (k err j : Nat) : (m.opFail k err).lop j = if j = k then
    (if (m.lop k).busy then { m.lop k with busy := false, failed := true, err := err, paused := false } else m.lop k)
    else m.lop j := m.lop_modOp k j _

theorem Main.probeOff_spec (m : Main) (a : Nat) : (m.probeOff a).op = m.op ∧ ((m.probeOff a).i a).core.power = false ∧
    ((m.probeOff a).i a).core.chains = 0 := by
  obtain ⟨l, o, x, hf⟩ := m.powerOff_frame a
  obtain ⟨p, q, hi⟩ := m.i_powerOff a a
  rw [if_pos rfl] at hi
  unfold Main.probeOff
  refine ⟨?_, ?_, ?_⟩
  · rw [Main.modC_op, hf]
  · rw [Main.i_modC_same, hi]
  · rw [Main.i_modC_same]

/-- R329: a homing in motion in RUN ramps to standstill first, with the code kept for its end. -/
theorem Main.homeFail_moving {m : Main} {i code : Nat} {h : Homing} (hh : (m.i i).home = some h) (hf : h.failCode = none)
    (hst : (m.i i).core.st = sRun) (hstep : h.step ≠ 0) :
    (m.homeFail i code).op = m.op ∧ ((m.homeFail i code).i i).core = (m.i i).core ∧
    ((m.homeFail i code).i i).motion.ramp.isSome = true ∧
    ((m.homeFail i code).i i).home = some { h with step := 9, stopping := true, failCode := some code } := by
  obtain ⟨mo, hramp, -, -, hi⟩ := m.i_startRamp i (m.homeAcc i) i
  rw [if_pos rfl] at hi
  unfold Main.homeFail
  rw [hh]
  dsimp only
  rw [hf, if_neg (by simp), if_pos ⟨hst, hstep⟩]
  refine ⟨rfl, ?_, ?_, ?_⟩
  · rw [Main.i_modHome_same, hi]
  · rw [Main.i_modHome_same, hi]
    exact hramp
  · rw [Main.i_modHome_same, hi]
    change Option.map _ (m.i i).home = _
    rw [hh]
    rfl

/-- R208, R240: FAULT_RESET of an axis in FAULT, as a row. -/
theorem faultResetRow (sess : Sess) (a : Ax) (s : State) (hst : (s.main.i a).core.st = sFault)
    (h : s.rowAccepted (.faultReset sess ⟨a.val, by omega⟩) = true) :
    Completes (.faultReset sess ⟨a.val, by omega⟩) s (fun t =>
      Done s t ∧ t.main.io a O.FAULT_CAUSE = 0 ∧ (t.main.i a).core.faultRst = true ∧ (t.main.i a).core.st = sFault ∧
      (s.main.tripActs a = false → (t.main.ln a).hold = false ∧ t.main.obj (pwAddr a O.PW_TRIP_SRC) = 0)) := by
  let i : InstId := ⟨a.val, by omega⟩
  have hb := s.start.controlBits_resetWord i
  have hloads : s.start.controlLoads i (s.start.resetWord i) = false := by
    refine Main.controlLoads_of_same_mode hb (s.start.mode_eq i).symm fun _ => ⟨?_, a.isLt⟩
    have hst' : (s.start.i i).core.st = sFault := hst
    rw [hst']; decide
  refine completes_controlNow i hb rfl h nofun hloads ?_
  rw [Main.controlNow_reset]
  have hnst : ((s.start.rewritten a (s.start.resetWord a)).i a).core.st = sFault := by
    rw [Main.i_rewritten, if_pos rfl]
    exact (Core.st_enableWrite _ _).trans hst
  have hacts : (s.start.rewritten a (s.start.resetWord a)).tripActs a = s.main.tripActs a := by
    refine Main.tripActs_congr rfl rfl fun k l => ?_
    refine Main.obj_rewritten _ _ _ ?_
    have ha : a.val < 64 := a.isLt
    unfold pwAddr instAddr O.CONTROL
    rw [if_pos ha]
    omega
  obtain ⟨hcause, hrst, hst', hidle⟩ := Main.faultReset_spec hnst
  refine ⟨done_reply _ _ _ _, ?_, ?_, ?_, fun hno => ?_⟩
  · exact (Main.obj_reply_ok _ _ _ _).trans hcause
  · rw [Main.i_reply_ok]; exact hrst
  · rw [Main.i_reply_ok]; exact hst'
  · rw [Main.ln_reply_ok, Main.obj_reply_ok]
    exact hidle (hacts.trans hno)

/-- What OP_ABORT leaves of a running operation that is no homing. -/
theorem Main.opAbort_probe_spec {m : Main} {a : Nat} (hb : (m.lop a).busy = true) (hk : (m.lop a).kind ≠ 1) :
    (m.opAbort a).lop a = { m.lop a with busy := false, failed := true, err := 1, paused := false } ∧
    ((m.opAbort a).i a).core.power = false ∧ ((m.opAbort a).i a).core.chains = 0 := by
  obtain ⟨hop, hpower, hchains⟩ := (m.opFail a 0x01).probeOff_spec a
  rw [Main.opAbort_probe hb hk]
  refine ⟨?_, hpower, hchains⟩
  have hfail := m.lop_opFail a 0x01 a
  rw [if_pos rfl, if_pos hb] at hfail
  unfold Main.lop at hfail ⊢
  rw [hop, hfail]

/-- R103, R225: OP_ABORT of identification or auto-tune, as a row. -/
theorem opAbortProbeRow (sess : Sess) (a : Ax) (s : State) (h : s.rowAccepted (.opAbort sess ⟨a.val, by omega⟩) = true)
    (hbusy : (s.main.lop a).busy = true) (hk : (s.main.lop a).kind ≠ 1) (hen : s.main.enable a = false) :
    Completes (.opAbort sess ⟨a.val, by omega⟩) s (fun t => Done s t ∧
      (t.main.lop a).busy = false ∧ (t.main.lop a).failed = true ∧ (t.main.lop a).err = 1 ∧
      (t.main.lop a).prog = (s.main.lop a).prog ∧ (t.main.i a).core.power = false ∧ (t.main.i a).core.chains = 0) := by
  let i : InstId := ⟨a.val, by omega⟩
  have hb := s.start.controlBits_abortWord i
  have hloads : s.start.controlLoads i (s.start.abortWord i) = false := by
    refine Main.controlLoads_of_same_mode hb (s.start.mode_eq i).symm fun he => ?_
    have hen' : (levelsOf (s.start.io i O.CONTROL)).en = false := hen
    exact absurd (hen'.symm.trans he) (by decide)
  refine completes_controlNow i hb (Main.rowWrite_opAbort _ _ _) h nofun hloads ?_
  rw [Main.controlNow_abort]
  have hlop : (s.start.rewritten a (s.start.abortWord a)).lop a = s.main.lop a := Main.lop_rewritten _ _ _ _
  obtain ⟨hend, hpower, hchains⟩ := Main.opAbort_probe_spec (m := s.start.rewritten a (s.start.abortWord a))
    ((congrArg LongOp.busy hlop).trans hbusy) (fun e => hk ((congrArg LongOp.kind hlop).symm.trans e))
  rw [hlop] at hend
  refine ⟨done_reply _ _ _ _, ?_, ?_, ?_, ?_, ?_, ?_⟩
  · rw [Main.lop_reply_ok]; exact congrArg LongOp.busy hend
  · rw [Main.lop_reply_ok]; exact congrArg LongOp.failed hend
  · rw [Main.lop_reply_ok]; exact congrArg LongOp.err hend
  · rw [Main.lop_reply_ok]; exact (congrArg LongOp.prog hend).trans rfl
  · rw [Main.i_reply_ok]; exact hpower
  · rw [Main.i_reply_ok]; exact hchains

/-- R103: OP_ABORT of a homing is the failure of the homing. -/
theorem Main.opAbort_homing {m : Main} {a : Nat} (hb : (m.lop a).busy = true) (hk : (m.lop a).kind = 1) :
    m.opAbort a = m.homeFail a 0x01 := by
  unfold Main.opAbort
  rw [hb, if_pos hk]
  rfl

/-- R103, R329: OP_ABORT of a homing in motion, as a row. -/
theorem opAbortHomingRow (sess : Sess) (a : Ax) (s : State) (h : s.rowAccepted (.opAbort sess ⟨a.val, by omega⟩) = true)
    (hbusy : (s.main.lop a).busy = true) (hh : Homing) (hk : (s.main.lop a).kind = 1) (hst : (s.main.i a).core.st = sRun)
    (hhome : (s.main.i a).home = some hh) (hstep : hh.step ≠ 0) (hcode : hh.failCode = none) :
    Completes (.opAbort sess ⟨a.val, by omega⟩) s (fun t => Done s t ∧
      (t.main.lop a).busy = true ∧ (t.main.i a).core.st = sRun ∧ (t.main.i a).motion.ramp.isSome = true ∧
      ∃ k, (t.main.i a).home = some k ∧ k.failCode = some 1 ∧ k.stopping = true) := by
  let i : InstId := ⟨a.val, by omega⟩
  have hb := s.start.controlBits_abortWord i
  have hloads : s.start.controlLoads i (s.start.abortWord i) = false := by
    refine Main.controlLoads_of_same_mode hb (s.start.mode_eq i).symm fun _ => ⟨?_, a.isLt⟩
    have hst' : (s.start.i i).core.st = sRun := hst
    rw [hst']; decide
  refine completes_controlNow i hb (Main.rowWrite_opAbort _ _ _) h nofun hloads ?_
  rw [Main.controlNow_abort]
  have hn : (s.start.rewritten a (s.start.abortWord a)).i a =
      { s.main.i a with core := (s.main.i a).core.enableWrite (s.main.enable a) } := by
    rw [Main.i_rewritten, if_pos rfl, State.i_start, State.enable_start]
  have hlop : (s.start.rewritten a (s.start.abortWord a)).lop a = s.main.lop a := Main.lop_rewritten _ _ _ _
  generalize s.start.rewritten a (s.start.abortWord a) = n at hn hlop
  have hnhome : (n.i a).home = some hh := by rw [hn]; exact hhome
  have hnst : (n.i a).core.st = sRun := by rw [hn]; exact (Core.st_enableWrite _ _).trans hst
  obtain ⟨hop, hcore, hramp, hhome'⟩ := Main.homeFail_moving (code := 0x01) hnhome hcode hnst hstep
  have habort : n.opAbort a = n.homeFail a 0x01 := Main.opAbort_homing
    ((congrArg LongOp.busy hlop).trans hbusy) ((congrArg LongOp.kind hlop).trans hk)
  rw [← habort] at hop hcore hramp hhome'
  have hlop' : (n.opAbort a).lop a = s.main.lop a := by
    rw [← hlop]
    unfold Main.lop
    rw [hop]
  refine ⟨done_reply _ _ _ _, ?_, ?_, ?_, { hh with step := 9, stopping := true, failCode := some 0x01 }, ?_, rfl, rfl⟩
  · rw [Main.lop_reply_ok, hlop']; exact hbusy
  · rw [Main.i_reply_ok]; exact (congrArg Core.st hcore).trans hnst
  · rw [Main.i_reply_ok]; exact hramp
  · rw [Main.i_reply_ok]; exact hhome'

/-- Settles O17. -/
theorem faultResetAndAbortRows : Obligations.FaultResetAndAbortRows :=
  ⟨faultResetRow, fun sess a s h hbusy => ⟨opAbortProbeRow sess a s h hbusy, opAbortHomingRow sess a s h hbusy⟩⟩

end Sys2Proof.Machine
end

section
/-! Homing: the offset it writes (R329) and how it ends (R331). -/

namespace Sys2Proof.Machine

/-- R300: a new raw position writes POS_CONT and ACTUAL_POS only. -/
theorem Main.setActual_frame (m : Main) (i : Nat) (raw : Int) : ∃ o, m.setActual i raw = { m with objs := o } ∧
    ∀ b, b ≠ instAddr i O.POS_CONT → b ≠ instAddr i O.ACTUAL_POS → (m.setActual i raw).obj b = m.obj b := by
  unfold Main.setActual
  dsimp only
  split <;> exact ⟨_, rfl, fun b hc ha => (Main.objs_keep _ _ _ _ ha).trans (Main.objs_keep _ _ _ _ hc)⟩

/-- R301: moving the set-points leaves the state machine's part, the homing and every object but LINK_Y_OFS. -/
theorem Main.shiftRef_frame (m : Main) (i : Nat) (d : Int) : (m.shiftRef i d).op = m.op ∧
    (∀ b, b ≠ instAddr i O.LINK_Y_OFS → (m.shiftRef i d).obj b = m.obj b) ∧
    ((m.shiftRef i d).i i).core = (m.i i).core ∧ ((m.shiftRef i d).i i).home = (m.i i).home := by
  unfold Main.shiftRef
  dsimp only
  split
  · simp
  · unfold Main.setObjI
    refine ⟨by simp, fun b hb => (Main.objs_keep _ _ _ _ hb).trans (by simp), ?_, ?_⟩ <;>
    · rw [Main.i_setObj]
      simp

/-- The set-points that R301 moves are those of a closed position loop. -/
def Main.shiftClosed (m : Main) (i : Nat) (d : Int) : Main :=
  if (m.i i).core.chains != 0 || decide (64 ≤ i) then m.shiftRef i d else m

theorem Main.shiftClosed_frame (m : Main) (i : Nat) (d : Int) : (m.shiftClosed i d).op = m.op ∧
    (∀ b, b ≠ instAddr i O.LINK_Y_OFS → (m.shiftClosed i d).obj b = m.obj b) ∧
    ((m.shiftClosed i d).i i).core = (m.i i).core ∧ ((m.shiftClosed i d).i i).home = (m.i i).home := by
  unfold Main.shiftClosed
  split
  · exact m.shiftRef_frame i d
  · exact ⟨rfl, fun _ _ => rfl, rfl, rfl⟩

/-- The offset as homing writes it: HOMED is set, and the rest of what a homing reads stays. -/
structure Main.OffsetWritten (i : Nat) (ofs : Int) (m n : Main) : Prop where
  op : n.op = m.op
  offset : n.objW (instAddr i O.POS_OFFSET) = wordOf ofs
  core : (n.i i).core = { (m.i i).core with homed := true }
  home : (n.i i).home = (m.i i).home

/-- POS_OFFSET as written, with the position that follows from it (R329, R332). -/
def Main.offsetActual (m : Main) (i : Nat) (ofs : Int) : Main :=
  let m1 := (m.setObjI (instAddr i O.POS_OFFSET) ofs).setActual i (m.rawPos i)
  if m1.io i O.MODULO = 0 then m1 else m1.setObjI (instAddr i O.ACTUAL_POS)
    (if (m1.i i).home.any (fun h => h.method == 0) then m1.ioI i O.POS_CONT % m1.io i O.MODULO else m1.ioI i O.HOME_POS)

theorem Main.writeOffset_eq (m : Main) (i : Nat) (ofs : Int) : ∃ d, m.writeOffset i ofs =
    ((m.offsetActual i ofs).shiftClosed i d).modC i (fun c => { c with homed := true }) := ⟨_, rfl⟩

theorem Main.objsOf_setObj {m n : Main} (h : ∃ o, n = { m with objs := o }) (a v : Nat) :
    ∃ o, n.setObj a v = { m with objs := o } := by
  obtain ⟨o, rfl⟩ := h
  exact ⟨_, rfl⟩

theorem Main.offsetActual_spec (m : Main) (i : Nat) (ofs : Int) : (∃ o, m.offsetActual i ofs = { m with objs := o }) ∧
    (m.offsetActual i ofs).obj (instAddr i O.POS_OFFSET) = (wordOf ofs).toNat := by
  obtain ⟨o, h1, hkeep⟩ := (m.setObjI (instAddr i O.POS_OFFSET) ofs).setActual_frame i (m.rawPos i)
  have hofs := (hkeep (instAddr i O.POS_OFFSET) (instAddr_ne (by decide)) (instAddr_ne (by decide))).trans
      (Main.obj_setObj_same_of_lt m (instAddr i O.POS_OFFSET) (wordOf ofs).isLt)
  unfold Main.offsetActual
  dsimp only
  split
  · exact ⟨⟨o, h1⟩, hofs⟩
  · refine ⟨?_, (Main.objs_keep _ _ _ _ (instAddr_ne (by decide))).trans hofs⟩
    exact Main.objsOf_setObj (m := m) ⟨o, h1⟩ _ _

theorem Main.writeOffset_spec (m : Main) (i : Nat) (ofs : Int) : Main.OffsetWritten i ofs m (m.writeOffset i ofs) := by
  obtain ⟨d, hwrite⟩ := m.writeOffset_eq i ofs
  obtain ⟨⟨o, hm⟩, hofs⟩ := m.offsetActual_spec i ofs
  obtain ⟨hop, hobj, hcore, hhome⟩ := (m.offsetActual i ofs).shiftClosed_frame i d
  have hi : (m.offsetActual i ofs).i i = m.i i := by rw [hm]; rfl
  rw [hwrite]
  refine ⟨?_, ?_, ?_, ?_⟩
  · rw [Main.modC_op, hop, hm]
  · unfold Main.objW
    rw [Main.obj_modC, hobj _ (instAddr_ne (by decide)), hofs]
    exact BitVec.ofNat_toNat ..
  · rw [Main.i_modC_same, hcore, hi]
  · rw [Main.i_modC_same, hhome, hi]

/-- R331: the end of a homing adds one record to the operation and ends it; the state machine's part and the objects stay. -/
theorem Main.homeDone_spec {m : Main} {i : Nat} {h : Homing} (hh : (m.i i).home = some h) :
    (m.homeDone i).objs = m.objs ∧ ((m.homeDone i).i i).core = (m.i i).core ∧
    ((m.homeDone i).i i).home = none ∧ ∃ r, (m.homeDone i).lop i = { m.lop i with
      busy := false, finished := true, prog := 1000, paused := false, partialR := true, result := (m.lop i).result ++ [r] } := by
  unfold Main.homeDone
  rw [hh]
  dsimp only
  refine ⟨rfl, ?_, ?_, ?_⟩
  · rw [Main.i_modI_same]; rfl
  · rw [Main.i_modI_same]
  · rw [Main.lop_modI]
    unfold Main.opDone Main.addResult
    dsimp only
    simp only [Main.lop_modOp, if_true]
    exact ⟨_, rfl⟩

/-- R99: a long operation starts; DV_TOKENS_PEAK follows. -/
theorem Main.lop_startOp (m : Main) (k kind param j : Nat) : (m.startOp k kind param).lop j = if j = k then
    { seq := ((m.lop k).seq + 1) % 16, kind := kind, busy := true, param := param, started := m.now,
      startPos := if k < 128 then m.actualPos k else 0 } else m.lop j := by
  unfold Main.startOp Main.notePeak
  exact m.lop_modOp k j (fun o => { seq := (o.seq + 1) % 16, kind := kind, busy := true, param := param, started := m.now,
                                    startPos := if k < 128 then m.actualPos k else 0 })

theorem Main.startOp_frame (m : Main) (k kind param : Nat) : (∃ o p, m.startOp k kind param = { m with op := o, objs := p }) ∧
    ∀ b, b ≠ O.DV_TOKENS_PEAK → (m.startOp k kind param).obj b = m.obj b :=
  ⟨⟨_, _, rfl⟩, fun _ hb => Main.objs_keep _ _ _ _ hb⟩

end Sys2Proof.Machine
end

section
/-! The start of homing by methods 0 and 1 (R323, R325, R329, R331). -/

namespace Sys2Proof.Machine

theorem Main.rowWrite_homingStart (m : Main) (n : Sess) (i : InstId) :
    m.rowWrite (.homingStart n i) = some (.word n (instAddr i O.CONTROL) (m.startWord i 1)) := rfl

theorem Main.controlNow_homing (m : Main) (i : Nat) : m.controlNow i (m.startWord i 1) = (m.rewritten i (m.startWord i 1)).homeStart i := by
  have hb := m.controlBits_startWord i (kind := 1) (by decide)
  rw [Main.controlNow_eq, Main.controlLevels_of_same_mode hb (m.mode_eq i).symm, Main.controlCommands]
  simp only [hb.reset, hb.abort, hb.move, hb.start, hb.kind, Levels.withKind, Bool.false_eq_true, if_false, and_self, if_true]
  rfl

/-! ### The operation as it starts -/

/-- The homing operation as an accepted start leaves it, before its method acts. -/
def Main.homeBegun (m : Main) (i : Nat) : Main :=
  let n := (m.startOp i 1 (m.io i O.HOME_METHOD)).unhome i
  n.modI i (fun x => { x with home := some {
    method := m.io i O.HOME_METHOD, neg := m.homeNeg i, started := n.now, startCnt := n.rawPos i } })

theorem Main.lop_homeBegun (m : Main) (i j : Nat) : (m.homeBegun i).lop j = if j = i then
    { seq := ((m.lop i).seq + 1) % 16, kind := 1, busy := true, param := m.io i O.HOME_METHOD, started := m.now,
      startPos := if i < 128 then m.actualPos i else 0 } else m.lop j := m.lop_startOp i 1 _ j

theorem Main.obj_homeBegun (m : Main) (i : Nat) {b : Nat} (h : b ≠ O.DV_TOKENS_PEAK) : (m.homeBegun i).obj b = m.obj b :=
  (m.startOp_frame i 1 _).2 b h

theorem Main.home_homeBegun (m : Main) (i : Nat) :
    ((m.homeBegun i).i i).core.homed = false ∧ ((m.homeBegun i).i i).home.isSome = true := by
  unfold Main.homeBegun Main.unhome
  rw [Main.i_modI_same, Main.i_modC_same]
  exact ⟨rfl, rfl⟩

/-- Objects of an axis and of its port are none of the node's. -/
theorem axisObj_ne_peak {a n : Nat} (ha : a < 64) : instAddr a n ≠ O.DV_TOKENS_PEAK ∧ fbAddr a n ≠ O.DV_TOKENS_PEAK := by
  unfold instAddr fbAddr O.DV_TOKENS_PEAK
  rw [if_pos ha]
  omega

section
variable {m : Main} {a : Ax}

theorem Main.io_homeBegun (n : Nat) : (m.homeBegun a).io a n = m.io a n :=
  m.obj_homeBegun a (axisObj_ne_peak a.isLt).1

theorem Main.ioI_homeBegun (n : Nat) : (m.homeBegun a).ioI a n = m.ioI a n :=
  congrArg (fun w => sgn (BitVec.ofNat 36 w)) (m.obj_homeBegun a (axisObj_ne_peak a.isLt).1)

/-- The raw position of an axis is its port's count. -/
theorem Main.rawPos_homeBegun : (m.homeBegun a).rawPos a = m.rawPos a := by
  unfold Main.rawPos
  rw [if_pos a.isLt, if_pos a.isLt]
  rfl

/-- R323, R330: methods 0 and 1 name no channel and no index line. -/
theorem Main.homeBroken_of_method (h : m.io a O.HOME_METHOD ≤ 1) : m.homeBroken a = false := by
  have h01 : m.io a O.HOME_METHOD = 0 ∨ m.io a O.HOME_METHOD = 1 := by omega
  unfold Main.homeBroken Main.homeChan
  rcases h01 with h | h <;> simp [h]

/-- R323: method 1 needs nothing; method 0 needs a serial sensor. -/
theorem Main.homeNeeds_of_method (hmod : m.io a O.MODULO = 0)
    (h : m.io a O.HOME_METHOD = 1 ∨ m.io a O.HOME_METHOD = 0 ∧ m.obj (fbAddr a O.FB_MODE) = 3) : m.homeNeeds a = true := by
  have ha : a.val < 64 := a.isLt
  unfold Main.homeNeeds
  rcases h with h | ⟨h, hfb⟩
  · simp [h, hmod]
  · simp [h, hmod, ha, hfb]

/-- R325: method 0 waits for the first good read. -/
theorem Main.homeStart_of_sensor (hmod : m.io a O.MODULO = 0) (h : m.io a O.HOME_METHOD = 0)
    (hfb : m.obj (fbAddr a O.FB_MODE) = 3) : m.homeStart a = m.homeBegun a := by
  have hneeds : (m.homeBegun a).homeNeeds a = true := by
    refine Main.homeNeeds_of_method ((Main.io_homeBegun _).trans hmod) (Or.inr ⟨(Main.io_homeBegun _).trans h, ?_⟩)
    exact (m.obj_homeBegun a (axisObj_ne_peak a.isLt).2).trans hfb
  have hbroken : (m.homeBegun a).homeBroken a = false :=
    Main.homeBroken_of_method (Nat.le_of_eq ((Main.io_homeBegun _).trans h) |>.trans (by decide))
  unfold Main.homeBegun at hneeds hbroken ⊢
  unfold Main.homeStart
  dsimp only at hneeds hbroken ⊢
  rw [hneeds, hbroken]
  simp only [h, Bool.not_true, Bool.false_eq_true, if_false]

/-- R326: method 1 takes the present count at once. -/
theorem Main.homeStart_of_present (hmod : m.io a O.MODULO = 0) (h : m.io a O.HOME_METHOD = 1) : m.homeStart a =
    (((m.homeBegun a).modHome a (fun k => { k with event := some (m.rawPos a, 0) })).homeOffset a (m.rawPos a)).homeDone a := by
  have hneeds : (m.homeBegun a).homeNeeds a = true :=
    Main.homeNeeds_of_method ((Main.io_homeBegun _).trans hmod) (Or.inl ((Main.io_homeBegun _).trans h))
  have hbroken : (m.homeBegun a).homeBroken a = false :=
    Main.homeBroken_of_method (Nat.le_of_eq ((Main.io_homeBegun _).trans h))
  have hraw : (m.homeBegun a).rawPos a = m.rawPos a := Main.rawPos_homeBegun
  rw [← hraw]
  unfold Main.homeBegun at hneeds hbroken ⊢
  unfold Main.homeStart
  dsimp only at hneeds hbroken ⊢
  rw [hneeds, hbroken]
  simp only [h, Bool.not_true, Bool.false_eq_true, if_false]

theorem Main.lop_of_op {m n : Main} (h : n.op = m.op) (k : Nat) : n.lop k = m.lop k := by
  unfold Main.lop
  rw [h]

/-- R329, R331: the end of a homing at a count, from the operation as it stands. -/
theorem Main.homeOffset_homeDone {n : Main} {i : Nat} (c : Int) (hhome : (n.i i).home.isSome = true) :
    (∃ r, (((n.homeOffset i c).homeDone i).lop i) = { n.lop i with
      busy := false, finished := true, prog := 1000, paused := false, partialR := true, result := (n.lop i).result ++ [r] }) ∧
    (((n.homeOffset i c).homeDone i).i i).core.homed = true ∧
    ((n.homeOffset i c).homeDone i).objW (instAddr i O.POS_OFFSET) = wordOf (n.ioI i O.HOME_POS - c) := by
  have hofs : Main.OffsetWritten i _ n (n.homeOffset i c) := n.writeOffset_spec i _
  generalize n.homeOffset i c = w at hofs ⊢
  obtain ⟨k, hk⟩ := Option.isSome_iff_exists.1 (hofs.home ▸ hhome)
  obtain ⟨hobjs, hcore, -, r, hend⟩ := Main.homeDone_spec hk
  have hwlop : w.lop i = n.lop i := Main.lop_of_op hofs.op i
  have hobj : (w.homeDone i).objW (instAddr i O.POS_OFFSET) = w.objW (instAddr i O.POS_OFFSET) := by
    unfold Main.objW Main.obj
    rw [hobjs]
  refine ⟨⟨r, ?_⟩, ?_, ?_⟩
  · rw [hend, hwlop]
  · rw [hcore, hofs.core]
  · rw [hobj, hofs.offset, wordOf, sgn, BitVec.ofInt_toInt]

/-- What method 1 leaves. -/
theorem Main.homeStart_present_spec (hmod : m.io a O.MODULO = 0) (h : m.io a O.HOME_METHOD = 1) :
    ((m.homeStart a).lop a).finished = true ∧ ((m.homeStart a).lop a).busy = false ∧ ((m.homeStart a).lop a).kind = 1 ∧
    ((m.homeStart a).lop a).seq = ((m.lop a).seq + 1) % 16 ∧ ((m.homeStart a).lop a).result.length = 1 ∧
    ((m.homeStart a).i a).core.homed = true ∧
    (m.homeStart a).objW (instAddr a O.POS_OFFSET) = wordOf (m.ioI a O.HOME_POS - m.rawPos a) := by
  have hlop := m.lop_homeBegun a a
  rw [if_pos rfl] at hlop
  have hpos := Main.ioI_homeBegun (m := m) (a := a) O.HOME_POS
  have hsome := (m.home_homeBegun a).2
  rw [Main.homeStart_of_present hmod h]
  generalize m.homeBegun a = n at hlop hpos hsome ⊢
  have hhome : ((n.modHome a (fun k => { k with event := some (m.rawPos a, 0) })).i a).home.isSome = true := by
    rw [Main.i_modHome_same, Option.isSome_map]
    exact hsome
  obtain ⟨⟨r, hend⟩, hhomed, hofs⟩ := Main.homeOffset_homeDone (m.rawPos a) hhome
  rw [Main.lop_modHome, hlop] at hend
  refine ⟨?_, ?_, ?_, ?_, ?_, hhomed, hofs.trans ?_⟩
  · rw [hend]
  · rw [hend]
  · rw [hend]
  · rw [hend]
  · rw [hend]; rfl
  · exact congrArg (fun x => wordOf (x - m.rawPos a)) hpos

end

/-! ### The row -/

theorem Main.io_rewritten (m : Main) (a v : Nat) {k : Nat} (hk : k ≠ O.CONTROL) :
    (m.rewritten a v).io a k = m.io a k ∧ (m.rewritten a v).ioI a k = m.ioI a k :=
  ⟨m.obj_rewritten a v (instAddr_ne hk), congrArg (fun w => sgn (BitVec.ofNat 36 w)) (m.obj_rewritten a v (instAddr_ne hk))⟩

/-- The raw position of an axis is its port's. -/
theorem Main.rawPos_rewritten (m : Main) (a : Ax) (v : Nat) : (m.rewritten a v).rawPos a = m.rawPos a := by
  unfold Main.rawPos
  rw [if_pos a.isLt, if_pos a.isLt]
  rfl

/-- A start of homing adds no load: it leaves ENABLE and MODE as they are. -/
theorem State.controlLoads_homing {s : State} {a : Ax} (hen : s.main.enable a = false) :
    s.start.controlLoads a (s.start.startWord a 1) = false := by
  refine Main.controlLoads_of_same_mode (s.start.controlBits_startWord a (kind := 1) (by decide)) (s.start.mode_eq a).symm
    fun he => ?_
  have hen' : (levelsOf (s.start.io a O.CONTROL)).en = false := hen
  exact absurd (hen'.symm.trans he) (by decide)

/-- R324: the row carries out the start. -/
theorem completes_homingStart {sess : Sess} {a : Ax} {s : State} {P : State → Prop}
    (h : s.rowAccepted (.homingStart sess ⟨a.val, by omega⟩) = true) (hen : s.main.enable a = false)
    (hP : P { s with main := ((s.start.rewritten a (s.start.startWord a 1)).homeStart a).reply sess (instAddr a O.CONTROL) 0 }) :
    Completes (.homingStart sess ⟨a.val, by omega⟩) s P := by
  let i : InstId := ⟨a.val, by omega⟩
  refine completes_controlNow i (s.start.controlBits_startWord i (by decide)) (Main.rowWrite_homingStart _ _ _) h (fun _ => rfl)
    (State.controlLoads_homing hen) ?_
  rw [Main.controlNow_homing]
  exact hP

/-- R326, R331: method 1, from the machine as the write of its level fields leaves it. -/
theorem homingStarts_present {sess : Sess} {a : Ax} {s : State} (v : Nat) (hmod : s.main.io a O.MODULO = 0)
    (hmd : s.main.io a O.HOME_METHOD = 1) {t : State}
    (ht : t = { s with main := ((s.start.rewritten a v).homeStart a).reply sess (instAddr a O.CONTROL) 0 }) :
    Done s t ∧ (t.main.lop a).finished = true ∧ (t.main.lop a).busy = false ∧ (t.main.lop a).kind = 1 ∧
    (t.main.lop a).seq = ((s.main.lop a).seq + 1) % 16 ∧ (t.main.lop a).result.length = 1 ∧
    (t.main.i a).core.homed = true ∧
    t.main.objW (instAddr a O.POS_OFFSET) = wordOf (s.main.ioI a O.HOME_POS - s.main.rawPos a) := by
  subst ht
  have hlop := s.start.lop_rewritten a v a
  have hraw := s.start.rawPos_rewritten a v
  have hpos := (s.start.io_rewritten a v (k := O.HOME_POS) (by decide)).2
  have hspec := Main.homeStart_present_spec (((s.start.io_rewritten a v (by decide)).1).trans hmod)
    (((s.start.io_rewritten a v (by decide)).1).trans hmd)
  rw [hlop, hraw, hpos] at hspec
  generalize (s.start.rewritten a v).homeStart a = n at hspec
  obtain ⟨hfin, hb, hkind, hseq, hlen, hhomed, hofs⟩ := hspec
  refine ⟨done_reply _ _ _ _, ?_, ?_, ?_, ?_, ?_, ?_, ?_⟩
  · rw [Main.lop_reply_ok]; exact hfin
  · rw [Main.lop_reply_ok]; exact hb
  · rw [Main.lop_reply_ok]; exact hkind
  · rw [Main.lop_reply_ok]; exact hseq
  · rw [Main.lop_reply_ok]; exact hlen
  · rw [Main.i_reply_ok]; exact hhomed
  · unfold Main.objW
    rw [Main.obj_reply_ok]
    exact hofs

/-- R325: method 0. -/
theorem homingStarts_sensor {sess : Sess} {a : Ax} {s : State} (v : Nat) (hmod : s.main.io a O.MODULO = 0)
    (hmd : s.main.io a O.HOME_METHOD = 0) (hfb : s.main.obj (fbAddr a O.FB_MODE) = 3) {t : State}
    (ht : t = { s with main := ((s.start.rewritten a v).homeStart a).reply sess (instAddr a O.CONTROL) 0 }) :
    Done s t ∧ Started s t a 1 0 ∧ (t.main.i a).core.homed = false ∧ (t.main.i a).home.isSome = true := by
  subst ht
  have hlop := s.start.lop_rewritten a v
  have hpos : (s.start.rewritten a v).actualPos a = s.main.actualPos a := (s.start.io_rewritten a v (by decide)).2
  have hmethod : (s.start.rewritten a v).io a O.HOME_METHOD = 0 := ((s.start.io_rewritten a v (by decide)).1).trans hmd
  have hmod' : (s.start.rewritten a v).io a O.MODULO = 0 := ((s.start.io_rewritten a v (by decide)).1).trans hmod
  have hnow : (s.start.rewritten a v).now = s.main.now := rfl
  have hfb' : (s.start.rewritten a v).obj (fbAddr a O.FB_MODE) = 3 := by
    refine (s.start.obj_rewritten a v ?_).trans hfb
    have ha : a.val < 64 := a.isLt
    unfold fbAddr instAddr O.CONTROL
    rw [if_pos ha]
    omega
  generalize s.start.rewritten a v = n at hlop hpos hmethod hmod' hfb' hnow
  rw [Main.homeStart_of_sensor hmod' hmethod hfb']
  obtain ⟨hhomed, hhome⟩ := n.home_homeBegun a
  refine ⟨done_reply _ _ _ _, ⟨?_, fun j hj => ?_⟩, ?_, ?_⟩
  · rw [Main.lop_reply_ok, Main.lop_homeBegun, if_pos rfl, hpos, hmethod, hlop, hnow, State.lop_start]
  · rw [Main.lop_reply_ok, Main.lop_homeBegun, if_neg hj, hlop, State.lop_start]
  · rw [Main.i_reply_ok]; exact hhomed
  · rw [Main.i_reply_ok]; exact hhome

/-- Settles O18. -/
theorem homingStarts : Obligations.HomingStarts := by
  unfold Obligations.HomingStarts
  intro sess a s h hen hmod _
  exact ⟨fun hmd => completes_homingStart h hen (homingStarts_present _ hmod hmd rfl),
    fun hmd hfb => completes_homingStart h hen (homingStarts_sensor _ hmod hmd hfb rfl)⟩

end Sys2Proof.Machine
end

section
/-! Membership of hoops and the link commands (R338-R341, R356, R357). -/

namespace Sys2Proof.Machine

/-! ### The objects -/

theorem wordObj_members (h : Fin 64) : wordObj (instAddr (64 + h.val) O.HP_ADD) = true ∧
    wordObj (instAddr (64 + h.val) O.HP_REMOVE) = true ∧ (info? (instAddr (64 + h.val) O.HP_ADD)).isSome = true ∧
    chainObj (instAddr (64 + h.val) O.HP_ADD) = false ∧ chainObj (instAddr (64 + h.val) O.HP_REMOVE) = false ∧
    instIx (instAddr (64 + h.val) O.HP_ADD) = 64 + h.val := by
  revert h; decide +kernel

theorem wordObj_linkCmd (i : Fin 128) : wordObj (instAddr i O.LINK_CMD) = true ∧ chainObj (instAddr i O.LINK_CMD) = false := by
  revert i; decide +kernel

/-- A member code is a small number, and names an axis or hoop (R337). -/
theorem memberOf_lt {code k : Nat} (h : memberOf code = some k) : code < 768 ∧ k < 128 := by
  unfold memberOf at h
  split_ifs at h <;> · have := Option.some.inj h; omega

section
variable {m : Main} {sess : Nat} {key : Option Key}

/-- The effect of a write of HP_ADD and of HP_REMOVE. -/
theorem Main.wordEffect_hpAdd (h : Fin 64) {code k : Nat} (hc : memberOf code = some k) :
    m.wordEffect sess (instAddr (64 + h.val) O.HP_ADD) (wordN code) key = m.hpAdd sess (64 + h.val) k key := by
  have hlt : code < 2 ^ 36 := Nat.lt_trans (memberOf_lt hc).1 (by decide)
  rw [Main.wordEffect_inst (by omega) (by decide) (Main.changesLoad_of_not_chainObj _ (wordObj_members h).2.2.2.1)]
  have hprofile : ¬ O.HP_ADD ≤ O.BLEND_SHAPE := by decide
  simp [Main.instEffect, wordN_toNat_of_lt hlt, hc, hprofile]

theorem Main.wordEffect_hpRemove (h : Fin 64) {code k : Nat} (hc : memberOf code = some k)
    (hk : (m.i (64 + h.val)).members.contains k = true) :
    m.wordEffect sess (instAddr (64 + h.val) O.HP_REMOVE) (wordN code) key = (m.leave (64 + h.val) k).ok := by
  have hlt : code < 2 ^ 36 := Nat.lt_trans (memberOf_lt hc).1 (by decide)
  rw [Main.wordEffect_inst (by omega) (by decide) (Main.changesLoad_of_not_chainObj _ (wordObj_members h).2.2.2.2.1)]
  have hprofile : ¬ O.HP_REMOVE ≤ O.BLEND_SHAPE := by decide
  simp only [Main.instEffect, wordN_toNat_of_lt hlt, hc, hk]
  simp [hprofile]

theorem Main.wordEffect_linkCmd (i : InstId) {v : Nat} (hv : v < 2 ^ 36) :
    m.wordEffect sess (instAddr i O.LINK_CMD) (wordN v) key = m.linkCmd sess i v key := by
  rw [Main.wordEffect_inst i.isLt (by decide) (Main.changesLoad_of_not_chainObj _ (wordObj_linkCmd i).2)]
  simp [Main.instEffect, wordN_toNat_of_lt hv]

/-- R338: an axis or hoop does not join itself. -/
theorem Main.ne_of_addRefusal {h code k : Nat} (hc : memberOf code = some k) (hr : m.addRefusal h code = none) : k ≠ h := by
  rintro rfl
  unfold Main.addRefusal at hr
  simp [hc, Main.above] at hr

theorem Main.addRefusal_of_writeRefusal (h : Fin 64) {code : Nat} (hv : code < 2 ^ 36)
    (hr : m.writeRefusal (instAddr (64 + h.val) O.HP_ADD) { words := [wordN code] } = none) :
    m.addRefusal (64 + h.val) code = none := by
  obtain ⟨hobj, -, hinfo, -, -, hix⟩ := wordObj_members h
  obtain ⟨harea, -, hnum⟩ := instAddr_parts_hoop (p := 64 + h.val) (n := O.HP_ADD) (by omega) (by omega) (by decide)
  have hs := Main.specialRefusal_of_writeRefusal hobj hinfo hr
  have hstart : startsOp (instAddr (64 + h.val) O.HP_ADD) code = false := by
    unfold startsOp
    rw [harea]
    rfl
  unfold Main.specialRefusal at hs
  simpa [wordN_toNat_of_lt hv, hstart, hix, harea, hnum] using hs

end

/-! ### MODE as membership writes it (R340, R341) -/

theorem Main.mode_setMode (m : Main) (i md : Nat) : (m.setMode i md).mode i = md % 16 := by
  have hlt := m.obj_lt (instAddr i O.CONTROL)
  rw [Main.mode_eq]
  unfold Main.setMode levelsOf Main.io
  dsimp only
  rw [Main.obj_setObj_same]
  generalize m.obj (instAddr i O.CONTROL) = c at hlt ⊢
  have : c - c / 256 % 16 * 256 + md % 16 * 256 < 2 ^ 72 := by omega
  rw [Nat.mod_eq_of_lt this]
  omega

theorem Main.i_setMode (m : Main) (i md k : Nat) : (m.setMode i md).i k = m.i k := rfl

theorem Main.mode_modI (m : Main) (i k : Nat) (f : Inst → Inst) : (m.modI i f).mode k = m.mode k := rfl

/-- R340: the set-points of a member are formed anew; nothing of the axis or hoop but its motion changes. -/
theorem Main.i_fromActual (m : Main) (i k : Nat) :
    ∃ mo, (m.fromActual i).i k = if k = i then { m.i i with motion := mo } else m.i k := by
  unfold Main.fromActual
  rw [Main.i_errMode, Main.i_modM]
  exact ⟨_, rfl⟩

theorem Main.i_holdHere (m : Main) (i k : Nat) :
    ∃ mo, (m.holdHere i).i k = if k = i then { m.i i with motion := mo } else m.i k := by
  unfold Main.holdHere
  rw [Main.i_modM]
  exact ⟨_, rfl⟩

theorem Main.mode_holdHere (m : Main) (i k : Nat) : (m.holdHere i).mode k = m.mode k := rfl

/-- R355: the link is IDLE; the objects stay. -/
theorem Main.i_linkIdle (m : Main) (i k : Nat) :
    (m.linkIdle i).i k = if k = i then { m.i i with link := {} } else m.i k := by
  unfold Main.linkIdle Main.dropRetained
  dsimp only
  split <;> exact m.i_modLink i k (fun _ => {})

theorem Main.objs_linkIdle (m : Main) (i : Nat) : (m.linkIdle i).objs = m.objs := by
  unfold Main.linkIdle Main.dropRetained
  dsimp only
  split <;> rfl

theorem Main.mode_of_objs {m n : Main} (h : n.objs = m.objs) (k : Nat) : n.mode k = m.mode k := by
  unfold Main.mode Main.objW Main.obj
  rw [h]

/-- What of an axis or hoop membership is about, its motion and its state set aside. -/
structure Joined (x : Inst) (h : Nat) : Prop where
  parent : x.parent = some h
  shared : x.isolated = false

/-- R340: what joining changes beside the link. -/
theorem Main.joinCore_spec (m : Main) {h k : Nat} (hne : k ≠ h) :
    ((m.joinCore h k).i h).members = (m.i h).members ++ [k] ∧ Joined ((m.joinCore h k).i k) h ∧
    (m.joinCore h k).mode k = if m.io h O.HP_KIND = 1 then 3 else 2 := by
  let n := ((m.modI h (fun x => { x with members := x.members ++ [k] })).setMode k (if m.io h O.HP_KIND = 1 then 3 else 2)).modI k
    (fun x => { x with parent := some h, isolated := false })
  have hn : m.joinCore h k = if m.mode k = 2 ∧ n.mode k ≠ 2 then n.fromActual k else n.errMode k := rfl
  have hih : n.i h = { m.i h with members := (m.i h).members ++ [k] } := by
    rw [Main.i_modI, if_neg (Ne.symm hne), Main.i_setMode, Main.i_modI_same]
  have hik : Joined (n.i k) h := by
    rw [Main.i_modI, if_pos rfl]
    exact ⟨rfl, rfl⟩
  have hmode : n.mode k = if m.io h O.HP_KIND = 1 then 3 else 2 := by
    rw [Main.mode_modI, Main.mode_setMode]
    split <;> rfl
  rw [hn]
  split
  · obtain ⟨mo, hk⟩ := n.i_fromActual k k
    rw [if_pos rfl] at hk
    rw [Main.i_fromActual_other _ (Ne.symm hne), hih, Main.mode_fromActual, hmode, hk]
    exact ⟨rfl, ⟨hik.parent, hik.shared⟩, rfl⟩
  · rw [Main.i_errMode, Main.i_errMode, hih, Main.mode_errMode, hmode]
    exact ⟨rfl, hik, rfl⟩

/-- R340: the link of a member that joins is IDLE, and a member in RUN holds its position. -/
theorem Main.joined_spec (m : Main) (h k : Nat) : ((m.joined_ k).i h).members = (m.i h).members ∧
    ((m.joined_ k).i k).parent = (m.i k).parent ∧ ((m.joined_ k).i k).isolated = (m.i k).isolated ∧
    ((m.joined_ k).i k).link.st = 0 ∧ (m.joined_ k).mode k = m.mode k := by
  have hlink := m.i_linkIdle k
  have hmode : (m.linkIdle k).mode k = m.mode k := Main.mode_of_objs (m.objs_linkIdle k) k
  have hmem : ((m.linkIdle k).i h).members = (m.i h).members := by
    rw [hlink]
    split
    next e => rw [e]
    next => rfl
  have hself : (m.linkIdle k).i k = { m.i k with link := {} } := (hlink k).trans (if_pos rfl)
  unfold Main.joined_
  dsimp only
  split
  · obtain ⟨mo, hh⟩ := (m.linkIdle k).i_holdHere k h
    obtain ⟨mo', hk⟩ := (m.linkIdle k).i_holdHere k k
    rw [if_pos rfl, hself] at hk
    refine ⟨?_, by rw [hk], by rw [hk], by rw [hk], hmode⟩
    rw [hh, ← hmem]
    split
    next e => rw [e]
    next => rfl
  · exact ⟨hmem, by rw [hself], by rw [hself], by rw [hself], hmode⟩

/-- R340. -/
theorem Main.join_spec (m : Main) {h k : Nat} (hne : k ≠ h) :
    ((m.join h k).i h).members = (m.i h).members ++ [k] ∧ ((m.join h k).i k).parent = some h ∧
    ((m.join h k).i k).isolated = false ∧ ((m.join h k).i k).link.st = 0 ∧
    (m.join h k).mode k = if m.io h O.HP_KIND = 1 then 3 else 2 := by
  obtain ⟨hmem, hjoined, hmode⟩ := m.joinCore_spec hne
  obtain ⟨h1, h2, h3, h4, h5⟩ := (m.joinCore h k).joined_spec h k
  exact ⟨h1.trans hmem, h2.trans hjoined.parent, h3.trans hjoined.shared, h4, h5.trans hmode⟩

/-- R341. -/
theorem Main.leave_spec (m : Main) (h k : Nat) : ((m.leave h k).i h).members = (m.i h).members.erase k ∧
    ((m.leave h k).i k).parent = none ∧ ((m.leave h k).i k).link.st = 0 ∧ (m.leave h k).mode k = 0 := by
  let l := (m.modI h (fun x => { x with members := x.members.erase k })).linkIdle k
  let n := (l.setMode k 0).modI k (fun x => { x with parent := none, isolated := false })
  have hn : m.leave h k = if (n.i k).core.st = sRun then n.holdHere k else n := rfl
  have hl : ∀ j, l.i j = if j = k then { (m.modI h (fun x => { x with members := x.members.erase k })).i k with link := {} }
      else (m.modI h (fun x => { x with members := x.members.erase k })).i j := Main.i_linkIdle _ k
  have hik : (n.i k).parent = none ∧ (n.i k).link.st = 0 := by
    have hlk : (l.i k).link.st = 0 := by rw [hl, if_pos rfl]
    rw [Main.i_modI, if_pos rfl]
    exact ⟨rfl, hlk⟩
  have hih : (n.i h).members = (m.i h).members.erase k := by
    have hlh : (l.i h).members = (m.i h).members.erase k := by
      rw [hl]
      split
      next e => rw [← e, Main.i_modI_same]
      next => rw [Main.i_modI_same]
    rw [Main.i_modI, Main.i_setMode, Main.i_setMode, ← hlh]
    split
    next e => rw [e]
    next => rfl
  have hmode : n.mode k = 0 := by rw [Main.mode_modI, Main.mode_setMode]
  rw [hn]
  split
  · obtain ⟨mo, hk⟩ := n.i_holdHere k k
    obtain ⟨mo', hh⟩ := n.i_holdHere k h
    rw [if_pos rfl] at hk
    refine ⟨?_, (congrArg Inst.parent hk).trans hik.1, (congrArg (fun x => x.link.st) hk).trans hik.2,
      (n.mode_holdHere k k).trans hmode⟩
    rw [hh, ← hih]
    split
    next e => rw [e]
    next => rfl
  · exact ⟨hih, hik.1, hik.2, hmode⟩

theorem Main.mode_reply_ok (m : Main) (sess a k : Nat) : (m.reply sess a 0).mode k = m.mode k := by
  rw [Main.reply_ok_frame]; rfl

/-! ### The rows -/

/-- R24, R338, R340: HP_ADD. -/
theorem hpAddRow (sess : Sess) (hp : Hp) (code k : Nat) (s : State) (hc : memberOf code = some k)
    (h : s.rowAccepted (.hpAdd sess hp code) = true) : Completes (.hpAdd sess hp code) s (fun t =>
      if onlyRemoves s.start.chainsOf (s.start.joinCore (64 + hp.val) k).chainsOf then Done s t ∧
        (t.main.i (64 + hp.val)).members = (s.main.i (64 + hp.val)).members ++ [k] ∧
        (t.main.i k).parent = some (64 + hp.val) ∧ (t.main.i k).isolated = false ∧ (t.main.i k).link.st = 0 ∧
        t.main.mode k = if s.main.io (64 + hp.val) O.HP_KIND = 1 then 3 else 2
      else AsksLedger s t { sess := sess, addr := instAddr (64 + hp.val) O.HP_ADD, change := .join (64 + hp.val) k }) := by
  have hrow : s.start.rowWrite (.hpAdd sess hp code) = some (.word sess (instAddr (64 + hp.val) O.HP_ADD) code) := rfl
  have hobj := (wordObj_members hp).1
  have hlt : code < 2 ^ 36 := Nat.lt_trans (memberOf_lt hc).1 (by decide)
  have hne : k ≠ 64 + hp.val := Main.ne_of_addRefusal hc
    (Main.addRefusal_of_writeRefusal hp hlt (exec_of_rowAccepted_word hrow hobj h).1)
  have heffect := Main.wordEffect_hpAdd (m := s.start) (sess := sess.val) (key := none) hp hc
  unfold Main.hpAdd at heffect
  by_cases hrem : onlyRemoves s.start.chainsOf (s.start.joinCore (64 + hp.val) k).chainsOf = true
  · rw [if_pos hrem] at heffect
    obtain ⟨hmem, hparent, hiso, hlink, hmode⟩ := s.start.join_spec hne
    refine completes_of_rowAccepted_ok hrow hobj h heffect ?_
    rw [if_pos hrem]
    refine ⟨done_reply _ _ _ _, ?_, ?_, ?_, ?_, ?_⟩
    · rw [Main.i_reply_ok]; exact hmem
    · rw [Main.i_reply_ok]; exact hparent
    · rw [Main.i_reply_ok]; exact hiso
    · rw [Main.i_reply_ok]; exact hlink
    · rw [Main.mode_reply_ok]; exact hmode
  · rw [if_neg hrem] at heffect
    refine completes_asksLedger hrow hobj h heffect fun t ht => ?_
    rw [if_neg hrem]
    exact ht

/-- R341: HP_REMOVE of a member. -/
theorem hpRemoveRow (sess : Sess) (hp : Hp) (code k : Nat) (s : State) (hc : memberOf code = some k)
    (h : s.rowAccepted (.hpRemove sess hp code) = true) (hk : (s.main.i (64 + hp.val)).members.contains k = true) :
    Completes (.hpRemove sess hp code) s (fun t => Done s t ∧
      (t.main.i (64 + hp.val)).members = (s.main.i (64 + hp.val)).members.erase k ∧
      (k ≠ 64 + hp.val → (t.main.i k).parent = none ∧ (t.main.i k).link.st = 0 ∧ t.main.mode k = 0)) := by
  obtain ⟨hmem, hparent, hlink, hmode⟩ := s.start.leave_spec (64 + hp.val) k
  refine completes_of_rowAccepted_ok rfl (wordObj_members hp).2.1 h (Main.wordEffect_hpRemove (m := s.start) hp hc hk)
    ⟨done_reply _ _ _ _, ?_, fun _ => ⟨?_, ?_, ?_⟩⟩
  · rw [Main.i_reply_ok]; exact hmem
  · rw [Main.i_reply_ok]; exact hparent
  · rw [Main.i_reply_ok]; exact hlink
  · rw [Main.mode_reply_ok]; exact hmode

/-- R356: LINK_CMD 1. -/
theorem linkEngageRow (sess : Sess) (i : InstId) (s : State) (h : s.rowAccepted (.linkEngage sess i) = true) :
    Completes (.linkEngage sess i) s (fun t =>
      (∀ p, (s.main.i i).parent = some p → (s.main.i p).core.chains ≠ 0 →
        AsksLedger s t { sess := sess, addr := instAddr i O.LINK_CMD, change := .link i }) ∧
      ((s.main.i i).parent = none → Done s t ∧ InstBut s.main t.main [i.val] ∧
        (let st := if s.main.io i O.ENG_MODE = 0 then 2 else 1
         t.main.i i = { s.main.i i with link := { (s.main.i i).link with st := st, cmd := 1 } }))) := by
  have heffect := Main.wordEffect_linkCmd (m := s.start) (sess := sess.val) (key := none) i (v := 1) (by decide)
  have hobj := (wordObj_linkCmd i).1
  unfold Main.linkCmd at heffect
  dsimp only at heffect
  rw [if_pos rfl] at heffect
  by_cases hch : ∃ p, (s.main.i i).parent = some p ∧ (s.main.i p).core.chains ≠ 0
  · obtain ⟨p, hp, hcore⟩ := hch
    have hp' : (s.start.i i).parent = some p := hp
    have hcore' : ((s.start.i p).core.chains != 0) = true := bne_iff_ne.2 hcore
    rw [hp'] at heffect
    dsimp only at heffect
    rw [if_pos hcore'] at heffect
    refine completes_asksLedger rfl hobj h heffect fun t ht => ⟨fun _ _ _ => ht, fun hnone => ?_⟩
    rw [hp] at hnone
    exact absurd hnone nofun
  · have heffect' : s.start.wordEffect sess (instAddr i O.LINK_CMD) (wordN 1) none = (s.start.applyChange (.link i)).ok := by
      cases hp : (s.start.i i).parent with
      | none =>
        rw [hp] at heffect
        exact heffect
      | some p =>
        have hcore : ¬ ((s.start.i p).core.chains != 0) = true := fun h => hch ⟨p, hp, bne_iff_ne.1 h⟩
        rw [hp] at heffect
        dsimp only at heffect
        rw [if_neg hcore] at heffect
        exact heffect
    refine completes_of_rowAccepted_ok rfl hobj h heffect'
      ⟨fun p hp hcore => absurd ⟨p, hp, hcore⟩ hch, fun _ => ⟨done_reply _ _ _ _, fun k hk => ?_, ?_⟩⟩
    · rw [Main.i_reply_ok]
      exact (s.start.i_modLink i k (fun l => { l with st := if s.start.io i O.ENG_MODE = 0 then 2 else 1, cmd := 1 })).trans
        (if_neg (by simpa using hk))
    · rw [Main.i_reply_ok]
      exact s.start.i_modLink_same i (fun l => { l with st := if s.start.io i O.ENG_MODE = 0 then 2 else 1, cmd := 1 })

/-- R357: what LINK_CMD 2 and 3 leave. -/
theorem linkRow {c : Instr} {sess : Sess} {i : InstId} {v : Nat} {s : State} {f : Link → Link} (hv : v < 2 ^ 36)
    (hrow : s.start.rowWrite c = some (.word sess (instAddr i O.LINK_CMD) v)) (h : s.rowAccepted c = true)
    (he : s.start.linkCmd sess i v none = (s.start.modLink i f).ok) : Completes c s (fun t => Done s t ∧
      t = { s with main := { s.main with out := t.main.out, inst := t.main.inst } } ∧ InstBut s.main t.main [i.val] ∧
      t.main.i i = { s.main.i i with link := f (s.main.i i).link }) := by
  refine completes_of_rowAccepted_ok hrow (wordObj_linkCmd i).1 h ((Main.wordEffect_linkCmd i hv).trans he)
    ⟨done_reply _ _ _ _, ?_, fun k hk => ?_, ?_⟩
  · rw [Main.reply_ok_frame]; rfl
  · rw [Main.i_reply_ok]
    exact (s.start.i_modLink i k f).trans (if_neg (by simpa using hk))
  · rw [Main.i_reply_ok]
    exact (s.start.i_modLink i i f).trans (if_pos rfl)

/-- Settles O20. -/
theorem hoopAndLinkRows : Obligations.HoopAndLinkRows := by
  unfold Obligations.HoopAndLinkRows
  refine ⟨fun sess hp code k s hc => ⟨hpAddRow sess hp code k s hc, hpRemoveRow sess hp code k s hc⟩,
    fun sess i s => ⟨linkEngageRow sess i s, fun h hst => linkRow (v := 2) (f := fun l => { l with cmd := 2 }) (by decide) rfl h ?two,
      fun h hst => linkRow (v := 3) (f := fun l => { l with disArm := true }) (by decide) rfl h ?three⟩⟩
  case two =>
    unfold Main.linkCmd
    simp [hst]
  case three =>
    unfold Main.linkCmd
    simp [hst]

end Sys2Proof.Machine
end

section
/-! Tokens as they complete: discarded, or accepted for an emulation output (R34, R37, R296). -/

namespace Sys2Proof.Machine

/-- A command on the main die completes with the main die that it gives. -/
theorem completes_of_exec {c : Instr} {s : State} {n : Main} {P : State → Prop} (h : exec c s = .next { s with main := n })
    (hP : P { s with main := n }) : Completes c s P := ⟨_, h, hP⟩

/-- R37: dispatch moves tokens from the waiting ones into cells, and changes nothing else. -/
theorem Main.dispatch_frame (m : Main) :
    ∃ w c, m.dispatch = { m with fab := { m.fab with waiting := w, cells := c } } := by
  unfold Main.dispatch
  refine List.foldlRecOn (motive := fun n : Main => ∃ w c, n = { m with fab := { m.fab with waiting := w, cells := c } })
    (List.range 16) _ ⟨_, _, rfl⟩ ?_
  rintro n ⟨w, c, rfl⟩ k -
  dsimp only
  split
  · exact ⟨_, _, rfl⟩
  · split <;> exact ⟨_, _, rfl⟩

/-- With no token waiting every cell stays as it is. -/
theorem Main.dispatch_of_idle {m : Main} (h : m.fab.waiting = []) : m.dispatch = m := by
  unfold Main.dispatch
  refine List.foldlRecOn (motive := fun n : Main => n = m) (List.range 16) _ rfl ?_
  rintro n rfl k -
  dsimp only
  rw [h]
  split <;> rfl

/-- R34: the fabric as a completing token leaves it, before the waiting tokens move up. -/
def Fabric.freed (f : Fabric) (cell : Nat) : Fabric := { f with cells := merase f.cells cell }

/-- The last step of every completion. -/
theorem Main.notePeak_dispatch (m : Main) : (∃ w c o, m.notePeak.dispatch =
      { m with fab := { m.fab with waiting := w, cells := c }, objs := o }) ∧
    (∀ b, b ≠ O.DV_TOKENS_PEAK → m.notePeak.dispatch.obj b = m.obj b) ∧
    (m.fab.waiting = [] → m.notePeak.dispatch.fab = m.fab) := by
  obtain ⟨w, c, h⟩ := m.notePeak.dispatch_frame
  refine ⟨⟨w, c, m.notePeak.objs, h⟩, fun b hb => ?_, fun hw => ?_⟩
  · rw [h]
    exact Main.objs_keep _ _ _ _ hb
  · rw [Main.dispatch_of_idle (m := m.notePeak) hw]
    rfl

section
variable {m : Main} {cell : Nat} {k : Tok} {u v : List Bool}

/-- R34: the token of the cell comes too late, or is stale. -/
def Main.discards (m : Main) (k : Tok) : Bool :=
  decide (k.deadline ≤ m.now) || seqOlder (mget 0 m.fab.lastSeq (seqKey k.inst k.task)) k.seq

theorem Main.tokenComplete_eq (hc : m.fab.cells.find? (fun p => p.1 == cell) = some (cell, k)) :
    m.tokenComplete cell u v = Main.dispatch (Main.notePeak (if m.discards k then { m with fab := m.fab.freed cell }
      else ({ m with fab := { m.fab.freed cell with
        lastSeq := mset 0 m.fab.lastSeq (seqKey k.inst k.task) k.seq } } : Main).runToken k u v)) := by
  unfold Main.tokenComplete
  rw [hc]
  rfl

theorem Main.runToken_emulation (ht : k.task = .emulation) : m.runToken k u v = m.chainDone k.inst 4 := by
  unfold Main.runToken
  rw [ht]

/-- R34: a late or stale token is discarded. -/
theorem Main.tokenComplete_of_discarded (hc : m.fab.cells.find? (fun p => p.1 == cell) = some (cell, k))
    (h : k.deadline ≤ m.now ∨ seqOlder (mget 0 m.fab.lastSeq (seqKey k.inst k.task)) k.seq = true) :
    m.tokenComplete cell u v = Main.dispatch ({ m with fab := m.fab.freed cell } : Main).notePeak := by
  have hd : m.discards k = true := by simpa [Main.discards] using h
  rw [Main.tokenComplete_eq hc, if_pos hd]

/-- The fabric as an emulation token leaves it that comes in time (R34, R296). -/
def Fabric.emulated (f : Fabric) (cell : Nat) (k : Tok) : Fabric :=
  { f.freed cell with
    lastSeq := mset 0 f.lastSeq (seqKey k.inst k.task) k.seq
    missRun := merase f.missRun (missKey k.inst 4) }

theorem Main.tokenComplete_of_emulation (hc : m.fab.cells.find? (fun p => p.1 == cell) = some (cell, k))
    (ht : k.task = .emulation) (hd : m.now < k.deadline)
    (hs : seqOlder (mget 0 m.fab.lastSeq (seqKey k.inst k.task)) k.seq = false) :
    m.tokenComplete cell u v = Main.dispatch ({ m with fab := m.fab.emulated cell k } : Main).notePeak := by
  have hlate : ¬ m.discards k = true := by simp [Main.discards, hs, hd]
  rw [Main.tokenComplete_eq hc, if_neg hlate, Main.runToken_emulation ht]
  rfl

end

/-- Settles O26. -/
theorem tokensCompleteOrAreDiscarded : Obligations.TokensCompleteOrAreDiscarded := by
  unfold Obligations.TokensCompleteOrAreDiscarded
  refine ⟨fun cell u v k s hc h => ?discarded, fun cell u v k s hc ht hd hs => ?accepted⟩
  case discarded =>
    refine completes_of_exec (n := s.start.tokenComplete cell u v) rfl ?_
    rw [Main.tokenComplete_of_discarded (m := s.start) hc h]
    obtain ⟨⟨w, c, o, hframe⟩, hobj, -⟩ := Main.notePeak_dispatch { s.start with fab := s.start.fab.freed cell }
    rw [hframe] at hobj ⊢
    exact ⟨⟨rfl, fun b hb => hobj b (by simpa using hb)⟩, rfl⟩
  case accepted =>
    refine completes_of_exec (n := s.start.tokenComplete cell u v) rfl ?_
    rw [Main.tokenComplete_of_emulation (m := s.start) hc ht hd hs]
    obtain ⟨⟨w, c, o, hframe⟩, hobj, hidle⟩ := Main.notePeak_dispatch { s.start with fab := s.start.fab.emulated cell k }
    generalize Main.dispatch (Main.notePeak { s.start with fab := s.start.fab.emulated cell k }) = n at hframe hobj hidle ⊢
    refine ⟨?_, ?_, ?_, fun b hb => ?_, fun hw p hp => ?_⟩
    · rw [hframe]
      exact mget_mset_same _ _ _ _
    · rw [hframe]
      exact (mget_merase _ _ _ _).trans (if_pos rfl)
    · rw [hframe]
      rfl
    · have hb' : b ≠ O.DV_TOKENS_PEAK := by simpa using hb
      exact hobj b hb'
    · rw [hidle hw] at hp
      simpa using (List.mem_filter.1 hp).2

end Sys2Proof.Machine
end

section
/-! Update points of a lane (R256, R257, R262) and the steps of enabling (R190, R250). -/

namespace Sys2Proof.Machine

/-- What an update point leaves of the rest: every axis and hoop, and every object but PW_FLAGS of its lane. -/
structure Main.LaneStep (a : Nat) (m n : Main) : Prop where
  inst : n.inst = m.inst
  objs : ∀ b, b ≠ pwAddr a O.PW_FLAGS → n.obj b = m.obj b

theorem Main.LaneStep.trans {a : Nat} {m n o : Main} (h : Main.LaneStep a m n) (k : Main.LaneStep a n o) : Main.LaneStep a m o :=
  ⟨k.inst.trans h.inst, fun b hb => (k.objs b hb).trans (h.objs b hb)⟩

section
variable (m : Main) (a : Nat)

theorem Main.laneStep_modLn (f : Lane → Lane) : Main.LaneStep a m (m.modLn a f) := ⟨rfl, fun _ _ => rfl⟩

theorem Main.pwFlag_spec (mask : Nat) : Main.LaneStep a m (m.pwFlag a mask) ∧ ∀ k, (m.pwFlag a mask).ln k = m.ln k := by
  unfold Main.pwFlag
  split
  · exact ⟨⟨rfl, fun _ _ => rfl⟩, fun _ => rfl⟩
  · exact ⟨⟨rfl, fun b hb => Main.objs_keep _ _ _ _ hb⟩, fun _ => rfl⟩

theorem Main.pwFlag_ite (p : Prop) [Decidable p] : Main.LaneStep a m (if p then m.pwFlag a 4 else m) ∧
    ∀ k, (if p then m.pwFlag a 4 else m).ln k = m.ln k := by
  by_cases h : p
  · rw [if_pos h]; exact m.pwFlag_spec a 4
  · rw [if_neg h]; exact ⟨⟨rfl, fun _ _ => rfl⟩, fun _ => rfl⟩

theorem Main.pulseCheck_spec : Main.LaneStep a m (m.pulseCheck a) ∧ ∀ k, (m.pulseCheck a).ln k = m.ln k := by
  unfold Main.pulseCheck
  dsimp only
  split
  · exact ⟨⟨rfl, fun _ _ => rfl⟩, fun _ => rfl⟩
  · exact m.pwFlag_ite a _

/-- The lane with a value set in force: the widths that R257 gives the duties, and the duties as shown. -/
def Lane.taken (l : Lane) (refresh : Nat) (c : CmpSet) : Lane :=
  let width := fun d => (compareWidth l.period refresh d).1
  { l with wU0 := l.wU, wV0 := l.wV, wW0 := l.wW, wU := width c.u, wV := width c.v, wW := width c.w
           duty := { c with u := dutyCode c.u, v := dutyCode c.v, w := dutyCode c.w } }

theorem Main.takeSet_spec (c : CmpSet) : Main.LaneStep a m (m.takeSet a c) ∧
    (m.takeSet a c).ln a = (m.ln a).taken (m.obj (pwAddr a O.PW_REFRESH)) c := by
  unfold Main.takeSet
  dsimp only
  generalize (if ((compareWidth (m.ln a).period (m.obj (pwAddr a O.PW_REFRESH)) c.u).2 ||
    (compareWidth (m.ln a).period (m.obj (pwAddr a O.PW_REFRESH)) c.v).2 ||
    (compareWidth (m.ln a).period (m.obj (pwAddr a O.PW_REFRESH)) c.w).2) = true then 2 else 0) = mask
  obtain ⟨hstep, hln⟩ := m.pwFlag_spec a mask
  refine ⟨hstep.trans ((Main.laneStep_modLn _ a _).trans (Main.laneStep_modLn _ a _)), ?_⟩
  unfold Main.setWidths
  rw [Main.ln_modLn, if_pos rfl, Main.ln_modLn, if_pos rfl, hln]
  rfl

/-- R256: the loop's values that are there for the update point take effect. -/
theorem Main.takeLoop_of_pend {c : CmpSet} {t : Nat} (hp : (m.ln a).pend = some c) (ht : c.at_ ≤ t) :
    m.takeLoop a t = (m.modLn a (fun l => { l with pend := none, closed := true })).takeSet a c := by
  unfold Main.takeLoop
  dsimp only
  rw [hp]
  dsimp only
  rw [if_pos ht]

theorem Main.takeLoop_of_none {t : Nat} (hp : (m.ln a).pend = none) : m.takeLoop a t = m.takeSet a (m.ln a).duty := by
  unfold Main.takeLoop
  dsimp only
  rw [hp]

end

section
variable {m : Main} {a t : Nat}

/-- The lane at its PWM start (R262). -/
def Main.startLane (m : Main) (a t : Nat) : Lane :=
  let d := m.objW (pwAddr a O.PW_START_DUTY)
  { m.ln a with
    upT := t, mid := false, closed := false, period := m.obj (pwAddr a O.PW_PERIOD), wU := 0, wV := 0, wW := 0
    duty := { u := d, v := d, w := if m.io a O.AX_MOTOR_TYPE = 2 then 0 else d, at_ := t } }

/-- R262: the PWM start with no value of the loop waiting. -/
theorem Main.pwmStart_spec (hp : (m.ln a).pend = none) :
    (m.pwmStart a t).ln a = (m.startLane a t).taken (m.obj (pwAddr a O.PW_REFRESH)) (m.startLane a t).duty ∧
    ∀ k, (m.pwmStart a t).i k = if k = a then { m.i a with core := { (m.i a).core with
      power := true, seq := if (m.i a).core.seq = Seq.await then .settling else (m.i a).core.seq } } else m.i k := by
  let n := m.modLn a (fun _ => m.startLane a t)
  have hn : n.ln a = m.startLane a t := (m.ln_modLn a a _).trans (if_pos rfl)
  have hpend : (n.ln a).pend = none := by rw [hn]; exact hp
  obtain ⟨htake, hlane⟩ := n.takeSet_spec a (n.ln a).duty
  obtain ⟨hpulse, hln⟩ := (n.takeSet a (n.ln a).duty).pulseCheck_spec a
  have hinst : ∀ k, ((n.takeSet a (n.ln a).duty).pulseCheck a).i k = m.i k := by
    intro k
    unfold Main.i
    rw [(htake.trans hpulse).inst]
    rfl
  have hstart : m.pwmStart a t = ((n.takeSet a (n.ln a).duty).pulseCheck a).modC a
      (fun c => { c with power := true, seq := if c.seq = .await then .settling else c.seq }) := by
    rw [← Main.takeLoop_of_none n a hpend]
    have hmod : n = m.modLn a (fun l => { l with
      upT := t, mid := false, closed := false, period := m.obj (pwAddr a O.PW_PERIOD), wU := 0, wV := 0, wW := 0
      duty := { u := m.objW (pwAddr a O.PW_START_DUTY), v := m.objW (pwAddr a O.PW_START_DUTY)
                w := if m.io a O.AX_MOTOR_TYPE = 2 then 0 else m.objW (pwAddr a O.PW_START_DUTY), at_ := t } }) := rfl
    rw [hmod]
    rfl
  rw [hstart]
  refine ⟨?_, fun k => ?_⟩
  · rw [Main.ln_modC, hln, hlane, hn]
    rfl
  · rw [Main.i_modC, hinst, hinst]

/-- The lane at an update point in normal service. -/
def Main.updateLane (m : Main) (a t : Nat) : Lane :=
  { m.ln a with upT := t, mid := match (m.ln a).start with | some s => (t - s) % max 1 (m.obj (pwAddr a O.PW_PERIOD)) != 0 | none => false
                period := m.obj (pwAddr a O.PW_PERIOD), shEnd := none }

/-- R256: an update point in normal service with a value of the loop there for it. -/
theorem Main.updateAt_spec {c : CmpSet} (hs : (m.ln a).shadow = false) (he : (m.ln a).shEnd = none)
    (hp : (m.ln a).pend = some c) (hc : c.at_ ≤ t) : Main.LaneStep a m (m.updateAt a t) ∧
    (m.updateAt a t).ln a = { m.updateLane a t with pend := none, closed := true }.taken (m.obj (pwAddr a O.PW_REFRESH)) c := by
  let n := m.modLn a (fun _ => m.updateLane a t)
  have hn : n.ln a = m.updateLane a t := (m.ln_modLn a a _).trans (if_pos rfl)
  have hpend : (n.ln a).pend = some c := by rw [hn]; exact hp
  have hupdate : m.updateAt a t = (n.takeLoop a t).pulseCheck a := by
    unfold Main.updateAt
    simp only [hs, he, Option.isSome_none, Bool.false_and, Bool.false_eq_true, if_false, Bool.or_self]
    rfl
  let k := n.modLn a (fun l => { l with pend := none, closed := true })
  have hk : k.ln a = { m.updateLane a t with pend := none, closed := true } := by
    rw [Main.ln_modLn, if_pos rfl, hn]
  rw [hupdate, Main.takeLoop_of_pend n a hpend hc]
  change Main.LaneStep a m ((k.takeSet a c).pulseCheck a) ∧ _ = _
  obtain ⟨htake, hlane⟩ := k.takeSet_spec a c
  obtain ⟨hpulse, hln⟩ := (k.takeSet a c).pulseCheck_spec a
  refine ⟨(m.laneStep_modLn a _).trans ((n.laneStep_modLn a _).trans (htake.trans hpulse)), ?_⟩
  rw [hln, hlane, hk]
  rfl

/-- R262: the instant of the first update point, and of a later one in normal service. -/
theorem Main.nextUpdate_first {t0 : Nat} (hs : (m.ln a).start = some t0) (hu : (m.ln a).upT = 0) : m.nextUpdate a = t0 := by
  unfold Main.nextUpdate
  dsimp only
  rw [if_pos hu, hs]
  rfl

theorem Main.nextUpdate_later (hu : (m.ln a).upT ≠ 0) (hs : (m.ln a).shadow = false) (he : (m.ln a).shEnd = none) :
    m.nextUpdate a = (m.ln a).upT + m.updInterval a := by
  unfold Main.nextUpdate
  dsimp only
  rw [if_neg hu, he, hs]
  rfl

end

/-- The update point as a command, once its instant has come. -/
theorem exec_updatePoint {a : Ax} {s : State} {t0 : Nat} (hs : (s.main.ln a).start = some t0)
    (hnow : s.start.nextUpdate a ≤ s.main.now) : exec (.updatePoint a) s = .next { s with
      main :=
        if (s.main.ln a).upT = 0 then s.start.pwmStart a (s.start.nextUpdate a)
        else s.start.updateAt a (s.start.nextUpdate a) } := by
  have hgate : ¬ ((s.start.ln a).start.isNone = true ∨ s.start.now < s.start.nextUpdate a) := by
    rw [State.ln_start, hs]
    simpa using hnow
  change Host.Outcome.next { s with
    main :=
      if (s.start.ln a).start.isNone = true ∨ s.start.now < s.start.nextUpdate a then s.start
      else if (s.start.ln a).upT = 0 then s.start.pwmStart a (s.start.nextUpdate a)
      else s.start.updateAt a (s.start.nextUpdate a) } = _
  rw [if_neg hgate]
  rfl

/-- R262: the first update point. -/
theorem updatePoint_first {a : Ax} {t0 : Nat} {s : State} (hs : (s.main.ln a).start = some t0) (hu : (s.main.ln a).upT = 0)
    (hp : (s.main.ln a).pend = none) (hnow : t0 ≤ s.main.now) : Completes (.updatePoint a) s (fun t =>
      (t.main.i a).core.power = true ∧ (t.main.ln a).upT = t0 ∧ InstBut s.main t.main [a.val] ∧
      (t.main.ln a).duty.u = dutyCode (s.main.objW (pwAddr a O.PW_START_DUTY)) ∧
      ((s.main.i a).core.seq = Seq.await → (t.main.i a).core.seq = Seq.settling)) := by
  have hnext : s.start.nextUpdate a = t0 := Main.nextUpdate_first hs hu
  have hexec := exec_updatePoint hs (hnext.symm ▸ hnow)
  rw [if_pos hu, hnext] at hexec
  obtain ⟨hln, hi⟩ := Main.pwmStart_spec (m := s.start) (t := t0) hp
  refine completes_of_exec hexec ⟨?_, ?_, fun k hk => ?_, ?_, fun hseq => ?_⟩
  · rw [hi, if_pos rfl]
  · rw [hln]; rfl
  · rw [hi, if_neg (by simpa using hk)]
    rfl
  · rw [hln]; rfl
  · rw [hi, if_pos rfl]
    exact if_pos hseq

/-- R256: a later update point in normal service. -/
theorem updatePoint_later {a : Ax} {t0 : Nat} {s : State} {c : CmpSet} (hstart : (s.main.ln a).start = some t0)
    (hu : (s.main.ln a).upT ≠ 0) (hs : (s.main.ln a).shadow = false) (he : (s.main.ln a).shEnd = none)
    (hp : (s.main.ln a).pend = some c) (hc : c.at_ ≤ (s.main.ln a).upT + s.main.updInterval a)
    (hnow : (s.main.ln a).upT + s.main.updInterval a ≤ s.main.now) : Completes (.updatePoint a) s (fun t =>
      (t.main.ln a).upT = (s.main.ln a).upT + s.main.updInterval a ∧ (t.main.ln a).pend = none ∧
      (t.main.ln a).duty.u = dutyCode c.u ∧ (t.main.ln a).duty.v = dutyCode c.v ∧ (t.main.ln a).duty.w = dutyCode c.w ∧
      (let width := fun d => (compareWidth (s.main.obj (pwAddr a O.PW_PERIOD)) (s.main.obj (pwAddr a O.PW_REFRESH)) d).1
       (t.main.ln a).wU = width c.u ∧ (t.main.ln a).wV = width c.v ∧ (t.main.ln a).wW = width c.w) ∧
      t.main.inst = s.main.inst ∧ ObjsBut s.main t.main [pwAddr a O.PW_FLAGS]) := by
  have hnext : s.start.nextUpdate a = (s.main.ln a).upT + s.main.updInterval a := Main.nextUpdate_later hu hs he
  have hexec := exec_updatePoint hstart (hnext.symm ▸ hnow)
  rw [if_neg hu, hnext] at hexec
  obtain ⟨⟨hinst, hobjs⟩, hln⟩ := Main.updateAt_spec (m := s.start) hs he hp hc
  refine completes_of_exec hexec ?_
  dsimp only
  rw [hln]
  exact ⟨rfl, rfl, rfl, rfl, rfl, ⟨rfl, rfl, rfl⟩, hinst, fun b hb => hobjs b (by simpa using hb)⟩

/-- R190: the gates have settled. -/
theorem gateSettleEnd_completes {a : Ax} {s : State} (hst : (s.main.i a).core.st = sEnabling)
    (hseq : (s.main.i a).core.seq = Seq.settling) (hc : (s.main.ln a).closed = true) : Completes (.gateSettleEnd a) s (fun t =>
      t = { s with main := { s.main with out := {}, inst := t.main.inst } } ∧ InstBut s.main t.main [a.val] ∧
      (t.main.i a).core.seq = (if s.main.io a O.AX_MOTOR_TYPE = 1 ∧ s.main.obj (pwAddr a O.PW_COMM_SRC) = 3 ∧
        s.main.commValid a = false then .align1 else .closing)) := by
  have hgate : (s.start.i a).core.st = sEnabling ∧ (s.start.i a).core.seq = Seq.settling ∧ (s.start.ln a).closed = true :=
    ⟨hst, hseq, hc⟩
  let al := s.start.io a O.AX_MOTOR_TYPE == 1 && s.start.obj (pwAddr a O.PW_COMM_SRC) == 3 && !s.start.commValid a
  let f : Core → Core := fun c => { c with seq := if al then .align1 else .closing, rampT := s.start.now }
  have hexec : exec (.gateSettleEnd a) s = .next { s with main := s.start.modC a f } := by
    change Host.Outcome.next { s with
      main :=
        if (s.start.i a).core.st = sEnabling ∧ (s.start.i a).core.seq = Seq.settling ∧ (s.start.ln a).closed = true then
        s.start.modC a f else s.start } = _
    rw [if_pos hgate]
  refine completes_of_exec hexec ⟨rfl, fun k hk => ?_, ?_⟩
  · exact (s.start.i_modC a k f).trans (if_neg (by simpa using hk))
  · rw [Main.i_modC_same]
    have hal : al = true ↔ s.main.io a O.AX_MOTOR_TYPE = 1 ∧ s.main.obj (pwAddr a O.PW_COMM_SRC) = 3 ∧ s.main.commValid a = false := by
      have hvalid : s.start.commValid a = s.main.commValid a := rfl
      have hio : s.start.io a O.AX_MOTOR_TYPE = s.main.io a O.AX_MOTOR_TYPE := rfl
      simp only [al, hvalid, hio, State.obj_start, Bool.and_eq_true, beq_iff_eq, Bool.not_eq_true', and_assoc]
    exact if_congr hal rfl rfl

/-! ### Alignment (R250) -/

/-- The alignment is over and good. -/
def Main.alignGoodEnd (m : Main) (a : Nat) : Main :=
  ((m.setObj (pwAddr a O.PW_COMM_OFFSET) ((m.pt a).enc % m.obj (pwAddr a O.PW_ENC_PER_REV)).toNat).setObj
    (pwAddr a O.PW_COMM_VALID) 1).modC a (fun c => { c with seq := .closing })

/-- ALIGN_STEP_END once PW_ALIGN_TIME has passed. -/
theorem exec_alignStepEnd {a : Ax} {s : State}
    (h : (s.main.i a).core.rampT + s.main.obj (pwAddr a O.PW_ALIGN_TIME) * unitsPerMs ≤ s.main.now) :
    exec (.alignStepEnd a) s = .next { s with
      main :=
        if (s.main.i a).core.seq = Seq.align1 then
        (s.start.modLn a (fun l => { l with c1 := (s.main.pt a).enc })).modC a
          (fun c => { c with seq := .align2, rampT := s.main.now })
      else if (s.main.i a).core.seq = Seq.align2 then
        if alignGood (s.main.obj (pwAddr a O.PW_ENC_PER_REV)) (s.main.io a O.AX_POLE_PAIRS) (s.main.obj (pwAddr a O.PW_COMM_TOL))
            (s.main.ln a).c1 (s.main.pt a).enc then s.start.alignGoodEnd a
        else s.start.raiseComm a
      else s.start } := by
  have hgate : ¬ s.start.now < (s.start.i a).core.rampT + s.start.obj (pwAddr a O.PW_ALIGN_TIME) * unitsPerMs := Nat.not_lt.2 h
  change Host.Outcome.next { s with
    main :=
      if s.start.now < (s.start.i a).core.rampT + s.start.obj (pwAddr a O.PW_ALIGN_TIME) * unitsPerMs then s.start
    else if (s.start.i a).core.seq = Seq.align1 then
        (s.start.modLn a (fun l => { l with c1 := (s.start.pt a).enc })).modC a
          (fun c => { c with seq := .align2, rampT := s.start.now })
      else if (s.start.i a).core.seq = Seq.align2 then
        if alignGood (s.start.obj (pwAddr a O.PW_ENC_PER_REV)) (s.start.io a O.AX_POLE_PAIRS)
            (s.start.obj (pwAddr a O.PW_COMM_TOL)) (s.start.ln a).c1 (s.start.pt a).enc then s.start.alignGoodEnd a
        else s.start.raiseComm a
      else s.start } = _
  rw [if_neg hgate]
  rfl

theorem alignStepEnd_one {a : Ax} {s : State}
    (h : (s.main.i a).core.rampT + s.main.obj (pwAddr a O.PW_ALIGN_TIME) * unitsPerMs ≤ s.main.now)
    (hseq : (s.main.i a).core.seq = Seq.align1) : Completes (.alignStepEnd a) s (fun t =>
      (t.main.ln a).c1 = (s.main.pt a).enc ∧ (t.main.i a).core.seq = Seq.align2 ∧ t.main.objs = s.main.objs) := by
  have hexec := exec_alignStepEnd h
  rw [if_pos hseq] at hexec
  refine completes_of_exec hexec ⟨?_, ?_, rfl⟩
  · rw [Main.ln_modC, Main.ln_modLn, if_pos rfl]
  · rw [Main.i_modC_same]

theorem alignStepEnd_two {a : Ax} {s : State}
    (h : (s.main.i a).core.rampT + s.main.obj (pwAddr a O.PW_ALIGN_TIME) * unitsPerMs ≤ s.main.now)
    (hseq : (s.main.i a).core.seq = Seq.align2) : Completes (.alignStepEnd a) s (fun t =>
      if alignGood (s.main.obj (pwAddr a O.PW_ENC_PER_REV)) (s.main.io a O.AX_POLE_PAIRS) (s.main.obj (pwAddr a O.PW_COMM_TOL))
          (s.main.ln a).c1 (s.main.pt a).enc = true
      then t.main.obj (pwAddr a O.PW_COMM_VALID) = 1 ∧ (t.main.i a).core.seq = .closing ∧
        ObjsBut s.main t.main [pwAddr a O.PW_COMM_OFFSET, pwAddr a O.PW_COMM_VALID]
      else t.main.obj (pwAddr a O.PW_COMM_VALID) = 0 ∧ (t.main.i a).core.raised.testBit cCommutation = true ∧
        (t.main.i a).core.seq = Seq.align2) := by
  have hexec := exec_alignStepEnd h
  rw [if_neg (by rw [hseq]; decide), if_pos hseq] at hexec
  split at hexec
  next hgood =>
    refine completes_of_exec hexec ?_
    rw [if_pos hgood]
    refine ⟨?_, ?_, fun b hb => ?_⟩
    · exact Main.obj_setObj_same _ _ _
    · unfold Main.alignGoodEnd
      rw [Main.i_modC_same]
    · obtain ⟨hoff, hvalid⟩ : b ≠ pwAddr a O.PW_COMM_OFFSET ∧ b ≠ pwAddr a O.PW_COMM_VALID := by simpa using hb
      exact (Main.objs_keep _ _ _ _ hvalid).trans (Main.objs_keep _ _ _ _ hoff)
  next hbad =>
    refine completes_of_exec hexec ?_
    rw [if_neg hbad]
    unfold Main.raiseComm
    refine ⟨?_, ?_, ?_⟩
    · exact Main.obj_setObj_same _ _ _
    · rw [Main.raise_raised]
      simp
    · rw [Main.core_raise_zero]
      exact hseq

/-- Settles O30. -/
theorem updatePointsAndEnablingSteps : Obligations.UpdatePointsAndEnablingSteps := by
  unfold Obligations.UpdatePointsAndEnablingSteps
  exact ⟨fun a t0 s hs => ⟨updatePoint_first hs, fun c => updatePoint_later hs⟩,
    fun a s => ⟨gateSettleEnd_completes, fun h => ⟨alignStepEnd_one h, alignStepEnd_two h⟩⟩⟩

end Sys2Proof.Machine
end

section
/-! The state machine of an axis (R182-R208): what the parts of a transition do to the axis, and which part the order of R187
takes. -/

namespace Sys2Proof.Machine

/-! ### The causes of an axis or hoop, kept -/

/-- What ends an axis's or hoop's operation leaves its causes, their count and the time base (R204, R208). -/
structure Main.KeepsFaults (i : Nat) (m n : Main) : Prop where
  objs : ∀ k, k = O.FAULT_CAUSE ∨ k = O.FAULT_COUNT → n.io i k = m.io i k
  tb : n.tb = m.tb

section
variable {i : Nat} {m n o : Main}

theorem Main.KeepsFaults.refl (m : Main) : Main.KeepsFaults i m m := ⟨fun _ _ => rfl, rfl⟩

theorem Main.KeepsFaults.trans (h : Main.KeepsFaults i m n) (k : Main.KeepsFaults i n o) : Main.KeepsFaults i m o :=
  ⟨fun l hl => (k.objs l hl).trans (h.objs l hl), k.tb.trans h.tb⟩

theorem Main.KeepsFaults.of_objs (ho : n.objs = m.objs) (ht : n.tb = m.tb) : Main.KeepsFaults i m n :=
  ⟨fun k _ => by unfold Main.io Main.obj; rw [ho], ht⟩

theorem Main.KeepsFaults.setObj (m : Main) {b : Nat} (v : Nat) (h : b ≠ instAddr i O.FAULT_CAUSE ∧ b ≠ instAddr i O.FAULT_COUNT) :
    Main.KeepsFaults i m (m.setObj b v) := by
  refine ⟨fun k hk => Main.objs_keep _ _ _ _ ?_, rfl⟩
  rcases hk with rfl | rfl
  · exact Ne.symm h.1
  · exact Ne.symm h.2

theorem Main.KeepsFaults.modC (m : Main) (f : Core → Core) (k : Nat) : Main.KeepsFaults i m (m.modC k f) := ⟨fun _ _ => rfl, rfl⟩
theorem Main.KeepsFaults.modL (m : Main) (f : Loop → Loop) (k : Nat) : Main.KeepsFaults i m (m.modL k f) := ⟨fun _ _ => rfl, rfl⟩
theorem Main.KeepsFaults.modLn (m : Main) (f : Lane → Lane) (k : Nat) : Main.KeepsFaults i m (m.modLn k f) := ⟨fun _ _ => rfl, rfl⟩

end

/-! ### The parts -/

section
variable (m : Main) (i : Nat)

@[simp] theorem Main.i_goto_same (st : Nat) :
    (m.goto i st).i i = { m.i i with core := { (m.i i).core with st := st, movedAt := some m.now } } := m.i_modC_same i _

theorem Main.i_goto_other {k : Nat} (st : Nat) (h : k ≠ i) : (m.goto i st).i k = m.i k :=
  (m.i_modC i k _).trans (if_neg h)

/-- R182: power off. -/
theorem Main.power_powerOff : ((m.powerOff i).i i).core.power = false := by
  obtain ⟨p, l, h⟩ := m.i_powerOff i i
  rw [if_pos rfl] at h
  rw [h]

theorem Main.keepsFaults_powerDown : Main.KeepsFaults i m (m.powerDown i) :=
  (Main.KeepsFaults.modC m _ i).trans (Main.KeepsFaults.modL _ _ i)

theorem Main.keepsFaults_powerOff (hi : i < 64) : Main.KeepsFaults i m (m.powerOff i) := by
  obtain ⟨l, o, hframe, hobj⟩ := m.endShadow_frame i
  have hlane : ∀ b, b = O.FAULT_CAUSE ∨ b = O.FAULT_COUNT → instAddr i b ≠ pwAddr i O.PW_OPMODE := by
    intro b hb
    unfold instAddr pwAddr
    rw [if_pos hi]
    rcases hb with rfl | rfl
    · unfold O.FAULT_CAUSE O.PW_OPMODE; omega
    · unfold O.FAULT_COUNT O.PW_OPMODE; omega
  have hshadow : Main.KeepsFaults i m (m.endShadow i) := by
    refine ⟨fun b hb => hobj _ (hlane b hb), ?_⟩
    rw [hframe]
  rw [Main.powerOff_axis m hi]
  exact (hshadow.trans ((Main.keepsFaults_powerDown _ i).trans (Main.KeepsFaults.modLn _ _ i))).trans
    (Main.KeepsFaults.setObj _ _ ⟨instAddr_ne (by decide), instAddr_ne (by decide)⟩)

/-- R439: a command to a field output changes the field die's side, IO_OUT of the channel and what goes out. -/
theorem Main.cmdOut_frame (c : Nat) (v : Bool) : (∃ fr out f o, m.cmdOut c v = { m with fresh := fr, out := out, field := f, objs := o }) ∧
    ∀ b, b ≠ ioAddr c O.IO_OUT → (m.cmdOut c v).obj b = m.obj b := by
  unfold Main.cmdOut
  split
  · exact ⟨⟨m.fresh, m.out, m.field, m.objs, rfl⟩, fun _ _ => rfl⟩
  · exact ⟨⟨_, _, _, _, rfl⟩, fun b hb => Main.objs_keep _ _ _ _ hb⟩

theorem Main.i_cmdOut (c : Nat) (v : Bool) (k : Nat) : (m.cmdOut c v).i k = m.i k := by
  obtain ⟨⟨fr, out, f, o, h⟩, -⟩ := m.cmdOut_frame c v
  rw [h]
  rfl

/-- The objects of an axis are none of a field channel's. -/
theorem ioAddr_ne_instAddr {c k l : Nat} (hi : i < 64) (hk : k < 4096) : instAddr i k ≠ ioAddr c l := by
  unfold ioAddr instAddr
  rw [if_pos hi]
  omega

theorem Main.keepsFaults_cmdOut (c : Nat) (v : Bool) (hi : i < 64) : Main.KeepsFaults i m (m.cmdOut c v) := by
  obtain ⟨⟨fr, out, f, o, h⟩, hobj⟩ := m.cmdOut_frame c v
  refine ⟨fun k hk => hobj _ (ioAddr_ne_instAddr i hi ?_), by rw [h]⟩
  rcases hk with rfl | rfl <;> decide

/-- R195: the brake command changes the brake, the field output it goes to and nothing else of the axis or hoop. -/
theorem Main.setBrake_eq (v : Bool) : m.setBrake i v =
    (let n := m.modC i (fun c => { c with brake := v })
     if i < 64 ∧ n.io i O.AX_BRAKE_OUT < 32 then n.cmdOut (n.io i O.AX_BRAKE_OUT) v else n) := rfl

theorem Main.i_setBrake (v : Bool) (k : Nat) : (m.setBrake i v).i k =
    if k = i then { m.i i with core := { (m.i i).core with brake := v } } else m.i k := by
  rw [Main.setBrake_eq]
  dsimp only
  split
  · rw [Main.i_cmdOut, Main.i_modC]
  · rw [Main.i_modC]

theorem Main.keepsFaults_setBrake (v : Bool) : Main.KeepsFaults i m (m.setBrake i v) := by
  have hmod : Main.KeepsFaults i m (m.modC i (fun c => { c with brake := v })) := Main.KeepsFaults.modC _ _ _
  rw [Main.setBrake_eq]
  dsimp only
  split
  next h => exact hmod.trans (Main.keepsFaults_cmdOut _ i _ v h.1)
  next => exact hmod

/-- R329: the end of a long operation leaves the state machine's part and the objects. -/
theorem Main.core_homingOff (e k : Nat) : ((m.homingOff i e).i k).core = (m.i k).core := by
  unfold Main.homingOff
  rw [Main.i_modI]
  split
  next h => rw [h]; rfl
  next => rfl

theorem Main.keepsFaults_homingOff (e : Nat) : Main.KeepsFaults i m (m.homingOff i e) := ⟨fun _ _ => rfl, rfl⟩

theorem Main.core_clearEnable : ((m.clearEnable i).i i).core = { (m.i i).core with enPending := false, cmd := 0 } := by
  unfold Main.clearEnable
  rw [Main.i_modC_same]
  rfl

theorem Main.keepsFaults_clearEnable : Main.KeepsFaults i m (m.clearEnable i) :=
  (Main.KeepsFaults.setObj m _ ⟨instAddr_ne (by decide), instAddr_ne (by decide)⟩).trans (Main.KeepsFaults.modC _ _ _)

theorem Main.core_endMotion (k : Nat) : ((m.endMotion i).i k).core = (m.i k).core := by
  unfold Main.endMotion
  rw [Main.i_modM]
  split
  next h => rw [h]
  next => rfl

theorem Main.keepsFaults_endMotion : Main.KeepsFaults i m (m.endMotion i) := ⟨fun _ _ => rfl, rfl⟩

theorem Main.core_linkIdle (k : Nat) : ((m.linkIdle i).i k).core = (m.i k).core := by
  rw [Main.i_linkIdle]
  split
  next h => rw [h]
  next => rfl

theorem Main.keepsFaults_linkIdle : Main.KeepsFaults i m (m.linkIdle i) := by
  refine Main.KeepsFaults.of_objs (m.objs_linkIdle i) ?_
  unfold Main.linkIdle Main.dropRetained
  dsimp only
  split <;> rfl

/-- The brake of an axis or hoop engages where it was released. -/
def Main.brakeOff (m : Main) (i : Nat) : Main := if (m.i i).core.brake then m.setBrake i false else m

/-- The link of an axis or hoop ends where it has one. -/
def Main.linkOff (m : Main) (i : Nat) : Main := if (m.i i).link.st = 0 then m else m.linkIdle i

theorem Main.allOff_eq (e : Nat) : m.allOff i e =
    ((((((m.powerOff i).brakeOff i).homingOff i e).clearEnable i).endMotion i).linkOff i).modC i
      (fun c => { c with chains := 0, seq := .none, react := 0, faultRst := false }) := by
  unfold Main.allOff Main.brakeOff Main.linkOff
  rfl

/-- The axis or hoop stands without power, its causes as they were in `m`. -/
structure Main.Unpowered (i : Nat) (m n : Main) : Prop where
  power : (n.i i).core.power = false
  kept : Main.KeepsFaults i m n

section
variable {m i} {n : Main}

theorem Main.Unpowered.brakeOff (h : Main.Unpowered i m n) : Main.Unpowered i m (n.brakeOff i) := by
  unfold Main.brakeOff
  split
  · refine ⟨?_, h.kept.trans (n.keepsFaults_setBrake i false)⟩
    rw [Main.i_setBrake, if_pos rfl]
    exact h.power
  · exact h

theorem Main.Unpowered.of_core {o : Main} (h : Main.Unpowered i m n) (hc : (o.i i).core.power = (n.i i).core.power)
    (hk : Main.KeepsFaults i n o) : Main.Unpowered i m o := ⟨hc.trans h.power, h.kept.trans hk⟩

theorem Main.Unpowered.linkOff (h : Main.Unpowered i m n) : Main.Unpowered i m (n.linkOff i) := by
  unfold Main.linkOff
  split
  · exact h
  · exact h.of_core (by rw [Main.core_linkIdle]) (n.keepsFaults_linkIdle i)

end

/-- R204, R215: FAULT and SAFE_OFF take power and chains. -/
theorem Main.allOff_spec (e : Nat) (hi : i < 64) : ((m.allOff i e).i i).core.power = false ∧
    ((m.allOff i e).i i).core.chains = 0 ∧ Main.KeepsFaults i m (m.allOff i e) := by
  have hoff : Main.Unpowered i m (m.powerOff i) := ⟨m.power_powerOff i, m.keepsFaults_powerOff i hi⟩
  have hend := hoff.brakeOff.of_core (o := ((((m.powerOff i).brakeOff i).homingOff i e).clearEnable i).endMotion i)
    (by rw [Main.core_endMotion, Main.core_clearEnable, Main.core_homingOff])
    ((Main.keepsFaults_homingOff _ i e).trans ((Main.keepsFaults_clearEnable _ i).trans (Main.keepsFaults_endMotion _ i)))
  have hlink := hend.linkOff
  rw [Main.allOff_eq]
  generalize (((((m.powerOff i).brakeOff i).homingOff i e).clearEnable i).endMotion i).linkOff i = n at hlink ⊢
  rw [Main.i_modC_same]
  exact ⟨hlink.power, rfl, hlink.kept.trans (Main.KeepsFaults.modC _ _ _)⟩

theorem Main.io_setObj_ne {k l : Nat} (v : Nat) (h : k ≠ l) : (m.setObj (instAddr i l) v).io i k = m.io i k :=
  Main.objs_keep _ _ _ _ (instAddr_ne h)

theorem Main.io_inc_ne {k l : Nat} (h : k ≠ l) : (m.inc (instAddr i l)).io i k = m.io i k :=
  Main.objs_keep _ _ _ _ (instAddr_ne h)

theorem Main.io_setObj_self {k l : Nat} : (m.setObj (instAddr i k) (m.io i l)).io i k = m.io i l :=
  (Main.obj_setObj_same m _ _).trans (Nat.mod_eq_of_lt (m.obj_lt _))

theorem Main.io_goto (st k l : Nat) : (m.goto i st).io k l = m.io k l := rfl

/-- R208: what entering FAULT writes. -/
def Main.faultNoted (m : Main) (i : Nat) : Main :=
  (((m.setObj (instAddr i O.FAULT_LAST) (m.io i O.FAULT_CAUSE)).setObj (instAddr i O.FAULT_TIME) m.now).inc
    (instAddr i O.FAULT_COUNT)).goto i sFault

theorem Main.toFault_eq : m.toFault i = (m.allOff i 0x03).faultNoted i := by
  simp only [Main.toFault, Main.faultNoted, Main.now_setObj]

theorem Main.faultNoted_spec : (m.faultNoted i).io i O.FAULT_CAUSE = m.io i O.FAULT_CAUSE ∧
    (m.faultNoted i).io i O.FAULT_LAST = m.io i O.FAULT_CAUSE ∧
    (m.faultNoted i).io i O.FAULT_COUNT = (m.io i O.FAULT_COUNT + 1) % 2 ^ 36 := by
  unfold Main.faultNoted
  refine ⟨?_, ?_, ?_⟩
  · rw [Main.io_goto, Main.io_inc_ne _ _ (by decide), Main.io_setObj_ne _ _ _ (by decide), Main.io_setObj_ne _ _ _ (by decide)]
  · rw [Main.io_goto, Main.io_inc_ne _ _ (by decide), Main.io_setObj_ne _ _ _ (by decide), Main.io_setObj_self]
  · rw [Main.io_goto]
    refine (Main.obj_inc_same _ _).trans ?_
    refine congrArg (fun x => (x + 1) % 2 ^ 36) ?_
    exact (Main.io_setObj_ne _ _ _ (by decide)).trans (Main.io_setObj_ne _ _ _ (by decide))

theorem Main.i_inc (b k : Nat) : (m.inc b).i k = m.i k := rfl

theorem Main.core_faultNoted : ((m.faultNoted i).i i).core.st = sFault ∧
    ((m.faultNoted i).i i).core.power = (m.i i).core.power ∧ ((m.faultNoted i).i i).core.chains = (m.i i).core.chains := by
  unfold Main.faultNoted
  rw [Main.i_goto_same, Main.i_inc, Main.i_setObj, Main.i_setObj]
  exact ⟨rfl, rfl, rfl⟩

/-- R204, R208: entry to FAULT. -/
theorem Main.toFault_spec (hi : i < 64) : ((m.toFault i).i i).core.st = sFault ∧ ((m.toFault i).i i).core.power = false ∧
    ((m.toFault i).i i).core.chains = 0 ∧ (m.toFault i).io i O.FAULT_CAUSE = m.io i O.FAULT_CAUSE ∧
    (m.toFault i).io i O.FAULT_LAST = m.io i O.FAULT_CAUSE ∧
    (m.toFault i).io i O.FAULT_COUNT = (m.io i O.FAULT_COUNT + 1) % 2 ^ 36 := by
  obtain ⟨hpower, hchains, hkeep⟩ := m.allOff_spec i 0x03 hi
  rw [Main.toFault_eq]
  generalize m.allOff i 0x03 = n at hpower hchains hkeep ⊢
  obtain ⟨hcause, hlast, hcount⟩ := n.faultNoted_spec i
  rw [hcause, hlast, hcount, hkeep.objs _ (Or.inl rfl), hkeep.objs _ (Or.inr rfl)]
  obtain ⟨hst, hp, hc⟩ := n.core_faultNoted i
  exact ⟨hst, hp.trans hpower, hc.trans hchains, rfl, rfl, rfl⟩

/-- R215: entry to SAFE_OFF. -/
theorem Main.toSafeOff_spec (hi : i < 64) : ((m.toSafeOff i).i i).core.st = sSafeOff ∧
    ((m.toSafeOff i).i i).core.power = false ∧ ((m.toSafeOff i).i i).core.chains = 0 := by
  obtain ⟨hpower, hchains, -⟩ := (m.opFail i 0x04).allOff_spec i 0x04 hi
  unfold Main.toSafeOff
  generalize (m.opFail i 0x04).allOff i 0x04 = n at hpower hchains ⊢
  rw [Main.i_goto_same]
  exact ⟨rfl, hpower, hchains⟩

end

/-! ### The order of R187 -/

section
variable {m : Main} {a : Nat}

/-- R215: the safe-level signal acts on an axis by its own mark. -/
theorem Main.safeActs_axis (ha : a < 64) : m.safeActs a = (m.i a).core.safe := if_pos ha

/-- R182, R187: with nothing else pending only SAFE_OFF, a stop in RUN or the completion of a sequence remains. -/
theorem Main.transition_of_quiet (ha : a < 64) (hq : m.quiet a) : m.transition a =
    if (m.i a).core.st = sSafeOff then (if m.io a O.FAULT_CAUSE = 0 then m.goto a sOff else m.toFault a)
    else if (m.i a).core.st = sRun ∧ (m.i a).core.stop ≠ 0 then m.toStopping a else m.completion a := by
  obtain ⟨hraised, hmoved, hsafe, hcmd⟩ := hq
  have hacts : m.safeActs a = false := (Main.safeActs_axis ha).trans hsafe
  unfold Main.transition
  simp only [hraised, hacts, hcmd, hmoved, if_true, if_false, false_and, Bool.false_eq_true, ne_eq, not_true]
  simp

/-- A cause of reaction 0 leaves no other reaction (R203, R206). -/
theorem Main.raisedReaction_zero (h : (m.i a).core.raisedR = 0) : m.raisedReaction a = 0 := by
  have hworse : ∀ r, worse 0 r = 0 := by
    intro r
    unfold worse
    have h3 : severity r ≤ severity 0 := by
      unfold severity
      split <;> decide
    exact if_neg (Nat.not_lt.2 h3)
  unfold Main.raisedReaction
  simp only [h, hworse]
  simp

/-- The causes raised since the last boundary are recorded. -/
def Main.recorded (m : Main) (a : Nat) : Main :=
  (m.orObj (instAddr a O.FAULT_CAUSE) (m.i a).core.raised).modC a (fun c => { c with raised := 0, raisedR := 9 })

/-- The axis or hoop with its new causes recorded, where there are any. -/
def Main.noted (m : Main) (a : Nat) : Main := if (m.i a).core.raised = 0 then m else m.recorded a

theorem Main.safeActs_noted (ha : a < 64) : (m.noted a).safeActs a = (m.i a).core.safe := by
  rw [Main.safeActs_axis ha]
  unfold Main.noted
  split
  · rfl
  · unfold Main.recorded
    rw [Main.i_modC_same]
    rfl

theorem Main.now_noted : (m.noted a).now = m.now := by
  unfold Main.noted
  split <;> rfl

/-- R187: the first events in order. -/
theorem Main.transition_first (m : Main) (a : Nat) : ∃ spent off rest, m.transition a =
    if (m.i a).core.movedAt = some (m.noted a).now then spent
    else if (m.noted a).safeActs a = true ∧ (m.i a).core.st ≠ sSafeOff then (m.noted a).toSafeOff a
    else if (m.i a).core.st = sSafeOff then off
    else if (m.i a).core.raised ≠ 0 ∧ (m.i a).core.st ≠ sFault ∧
        (m.raisedReaction a = 0 ∨ (m.i a).core.st = sOff ∨ (m.i a).core.st = sReady) then
      (if a < 64 then m.noted a else (m.noted a).memberReact 64 a 0).endNow a
    else rest := ⟨_, _, _, rfl⟩

/-- R187, R204: a cause of reaction 0 comes before every event but the safe-level signal. -/
theorem Main.transition_of_reaction_zero (ha : a < 64) (hr : (m.i a).core.raised ≠ 0) (h0 : (m.i a).core.raisedR = 0)
    (h6 : (m.i a).core.st ≤ 6) (hm : (m.i a).core.movedAt ≠ some m.now)
    (hs : (m.i a).core.safe = false) : m.transition a = (m.recorded a).toFault a := by
  have hend : (m.recorded a).endNow a = (m.recorded a).toFault a := if_neg fun h => absurd h.1 (Nat.not_le.2 ha)
  have h8 : (m.i a).core.st ≠ sSafeOff := fun e => by rw [e] at h6; exact absurd h6 (by decide)
  have h7 : (m.i a).core.st ≠ sFault := fun e => by rw [e] at h6; exact absurd h6 (by decide)
  have hnoted : m.noted a = m.recorded a := if_neg hr
  obtain ⟨spent, off, rest, h⟩ := m.transition_first a
  rw [h, Main.now_noted, if_neg hm, Main.safeActs_noted ha, hs, if_neg (fun h => absurd h.1 nofun), if_neg h8,
    if_pos ⟨hr, h7, Or.inl (Main.raisedReaction_zero h0)⟩, if_pos ha, hnoted, hend]

/-- R187, R215: the safe-level signal comes first. -/
theorem Main.transition_of_safe (ha : a < 64) (hs : (m.i a).core.safe = true) (h8 : (m.i a).core.st ≠ sSafeOff)
    (hm : (m.i a).core.movedAt ≠ some m.now) : m.transition a = (m.noted a).toSafeOff a := by
  obtain ⟨spent, off, rest, h⟩ := m.transition_first a
  rw [h, Main.now_noted, if_neg hm, Main.safeActs_noted ha, if_pos ⟨hs, h8⟩]

end

end Sys2Proof.Machine
end

section
/-! The timed steps of an axis's sequences, their completion, and the limits of its errors (R190-R211). -/

namespace Sys2Proof.Machine

/-! ### Timed steps (R190, R191, R193, R195, R198) -/

section
variable {a : Ax} {s : State}

theorem brakeReleaseEnd_completes (hst : (s.main.i a).core.st = sEnabling) (hseq : (s.main.i a).core.seq = Seq.brakeRel)
    (ht : s.main.brakeTime a O.AX_BRAKE_RELEASE_T = true) :
    Completes (.brakeReleaseEnd ⟨a.val, by omega⟩) s (fun t =>
      t = { s with main := { s.main with out := {}, inst := t.main.inst } } ∧ InstBut s.main t.main [a.val] ∧
      t.main.i a = { s.main.i a with core := { (s.main.i a).core with seq := .run } }) := by
  have hexec : exec (.brakeReleaseEnd ⟨a.val, by omega⟩) s = .next { s with main := s.start.modC a (fun c => { c with seq := .run }) } := by
    change Host.Outcome.next { s with
      main :=
        if (s.start.i a).core.st = sEnabling ∧ (s.start.i a).core.seq = Seq.brakeRel ∧ s.start.brakeTime a O.AX_BRAKE_RELEASE_T = true
        then s.start.modC a (fun c => { c with seq := .run }) else s.start } = _
    rw [if_pos ⟨hst, hseq, ht⟩]
  refine completes_of_exec hexec ⟨rfl, fun k hk => ?_, ?_⟩
  · exact (s.start.i_modC a k (fun c => { c with seq := .run })).trans (if_neg (by simpa using hk))
  · exact s.start.i_modC_same a (fun c => { c with seq := .run })

theorem standstillReached_completes (hst : (s.main.i a).core.st = sStopping) (hseq : (s.main.i a).core.seq = Seq.ramp)
    (ht : s.main.atStandstill a = true) : Completes (.standstillReached ⟨a.val, by omega⟩) s (fun t =>
      (t.main.i a).core.st = sStopping ∧ (t.main.i a).core.seq = .standstill ∧ (t.main.i a).motion.velSp = 0 ∧
      (t.main.i a).motion.posSp = (s.main.i a).motion.posSp ∧ (t.main.i a).motion.plan = none ∧
      (t.main.i a).motion.queue = [] ∧ InstBut s.main t.main [a.val]) := by
  have hstill : s.start.standstill a = (s.start.holdHere a).modC a (fun c => { c with seq := .standstill }) := by
    unfold Main.standstill
    exact if_pos (Or.inl hst)
  have hexec : exec (.standstillReached ⟨a.val, by omega⟩) s = .next { s with main := s.start.standstill a } := by
    have hgate : (s.start.i a).core.seq = Seq.ramp ∧ 4 ≤ (s.start.i a).core.st ∧ (s.start.i a).core.st ≤ 6 := by
      refine ⟨hseq, ?_⟩
      have hst' : (s.start.i a).core.st = 4 := hst
      omega
    change Host.Outcome.next { s with
      main :=
        if s.start.atStandstill a = true then
          if (s.start.i a).core.seq = Seq.ramp ∧ 4 ≤ (s.start.i a).core.st ∧ (s.start.i a).core.st ≤ 6 then s.start.standstill a
          else if (s.start.i a).core.st = sRun then s.start.homeStandstill a
          else s.start
        else s.start } = _
    rw [if_pos (show s.start.atStandstill a = true from ht), if_pos hgate]
  refine completes_of_exec hexec ?_
  rw [hstill]
  refine ⟨?_, ?_, ?_, ?_, ?_, ?_, fun k hk => ?_⟩
  · rw [Main.i_modC_same]
    unfold Main.holdHere
    rw [Main.i_modM_same]
    exact hst
  · rw [Main.i_modC_same]
  · rw [Main.i_modC_same]
    unfold Main.holdHere
    rw [Main.i_modM_same]
  · rw [Main.i_modC_same]
    unfold Main.holdHere
    rw [Main.i_modM_same]
    rfl
  · rw [Main.i_modC_same]
    unfold Main.holdHere
    rw [Main.i_modM_same]
  · rw [Main.i_modC_same]
    unfold Main.holdHere
    rw [Main.i_modM_same]
  · have hk' : k ≠ a.val := by simpa using hk
    obtain ⟨mo, hhold⟩ := s.start.i_holdHere a k
    rw [Main.i_modC, if_neg hk', hhold, if_neg hk']
    rfl

theorem brakeEngageEnd_completes (hseq : (s.main.i a).core.seq = Seq.engage)
    (ht : s.main.brakeTime a O.AX_BRAKE_ENGAGE_T = true) : Completes (.brakeEngageEnd ⟨a.val, by omega⟩) s (fun t =>
      (t.main.i a).core.power = false ∧ (t.main.i a).core.seq = .powerOff ∧ (t.main.i a).core.st = (s.main.i a).core.st ∧
      InstBut s.main t.main [a.val]) := by
  have hexec : exec (.brakeEngageEnd ⟨a.val, by omega⟩) s = .next { s with
      main := (s.start.powerOff a).modC a (fun c => { c with seq := .powerOff }) } := by
    change Host.Outcome.next { s with
      main :=
        if (s.start.i a).core.seq = Seq.engage ∧ a.val < 64 ∧ s.start.brakeTime a O.AX_BRAKE_ENGAGE_T = true then
          (s.start.powerOff a).modC a (fun c => { c with seq := .powerOff })
        else s.start } = _
    rw [if_pos ⟨hseq, a.isLt, ht⟩]
  have hpower := s.start.power_powerOff a
  have hi := s.start.i_powerOff a
  refine completes_of_exec hexec ?_
  generalize s.start.powerOff a = n at hpower hi
  refine ⟨?_, ?_, ?_, fun k hk => ?_⟩
  · rw [Main.i_modC_same]; exact hpower
  · rw [Main.i_modC_same]
  · obtain ⟨p, l, h⟩ := hi a
    rw [if_pos rfl] at h
    rw [Main.i_modC_same, h]
    rfl
  · have hk' : k ≠ a.val := by simpa using hk
    obtain ⟨p, l, h⟩ := hi k
    rw [Main.i_modC, if_neg hk', h, if_neg hk']
    rfl

/-- R207: a ramp that has run for STOP_TMAX. -/
theorem stopTimeout_completes (h0 : s.main.io a O.STOP_TMAX ≠ 0) (hseq : (s.main.i a).core.seq = Seq.ramp)
    (hst : (s.main.i a).core.st = sStopping ∨ (s.main.i a).core.st = sDisabling ∨ (s.main.i a).core.st = sReaction)
    (ht : (s.main.i a).core.rampT + s.main.io a O.STOP_TMAX * unitsPerMs ≤ s.main.now) :
    Completes (.stopTimeout ⟨a.val, by omega⟩) s (fun t =>
      t = { s with main := { s.main with out := {}, inst := t.main.inst } } ∧ InstBut s.main t.main [a.val] ∧
      (t.main.i a).core.raised.testBit cStopTimeout = true ∧ (t.main.i a).core.raisedR = 0 ∧
      (t.main.i a).core.st = (s.main.i a).core.st) := by
  have hexec : exec (.stopTimeout ⟨a.val, by omega⟩) s = .next { s with main := s.start.raise a cStopTimeout (some 0) } := by
    change Host.Outcome.next { s with
      main :=
        if s.start.io a O.STOP_TMAX ≠ 0 ∧ ((s.start.i a).core.st = sStopping ∨ (s.start.i a).core.st = sDisabling ∨
            (s.start.i a).core.st = sReaction) ∧ (s.start.i a).core.seq = Seq.ramp ∧
            (s.start.i a).core.rampT + s.start.io a O.STOP_TMAX * unitsPerMs ≤ s.start.now then
          s.start.raise a cStopTimeout (some 0)
        else s.start } = _
    rw [if_pos ⟨h0, hst, hseq, ht⟩]
  refine completes_of_exec hexec ⟨rfl, fun k hk => s.start.raise_core a _ k _ (by simpa using hk), ?_, ?_, ?_⟩
  · rw [Main.raise_raised]
    simp
  · rw [Main.core_raise_zero]
  · rw [Main.core_raise_zero]
    rfl

end

/-! ### Completion at the slot boundary (R186, R202, R208) -/

section
variable {m : Main} {a : Nat}

/-- In the states of a sequence, with nothing else pending, the boundary's transition is the sequence's completion. -/
theorem Main.transition_of_sequence (ha : a < 64) (hq : m.quiet a) (hrun : (m.i a).core.st ≠ sRun)
    (hoff : (m.i a).core.st ≠ sSafeOff) : m.transition a = m.completion a := by
  rw [Main.transition_of_quiet ha hq, if_neg hoff, if_neg (fun h => hrun h.1)]

/-- R202: RUN, with no stop in force. -/
theorem Main.toRun_spec (ha : a < 64) (hstop : (m.i a).core.stop = 0) :
    ((m.toRun a).i a).core.st = sRun ∧ ((m.toRun a).i a).core.seq = .none ∧ InstBut m (m.toRun a) [a] ∧
    (m.toRun a).objs = m.objs := by
  have hhoop : ¬ (64 ≤ a ∧ (m.modC a (fun c => { c with seq := .none })).io a O.HP_KIND = 2) := fun h => absurd h.1 (Nat.not_le.2 ha)
  have hrun : m.toRun a = (m.modC a (fun c => { c with seq := .none })).goto a sRun := by
    unfold Main.toRun
    dsimp only
    rw [if_neg hhoop]
    refine if_neg (not_not.2 ?_)
    rw [Main.i_goto_same, Main.i_modC_same]
    exact hstop
  rw [hrun]
  refine ⟨?_, ?_, fun k hk => ?_, rfl⟩
  · rw [Main.i_goto_same]
  · rw [Main.i_goto_same, Main.i_modC_same]
  · have hk' : k ≠ a := by simpa using hk
    rw [Main.i_goto_other _ _ _ hk', Main.i_modC, if_neg hk']

theorem Main.completion_enabling (ha : a < 64) (hst : (m.i a).core.st = sEnabling) (hseq : (m.i a).core.seq = .run) :
    m.completion a = m.toRun a := by
  unfold Main.completion
  simp [hst, hseq, ha]

theorem Main.completion_stopping (hst : (m.i a).core.st = sStopping) (hseq : (m.i a).core.seq = .standstill)
    (hstop : (m.i a).core.stop = 0) :
    m.completion a = ((m.holdHere a).modC a (fun c => { c with seq := .none })).goto a sRun := by
  unfold Main.completion
  simp [hst, hseq, hstop]

theorem Main.completion_over (ha : a < 64) (hseq : (m.i a).core.seq = .powerOff) :
    ((m.i a).core.st = sDisabling → m.completion a = m.disabled a) ∧
    ((m.i a).core.st = sReaction → m.completion a = m.toFault a) := by
  have hover : m.seqOver a = true := by
    unfold Main.seqOver
    rw [if_pos ha, hseq]
    rfl
  refine ⟨fun hst => ?_, fun hst => ?_⟩ <;>
  · unfold Main.completion
    simp [hst, hseq, hover]

/-! #### The end of DISABLING (R191, R196) -/

/-- R183: of the instances, whether an axis is ready rests on its own safe-level mark only. -/
theorem Main.ready_congr {n : Main} (ha : a < 64) (h : ∃ x, n = { m with inst := x })
    (hs : (n.i a).core.safe = (m.i a).core.safe) : n.ready a = m.ready a := by
  have hready : ∀ k : Main, k.ready a = k.readyAxis a := fun k => if_pos ha
  rw [hready, hready]
  unfold Main.readyAxis
  rw [hs]
  obtain ⟨x, rfl⟩ := h
  rfl

/-- An axis that has disabled: at rest, without power. -/
def Main.rested (m : Main) (a : Nat) : Main :=
  ((m.endMotion a).modC a (fun c => { c with seq := .none, power := false })).modL a
    (fun l => { l with wIq := false, wVel := false, wVmax := false })

/-- Its chains leave the ledger, unless a hoop above is to enable again (R349). -/
def Main.leaveLedger (m : Main) (a : Nat) : Main := if m.pendingAbove 64 a then m else m.modC a (fun c => { c with chains := 0 })

theorem Main.disabled_eq (ha : a < 64) (he : (m.i a).core.enPending = false) : m.disabled a =
    ((m.rested a).leaveLedger a).goto a (if ((m.rested a).leaveLedger a).ready a then sReady else sOff) := by
  have hdrop : ∀ n : Main, n.dropChains 64 a = n.modC a (fun c => { c with chains := 0 }) := fun n => if_pos ha
  unfold Main.disabled Main.leaveLedger
  rw [he, if_neg (by decide)]
  simp only [hdrop]
  rfl

theorem Main.core_rested : ((m.rested a).i a).core = { (m.i a).core with seq := .none, power := false } := by
  unfold Main.rested
  rw [Main.i_modL_same, Main.i_modC_same, Main.core_endMotion]

theorem Main.parent_rested : ((m.rested a).i a).parent = (m.i a).parent := by
  unfold Main.rested Main.endMotion
  rw [Main.i_modL_same, Main.i_modC_same, Main.i_modM_same]

theorem Main.rested_frame (m : Main) (a : Nat) : ∃ x, m.rested a = { m with inst := x } := ⟨_, rfl⟩

theorem Main.leaveLedger_frame (m : Main) (a : Nat) : ∃ x, m.leaveLedger a = { m with inst := x } := by
  unfold Main.leaveLedger
  split
  · exact ⟨m.inst, rfl⟩
  · exact ⟨_, rfl⟩

theorem Main.disabled_spec (ha : a < 64) (he : (m.i a).core.enPending = false) :
    ((m.disabled a).i a).core.power = false ∧ ((m.disabled a).i a).core.st = (if m.ready a = true then sReady else sOff) ∧
    ((m.i a).parent = none → ((m.disabled a).i a).core.chains = 0) := by
  have hready : ((m.rested a).leaveLedger a).ready a = m.ready a := by
    have hsafe : (((m.rested a).leaveLedger a).i a).core.safe = ((m.rested a).i a).core.safe := by
      unfold Main.leaveLedger
      split
      · rfl
      · rw [Main.i_modC_same]
    have hrest : (m.rested a).ready a = m.ready a := Main.ready_congr ha (m.rested_frame a) (by rw [Main.core_rested])
    exact (Main.ready_congr ha ((m.rested a).leaveLedger_frame a) hsafe).trans hrest
  have hpower : (((m.rested a).leaveLedger a).i a).core.power = false := by
    unfold Main.leaveLedger
    split
    · rw [Main.core_rested]
    · rw [Main.i_modC_same, Main.core_rested]
  have hchains : (m.i a).parent = none → (((m.rested a).leaveLedger a).i a).core.chains = 0 := by
    intro hp
    have habove : (m.rested a).pendingAbove 64 a = false := by
      unfold Main.pendingAbove
      rw [Main.parent_rested, hp]
    unfold Main.leaveLedger
    rw [habove, if_neg (by decide), Main.i_modC_same]
  rw [Main.disabled_eq ha he, hready]
  generalize (m.rested a).leaveLedger a = n at hpower hchains
  rw [Main.i_goto_same]
  exact ⟨hpower, rfl, hchains⟩

/-- What an axis with nothing else pending does at the boundary. -/
theorem Main.transition_completes (ha : a < 64) (hq : m.quiet a) :
    (let c := (m.i a).core
     let t := m.transition a
     (c.st = sEnabling → c.seq = .run → c.stop = 0 → (t.i a).core.st = sRun ∧ (t.i a).core.seq = .none ∧
        InstBut m t [a] ∧ t.objs = m.objs) ∧
     (c.st = sStopping → c.seq = .standstill → c.stop = 0 → (t.i a).core.st = sRun ∧ InstBut m t [a]) ∧
     (c.st = sDisabling → c.seq = .powerOff → c.enPending = false → (t.i a).core.power = false ∧
        (t.i a).core.st = (if m.ready a = true then sReady else sOff) ∧
        ((m.i a).parent = none → (t.i a).core.chains = 0)) ∧
     (c.st = sReaction → c.seq = .powerOff → (t.i a).core.st = sFault ∧ (t.i a).core.power = false ∧
        (t.i a).core.chains = 0 ∧ t.io a O.FAULT_LAST = m.io a O.FAULT_CAUSE ∧
        t.io a O.FAULT_COUNT = (m.io a O.FAULT_COUNT + 1) % 2 ^ 36)) := by
  refine ⟨fun hst hseq hstop => ?_, fun hst hseq hstop => ?_, fun hst hseq he => ?_, fun hst hseq => ?_⟩
  · rw [Main.transition_of_sequence ha hq (by rw [hst]; decide) (by rw [hst]; decide), Main.completion_enabling ha hst hseq]
    exact Main.toRun_spec ha hstop
  · rw [Main.transition_of_sequence ha hq (by rw [hst]; decide) (by rw [hst]; decide), Main.completion_stopping hst hseq hstop]
    refine ⟨?_, fun k hk => ?_⟩
    · rw [Main.i_goto_same]
    · have hk' : k ≠ a := by simpa using hk
      obtain ⟨mo, hhold⟩ := m.i_holdHere a k
      rw [Main.i_goto_other _ _ _ hk', Main.i_modC, if_neg hk', hhold, if_neg hk']
  · rw [Main.transition_of_sequence ha hq (by rw [hst]; decide) (by rw [hst]; decide), (Main.completion_over ha hseq).1 hst]
    exact Main.disabled_spec ha he
  · rw [Main.transition_of_sequence ha hq (by rw [hst]; decide) (by rw [hst]; decide), (Main.completion_over ha hseq).2 hst]
    obtain ⟨h1, h2, h3, -, h5, h6⟩ := m.toFault_spec a ha
    exact ⟨h1, h2, h3, h5, h6⟩

/-- R187, R204, R208: a cause of reaction 0 ends in FAULT at once. -/
theorem Main.transition_faults {k : Nat} (ha : a < 64) (hb : (m.i a).core.raised.testBit k = true)
    (h0 : (m.i a).core.raisedR = 0) (hk : k < 36) (h6 : (m.i a).core.st ≤ 6) (hm : (m.i a).core.movedAt ≠ some m.now)
    (hs : (m.i a).core.safe = false) : ((m.transition a).i a).core.st = sFault ∧ ((m.transition a).i a).core.power = false ∧
      ((m.transition a).io a O.FAULT_CAUSE).testBit k = true := by
  have hr : (m.i a).core.raised ≠ 0 := by
    intro h
    rw [h, Nat.zero_testBit] at hb
    exact absurd hb nofun
  rw [Main.transition_of_reaction_zero ha hr h0 h6 hm hs]
  obtain ⟨hst, hpower, -, hcause, -, -⟩ := (m.recorded a).toFault_spec a ha
  refine ⟨hst, hpower, ?_⟩
  rw [hcause]
  have hrec : (m.recorded a).io a O.FAULT_CAUSE = (m.obj (instAddr a O.FAULT_CAUSE) ||| (m.i a).core.raised) % 2 ^ 72 :=
    Main.obj_setObj_same _ _ _
  rw [hrec, Nat.testBit_mod_two_pow, Nat.testBit_or, hb]
  simp
  omega

end

/-! ### Limits of error (R210, R211) -/

section
variable {i : InstId} {s : State}

theorem i_raise_plain (m : Main) (k bit : Nat) : (m.raise k bit).i k =
    { m.i k with core := { (m.i k).core with raised := (m.i k).core.raised ||| 2 ^ bit } } := by
  unfold Main.raise
  rw [Main.i_modC_same]

/-- What a raised cause of the configured reaction leaves. -/
theorem completes_raise {c : Instr} {bit : Nat} (h : exec c s = .next { s with main := s.start.raise i bit }) :
    Completes c s (fun t =>
      t = { s with main := { s.main with out := {}, inst := t.main.inst } } ∧ InstBut s.main t.main [i.val] ∧
      t.main.i i = { s.main.i i with core := { (s.main.i i).core with raised := (s.main.i i).core.raised ||| 2 ^ bit } }) :=
  completes_of_exec h ⟨rfl, fun k hk => s.start.raise_core i bit k none (by simpa using hk), i_raise_plain s.start i bit⟩

theorem exec_followErr (h0 : 0 < s.main.ioI i O.FE_LIMIT) (hm : s.main.mode i = 0 ∨ s.main.mode i = 3)
    (he : s.main.ioI i O.FE_LIMIT < ((s.main.ioI i O.FOLLOW_ERR).natAbs : Int)) (hh : (s.main.i i).home = none) :
    exec (.followErr i) s = .next { s with main := s.start.raise i cFollowErr } := by
  have hlim : (s.start.ioI i O.FE_LIMIT).toNat < (s.start.ioI i O.FOLLOW_ERR).natAbs := by
    change (s.main.ioI i O.FE_LIMIT).toNat < (s.main.ioI i O.FOLLOW_ERR).natAbs
    omega
  have hfree : (s.start.opRuns i 1 && (match (s.start.i i).home with | some h => h.method == 7 | none => false)) = false := by
    have hh' : (s.start.i i).home = none := hh
    rw [hh', Bool.and_false]
  change Host.Outcome.next { s with
    main :=
      if 0 < s.start.ioI i O.FE_LIMIT ∧ (s.start.mode i = 0 ∨ s.start.mode i = 3) ∧
          (s.start.ioI i O.FE_LIMIT).toNat < (s.start.ioI i O.FOLLOW_ERR).natAbs ∧
          (s.start.opRuns i 1 && (match (s.start.i i).home with | some h => h.method == 7 | none => false)) = false then
        s.start.raise i cFollowErr
      else s.start } = _
  rw [if_pos ⟨h0, hm, hlim, hfree⟩]

theorem exec_velErr (h0 : 0 < velQ (s.main.objW (instAddr i O.VE_LIMIT))) (hm : s.main.mode i = 1)
    (he : velQ (s.main.objW (instAddr i O.VE_LIMIT)) < absQ ((s.main.i i).loop.vCmd - s.main.actualVel i)) :
    exec (.velErr i) s = .next { s with main := s.start.raise i cVelErr } := by
  change Host.Outcome.next { s with
    main :=
      if 0 < velQ (s.start.objW (instAddr i O.VE_LIMIT)) ∧ s.start.mode i = 1 ∧
          velQ (s.start.objW (instAddr i O.VE_LIMIT)) < absQ ((s.start.i i).loop.vCmd - s.start.actualVel i) then
        s.start.raise i cVelErr
      else s.start } = _
  rw [if_pos ⟨h0, hm, he⟩]

end

/-- Settles O31. -/
theorem sequenceStepsAndLimitsOfError : Obligations.SequenceStepsAndLimitsOfError := by
  unfold Obligations.SequenceStepsAndLimitsOfError
  refine ⟨⟨fun a s => ?steps, fun a m hq => Main.transition_completes a.isLt hq⟩,
    ⟨fun a s h0 hseq hst ht => stopTimeout_completes h0 hseq hst ht,
     fun a m k hb h0 hk _ h6 hm hs => Main.transition_faults a.isLt hb h0 hk h6 hm hs⟩,
    fun i s => ⟨fun h0 hm he hh => completes_raise (exec_followErr h0 hm he hh),
      fun h0 hm he => completes_raise (exec_velErr h0 hm he)⟩⟩
  case steps => exact ⟨brakeReleaseEnd_completes, standstillReached_completes, brakeEngageEnd_completes⟩

end Sys2Proof.Machine
end

section
/-! The safe-level signal and the SS1 announcement as the axes of a zone take them (R186, R215, R216, R476). -/

namespace Sys2Proof.Machine

theorem mem_zoneAxes (z : Fin 2) (k : Nat) : k ∈ zoneAxes z ↔ k / 32 = z.val := by
  unfold zoneAxes
  simp only [List.mem_map, List.mem_range]
  constructor
  · rintro ⟨j, hj, rfl⟩
    omega
  · intro h
    exact ⟨k % 32, Nat.mod_lt _ (by decide), by omega⟩

theorem nodup_zoneAxes (z : Fin 2) : (zoneAxes z).Nodup :=
  List.Nodup.map (fun x y h => by omega) List.nodup_range

/-- The state machine's part of every axis of a zone changes by `f`. -/
def Main.modZoneAxes (m : Main) (z : Fin 2) (f : Core → Core) : Main := forEach (zoneAxes z) (fun a n => n.modC a f) m

theorem Main.i_modZoneAxes (m : Main) (z : Fin 2) (f : Core → Core) (k : Nat) :
    (m.modZoneAxes z f).i k = if k / 32 = z.val then { m.i k with core := f (m.i k).core } else m.i k := by
  refine (forEach_at (fun _ => True) (fun n => n.i k) (fun a n => n.modC a f) (fun x => { x with core := f x.core }) k
    (fun _ _ _ => trivial) (fun j n _ hj => ?_) (fun n _ => ?_) (nodup_zoneAxes z) m trivial).trans
    (if_congr (mem_zoneAxes z k) rfl rfl)
  · exact (n.i_modC j k f).trans (if_neg (Ne.symm hj))
  · exact n.i_modC_same k f

theorem Main.modZoneAxes_frame (m : Main) (z : Fin 2) (f : Core → Core) : ∃ x, m.modZoneAxes z f = { m with inst := x } :=
  forEach_keeps (fun n => ∃ x, n = { m with inst := x }) _ (by rintro k n ⟨x, rfl⟩; exact ⟨_, rfl⟩) _ m ⟨m.inst, rfl⟩

/-- A signal that changes the axes of a zone. -/
theorem completes_zoneSignal {c : Instr} {s : State} {z : Fin 2} {f : Core → Core} {P : State → Prop}
    (h : exec c s = .next { s with main := s.start.modZoneAxes z f })
    (hP : ∀ t, (t = { s with main := { s.main with out := {}, inst := t.main.inst } }) →
      (∀ k, t.main.i k = if k / 32 = z.val then { s.main.i k with core := f (s.main.i k).core } else s.main.i k) → P t) :
    Completes c s P := by
  obtain ⟨x, hx⟩ := s.start.modZoneAxes_frame z f
  exact completes_of_exec h (hP _ (by rw [hx]; rfl) (s.start.i_modZoneAxes z f))

/-- The zone that a signal's command reads is the zone of the safety die. -/
theorem SafetyDie.zone_eq (d : SafetyDie) (z : Fin 2) : d.zone z = if z = 0 then d.zone0 else d.zone1 := rfl

section
variable {z : Fin 2} {s : State}

theorem exec_safeLevelSignal (h : (s.safety.zone z).signal = true) : exec (.safeLevelSignal z) s = .next { s with
    main := s.start.modZoneAxes z (fun c => { c with safe := true, ss1 := false }) } := by
  have hon : (s.safety.held || (if z = 0 then s.safety.zone0.signal else s.safety.zone1.signal)) = true := by
    rw [SafetyDie.zone_eq, apply_ite Zone.signal] at h
    rw [h, Bool.or_true]
  change Host.Outcome.next { s with
    main :=
      if (s.safety.held || (if z = 0 then s.safety.zone0.signal else s.safety.zone1.signal)) = true then
        s.start.modZoneAxes z (fun c => { c with safe := true, ss1 := false })
      else s.start } = _
  rw [if_pos hon]

theorem exec_safeLevelSignalWithdrawn (hd : s.safety.held = false) (h : (s.safety.zone z).signal = false) :
    exec (.safeLevelSignalWithdrawn z) s = .next { s with main := s.start.modZoneAxes z (fun c => { c with safe := false }) } := by
  have hoff : ¬ (s.safety.held || (if z = 0 then s.safety.zone0.signal else s.safety.zone1.signal)) = true := by
    rw [SafetyDie.zone_eq, apply_ite Zone.signal] at h
    rw [h, hd]
    decide
  change Host.Outcome.next { s with
    main :=
      if (s.safety.held || (if z = 0 then s.safety.zone0.signal else s.safety.zone1.signal)) = true then s.start
      else s.start.modZoneAxes z (fun c => { c with safe := false }) } = _
  rw [if_neg hoff]

theorem exec_ss1Announcement (h : (s.safety.zone z).st ≠ ZoneSt.run) : exec (.ss1Announcement z) s = .next { s with
    main := s.start.modZoneAxes z (fun c => { c with ss1 := true }) } := by
  have hon : (s.safety.held || (if z = 0 then s.safety.zone0.st else s.safety.zone1.st) != ZoneSt.run) = true := by
    rw [SafetyDie.zone_eq, apply_ite Zone.st] at h
    rw [bne_iff_ne.2 h, Bool.or_true]
  change Host.Outcome.next { s with
    main :=
      if (s.safety.held || (if z = 0 then s.safety.zone0.st else s.safety.zone1.st) != ZoneSt.run) = true then
        s.start.modZoneAxes z (fun c => { c with ss1 := true })
      else s.start } = _
  rw [if_pos hon]

end

/-- R186: SAFE_OFF ends at the boundary after the signal. -/
theorem Main.transition_of_safeOff {m : Main} {a : Nat} (ha : a < 64) (hq : m.quiet a) (h : (m.i a).core.st = sSafeOff) :
    ((m.transition a).i a).core.st = (if m.io a O.FAULT_CAUSE = 0 then sOff else sFault) := by
  rw [Main.transition_of_quiet ha hq, if_pos h]
  split
  · rw [Main.i_goto_same]
  · exact (m.toFault_spec a ha).1

/-- Settles O32. -/
theorem safetySignalsReachTheAxes : Obligations.SafetySignalsReachTheAxes := by
  unfold Obligations.SafetySignalsReachTheAxes
  refine ⟨⟨fun z s _ h => completes_zoneSignal (exec_safeLevelSignal h) fun t ht hi => ⟨ht, fun a => ?acts⟩, ?safeOff⟩,
    ⟨fun z s hd h => completes_zoneSignal (exec_safeLevelSignalWithdrawn hd h) fun t ht hi => ⟨ht, fun a => ?withdrawn⟩,
     fun a m => Main.transition_of_safeOff a.isLt⟩,
    fun z s _ h => completes_zoneSignal (exec_ss1Announcement h) fun t ht hi => ⟨ht, fun a ha => ?marked, fun i => ?stays⟩⟩
  case acts =>
    have hia := hi a
    refine ⟨?_, fun hz => ?_, fun hz => ?_⟩
    · rw [hia]; split <;> rfl
    · rw [if_pos hz] at hia
      have hsafe : (t.main.i a).core.safe = true := by rw [hia]
      refine ⟨hsafe, ?_⟩
      unfold Main.pwmSafe
      rw [hsafe]
      simp
    · rw [hia, if_neg hz]
  case safeOff =>
    intro a m hs h8 hm
    rw [Main.transition_of_safe a.isLt hs h8 hm]
    exact (m.noted a).toSafeOff_spec a a.isLt
  case withdrawn =>
    have hia := hi a
    refine ⟨?_, fun hz => ?_, fun hz => ?_⟩
    · rw [hia]; split <;> rfl
    · rw [hia, if_pos hz]
    · rw [hia, if_neg hz]
  case marked => rw [hi, if_pos ha]
  case stays =>
    have hii := hi i
    rw [hii]
    split <;> exact ⟨rfl, rfl⟩

end Sys2Proof.Machine
end

section
/-! Quadrature counting, its errors, and the timers of a feedback port (R252, R276, R277, R283). -/

namespace Sys2Proof.Machine

/-! ### Errors of a port (R277, R278) -/

/-- R277, R278: what a fault leaves of the port's counting and of its objects. -/
structure Main.PortKept (p : Nat) (m n : Main) : Prop where
  count : (n.pt p).count = (m.pt p).count
  level : (n.pt p).level = (m.pt p).level
  serOk : (n.pt p).serOk = (m.pt p).serOk
  readT0 : (n.pt p).readT0 = (m.pt p).readT0
  objs : ∀ k, k < 4096 → n.obj (fbAddr p k) = m.obj (fbAddr p k)

section
variable {p : Nat} {m n o : Main}

theorem Main.PortKept.trans (h : Main.PortKept p m n) (k : Main.PortKept p n o) : Main.PortKept p m o :=
  ⟨k.count.trans h.count, k.level.trans h.level, k.serOk.trans h.serOk, k.readT0.trans h.readT0,
    fun l hl => (k.objs l hl).trans (h.objs l hl)⟩

/-- What changes neither ports nor objects keeps it. -/
theorem Main.PortKept.of_frame (hp : n.port = m.port) (ho : n.objs = m.objs) : Main.PortKept p m n := by
  have hpt : n.pt p = m.pt p := by unfold Main.pt; rw [hp]
  have hobj : ∀ b, n.obj b = m.obj b := fun b => by unfold Main.obj; rw [ho]
  exact ⟨by rw [hpt], by rw [hpt], by rw [hpt], by rw [hpt], fun _ _ => hobj _⟩

theorem fbAddr_ne_pwAddr {p q k l : Nat} (hp : p < 256) (hk : k < 4096) : fbAddr p k ≠ pwAddr q l := by
  unfold fbAddr pwAddr
  omega

theorem Main.PortKept.commValid (m : Main) (hp : p < 256) (q v : Nat) :
    Main.PortKept p m (m.setObj (pwAddr q O.PW_COMM_VALID) v) :=
  ⟨rfl, rfl, rfl, rfl, fun _ hl => Main.objs_keep _ _ _ _ (fbAddr_ne_pwAddr hp hl)⟩

theorem Main.PortKept.raise (m : Main) (i bit : Nat) (r : Option Nat) : Main.PortKept p m (m.raise i bit r) :=
  .of_frame rfl rfl

theorem Main.PortKept.raiseComm (m : Main) (hp : p < 256) : Main.PortKept p m (m.raiseComm p) :=
  (Main.PortKept.commValid m hp p 0).trans (.raise _ _ _ _)

theorem Main.PortKept.homeFail (m : Main) (i code : Nat) : Main.PortKept p m (m.homeFail i code) := by
  unfold Main.homeFail
  split
  · exact .of_frame rfl rfl
  · split
    · exact .of_frame rfl rfl
    · split
      · obtain ⟨x, h⟩ := m.startRamp_frame i (m.homeAcc i)
        rw [h]
        exact .of_frame rfl rfl
      · exact .of_frame rfl rfl

/-- R278: the fault of a port, once it is new. -/
theorem Main.PortKept.fbFault (m : Main) (hp : p < 256) (alarm : Bool) : Main.PortKept p m (m.fbFault p alarm) := by
  let m1 := m.modPt p (fun q => { q with
    fsAlarm := q.fsAlarm || alarm, fsLevel := q.fsLevel || !alarm, reload := true, faulted := true, goods := 0 })
  let m2 := ((m1.unhome p).raise p cFeedback (some 0)).setObj (pwAddr p O.PW_COMM_VALID) 0
  let m3 := if m2.obj (pwAddr p O.PW_COMM_SRC) = 4 then m2.raiseComm p else m2
  have h1 : Main.PortKept p m m1 := by
    have hpt : m1.pt p = _ := (m.pt_modPt p p _).trans (if_pos rfl)
    exact ⟨by rw [hpt], by rw [hpt], by rw [hpt], by rw [hpt], fun _ _ => rfl⟩
  have h2 : Main.PortKept p m1 m2 :=
    Main.PortKept.trans (n := (m1.unhome p).raise p cFeedback (some 0)) (.of_frame rfl rfl) (.commValid _ hp p 0)
  have h3 : Main.PortKept p m2 m3 := by
    dsimp only [m3]
    split
    · exact .raiseComm _ hp
    · exact .of_frame rfl rfl
  have h := h1.trans (h2.trans h3)
  change Main.PortKept p m (if (!(!(if alarm = true then (m.pt p).fsAlarm else (m.pt p).fsLevel))) = true then m
    else match (m3.i p).home with
      | some h => if h.method = 3 ∨ h.method = 5 ∨ h.method = 6 then m3.homeFail p 0x80 else m3
      | none => m3)
  by_cases hnew : (!(!(if alarm = true then (m.pt p).fsAlarm else (m.pt p).fsLevel))) = true
  · rw [if_pos hnew]
    exact .of_frame rfl rfl
  · rw [if_neg hnew]
    split
    · split
      · exact h.trans (.homeFail _ p _)
      · exact h
    · exact h

/-- R277: POS_SUSPECT. -/
theorem Main.posSuspect_spec (m : Main) (p : Nat) : (m.posSuspect p).port = m.port ∧
    (∀ b, b ≠ fbAddr p O.FB_LATCH → (m.posSuspect p).obj b = m.obj b) ∧
    (m.posSuspect p).obj (fbAddr p O.FB_LATCH) = m.obj (fbAddr p O.FB_LATCH) ||| 1 := by
  unfold Main.posSuspect
  dsimp only
  split
  · exact ⟨rfl, fun b hb => Main.objs_keep _ _ _ _ hb, m.obj_orObj_same _ (by decide)⟩
  · exact ⟨rfl, fun b hb => Main.objs_keep _ _ _ _ hb, m.obj_orObj_same _ (by decide)⟩

theorem fbAddr_ne {k l : Nat} (h : k ≠ l) : fbAddr p k ≠ fbAddr p l := by
  unfold fbAddr
  omega

/-- R277: an error. -/
theorem Main.fbError_spec (m : Main) (hp : p < 256) : ((m.fbError p).pt p).count = (m.pt p).count ∧
    ((m.fbError p).pt p).level = min ((m.pt p).level + 1) 255 ∧
    (m.fbError p).obj (fbAddr p O.FB_ERR_COUNT) = (m.obj (fbAddr p O.FB_ERR_COUNT) + 1) % 2 ^ 36 ∧
    ((m.fbError p).obj (fbAddr p O.FB_LATCH)).testBit 0 = true ∧
    ((m.fbError p).pt p).serOk = (m.pt p).serOk ∧ ((m.fbError p).pt p).readT0 = (m.pt p).readT0 ∧
    (∀ k, k < 4096 → k ≠ O.FB_ERR_COUNT → k ≠ O.FB_LATCH → (m.fbError p).obj (fbAddr p k) = m.obj (fbAddr p k)) := by
  let m1 := (m.inc (fbAddr p O.FB_ERR_COUNT)).modPt p (fun q => { q with
    level := min (q.level + 1) 255, newRun := true, idxPrev := none, errT := (m.inc (fbAddr p O.FB_ERR_COUNT)).now })
  have hpt : m1.pt p = _ := ((m.inc (fbAddr p O.FB_ERR_COUNT)).pt_modPt p p _).trans (if_pos rfl)
  obtain ⟨hport, hobj, hlatch⟩ := m1.posSuspect_spec p
  have hpt2 : (m1.posSuspect p).pt p = m1.pt p := by unfold Main.pt; rw [hport]
  have hlast : Main.PortKept p (m1.posSuspect p) (m.fbError p) := by
    change Main.PortKept p _ (if (m1.posSuspect p).obj (fbAddr p O.FB_ERR_LIMIT) ≠ 0 ∧
      (m1.posSuspect p).obj (fbAddr p O.FB_ERR_LIMIT) ≤ ((m1.posSuspect p).pt p).level then (m1.posSuspect p).fbFault p false
      else m1.posSuspect p)
    split
    · exact .fbFault _ hp false
    · exact .of_frame rfl rfl
  refine ⟨?_, ?_, ?_, ?_, ?_, ?_, fun k hk hcount hlat => ?_⟩
  · rw [hlast.count, hpt2, hpt]
    rfl
  · rw [hlast.level, hpt2, hpt]
    rfl
  · rw [hlast.objs _ (by decide), hobj _ (fbAddr_ne (by decide))]
    exact Main.obj_inc_same _ _
  · rw [hlast.objs _ (by decide), hlatch, Nat.testBit_or]
    simp
  · rw [hlast.serOk, hpt2, hpt]
    rfl
  · rw [hlast.readT0, hpt2, hpt]
    rfl
  · rw [hlast.objs _ hk, hobj _ (fbAddr_ne hlat)]
    exact Main.objs_keep _ _ _ _ (fbAddr_ne hcount)

end

/-! ### One sample in quadrature mode (R276) -/

section
variable {p : Ax} {raw : BitVec 4} {w : LineRuns} {s : State}

/-- The stamp of the change of line `k`. -/
def Main.lineStamp (m : Main) (p : Nat) (new : BitVec 4) (w : LineRuns) (k : Nat) : Nat :=
  if new.getLsbD k = (m.pt p).lines.getLsbD k then 0 else m.tb.stampOf (w.line k)

/-- A sample without index and alarm. -/
theorem exec_fbLevelChange (hmode : s.main.obj (fbAddr p O.FB_MODE) = 1) (hmitten : s.main.mittenClosed (0x100 + p.val) = false)
    (hc : (s.main.filtered p raw w).getLsbD 2 = (s.main.pt p).lines.getLsbD 2)
    (hd : (s.main.filtered p raw w).getLsbD 3 = (s.main.pt p).lines.getLsbD 3) :
    ∃ t, exec (.fbLevelChange p raw w) s = .next { s with
      main := (s.start.modPt p (fun q => { q with lines := s.main.filtered p raw w })).quadStep p (s.main.pt p).lines
        (s.main.filtered p raw w) t } := by
  have hno : ∀ k : Bool, (k && !k) = false := by decide
  refine ⟨max (s.start.lineStamp p (s.main.filtered p raw w) w 0) (s.start.lineStamp p (s.main.filtered p raw w) w 1), ?_⟩
  have hfilt : s.start.filtered p raw w = s.main.filtered p raw w := rfl
  change Host.Outcome.next { s with
    main :=
      let m := s.start.modPt p (fun q => { q with lines := s.start.filtered p raw w })
      if m.mittenClosed (0x100 + p.val) = true then m else
      let n := match m.obj (fbAddr p O.FB_MODE) with
        | 1 =>
          let n := m.quadStep p (s.main.pt p).lines (s.start.filtered p raw w)
            (max (s.start.lineStamp p (s.start.filtered p raw w) w 0) (s.start.lineStamp p (s.start.filtered p raw w) w 1))
          if ((s.start.filtered p raw w).getLsbD 2 && !(s.main.pt p).lines.getLsbD 2) = true then
            n.fbIndex p (s.start.lineStamp p (s.start.filtered p raw w) w 2) else n
        | 2 => if (s.main.pt p).lines.extractLsb' 0 3 = (s.start.filtered p raw w).extractLsb' 0 3 then m
          else m.hallStep p (s.main.pt p).lines (s.start.filtered p raw w) (max (s.start.lineStamp p (s.start.filtered p raw w) w 0)
            (max (s.start.lineStamp p (s.start.filtered p raw w) w 1) (s.start.lineStamp p (s.start.filtered p raw w) w 2)))
        | _ => m
      if ((s.start.filtered p raw w).getLsbD 3 && !(s.main.pt p).lines.getLsbD 3) = true then n.alarmCheck p else n } = _
  rw [hfilt]
  have hm : (s.start.modPt p (fun q => { q with lines := s.main.filtered p raw w })).mittenClosed (0x100 + p.val) = false := hmitten
  have ho : (s.start.modPt p (fun q => { q with lines := s.main.filtered p raw w })).obj (fbAddr p O.FB_MODE) = 1 := hmode
  dsimp only
  rw [hm, ho, hc, hd, hno, hno]
  rfl

/-- One of A and B has changed: a counted step, up or down. -/
theorem Main.quadStep_one {m : Main} {p : Nat} {old new : BitVec 4} (t : Nat)
    (h : ((old.getLsbD 0 != new.getLsbD 0) != (old.getLsbD 1 != new.getLsbD 1)) = true) :
    m.quadStep p old new t = m.fbStep p
      (if (old.getLsbD 0 != new.getLsbD 0) = true then new.getLsbD 0 != new.getLsbD 1 else new.getLsbD 1 == new.getLsbD 0) t := by
  unfold Main.quadStep
  dsimp only
  generalize old.getLsbD 0 = a0, new.getLsbD 0 = a1, old.getLsbD 1 = b0, new.getLsbD 1 = b1 at h ⊢
  by_cases ha : a0 = a1
  · have hb : b0 ≠ b1 := fun e => by simp [ha, e] at h
    rw [if_neg (fun k => hb k.2), if_neg (fun k => k.1 ha)]
    simp [ha]
  · have hb : b0 = b1 := by_contra fun e => by simp [bne_iff_ne.2 ha, bne_iff_ne.2 e] at h
    rw [if_neg (fun k => ha k.1), if_neg (fun k => k.2 hb)]
    simp [ha]

theorem Main.quadStep_both {m : Main} {p : Nat} {old new : BitVec 4} (t : Nat)
    (ha : (old.getLsbD 0 != new.getLsbD 0) = true) (hb : (old.getLsbD 1 != new.getLsbD 1) = true) :
    m.quadStep p old new t = m.fbError p := by
  have ha' : old.getLsbD 0 ≠ new.getLsbD 0 := bne_iff_ne.1 ha
  have hb' : old.getLsbD 1 ≠ new.getLsbD 1 := bne_iff_ne.1 hb
  unfold Main.quadStep
  dsimp only
  rw [if_neg (fun h => ha' h.1), if_pos ⟨ha', hb'⟩]

/-- R276: a counted step. -/
theorem quadrature_counts (hmode : s.main.obj (fbAddr p O.FB_MODE) = 1) (hmitten : s.main.mittenClosed (0x100 + p.val) = false)
    (hc : (s.main.filtered p raw w).getLsbD 2 = (s.main.pt p).lines.getLsbD 2)
    (hd : (s.main.filtered p raw w).getLsbD 3 = (s.main.pt p).lines.getLsbD 3)
    (h : (((s.main.pt p).lines.getLsbD 0 != (s.main.filtered p raw w).getLsbD 0) !=
      ((s.main.pt p).lines.getLsbD 1 != (s.main.filtered p raw w).getLsbD 1)) = true) :
    Completes (.fbLevelChange p raw w) s (fun t =>
      t = { s with main := { s.main with out := {}, port := t.main.port } } ∧ (t.main.pt p).lines = s.main.filtered p raw w ∧
      (t.main.pt p).count = sgn (wordOf ((s.main.pt p).count +
        (if (if ((s.main.pt p).lines.getLsbD 0 != (s.main.filtered p raw w).getLsbD 0) = true
            then (s.main.filtered p raw w).getLsbD 0 != (s.main.filtered p raw w).getLsbD 1
            else (s.main.filtered p raw w).getLsbD 1 == (s.main.filtered p raw w).getLsbD 0) != s.main.objB (fbAddr p O.FB_DIR)
         then 1 else -1))) ∧
      (t.main.pt p).ring.length ≤ 64 ∧ (∀ q, q ≠ p.val → t.main.pt q = s.main.pt q)) := by
  obtain ⟨t, hexec⟩ := exec_fbLevelChange hmode hmitten hc hd
  rw [Main.quadStep_one t h] at hexec
  generalize (if ((s.main.pt p).lines.getLsbD 0 != (s.main.filtered p raw w).getLsbD 0) = true
    then (s.main.filtered p raw w).getLsbD 0 != (s.main.filtered p raw w).getLsbD 1
    else (s.main.filtered p raw w).getLsbD 1 == (s.main.filtered p raw w).getLsbD 0) = up at hexec ⊢
  have hstep : ∀ (m : Main), (m.fbStep p up t).pt p = _ := fun m => (m.pt_modPt p p _).trans (if_pos rfl)
  have hother : ∀ (m : Main) (q : Nat), q ≠ p.val → (m.fbStep p up t).pt q = m.pt q :=
    fun m q hq => (m.pt_modPt p q _).trans (if_neg hq)
  have hlines := s.start.pt_modPt p p (fun q => { q with lines := s.main.filtered p raw w })
  rw [if_pos rfl] at hlines
  refine completes_of_exec hexec ⟨rfl, ?_, ?_, ?_, fun q hq => ?_⟩
  · rw [hstep, hlines]
  · rw [hstep, hlines]
    dsimp only
    refine congrArg (fun d => sgn (wordOf ((s.main.pt p).count + d))) ?_
    have hdir : (s.start.modPt p (fun q => { q with lines := s.main.filtered p raw w })).objB (fbAddr p O.FB_DIR) =
        s.main.objB (fbAddr p O.FB_DIR) := rfl
    rw [hdir]
    generalize s.main.objB (fbAddr p O.FB_DIR) = dir
    cases up <;> cases dir <;> rfl
  · rw [hstep]
    exact List.length_take_le _ _
  · rw [hother _ q hq]
    exact (s.start.pt_modPt p q _).trans (if_neg hq)

/-- R277: both lines in one sample. -/
theorem quadrature_errs (hmode : s.main.obj (fbAddr p O.FB_MODE) = 1) (hmitten : s.main.mittenClosed (0x100 + p.val) = false)
    (hc : (s.main.filtered p raw w).getLsbD 2 = (s.main.pt p).lines.getLsbD 2)
    (hd : (s.main.filtered p raw w).getLsbD 3 = (s.main.pt p).lines.getLsbD 3)
    (ha : ((s.main.pt p).lines.getLsbD 0 != (s.main.filtered p raw w).getLsbD 0) = true)
    (hb : ((s.main.pt p).lines.getLsbD 1 != (s.main.filtered p raw w).getLsbD 1) = true) :
    Completes (.fbLevelChange p raw w) s (fun t =>
      (t.main.pt p).count = (s.main.pt p).count ∧ (t.main.pt p).level = min ((s.main.pt p).level + 1) 255 ∧
      t.main.obj (fbAddr p O.FB_ERR_COUNT) = (s.main.obj (fbAddr p O.FB_ERR_COUNT) + 1) % 2 ^ 36 ∧
      (t.main.obj (fbAddr p O.FB_LATCH)).testBit 0 = true) := by
  obtain ⟨t, hexec⟩ := exec_fbLevelChange hmode hmitten hc hd
  rw [Main.quadStep_both t ha hb] at hexec
  have hp : p.val < 256 := Nat.lt_trans p.isLt (by decide)
  have hspec := (s.start.modPt p (fun q => { q with lines := s.main.filtered p raw w })).fbError_spec hp
  have hlines := s.start.pt_modPt p p (fun q => { q with lines := s.main.filtered p raw w })
  rw [if_pos rfl] at hlines
  rw [hlines] at hspec
  obtain ⟨hcount, hlevel, hec, hlatch, -, -, -⟩ := hspec
  exact completes_of_exec hexec ⟨hcount, hlevel, hec, hlatch⟩

end

/-! ### Timers (R252, R277, R283) -/

theorem errLevelDecay_completes {p : Ax} {s : State}
    (h : (s.main.pt p).decT + s.main.obj (fbAddr p O.FB_ERR_DECAY) * unitsPerUs ≤ s.main.now) :
    Completes (.errLevelDecay p) s (fun t => t = { s with main := { s.main with out := {}, port := t.main.port } } ∧
      t.main.pt p = { s.main.pt p with level := (s.main.pt p).level - 1, decT := s.main.now } ∧
      (∀ q, q ≠ p.val → t.main.pt q = s.main.pt q)) := by
  have hexec : exec (.errLevelDecay p) s = .next { s with
      main := s.start.modPt p (fun q => { q with level := q.level - 1, decT := s.main.now }) } := by
    have hgate : ¬ s.start.now < (s.start.pt p).decT + s.start.obj (fbAddr p O.FB_ERR_DECAY) * unitsPerUs := Nat.not_lt.2 h
    change Host.Outcome.next { s with
      main :=
        if s.start.now < (s.start.pt p).decT + s.start.obj (fbAddr p O.FB_ERR_DECAY) * unitsPerUs then s.start
        else s.start.modPt p (fun q => { q with level := q.level - 1, decT := s.main.now }) } = _
    rw [if_neg hgate]
  refine completes_of_exec hexec ⟨rfl, ?_, fun q hq => ?_⟩
  · exact (s.start.pt_modPt p p (fun q => { q with level := q.level - 1, decT := s.main.now })).trans (if_pos rfl)
  · exact (s.start.pt_modPt p q (fun q => { q with level := q.level - 1, decT := s.main.now })).trans (if_neg hq)

/-- What one step of a list brings about, and no other step undoes, the whole brings about. -/
theorem forEach_brings {α : Type} (P : Main → Prop) (f : α → Main → Main) {x : α} (hown : ∀ m, P (f x m))
    (hkeep : ∀ y m, P m → P (f y m)) {l : List α} (hx : x ∈ l) (m : Main) : P (forEach l f m) := by
  induction l generalizing m with
  | nil => exact absurd hx List.not_mem_nil
  | cons y l ih =>
    rcases List.mem_cons.1 hx with rfl | hx
    · exact forEach_keeps P f hkeep l _ (hown m)
    · exact ih hx _

/-- R252: the commutation of an axis is lost. -/
structure Main.Uncommutated (a : Nat) (m : Main) : Prop where
  raised : (m.i a).core.raised.testBit cCommutation = true
  valid : m.obj (pwAddr a O.PW_COMM_VALID) = 0

theorem Main.Uncommutated.own (m : Main) (a : Nat) : Main.Uncommutated a (m.raiseComm a) := by
  unfold Main.raiseComm
  refine ⟨?_, Main.obj_setObj_same _ _ _⟩
  rw [Main.raise_raised]
  simp

theorem Main.Uncommutated.raiseComm {a : Nat} {m : Main} (h : Main.Uncommutated a m) (b : Nat) :
    Main.Uncommutated a (m.raiseComm b) := by
  by_cases hb : a = b
  · rw [← hb]
    exact .own m a
  · refine ⟨?_, ?_⟩
    · unfold Main.raiseComm
      rw [Main.raise_core _ _ _ _ _ hb]
      exact h.raised
    · refine (Main.objs_keep _ _ _ _ fun e => hb ?_).trans h.valid
      exact (pwAddr_inj (by decide) (by decide) e).1

/-- The port's Hall signals are invalid (R283). -/
theorem hallIllegalTimeout_completes {p : Ax} {s : State} (hmode : s.main.obj (fbAddr p O.FB_MODE) = 2)
    (hsec : hallSector (s.main.pt p).lines = none)
    (ht : (s.main.pt p).illT + s.main.obj (fbAddr p O.FB_HALL_ILL_T) * unitsPerUs ≤ s.main.now) :
    Completes (.hallIllegalTimeout p) s (fun t => (t.main.pt p).hallInv = true ∧
      ∀ a : Ax, s.main.obj (pwAddr a O.PW_COMM_SRC) = 1 → s.main.hallPort a = p.val →
        (t.main.i a).core.raised.testBit cCommutation = true ∧ t.main.obj (pwAddr a O.PW_COMM_VALID) = 0) := by
  let m0 := s.start.modPt p (fun q => { q with hallInv := true })
  let m1 := forEach (m0.hallUsers p [1]) (fun a m => m.raiseComm a) m0
  let two := fun (a : Nat) (m : Main) => if m.objB (pwAddr a O.PW_COMM_VALID) then m else m.raiseComm a
  have hgate : s.start.obj (fbAddr p O.FB_MODE) = 2 ∧ (hallSector (s.start.pt p).lines).isNone = true ∧
      (s.start.pt p).illT + s.start.obj (fbAddr p O.FB_HALL_ILL_T) * unitsPerUs ≤ s.start.now := by
    refine ⟨hmode, ?_, ht⟩
    have hsec' : hallSector (s.start.pt p).lines = none := hsec
    rw [hsec']
    rfl
  have hexec : exec (.hallIllegalTimeout p) s = .next { s with main := forEach (m1.hallUsers p [2]) two m1 } := by
    change Host.Outcome.next { s with
      main :=
        if s.start.obj (fbAddr p O.FB_MODE) = 2 ∧ (hallSector (s.start.pt p).lines).isNone = true ∧
            (s.start.pt p).illT + s.start.obj (fbAddr p O.FB_HALL_ILL_T) * unitsPerUs ≤ s.start.now then
          forEach (m1.hallUsers p [2]) two m1
        else s.start } = _
    rw [if_pos hgate]
  have hport : (forEach (m1.hallUsers p [2]) two m1).port = m0.port := by
    refine (forEach_frame (fun m => m.port) two (fun a m => ?_) _ _).trans 
      (forEach_frame (fun m => m.port) (fun a m => m.raiseComm a) (fun a m => rfl) _ _)
    dsimp only [two]
    split <;> rfl
  refine completes_of_exec hexec ⟨?_, fun a hsrc hhall => ?_⟩
  · have hpt : (forEach (m1.hallUsers p [2]) two m1).pt p = m0.pt p := by unfold Main.pt; rw [hport]
    rw [hpt]
    exact congrArg Port.hallInv ((s.start.pt_modPt p p (fun q => { q with hallInv := true })).trans (if_pos rfl))
  · have hmem : a.val ∈ m0.hallUsers p [1] := by
      unfold Main.hallUsers
      refine List.mem_filter.2 ⟨List.mem_range.2 a.isLt, ?_⟩
      have hsrc' : m0.obj (pwAddr a O.PW_COMM_SRC) = 1 := hsrc
      have hhall' : m0.hallPort a = p.val := hhall
      rw [hsrc', hhall']
      simp
    have h1 : Main.Uncommutated a m1 :=
      forEach_brings _ (fun a m => m.raiseComm a) (fun m => .own m a) (fun b m h => h.raiseComm b) hmem m0
    have h2 : Main.Uncommutated a (forEach (m1.hallUsers p [2]) two m1) := by
      refine forEach_keeps _ two (fun b m h => ?_) _ _ h1
      dsimp only [two]
      split
      · exact h
      · exact h.raiseComm b
    exact ⟨h2.raised, h2.valid⟩

/-- Settles O33. -/
theorem quadratureCountsAndPortTimers : Obligations.QuadratureCountsAndPortTimers := by
  unfold Obligations.QuadratureCountsAndPortTimers
  exact ⟨fun p raw w s hmode hmitten hc hd => ⟨quadrature_counts hmode hmitten hc hd, quadrature_errs hmode hmitten hc hd⟩,
    fun p s => ⟨errLevelDecay_completes, hallIllegalTimeout_completes⟩⟩

end Sys2Proof.Machine
end

section
/-! Serial reads of a feedback port (R286, R287, R289). -/

namespace Sys2Proof.Machine

/-! ### How a read ends -/

section
variable {m : Main} {p : Nat}

/-- R287: a read that fails. -/
theorem Main.serFail_spec (hp : p < 256) {code : Nat} (hcode : code < 2 ^ 36) :
    (m.serFail p code).obj (fbAddr p O.FB_SER_ERR) = code ∧ ((m.serFail p code).pt p).serOk = false ∧
    ((m.serFail p code).pt p).readT0 = none ∧ ((m.serFail p code).pt p).count = (m.pt p).count := by
  let n := (m.setObj (fbAddr p O.FB_SER_ERR) code).modPt p (fun q => { q with serOk := false, readT0 := none })
  have hpt : n.pt p = { m.pt p with serOk := false, readT0 := none } :=
    ((m.setObj (fbAddr p O.FB_SER_ERR) code).pt_modPt p p (fun q => { q with serOk := false, readT0 := none })).trans (if_pos rfl)
  obtain ⟨hcount, -, -, -, hok, ht0, hobj⟩ := n.fbError_spec hp
  rw [hpt] at hcount hok ht0
  change (n.fbError p).obj (fbAddr p O.FB_SER_ERR) = code ∧ ((n.fbError p).pt p).serOk = false ∧ _
  exact ⟨(hobj _ (by decide) (by decide) (by decide)).trans (Main.obj_setObj_same_of_lt _ _ hcode), hok, ht0, hcount⟩

/-- R287: the code of a failing check is small. -/
theorem Main.serCheck_lt {body : List Bool} {v code : Nat} {mono : Bool} (h : m.serCheck p body v mono = some code) :
    code < 2 ^ 36 := by
  unfold Main.serCheck at h
  dsimp only at h
  split_ifs at h <;> · have := Option.some.inj h; omega

/-- The port after a good read of `v` (R289). -/
structure Main.GoodRead (p v : Nat) (m n : Main) : Prop where
  err : n.obj (fbAddr p O.FB_SER_ERR) = 0
  serOk : (n.pt p).serOk = true
  readT0 : (n.pt p).readT0 = none
  vPrev : (n.pt p).vPrev = some v
  goods : (n.pt p).goods = (m.pt p).goods + 1
  loads : (m.pt p).reload = true → (n.pt p).count = sgn (BitVec.ofNat 36 v)

/-- The position that a good read of `v` gives (R289). -/
def Main.readPos (m : Main) (p v : Nat) : Int × Int :=
  let q := m.pt p
  let d := match q.vPrev with | some w => diffBits (m.ser p O.FB_SER_BITS) v w | none => 0
  let loads := q.reload || q.vPrev.isNone
  let d := if m.objB (fbAddr p O.FB_DIR) then -d else d
  let pos := if loads then sgn (BitVec.ofNat 36 v) else sgn (wordOf (q.count + d))
  (pos, ((if loads then pos else q.enc + d)).emod (m.obj (pwAddr p O.PW_ENC_PER_REV)))

/-- The port after a good read of `v` at position `pos` with time `t`. -/
def Port.good (q : Port) (v t : Nat) (pos : Int × Int) : Port :=
  { q with
    count := pos.1, enc := pos.2, encS := pos.2, vPrev := some v, reload := false, faulted := false, serOk := true, readT0 := none
    lastGood := some t, edgeT := t, goods := q.goods + 1, reads := ((t, pos.1) :: q.reads).take 64 }

/-- The machine after a good read, before POS_SUSPECT and a homing by method 0. -/
def Main.readTaken (m : Main) (p t0 v : Nat) : Main :=
  (((m.setObj (fbAddr p O.FB_SER_ERR) 0).setObj (fbAddr p O.FB_SER_RAW) v).setObjI (fbAddr p O.FB_POS) (m.readPos p v).1).modPt p
    (fun q => q.good v (t0 + m.ser p O.FB_SER_DLY / 2) (m.readPos p v))

/-- POS_SUSPECT follows a read that ends a fault. -/
def Main.readNoted (m : Main) (p t0 v : Nat) : Main :=
  if (m.pt p).faulted then (m.readTaken p t0 v).posSuspect p else m.readTaken p t0 v

theorem Main.serGood_eq (t0 v : Nat) : m.serGood p t0 v = match ((m.readNoted p t0 v).i p).home with
    | some h => if h.method = 0 ∧ h.failCode.isNone then
        (((m.readNoted p t0 v).modHome p (fun h => { h with event := some ((m.readPos p v).1, 0) })).writeOffset p
          ((m.readNoted p t0 v).ioI p O.POS_OFFSET)).homeDone p
      else m.readNoted p t0 v
    | none => m.readNoted p t0 v := rfl

theorem Main.pt_readTaken (t0 v : Nat) : (m.readTaken p t0 v).pt p = (m.pt p).good v (t0 + m.ser p O.FB_SER_DLY / 2) (m.readPos p v) :=
  (Main.pt_modPt _ p p _).trans (if_pos rfl)

theorem Main.serErr_readTaken (t0 v : Nat) : (m.readTaken p t0 v).obj (fbAddr p O.FB_SER_ERR) = 0 := by
  unfold Main.readTaken Main.setObjI
  rw [Main.obj_modPt, Main.objs_keep _ _ _ _ (fbAddr_ne (by decide)), Main.objs_keep _ _ _ _ (fbAddr_ne (by decide)),
    Main.obj_setObj_same, Nat.zero_mod]

theorem Main.home_readTaken (t0 v : Nat) : ((m.readTaken p t0 v).i p).home = (m.i p).home := by
  unfold Main.readTaken Main.setObjI
  rw [Main.i_modPt, Main.i_setObj, Main.i_setObj, Main.i_setObj]

theorem Main.home_posSuspect (m : Main) (p : Nat) : ((m.posSuspect p).i p).home = (m.i p).home := by
  unfold Main.posSuspect Main.unhome Main.orObj
  dsimp only
  split
  · rw [Main.i_modC_same, Main.i_setObj]
  · rw [Main.i_setObj]

/-- POS_SUSPECT leaves the port and the read's outcome. -/
theorem Main.readNoted_spec (t0 v : Nat) : (m.readNoted p t0 v).pt p = (m.readTaken p t0 v).pt p ∧
    (m.readNoted p t0 v).obj (fbAddr p O.FB_SER_ERR) = 0 ∧ ((m.readNoted p t0 v).i p).home = (m.i p).home := by
  have herr := m.serErr_readTaken (p := p) t0 v
  have hhome := m.home_readTaken (p := p) t0 v
  unfold Main.readNoted
  generalize m.readTaken p t0 v = n at herr hhome ⊢
  obtain ⟨hport, hobj, -⟩ := n.posSuspect_spec p
  split
  · exact ⟨by unfold Main.pt; rw [hport], (hobj _ (fbAddr_ne (by decide))).trans herr, (n.home_posSuspect p).trans hhome⟩
  · exact ⟨rfl, herr, hhome⟩

theorem Main.readPos_loads {v : Nat} (h : (m.pt p).reload = true) : (m.readPos p v).1 = sgn (BitVec.ofNat 36 v) := by
  unfold Main.readPos
  simp only [h, Bool.true_or, if_true]

theorem Main.serGood_spec (t0 v : Nat) (hh : (m.i p).home = none) : Main.GoodRead p v m (m.serGood p t0 v) := by
  obtain ⟨hpt, herr, hhome⟩ := m.readNoted_spec (p := p) t0 v
  have hgood : m.serGood p t0 v = m.readNoted p t0 v := by rw [Main.serGood_eq, hhome, hh]
  rw [Main.pt_readTaken] at hpt
  rw [hgood]
  refine ⟨herr, ?_, ?_, ?_, ?_, fun hr => ?_⟩
  · rw [hpt]; rfl
  · rw [hpt]; rfl
  · rw [hpt]; rfl
  · rw [hpt]; rfl
  · rw [hpt]
    exact Main.readPos_loads hr

end

/-! ### The commands -/

section
variable {p : Ax} {s : State}

/-- R286: the read due is free to start. -/
theorem exec_serialReadStart (fba : Bool) (hmode : s.main.obj (fbAddr p O.FB_MODE) = 3)
    (hmitten : s.main.mittenClosed (0x100 + p.val) = false) (hl : (s.main.pt p).lastMono = none) :
    exec (.serialReadStart p fba) s = .next { s with
      main :=
        if (!fba) = true then s.start.serFail p 0x01
        else s.start.modPt p (fun q => { q with
          readT0 := some (slotStart (s.main.now + (s.main.serMono p + 400)) - (s.main.serMono p + 400))
          lastMono := some (slotStart (s.main.now + (s.main.serMono p + 400)) - (s.main.serMono p + 400) + s.main.serMono p) }) } := by
  have hgate : ¬ (s.start.obj (fbAddr p O.FB_MODE) ≠ 3 ∨ s.start.mittenClosed (0x100 + p.val) = true) := by
    have hmitten' : s.start.mittenClosed (0x100 + p.val) = false := hmitten
    rw [State.obj_start, hmode, hmitten']
    decide
  have hl' : (s.start.pt p).lastMono = none := hl
  change Host.Outcome.next { s with
    main :=
      if s.start.obj (fbAddr p O.FB_MODE) ≠ 3 ∨ s.start.mittenClosed (0x100 + p.val) = true then s.start
      else if (!(match (s.start.pt p).lastMono with
        | some c => decide (c + s.start.ser p O.FB_SER_TM * unitsPerUs ≤
            slotStart (s.start.now + (s.start.serMono p + 400)) - (s.start.serMono p + 400))
        | none => true)) = true then s.start
      else if (!fba) = true then s.start.serFail p 0x01
      else s.start.modPt p (fun q => { q with
        readT0 := some (slotStart (s.main.now + (s.main.serMono p + 400)) - (s.main.serMono p + 400))
        lastMono := some (slotStart (s.main.now + (s.main.serMono p + 400)) - (s.main.serMono p + 400) + s.main.serMono p) }) } = _
  rw [if_neg hgate, hl']
  rfl

theorem serialReadStart_completes (hmode : s.main.obj (fbAddr p O.FB_MODE) = 3)
    (hmitten : s.main.mittenClosed (0x100 + p.val) = false) (hl : (s.main.pt p).lastMono = none) :
    Completes (.serialReadStart p true) s (fun t => t = { s with main := { s.main with out := {}, port := t.main.port } } ∧
      (t.main.pt p).readT0 = some (slotStart (s.main.now + (s.main.serMono p + 400)) - (s.main.serMono p + 400))) ∧
    ((s.main.pt p).readT0 = none → Completes (.serialReadStart p false) s (fun t => t.main.obj (fbAddr p O.FB_SER_ERR) = 1 ∧
      (t.main.pt p).serOk = false ∧ (t.main.pt p).readT0 = none)) := by
  refine ⟨?_, fun _ => ?_⟩
  · refine completes_of_exec (exec_serialReadStart true hmode hmitten hl) ?_
    rw [if_neg (by decide)]
    exact ⟨rfl, congrArg Port.readT0 ((s.start.pt_modPt p p _).trans (if_pos rfl))⟩
  · obtain ⟨herr, hok, ht0, -⟩ := Main.serFail_spec (m := s.start) (p := p) (code := 1) (Nat.lt_trans p.isLt (by decide)) (by decide)
    refine completes_of_exec (exec_serialReadStart false hmode hmitten hl) ?_
    rw [if_pos (by decide)]
    exact ⟨herr, hok, ht0⟩

/-- The value that a read's bits stand for (R287, R289). -/
def Main.readValue (m : Main) (p : Nat) (bits : List Bool) : Nat :=
  let data := (bits.drop (m.ser p O.FB_SER_LEAD)).take (m.ser p O.FB_SER_BITS)
  natOfBits (if m.ser p O.FB_SER_CODE = 1 then fromGray data else data)

theorem exec_serialReadEnd {bits : List Bool} {mono : Bool} {t0 : Nat} (ht0 : (s.main.pt p).readT0 = some t0)
    (hnow : t0 + s.main.serMono p ≤ s.main.now) : exec (.serialReadEnd p bits mono) s = .next { s with
      main := match s.main.serCheck p (bits.drop (s.main.ser p O.FB_SER_LEAD)) (s.main.readValue p bits) mono with
        | some code => s.start.serFail p code
        | none => s.start.serGood p t0 (s.main.readValue p bits) } := by
  have hgate : ¬ s.start.now < t0 + s.start.serMono p := Nat.not_lt.2 hnow
  have ht0' : (s.start.pt p).readT0 = some t0 := ht0
  change Host.Outcome.next { s with
    main := match (s.start.pt p).readT0 with
      | none => s.start
      | some t0 => if s.start.now < t0 + s.start.serMono p then s.start
        else match s.start.serCheck p (bits.drop (s.main.ser p O.FB_SER_LEAD)) (s.main.readValue p bits) mono with
          | some code => s.start.serFail p code
          | none => s.start.serGood p t0 (s.main.readValue p bits) } = _
  rw [ht0']
  dsimp only
  rw [if_neg hgate]
  rfl

theorem serialReadEnd_completes {bits : List Bool} {mono : Bool} {t0 : Nat} (ht0 : (s.main.pt p).readT0 = some t0)
    (hnow : t0 + s.main.serMono p ≤ s.main.now) (hh : (s.main.i p).home = none) :
    Completes (.serialReadEnd p bits mono) s (fun t => (t.main.pt p).readT0 = none ∧
      match s.main.serCheck p (bits.drop (s.main.ser p O.FB_SER_LEAD)) (s.main.readValue p bits) mono with
      | some code => t.main.obj (fbAddr p O.FB_SER_ERR) = code ∧ (t.main.pt p).serOk = false ∧
          (t.main.pt p).count = (s.main.pt p).count
      | none => t.main.obj (fbAddr p O.FB_SER_ERR) = 0 ∧ (t.main.pt p).serOk = true ∧
          (t.main.pt p).vPrev = some (s.main.readValue p bits) ∧ (t.main.pt p).goods = (s.main.pt p).goods + 1 ∧
          ((s.main.pt p).reload = true → (t.main.pt p).count = sgn (BitVec.ofNat 36 (s.main.readValue p bits)))) := by
  have hexec := exec_serialReadEnd (bits := bits) (mono := mono) ht0 hnow
  cases hcheck : s.main.serCheck p (bits.drop (s.main.ser p O.FB_SER_LEAD)) (s.main.readValue p bits) mono with
  | some code =>
    rw [hcheck] at hexec
    obtain ⟨herr, hok, hread, hcount⟩ := Main.serFail_spec (m := s.start) (p := p) (Nat.lt_trans p.isLt (by decide))
      (Main.serCheck_lt hcheck)
    exact completes_of_exec hexec ⟨hread, herr, hok, hcount⟩
  | none =>
    rw [hcheck] at hexec
    have hgood := Main.serGood_spec (m := s.start) (p := p) t0 (s.main.readValue p bits) hh
    exact completes_of_exec hexec ⟨hgood.readT0, hgood.err, hgood.serOk, hgood.vPrev, hgood.goods, hgood.loads⟩

end

/-- Settles O34. -/
theorem serialReads : Obligations.SerialReads := by
  unfold Obligations.SerialReads
  exact fun p s => ⟨serialReadStart_completes, fun bits mono t0 => serialReadEnd_completes⟩

end Sys2Proof.Machine
end

section
/-! Hard limits as they latch and are released (R316, R318). -/

namespace Sys2Proof.Machine

/-- The latch of one side of an axis's or hoop's limits. -/
def Limits.latched (l : Limits) (neg : Bool) : Bool := if neg then l.negLat else l.posLat

/-- The limits with the latch of one side as given. -/
def Limits.setLatch (l : Limits) (neg v : Bool) : Limits := if neg then { l with negLat := v } else { l with posLat := v }

theorem Limits.latched_setLatch (l : Limits) (neg v : Bool) : (l.setLatch neg v).latched neg = v := by
  cases neg <;> rfl

section
variable {i : InstId} {side : Side} {s : State}

/-- The direction of motion rests on the motion of the axis or hoop and on its objects. -/
theorem Main.direction_modLim (m : Main) (k : Nat) (f : Limits → Limits) : (m.modLim k f).direction k = m.direction k := by
  have hmotion : ((m.modLim k f).i k).motion = (m.i k).motion := by rw [Main.i_modLim_same]
  have hsp : ∀ t, (m.modLim k f).spAt k t = m.spAt k t := by
    intro t
    unfold Main.spAt
    rw [hmotion]
  have hmode : (m.modLim k f).mode k = m.mode k := rfl
  have hvel : (m.modLim k f).actualVel k = m.actualVel k := rfl
  have ht : (m.modLim k f).t = m.t := rfl
  unfold Main.direction
  rw [hmode, hvel, hsp, ht]

/-- R316: a side that has become active, outside a homing. -/
theorem exec_limitLatch (hact : s.main.limActive i (side == Side.neg) = true)
    (hlat : (s.main.i i).lim.latched (side == Side.neg) = false) (hh : (s.main.i i).home = none) :
    exec (.limitLatch i side) s = .next { s with
      main :=
        if (((s.main.i i).core.st == sEnabling || (s.main.i i).core.st == sRun || (s.main.i i).core.st == sStopping) &&
            towards (s.main.direction i) (side == Side.neg)) = true then
          (s.start.modLim i (fun l => l.setLatch (side == Side.neg) true)).limitReact i
        else s.start.modLim i (fun l => l.setLatch (side == Side.neg) true) } := by
  let n := s.start.modLim i (fun l => l.setLatch (side == Side.neg) true)
  have hgate : ¬ (!s.start.limActive i (side == Side.neg) || (s.start.i i).lim.latched (side == Side.neg)) = true := by
    have hact' : s.start.limActive i (side == Side.neg) = true := hact
    have hlat' : (s.start.i i).lim.latched (side == Side.neg) = false := hlat
    rw [hact', hlat']
    decide
  have hi : n.i i = { s.main.i i with lim := (s.main.i i).lim.setLatch (side == Side.neg) true } := s.start.i_modLim_same i _
  have hst : (n.i i).core.st = (s.main.i i).core.st := by rw [hi]
  have hhome : (n.i i).home = none := by rw [hi]; exact hh
  have hdir : n.direction i = s.main.direction i := s.start.direction_modLim i _
  change Host.Outcome.next { s with
    main :=
      if (!s.start.limActive i (side == Side.neg) || (s.start.i i).lim.latched (side == Side.neg)) = true then s.start
      else match (n.i i).home with
        | some h =>
          if h.neg = (side == Side.neg) ∧ 2 ≤ h.method then n.limitHoming i h
            (((n.i i).core.st == sEnabling || (n.i i).core.st == sRun || (n.i i).core.st == sStopping) &&
              towards (n.direction i) (side == Side.neg))
          else if (((n.i i).core.st == sEnabling || (n.i i).core.st == sRun || (n.i i).core.st == sStopping) &&
            towards (n.direction i) (side == Side.neg)) = true then (n.homingOff i 0x81).limitReact i else n
        | none => if (((n.i i).core.st == sEnabling || (n.i i).core.st == sRun || (n.i i).core.st == sStopping) &&
            towards (n.direction i) (side == Side.neg)) = true then n.limitReact i else n } = _
  rw [if_neg hgate, hhome, hst, hdir]

/-- R316: outside ENABLING, RUN and STOPPING there is no reaction. -/
theorem limitLatch_still (hact : s.main.limActive i (side == Side.neg) = true)
    (hlat : (s.main.i i).lim.latched (side == Side.neg) = false) (hh : (s.main.i i).home = none)
    (hst : (s.main.i i).core.st < sEnabling ∨ sStopping < (s.main.i i).core.st) : Completes (.limitLatch i side) s (fun t =>
      t = { s with main := { s.main with out := {}, inst := t.main.inst } } ∧ InstBut s.main t.main [i.val] ∧
      (t.main.i i).lim.latched (side == Side.neg) = true ∧ (t.main.i i).core = (s.main.i i).core ∧
      (t.main.i i).motion = (s.main.i i).motion) := by
  have hstate : ((s.main.i i).core.st == sEnabling || (s.main.i i).core.st == sRun || (s.main.i i).core.st == sStopping) = false := by
    have h : ((s.main.i i).core.st ≠ 2 ∧ (s.main.i i).core.st ≠ 3) ∧ (s.main.i i).core.st ≠ 4 := by
      have h2 : (s.main.i i).core.st < 2 ∨ 4 < (s.main.i i).core.st := hst
      omega
    simpa only [Bool.or_eq_false_iff, beq_eq_false_iff_ne] using h
  have hexec := exec_limitLatch hact hlat hh
  rw [hstate, Bool.false_and, if_neg (by decide)] at hexec
  refine completes_of_exec hexec ⟨rfl, fun k hk => ?_, ?_, ?_, ?_⟩
  · exact (s.start.i_modLim i k _).trans (if_neg (by simpa using hk))
  · rw [Main.i_modLim_same]
    exact Limits.latched_setLatch _ _ _
  · rw [Main.i_modLim_same]
    rfl
  · rw [Main.i_modLim_same]
    rfl

/-- R316 reaction 2: a ramped stop of an axis or hoop without a link. -/
theorem Main.limitStop_spec {m : Main} {k : Nat} (hl : (m.i k).link.st = 0) : ∃ mo : Motion, mo.ramp.isSome = true ∧ mo.plan = none ∧
    mo.queue = [] ∧ ∀ j, (m.limitStop k).i j = if j = k then { m.i k with motion := mo } else m.i j := by
  obtain ⟨mo, hramp, hplan, hqueue, hself⟩ := m.i_startRamp k (m.qDec k) k
  rw [if_pos rfl] at hself
  have hother : ∀ j, j ≠ k → (m.startRamp k (m.qDec k)).i j = m.i j := by
    intro j hj
    obtain ⟨mo', -, -, -, h⟩ := m.i_startRamp k (m.qDec k) j
    rw [h, if_neg hj]
  let n := if (m.startRamp k (m.qDec k)).mode k = 2 then
    (m.startRamp k (m.qDec k)).modM k (fun x => { x with vHold := true, torque := 0 }) else m.startRamp k (m.qDec k)
  have hn : ∃ mo : Motion, mo.ramp.isSome = true ∧ mo.plan = none ∧ mo.queue = [] ∧
      ∀ j, n.i j = if j = k then { m.i k with motion := mo } else m.i j := by
    dsimp only [n]
    split
    · refine ⟨{ mo with vHold := true, torque := 0 }, hramp, hplan, hqueue, fun j => ?_⟩
      rw [Main.i_modM, hself]
      split
      · rfl
      next hj => exact hother j hj
    · refine ⟨mo, hramp, hplan, hqueue, fun j => ?_⟩
      split
      next hj => rw [hj, hself]
      next hj => exact hother j hj
  obtain ⟨mo', h1, h2, h3, hi⟩ := hn
  have hlink : (n.i k).link.st = 0 := by
    rw [hi, if_pos rfl]
    exact hl
  have hstop : m.limitStop k = n := if_pos hlink
  exact ⟨mo', h1, h2, h3, fun j => by rw [hstop, hi]⟩

/-- R316: in RUN towards the side. -/
theorem limitLatch_ramps (hact : s.main.limActive i (side == Side.neg) = true)
    (hlat : (s.main.i i).lim.latched (side == Side.neg) = false) (hh : (s.main.i i).home = none)
    (hst : (s.main.i i).core.st = sRun) (ht : towards (s.main.direction i) (side == Side.neg) = true)
    (hr : s.main.io i O.LIM_REACT = 2) (hl : (s.main.i i).link.st = 0) : Completes (.limitLatch i side) s (fun t =>
      (t.main.i i).lim.latched (side == Side.neg) = true ∧ (t.main.i i).core.st = sRun ∧ (t.main.i i).motion.ramp.isSome = true ∧
      (t.main.i i).motion.plan = none ∧ (t.main.i i).motion.queue = [] ∧ InstBut s.main t.main [i.val]) := by
  let n := s.start.modLim i (fun l => l.setLatch (side == Side.neg) true)
  have hni : ∀ k, n.i k = if k = i.val then { s.main.i i with lim := (s.main.i i).lim.setLatch (side == Side.neg) true } else s.main.i k :=
    fun k => s.start.i_modLim i k _
  have hlink : (n.i i).link.st = 0 := by rw [hni, if_pos rfl]; exact hl
  have hreact : n.limitReact i = n.limitStop i := by
    have hr' : n.io i O.LIM_REACT = 2 := hr
    unfold Main.limitReact
    rw [hr']
    rfl
  have hexec := exec_limitLatch hact hlat hh
  rw [hst, ht, if_pos (by decide)] at hexec
  obtain ⟨mo, hramp, hplan, hqueue, hi⟩ := Main.limitStop_spec hlink
  rw [show (s.start.modLim i (fun l => l.setLatch (side == Side.neg) true)).limitReact i = n.limitStop i from hreact] at hexec
  refine completes_of_exec hexec ⟨?_, ?_, ?_, ?_, ?_, fun k hk => ?_⟩
  · rw [hi, if_pos rfl, hni, if_pos rfl]
    exact Limits.latched_setLatch _ _ _
  · rw [hi, if_pos rfl, hni, if_pos rfl]
    exact hst
  · rw [hi, if_pos rfl]; exact hramp
  · rw [hi, if_pos rfl]; exact hplan
  · rw [hi, if_pos rfl]; exact hqueue
  · have hk' : k ≠ i.val := by simpa using hk
    rw [hi, if_neg hk', hni, if_neg hk']

/-- R318: a side is released. -/
theorem limitRelease_completes (hact : s.main.limActive i (side == Side.neg) = false)
    (ht : 32 ≤ s.main.limCh i (side == Side.neg) ∨
      (s.main.fc (s.main.limCh i (side == Side.neg))).levT + s.main.io i O.LIM_REL_T * unitsPerMs ≤ s.main.now) :
    Completes (.limitRelease i side) s (fun t =>
      t = { s with main := { s.main with out := {}, inst := t.main.inst } } ∧ InstBut s.main t.main [i.val] ∧
      (t.main.i i).lim.latched (side == Side.neg) = false ∧ (t.main.i i).core = (s.main.i i).core) := by
  have hgate : ¬ (s.start.limActive i (side == Side.neg) || decide (s.start.limCh i (side == Side.neg) < 32) &&
      decide (s.start.now < (s.start.fc (s.start.limCh i (side == Side.neg))).levT + s.start.io i O.LIM_REL_T * unitsPerMs)) = true := by
    have hact' : s.start.limActive i (side == Side.neg) = false := hact
    have hlt : ¬ (s.start.limCh i (side == Side.neg) < 32 ∧
        s.start.now < (s.start.fc (s.start.limCh i (side == Side.neg))).levT + s.start.io i O.LIM_REL_T * unitsPerMs) :=
      fun h => ht.elim (Nat.not_le.2 h.1) (Nat.not_le.2 h.2)
    rw [hact', Bool.false_or, ← Bool.decide_and]
    exact fun h => hlt (of_decide_eq_true h)
  have hexec : exec (.limitRelease i side) s = .next { s with
      main := s.start.modLim i (fun l => l.setLatch (side == Side.neg) false) } := by
    change Host.Outcome.next { s with
      main :=
        if (s.start.limActive i (side == Side.neg) || decide (s.start.limCh i (side == Side.neg) < 32) &&
            decide (s.start.now < (s.start.fc (s.start.limCh i (side == Side.neg))).levT + s.start.io i O.LIM_REL_T * unitsPerMs)) = true
        then s.start else s.start.modLim i (fun l => l.setLatch (side == Side.neg) false) } = _
    rw [if_neg hgate]
  refine completes_of_exec hexec ⟨rfl, fun k hk => ?_, ?_, ?_⟩
  · exact (s.start.i_modLim i k _).trans (if_neg (by simpa using hk))
  · rw [Main.i_modLim_same]
    exact Limits.latched_setLatch _ _ _
  · rw [Main.i_modLim_same]
    rfl

end

/-- Settles O35. -/
theorem limitsLatchAndRelease : Obligations.LimitsLatchAndRelease := by
  unfold Obligations.LimitsLatchAndRelease
  exact fun i side s => ⟨limitLatch_still, fun hact hlat hh hst ht hr hl _ => limitLatch_ramps hact hlat hh hst ht hr hl,
    limitRelease_completes⟩

end Sys2Proof.Machine
end

section
/-! The events of homing, and its failures by time (R325-R330). -/

namespace Sys2Proof.Machine

/-! ### The switch edge (R327) -/

/-- R326 step 5: the home event, and the ramp that follows it. -/
theorem Main.homeEvent_spec {m : Main} {i : Nat} {h : Homing} (hh : (m.i i).home = some h) (c : Int) (t : Nat) :
    ((m.homeEvent i c t).i i).home = some { h with step := 5, event := some (c, t), stopping := true } ∧
    ((m.homeEvent i c t).i i).motion.ramp.isSome = true ∧ ∀ j, j ≠ i → (m.homeEvent i c t).i j = m.i j := by
  let n := m.modHome i (fun h => { h with step := 5, event := some (c, t) })
  have hn : ∀ j, n.i j = if j = i then
      { m.i i with home := (m.i i).home.map (fun h => { h with step := 5, event := some (c, t) }) } else m.i j :=
    fun j => m.i_modHome i j _
  have hevent : m.homeEvent i c t = (n.startRamp i (n.homeAcc i)).modHome i (fun h => { h with stopping := true }) := rfl
  rw [hevent]
  obtain ⟨mo, hramp, -, -, hi⟩ := n.i_startRamp i (n.homeAcc i) i
  rw [if_pos rfl, hn, if_pos rfl] at hi
  refine ⟨?_, ?_, fun j hj => ?_⟩
  · rw [Main.i_modHome_same, hi, hh]
    rfl
  · rw [Main.i_modHome_same, hi]
    exact hramp
  · obtain ⟨mo', -, -, -, hj'⟩ := n.i_startRamp i (n.homeAcc i) j
    rw [Main.i_modHome, if_neg hj, hj', if_neg hj, hn, if_neg hj]

/-- R327: what the accepted edge leaves of the homing. -/
theorem Main.homeSwitch_spec {m : Main} {i : Nat} {h : Homing} (hh : (m.i i).home = some h) (c : Int × Nat) :
    ∃ k, ((m.homeSwitch i c.1 c.2).i i).home = some k ∧ k.switchPos = some c.1 ∧ k.cand = none ∧
    (∀ j, j ≠ i → (m.homeSwitch i c.1 c.2).i j = m.i j) ∧
    (if m.io i O.HOME_METHOD = 3 ∨ m.io i O.HOME_METHOD = 5 then k.step = 4 ∧ k.event = h.event
     else k.step = 5 ∧ k.event = some c ∧ k.stopping = true ∧ ((m.homeSwitch i c.1 c.2).i i).motion.ramp.isSome = true) := by
  let n := (m.opProgress i 700).modHome i (fun h => { h with switchPos := some c.1, cand := none })
  have hn : ∀ j, n.i j = if j = i then
      { m.i i with home := (m.i i).home.map (fun h => { h with switchPos := some c.1, cand := none }) } else m.i j :=
    fun j => (m.opProgress i 700).i_modHome i j _
  have hnh : (n.i i).home = some { h with switchPos := some c.1, cand := none } := by
    rw [hn, if_pos rfl, hh]
    rfl
  have hswitch : m.homeSwitch i c.1 c.2 = if m.io i O.HOME_METHOD = 3 ∨ m.io i O.HOME_METHOD = 5 then
      n.modHome i (fun h => { h with step := 4 }) else n.homeEvent i c.1 c.2 := rfl
  rw [hswitch]
  by_cases hmd : m.io i O.HOME_METHOD = 3 ∨ m.io i O.HOME_METHOD = 5
  · simp only [if_pos hmd]
    refine ⟨{ h with switchPos := some c.1, cand := none, step := 4 }, ?_, rfl, rfl, fun j hj => ?_, rfl, rfl⟩
    · rw [Main.i_modHome_same, hnh]
      rfl
    · rw [Main.i_modHome, if_neg hj, hn, if_neg hj]
  · simp only [if_neg hmd]
    obtain ⟨hhome, hramp, hother⟩ := Main.homeEvent_spec hnh c.1 c.2
    refine ⟨_, hhome, rfl, rfl, fun j hj => ?_, rfl, rfl, rfl, hramp⟩
    rw [hother j hj, hn, if_neg hj]

theorem homeCandidate_accepted (i : InstId) (h : Homing) (c : Int × Nat) (s : State) (hh : (s.main.i i).home = some h)
    (hstep : h.step = 3) (hc : h.cand = some c) (ht : c.2 + s.main.io i O.HOME_DEBOUNCE * unitsPerMs ≤ s.main.now)
    (hser : 64 ≤ i.val ∨ s.main.obj (fbAddr i O.FB_MODE) ≠ 3) : Completes (.homeCandidateAccepted i) s (fun t =>
      ∃ k, (t.main.i i).home = some k ∧ k.switchPos = some c.1 ∧ k.cand = none ∧ InstBut s.main t.main [i.val] ∧
        (if s.main.io i O.HOME_METHOD = 3 ∨ s.main.io i O.HOME_METHOD = 5 then k.step = 4 ∧ k.event = h.event
         else k.step = 5 ∧ k.event = some c ∧ k.stopping = true ∧ (t.main.i i).motion.ramp.isSome = true)) := by
  have hh' : (s.start.i i).home = some h := hh
  have hgate : ¬ s.start.now < c.2 + s.start.io i O.HOME_DEBOUNCE * unitsPerMs := Nat.not_lt.2 ht
  have hmode : ¬ (i.val < 64 ∧ s.start.obj (fbAddr i O.FB_MODE) = 3) := fun hm => hser.elim (Nat.not_le.2 hm.1) (absurd hm.2)
  have hexec : exec (.homeCandidateAccepted i) s = .next { s with
      main := s.start.homeSwitch i c.1 c.2 } := by
    change Host.Outcome.next { s with
      main :=
        match (s.start.i i).home with
        | some h => match h.step, h.cand with
          | 3, some c =>
            if s.start.now < c.2 + s.start.io i O.HOME_DEBOUNCE * unitsPerMs then s.start else
            let pos := if i.val < 64 ∧ s.start.obj (fbAddr i O.FB_MODE) = 3 then s.start.rawAt i c.2 else c.1
            s.start.homeSwitch i pos c.2
          | _, _ => s.start
        | none => s.start } = _
    rw [hh']
    dsimp only
    rw [hstep, hc]
    simp only [if_neg hgate, if_neg hmode]
  obtain ⟨k, hhome, hpos, hcand, hother, hend⟩ := Main.homeSwitch_spec hh' c
  exact completes_of_exec hexec ⟨k, hhome, hpos, hcand, fun j hj => hother j (by simpa using hj), hend⟩

/-! ### The hard stop (R326 method 7) -/

/-- R329: the objects that the offset writes. -/
theorem Main.obj_writeOffset (m : Main) (i : Nat) (ofs : Int) {b : Nat} (h1 : b ≠ instAddr i O.POS_OFFSET)
    (h2 : b ≠ instAddr i O.POS_CONT) (h3 : b ≠ instAddr i O.ACTUAL_POS) (h4 : b ≠ instAddr i O.LINK_Y_OFS) :
    (m.writeOffset i ofs).obj b = m.obj b := by
  obtain ⟨d, hwrite⟩ := m.writeOffset_eq i ofs
  obtain ⟨-, hkeep⟩ := (m.setObjI (instAddr i O.POS_OFFSET) ofs).setActual_frame i (m.rawPos i) |>.choose_spec
  have hactual : (m.offsetActual i ofs).obj b = m.obj b := by
    have hset := (hkeep b h2 h3).trans (Main.objs_keep _ _ _ _ h1)
    unfold Main.offsetActual
    dsimp only
    split
    · exact hset
    · exact (Main.objs_keep _ _ _ _ h3).trans hset
  rw [hwrite, Main.obj_modC, ((m.offsetActual i ofs).shiftClosed_frame i d).2.1 b h4, hactual]

/-- R331: the homing is over. -/
theorem Main.home_homeOffset_homeDone {n : Main} {i : Nat} (c : Int) (hhome : (n.i i).home.isSome = true) :
    (((n.homeOffset i c).homeDone i).i i).home = none := by
  have hofs : Main.OffsetWritten i _ n (n.homeOffset i c) := n.writeOffset_spec i _
  generalize n.homeOffset i c = w at hofs ⊢
  obtain ⟨k, hk⟩ := Option.isSome_iff_exists.1 (hofs.home ▸ hhome)
  obtain ⟨-, -, hnone, -⟩ := Main.homeDone_spec hk
  exact hnone

/-- The axis or hoop stands still at the stop: its set-points are there, with the event noted. -/
def Main.stoppedAt (m : Main) (i : Nat) : Main :=
  let pos : Rat := m.actualPos i
  (m.modM i (fun x => { x with plan := none, ramp := none, posSp := pos, velSp := 0, accSp := 0, held := some pos })).modHome i
    (fun h => { h with event := some (m.rawPos i, m.now), stopping := false })

theorem hardStop_homes (i : InstId) (h : Homing) (s : State) (hh : (s.main.i i).home = some h) (hstep : h.step = 7)
    (hstop : s.main.hardStop i = true) (ht : since h.hsSince (s.main.io i O.HOME_HS_T) s.main.now = true)
    (hgo : s.main.io i O.HOME_GOTO = 0) : Completes (.hardStopHomeEvent i) s (fun t =>
      (t.main.i i).core.homed = true ∧ (t.main.i i).home = none ∧ (t.main.lop i).finished = true ∧ (t.main.lop i).busy = false ∧
      t.main.objW (instAddr i O.POS_OFFSET) = wordOf (s.main.ioI i O.HOME_POS - s.main.rawPos i)) := by
  let n := s.start.stoppedAt i
  have hh' : (s.start.i i).home = some h := hh
  have hgate : (h.step == 7 && s.start.hardStop i && since h.hsSince (s.start.io i O.HOME_HS_T) s.start.now) = true := by
    have hstop' : s.start.hardStop i = true := hstop
    have ht' : since h.hsSince (s.start.io i O.HOME_HS_T) s.start.now = true := ht
    rw [hstop', ht', hstep]
    decide
  have hexec : exec (.hardStopHomeEvent i) s = .next { s with
      main := (n.homeOffset i (s.start.rawPos i)).homeFinish i } := by
    change Host.Outcome.next { s with
      main :=
        match (s.start.i i).home with
        | some h =>
          if (h.step == 7 && s.start.hardStop i && since h.hsSince (s.start.io i O.HOME_HS_T) s.start.now) = true then
            (n.homeOffset i (s.start.rawPos i)).homeFinish i
          else s.start
        | none => s.start } = _
    rw [hh']
    dsimp only
    rw [if_pos hgate]
  have hhome : (n.i i).home.isSome = true := by
    have hn : (n.i i).home = ((s.start.i i).home.map _) := congrArg Inst.home ((s.start.modM i _).i_modHome_same i _) |>.trans (by
      rw [Main.i_modM_same])
    rw [hn, hh']
    rfl
  have hgoto : (n.homeOffset i (s.start.rawPos i)).io i O.HOME_GOTO = 0 :=
    (n.obj_writeOffset i _ (instAddr_ne (by decide)) (instAddr_ne (by decide)) (instAddr_ne (by decide))
      (instAddr_ne (by decide))).trans hgo
  have hfinish : (n.homeOffset i (s.start.rawPos i)).homeFinish i = (n.homeOffset i (s.start.rawPos i)).homeDone i := by
    rw [Main.homeFinish, hgoto, if_neg (by decide)]
  rw [hfinish] at hexec
  obtain ⟨⟨r, hend⟩, hhomed, hofs⟩ := Main.homeOffset_homeDone (s.start.rawPos i) hhome
  have hnone := Main.home_homeOffset_homeDone (s.start.rawPos i) hhome
  generalize (n.homeOffset i (s.start.rawPos i)).homeDone i = w at hexec hend hhomed hofs hnone
  refine completes_of_exec hexec ⟨hhomed, hnone, ?_, ?_, hofs⟩
  · rw [hend]
  · rw [hend]

/-! ### Failures by time (R325, R330) -/

/-- R329: a homing that is not in motion fails at once. -/
theorem Main.homeFail_resting {m : Main} {i code : Nat} {h : Homing} (hh : (m.i i).home = some h) (hf : h.failCode = none)
    (hstep : h.step = 0) (hb : (m.lop i).busy = true) :
    (m.homeFail i code).lop i = { m.lop i with busy := false, failed := true, err := code, paused := false } ∧
    ((m.homeFail i code).i i).home = none ∧ (m.homeFail i code).objs = m.objs := by
  have hfail : m.homeFail i code = m.homingOff i code := by
    unfold Main.homeFail
    rw [hh]
    dsimp only
    rw [hf, if_neg (by simp), if_neg (fun hm => hm.2 hstep)]
  have hcode : m.homingOff i code = (m.opFail i code).modI i (fun x => { x with home := none }) := by
    unfold Main.homingOff
    rw [hh]
    dsimp only
    rw [hf]
    rfl
  rw [hfail, hcode]
  refine ⟨?_, ?_, rfl⟩
  · rw [Main.lop_modI, Main.lop_opFail, if_pos rfl, if_pos hb]
  · rw [Main.i_modI_same]

section
variable {i : InstId} {h : Homing} {s : State}

theorem exec_homeNoSensor (hh : (s.main.i i).home = some h) (hm : h.method = 0)
    (ht : h.started + 100 * unitsPerMs ≤ s.main.now) :
    exec (.homeNoSensorTimeout i) s = .next { s with main := s.start.homeFail i 0x85 } := by
  have hh' : (s.start.i i).home = some h := hh
  have hgate : h.method = 0 ∧ h.started + 100 * unitsPerMs ≤ s.start.now := ⟨hm, ht⟩
  change Host.Outcome.next { s with
    main := match (s.start.i i).home with
      | some h => if h.method = 0 ∧ h.started + 100 * unitsPerMs ≤ s.start.now then s.start.homeFail i 0x85 else s.start
      | none => s.start } = _
  rw [hh']
  dsimp only
  rw [if_pos hgate]

theorem exec_homingTimeout (hb : (s.main.lop i).busy = true) (hk : (s.main.lop i).kind = 1)
    (ht : s.main.io i O.HOME_TMAX * 1000 * unitsPerMs ≤ (s.main.lop i).ranFor s.main.now) :
    exec (.homingTimeout i) s = .next { s with main := s.start.homeFail i 0x05 } := by
  have hruns : s.start.opRuns i 1 = true := by
    have hb' : (s.start.lop i).busy = true := hb
    have hk' : (s.start.lop i).kind = 1 := hk
    unfold Main.opRuns
    rw [hb', hk']
    decide
  have hgate : s.start.opRuns i 1 = true ∧ s.start.io i O.HOME_TMAX * 1000 * unitsPerMs ≤ (s.start.lop i).ranFor s.start.now :=
    ⟨hruns, ht⟩
  change Host.Outcome.next { s with
    main :=
      if s.start.opRuns i 1 = true ∧ s.start.io i O.HOME_TMAX * 1000 * unitsPerMs ≤ (s.start.lop i).ranFor s.start.now then
        s.start.homeFail i 0x05 else s.start } = _
  rw [if_pos hgate]

end

/-- Settles O36. -/
theorem homingEventsAndTimeouts : Obligations.HomingEventsAndTimeouts := by
  unfold Obligations.HomingEventsAndTimeouts
  refine ⟨homeCandidate_accepted, fun i h s hh hstep _ hstop ht hgo _ => hardStop_homes i h s hh hstep hstop ht hgo,
    fun i h s hh hf hb hk => ⟨fun hm hstep ht => ?_, fun hstep ht => ?_, fun hst hstep ht => ?_⟩⟩
  case _ =>
    obtain ⟨hend, hnone, hobjs⟩ := Main.homeFail_resting (m := s.start) (code := 0x85) hh hf hstep hb
    refine completes_of_exec (exec_homeNoSensor hh hm ht) ⟨?_, ?_, ?_, hnone, hobjs⟩ <;> rw [hend]
  case _ =>
    obtain ⟨hend, hnone, -⟩ := Main.homeFail_resting (m := s.start) (code := 5) hh hf hstep hb
    refine completes_of_exec (exec_homingTimeout hb hk ht) ⟨?_, ?_, ?_, hnone⟩ <;> rw [hend]
  case _ =>
    obtain ⟨hop, hcore, hramp, hhome⟩ := Main.homeFail_moving (m := s.start) (code := 5) hh hf hst hstep
    refine completes_of_exec (exec_homingTimeout hb hk ht) ⟨?_, hramp, ?_, _, hhome, rfl, rfl⟩
    · exact (congrArg LongOp.busy (Main.lop_of_op hop i)).trans hb
    · exact (congrArg Core.st hcore).trans hst

end Sys2Proof.Machine
end

section
/-! NOP, OPEN and CLOSE (R78, R121, R123, R138), and records that are heard. -/

namespace Sys2Proof.Machine

/-- The machine as a record that is heard finds it: its frame is counted and its session noted as heard. -/
def State.heard (s : State) (n : Nat) : Main := s.start.frameIn.touch n

/-- R123: a record on the line or SV that is heard shows its answer. -/
theorem State.onMain_request {s : State} {q : Req} {w : Bool} (f : Main → Main × Ans) (hn : q.sess.val ≠ 9)
    (hh : s.main.hears q.sess w = true) :
    s.onMain (fun m => m.request q w f) = .next { s with main := Main.shown (f (s.heard q.sess)) } := by
  have hreq : s.start.request q w f = Main.shown (f (s.heard q.sess)) := Main.request_of_hears f hn hh
  change Host.Outcome.next { s with main := s.start.request q w f } = _
  rw [hreq]

theorem State.heard_frame (s : State) (n : Nat) : ∃ e, s.heard n = { s.start with
    sess := e
    line := { s.main.line with frames := s.main.line.frames + 1 } } := ⟨_, rfl⟩

theorem State.se_heard (s : State) (n k : Nat) :
    (s.heard n).se k = if k = n then { s.main.se n with last := s.main.now } else s.main.se k :=
  s.start.frameIn.se_touch n k

/-! ### OPEN -/

section
variable {m : Main} {n a len : Nat}

/-- R78: OPEN of a closed session. -/
theorem Main.openFrame_of_closed (ha : a < 2) (h : (m.se n).isOpen = false) : ∃ d l, m.openFrame n a len =
    (m.modSe n (fun s => { s with isOpen := true, service := a == 1 && m.svcMask.testBit n }), { data := d, rlen := l }) := by
  have hnow : m.openNow n a = (m.modSe n (fun s => { s with isOpen := true, service := a == 1 && m.svcMask.testBit n }), 0) := by
    unfold Main.openNow
    rw [if_neg (Nat.not_le.2 ha), h, if_neg (by decide)]
  unfold Main.openFrame
  rw [hnow]
  dsimp only
  rw [if_pos rfl, Main.fin, Main.noteAbort_ok]
  exact ⟨_, _, rfl⟩

/-- R121: OPEN of an open session. -/
theorem Main.openFrame_of_open (ha : a < 2) (h : (m.se n).isOpen = true) : m.openFrame n a len = m.fin n a aState := by
  have hnow : m.openNow n a = (m, aState) := by
    unfold Main.openNow
    rw [if_neg (Nat.not_le.2 ha), h, if_pos rfl]
  unfold Main.openFrame
  rw [hnow]
  exact if_neg (c := aState = 0) (by decide)

end

section
variable {q : Req} {s : State}

theorem nop_completes {sess : Sess} (hn : sess.val ≠ 9) (hh : s.main.hears sess false = true) : Completes (.nop sess) s (fun t =>
    t = { s with main := { s.main with out := t.main.out, sess := t.main.sess } } ∧
    t.main.out.status = some 0 ∧ t.main.se sess = { s.main.se sess with last := s.main.now } ∧
    ∀ k, k ≠ sess.val → t.main.se k = s.main.se k) := by
  have hgate : ¬ (sess.val = 9 ∨ (!s.start.hears sess false) = true) := by
    rw [State.hears_start, hh]
    exact fun h => h.elim hn (by decide)
  have hexec : exec (.nop sess) s = .next { s with main := Main.shown (s.start.touch sess, {}) } := by
    change Host.Outcome.next { s with
      main := if sess.val = 9 ∨ (!s.start.hears sess false) = true then s.start else Main.shown (s.start.touch sess, {}) } = _
    rw [if_neg hgate]
  refine completes_of_exec hexec ⟨rfl, rfl, ?_, fun k hk => ?_⟩
  · exact (s.start.se_touch sess sess).trans (if_pos rfl)
  · exact (s.start.se_touch sess k).trans (if_neg hk)

theorem openSession_opens (hn : q.sess.val ≠ 9) (hh : s.main.hears q.sess false = true) (ha : q.addr.toNat < 2)
    (hc : (s.main.se q.sess).isOpen = false) : Completes (.openSession q) s (fun t =>
      t = { s with main := { s.main with out := t.main.out, sess := t.main.sess,
                                         line := { s.main.line with frames := s.main.line.frames + 1 } } } ∧
      t.main.out.status = some 0 ∧
      t.main.se q.sess = { s.main.se q.sess with last := s.main.now, isOpen := true,
                                                 service := q.addr.toNat == 1 && s.main.svcMask.testBit q.sess } ∧
      ∀ k, k ≠ q.sess.val → t.main.se k = s.main.se k) := by
  have hclosed : ((s.heard q.sess).se q.sess).isOpen = false := by rw [State.se_heard, if_pos rfl]; exact hc
  obtain ⟨d, l, hopen⟩ := Main.openFrame_of_closed (len := q.len) ha hclosed
  have hexec : exec (.openSession q) s = .next { s with
      main := Main.shown ((s.heard q.sess).openFrame q.sess q.addr.toNat q.len) } := State.onMain_request _ hn hh
  rw [hopen] at hexec
  refine completes_of_exec hexec ⟨?_, rfl, ?_, fun k hk => ?_⟩
  · obtain ⟨e, he⟩ := s.heard_frame q.sess
    rw [he]
    rfl
  · rw [Main.shown_se, Main.se_modSe, if_pos rfl, State.se_heard, if_pos rfl]
    rfl
  · rw [Main.shown_se, Main.se_modSe, if_neg hk, State.se_heard, if_neg hk]

theorem openSession_refused (hn : q.sess.val ≠ 9) (hh : s.main.hears q.sess false = true) (ha : q.addr.toNat < 2)
    (ho : (s.main.se q.sess).isOpen = true) : Completes (.openSession q) s (fun t =>
      t.main.out.status = some aState ∧ (t.main.se q.sess).isOpen = true) := by
  have hopen : ((s.heard q.sess).se q.sess).isOpen = true := by rw [State.se_heard, if_pos rfl]; exact ho
  have hexec : exec (.openSession q) s = .next { s with
      main := Main.shown ((s.heard q.sess).openFrame q.sess q.addr.toNat q.len) } := State.onMain_request _ hn hh
  rw [Main.openFrame_of_open ha hopen] at hexec
  refine completes_of_exec hexec ⟨rfl, ?_⟩
  obtain ⟨o, hnote⟩ := (s.heard q.sess).noteAbort_frame q.sess aState q.addr.toNat
  rw [Main.shown_se, Main.fin, hnote]
  exact hopen

/-- R121, R138: CLOSE. -/
theorem closeSession_closes (hn : q.sess.val ≠ 9) (hh : s.main.hears q.sess false = true) : Completes (.closeSession q) s (fun t =>
    t.main.out.status = some 0 ∧
    t = { s with main := { s.main with out := t.main.out, sess := t.main.sess, owner := t.main.owner, windows := t.main.windows,
                                       line := { s.main.line with frames := s.main.line.frames + 1 } } } ∧
    (t.main.se q.sess).isOpen = false ∧ (t.main.se q.sess).service = false ∧ (t.main.se q.sess).places = [] ∧
    ∀ d : Fin 155, t.main.ownerOf d = if s.main.ownerOf d = some q.sess.val then none else s.main.ownerOf d) := by
  have hexec : exec (.closeSession q) s = .next { s with main := Main.shown ((s.heard q.sess).endSession q.sess, {}) } :=
    State.onMain_request _ hn hh
  have hse : ((s.heard q.sess).endSession q.sess).se q.sess =
      { (s.heard q.sess).se q.sess with isOpen := false, service := false, places := [] } :=
    ((s.heard q.sess).se_endSession q.sess q.sess).trans (if_pos rfl)
  refine completes_of_exec hexec ⟨rfl, ?_, ?_, ?_, ?_, fun d => ?_⟩
  · obtain ⟨e, he⟩ := s.heard_frame q.sess
    obtain ⟨o, w, x, hend⟩ := (s.heard q.sess).endSession_frame q.sess
    rw [hend, he]
    rfl
  · rw [Main.shown_se, hse]
  · rw [Main.shown_se, hse]
  · rw [Main.shown_se, hse]
  · exact (s.heard q.sess).ownerOf_endSession q.sess d.isLt

end

/-- Settles O37. -/
theorem sessionCommands : Obligations.SessionCommands := by
  unfold Obligations.SessionCommands
  rintro sess q s hn rfl hh
  exact ⟨nop_completes hn hh, openSession_opens hn hh, openSession_refused hn hh, closeSession_closes hn hh⟩

end Sys2Proof.Machine
end

section
/-! The count of frames is no object: what a read returns does not rest on it. -/

namespace Sys2Proof.Machine

section
variable (m : Main)

theorem Main.readyD_frameIn : ∀ d i, m.frameIn.readyD d i = m.readyD d i
  | 0, _ => rfl
  | d + 1, i => by
    unfold Main.readyD
    simp only [Main.readyD_frameIn d]
    rfl

theorem Main.enabledD_frameIn : ∀ d i, m.frameIn.enabledD d i = m.enabledD d i
  | 0, _ => rfl
  | d + 1, i => by
    unfold Main.enabledD
    simp only [Main.enabledD_frameIn d]
    rfl

theorem Main.gauntletOpenD_frameIn : ∀ d i, m.frameIn.gauntletOpenD d i = m.gauntletOpenD d i
  | 0, _ => rfl
  | d + 1, i => by
    unfold Main.gauntletOpenD
    simp only [Main.gauntletOpenD_frameIn d]
    rfl

theorem Main.status_frameIn (i : Nat) : m.frameIn.status i = m.status i := by
  have hready : m.frameIn.ready i = m.ready i := m.readyD_frameIn 64 i
  have henabled : m.frameIn.enabled i = m.enabled i := m.enabledD_frameIn 64 i
  have hmoving : m.frameIn.moving i = m.moving i := rfl
  have hwarn : m.frameIn.warnCause i = m.warnCause i := rfl
  unfold Main.status
  rw [hready, henabled, hmoving, hwarn, Main.gauntletOpenD_frameIn]
  rfl

theorem Main.readInst_frameIn (i n : Nat) : m.frameIn.readInst i n = m.readInst i n := by
  have hwarn : m.frameIn.warnCause i = m.warnCause i := rfl
  have hlim : m.frameIn.limStatus i = m.limStatus i := rfl
  have hsp : m.frameIn.posSpWord i = m.posSpWord i := rfl
  unfold Main.readInst
  rw [Main.status_frameIn, hwarn, hlim, hsp]
  rfl

theorem Main.readWord_frameIn (a : Nat) : m.frameIn.readWord a = m.readWord a := by
  have h0 : m.frameIn.readDv (numOf a) = m.readDv (numOf a) := rfl
  have h1 : m.frameIn.readNt (instOf a) (numOf a) = m.readNt (instOf a) (numOf a) := rfl
  have h2 : m.frameIn.readHs (instOf a) (numOf a) = m.readHs (instOf a) (numOf a) := rfl
  have h5 : m.frameIn.readPort (instOf a) (numOf a) = m.readPort (instOf a) (numOf a) := rfl
  have h6 : m.frameIn.readLane (instOf a) (numOf a) = m.readLane (instOf a) (numOf a) := rfl
  have h7 : m.frameIn.readEv (instOf a) (numOf a) = m.readEv (instOf a) (numOf a) := rfl
  have h8 : m.frameIn.readIo (instOf a) (numOf a) = m.readIo (instOf a) (numOf a) := rfl
  have h10 : m.frameIn.readAq (instOf a) (numOf a) = m.readAq (instOf a) (numOf a) := rfl
  have h11 : m.frameIn.readCm (instOf a) (numOf a) = m.readCm (instOf a) (numOf a) := rfl
  have h12 : m.frameIn.readRs (numOf a) = m.readRs (numOf a) := rfl
  have h13 : m.frameIn.readCf (instOf a) (numOf a) = m.readCf (instOf a) (numOf a) := rfl
  have hobj : m.frameIn.obj a = m.obj a := rfl
  unfold Main.readWord
  simp only [h0, h1, h2, h5, h6, h7, h8, h10, h11, h12, h13, hobj, Main.readInst_frameIn]

theorem Main.readData_frameIn (sess a off len : Nat) : m.frameIn.readData sess a off len = m.readData sess a off len := by
  have hcls : ∀ o, m.frameIn.cls sess a o = m.cls sess a o := fun _ => rfl
  have hlop : m.frameIn.lop (opSlot a) = m.lop (opSlot a) := rfl
  have hbytes : m.frameIn.domainBytes a off len = m.domainBytes a off len := rfl
  have hsize : m.frameIn.domainSize a = m.domainSize a := rfl
  have hword : ∀ k, m.frameIn.domainWord a k = m.domainWord a k := fun _ => rfl
  unfold Main.readData
  simp only [hcls, hlop, hbytes, hsize, hword, Main.readWord_frameIn]

end

end Sys2Proof.Machine
end

section
/-! Rind reads, and requests that are queued with a ticket (R91, R134, R135). -/

namespace Sys2Proof.Machine

/-! ### The queue -/

theorem BeItem.length_place (q : BeItem) : ∀ l, (q.place l).length = l.length + 1
  | [] => rfl
  | x :: l => by
    unfold BeItem.place
    split
    · rfl
    · rw [List.length_cons, BeItem.length_place q l, List.length_cons]

/-- R58, R71: a request that enters the queue. -/
theorem Main.enqueueReq_frame (m : Main) (q : BeItem) :
    (∃ o, m.enqueueReq q = { m with
      fab := { m.fab with queue := ({ q with at_ := m.now, frame := m.line.frames } : BeItem).place m.fab.queue }
      objs := o }) ∧ ∀ b, b ≠ O.DV_TOKENS_PEAK → (m.enqueueReq q).obj b = m.obj b :=
  ⟨⟨_, rfl⟩, fun _ hb => Main.objs_keep _ _ _ _ hb⟩

/-- R135: what a queued request leaves of the machine `m`. -/
structure Main.Queued (sess : Nat) (q : BeItem) (m n : Main) : Prop where
  frame : ∃ o e, n = { m with
    fab := { m.fab with queue := ({ q with
      key := { sess := sess, ticket := (m.se sess).ticket }, at_ := m.now, frame := m.line.frames } : BeItem).place m.fab.queue }
    objs := o
    sess := e }
  objs : ∀ b, b ≠ O.DV_TOKENS_PEAK → n.obj b = m.obj b
  se : n.se sess = { m.se sess with
    ticket := ((m.se sess).ticket + 1) % 256, places := (m.se sess).places ++ [{ ticket := (m.se sess).ticket }] }

/-- R135: a request for which there is room. -/
theorem Main.queueReq_of_room {m : Main} {sess : Nat} (q : BeItem) (hn : sess ≠ 9) (hroom : m.beRoom = true)
    (hpl : (m.se sess).places.length < 16) : ∃ n, m.queueReq sess q = (n, { status := aPending, rlen := (m.se sess).ticket }) ∧
    Main.Queued sess q m n := by
  have hroom' : ¬ (!m.beRoom) = true := by rw [hroom]; decide
  obtain ⟨⟨o, hframe⟩, hobjs⟩ := m.enqueueReq_frame { q with key := { sess := sess, ticket := (m.se sess).ticket } }
  unfold Main.queueReq
  dsimp only
  rw [if_neg hroom', if_neg hn, if_neg (Nat.not_le.2 hpl)]
  refine ⟨_, rfl, ?_, hobjs, ?_⟩
  · rw [hframe]
    exact ⟨_, _, rfl⟩
  · rw [Main.se_modSe, if_pos rfl, hframe]
    rfl

/-! ### Records that ask for it -/

section
variable {m : Main} {sess a len : Nat} {o : ObjInfo}

/-- R91: a read of a rind object. -/
theorem Main.readFrame_of_rind {d : List Byte} (hf : m.frontRead sess a false = none) (hi : info? a = some o)
    (hr : o.rind = true) (hd : m.readData sess a 0 len = .inr d) :
    m.readFrame sess a len false [] = (m, { data := d, rlen := d.length }) := by
  have hx : m.offsetWord false [] = ([], m) := rfl
  unfold Main.readFrame
  rw [hx]
  dsimp only
  rw [hf, hi]
  simp only [hr, hd, Bool.not_false, Bool.and_self, if_true]
  rw [Main.fin, Main.noteAbort_ok]

/-- R91, R134: any other read. -/
theorem Main.readFrame_of_plain (hf : m.frontRead sess a false = none) (hi : info? a = some o) (hr : o.rind = false) :
    ∃ k, m.readFrame sess a len false [] = m.queueReq sess { cmd := .read, addr := a, len := len, tokens := k } := by
  have hx : m.offsetWord false [] = ([], m) := rfl
  unfold Main.readFrame
  rw [hx]
  dsimp only
  rw [hf, hi]
  simp only [hr, Bool.false_and, Bool.false_eq_true, if_false]
  exact ⟨_, rfl⟩

/-- R122: a READ_AT with its offset word. -/
theorem Main.readFrame_at {data : List Byte} (hf : m.frontRead sess a true = none) (hi : info? a = some o)
    (hl : 5 ≤ data.length) :
    ∃ k, m.readFrame sess a len true data = m.queueReq sess { cmd := .readAt, addr := a, len := len, data := data, tokens := k } := by
  have hx : m.offsetWord true data = (data, m) := by
    unfold Main.offsetWord
    rw [Bool.true_and, decide_eq_false (Nat.not_lt.2 hl), if_neg Bool.false_ne_true]
  unfold Main.readFrame
  rw [hx]
  dsimp only
  rw [hf, hi]
  simp only [Bool.not_true, Bool.and_false, Bool.false_eq_true, if_false, if_true]
  exact ⟨_, rfl⟩

/-- R122: a READ_AT whose LEN leaves no room for its offset word takes a free one (log 47). -/
theorem Main.readFrame_at_short {data : List Byte} (hf : m.frontRead sess a true = none) (hi : info? a = some o)
    (hl : data.length < 5) : ∃ q, m.readFrame sess a len true data = (m.freeWord.2).queueReq sess q := by
  have hx : m.offsetWord true data = (bytesOfWords [m.freeWord.1], m.freeWord.2) := by
    unfold Main.offsetWord
    rw [Bool.true_and, decide_eq_true hl, if_pos rfl]
  have hf' : m.freeWord.2.frontRead sess a true = none := hf
  unfold Main.readFrame
  rw [hx]
  dsimp only
  rw [hf', hi]
  simp only [Bool.not_true, Bool.and_false, Bool.false_eq_true, if_false, if_true]
  exact ⟨_, rfl⟩

/-- R91, R134: a write that is not carried out at once. -/
theorem Main.writeFrame_of_queued {at_ : Bool} {data : List Byte} (hf : m.frontWrite sess a at_ data = none) (hi : info? a = some o)
    (hstop : (isStop a && !at_) = false) : ∃ k, m.writeFrame sess a at_ data =
      m.queueReq sess { cmd := if at_ then .writeAt else .write, addr := a, len := data.length, data := data, tokens := k } := by
  unfold Main.writeFrame
  rw [hf, hi]
  simp only [hstop, Bool.false_eq_true, if_false]
  exact ⟨_, rfl⟩

end

/-! ### The rows -/

section
variable {q : Req} {s : State} {c : Instr} {w : Bool} {f : Main → Main × Ans}

/-- A row whose record is queued. -/
theorem completes_queued {cmd : QCmd} {len : Nat} {data : List Byte} (hn : q.sess.val ≠ 9)
    (hexec : exec c s = s.onMain (fun m => m.request q w f)) (hh : s.main.hears q.sess w = true)
    (hf : ∃ k, f (s.heard q.sess) = (s.heard q.sess).queueReq q.sess
      { cmd := cmd, addr := q.addr.toNat, len := len, data := data, tokens := k })
    (hroom : (s.start.touch q.sess).beRoom = true) (hpl : (s.main.se q.sess).places.length < 16) : Completes c s (fun t =>
      t = { s with main := { s.main with out := t.main.out, sess := t.main.sess, objs := t.main.objs,
                                         line := { s.main.line with frames := s.main.line.frames + 1 },
                                         fab := { s.main.fab with queue := t.main.fab.queue } } } ∧
      ObjsBut s.main t.main [O.DV_TOKENS_PEAK] ∧
      t.main.out.status = some aPending ∧ t.main.out.rlen = (s.main.se q.sess).ticket ∧
      (∃ k, t.main.fab.queue = BeItem.place { key := { sess := q.sess, ticket := (s.main.se q.sess).ticket }, at_ := s.main.now,
                                              frame := s.main.line.frames + 1, cmd := cmd, addr := q.addr.toNat, len := len,
                                              data := data, tokens := k } s.main.fab.queue) ∧
      t.main.se q.sess = { s.main.se q.sess with last := s.main.now, ticket := ((s.main.se q.sess).ticket + 1) % 256,
                                                 places := (s.main.se q.sess).places ++
                                                   [{ ticket := (s.main.se q.sess).ticket }] }) := by
  have hse : (s.heard q.sess).se q.sess = { s.main.se q.sess with last := s.main.now } :=
    (s.se_heard q.sess q.sess).trans (if_pos rfl)
  obtain ⟨k, hk⟩ := hf
  have hpl' : ((s.heard q.sess).se q.sess).places.length < 16 := by rw [hse]; exact hpl
  obtain ⟨n, hn', ⟨o, e, hframe⟩, hobjs, hses⟩ := Main.queueReq_of_room (m := s.heard q.sess)
    { cmd := cmd, addr := q.addr.toNat, len := len, data := data, tokens := k } hn hroom hpl'
  rw [State.onMain_request f hn hh, hk, hn', hse] at hexec
  rw [hse] at hframe hses
  have hheard : ∃ x, s.heard q.sess = { s.start with
    sess := x
    line := { s.main.line with frames := s.main.line.frames + 1 } } := s.heard_frame q.sess
  obtain ⟨x, hx⟩ := hheard
  have hobjs' : ∀ b, (s.heard q.sess).obj b = s.main.obj b := fun _ => rfl
  refine completes_of_exec hexec ⟨?_, fun b hb => ?_, rfl, rfl, ⟨k, ?_⟩, hses⟩
  · rw [hframe, hx]
    rfl
  · exact (hobjs b (by simpa using hb)).trans (hobjs' b)
  · change n.fab.queue = _
    rw [hframe, hx]
    rfl

/-- R91: a row whose record is answered at once. -/
theorem completes_read_rind {d : List Byte} {o : ObjInfo} (hn : q.sess.val ≠ 9) (hh : s.main.hears q.sess false = true)
    (hi : info? q.addr.toNat = some o) (hf : (s.start.touch q.sess).frontRead q.sess q.addr.toNat false = none)
    (hr : o.rind = true) (hd : (s.start.touch q.sess).readData q.sess q.addr.toNat 0 q.len = .inr d) :
    Completes (.read q) s (fun t =>
      t = { s with main := { s.main with out := t.main.out, sess := t.main.sess,
                                         line := { s.main.line with frames := s.main.line.frames + 1 } } } ∧
      t.main.out.status = some 0 ∧ t.main.out.data = d) := by
  have hexec : exec (.read q) s = .next { s with
      main := Main.shown ((s.heard q.sess).readFrame q.sess q.addr.toNat q.len false []) } := State.onMain_request _ hn hh
  have hd' : (s.heard q.sess).readData q.sess q.addr.toNat 0 q.len = .inr d :=
    ((s.start.touch q.sess).readData_frameIn q.sess q.addr.toNat 0 q.len).trans hd
  rw [Main.readFrame_of_rind (m := s.heard q.sess) hf hi hr hd'] at hexec
  refine completes_of_exec hexec ⟨?_, rfl, rfl⟩
  obtain ⟨e, he⟩ := s.heard_frame q.sess
  rw [he]
  rfl

/-- R122: a READ_AT without its offset word. -/
theorem completes_readAt_short {o : ObjInfo} (hn : q.sess.val ≠ 9) (hh : s.main.hears q.sess false = true)
    (hi : info? q.addr.toNat = some o) (hf : (s.start.touch q.sess).frontRead q.sess q.addr.toNat true = none)
    (hl : q.data.length < 5) (hroom : (s.start.touch q.sess).beRoom = true) (hpl : (s.main.se q.sess).places.length < 16) :
    Completes (.readAt q) s (fun t =>
      t.main.out.status = some aPending ∧ t.main.fab.queue.length = s.main.fab.queue.length + 1 ∧
      ObjsBut s.main t.main [O.DV_TOKENS_PEAK]) := by
  have hexec : exec (.readAt q) s = .next { s with
      main := Main.shown ((s.heard q.sess).readFrame q.sess q.addr.toNat q.len true q.data) } := State.onMain_request _ hn hh
  obtain ⟨x, hx⟩ := Main.readFrame_at_short (m := s.heard q.sess) (len := q.len) hf hi hl
  have hpl' : ((s.heard q.sess).freeWord.2.se q.sess).places.length < 16 := by
    have hse : (s.heard q.sess).freeWord.2.se q.sess = { s.main.se q.sess with last := s.main.now } :=
      (s.se_heard q.sess q.sess).trans (if_pos rfl)
    rw [hse]
    exact hpl
  obtain ⟨n, hn', ⟨p, e, hframe⟩, hobjs, -⟩ := Main.queueReq_of_room (m := (s.heard q.sess).freeWord.2) x hn hroom hpl'
  rw [hx, hn'] at hexec
  refine completes_of_exec hexec ⟨rfl, ?_, fun b hb => ?_⟩
  · change n.fab.queue.length = _
    rw [hframe]
    exact BeItem.length_place _ _
  · exact (hobjs b (by simpa using hb)).trans rfl

end

/-- Settles O38. -/
theorem requestsAreQueuedWithATicket : Obligations.RequestsAreQueuedWithATicket := by
  unfold Obligations.RequestsAreQueuedWithATicket
  intro q o s hn hi
  refine ⟨fun hh => ⟨fun hf hr d hd => completes_read_rind hn hh hi hf hr hd, fun hf hr hroom => ?_, fun hf hl hroom => ?_,
      fun hf hl hroom => completes_readAt_short hn hh hi hf hl hroom.1 hroom.2⟩,
    fun hh => ⟨fun hf hstop hroom => ?_, fun hf hroom => ?_⟩⟩
  · exact completes_queued hn rfl hh (Main.readFrame_of_plain (m := s.heard q.sess) hf hi hr) hroom.1 hroom.2
  · exact completes_queued hn rfl hh (Main.readFrame_at (m := s.heard q.sess) hf hi hl) hroom.1 hroom.2
  · exact completes_queued hn rfl hh
      (Main.writeFrame_of_queued (m := s.heard q.sess) (at_ := false) hf hi (by rw [hstop]; rfl)) hroom.1 hroom.2
  · exact completes_queued hn rfl hh
      (Main.writeFrame_of_queued (m := s.heard q.sess) (at_ := true) hf hi (Bool.and_false _)) hroom.1 hroom.2

end Sys2Proof.Machine
end

section
/-! The host port (R513-R524): the frames it refuses, and the one that READ_INC takes. -/

namespace Sys2Proof.Machine

/-- The objects of the host port stand apart from each other and from those of the sessions. -/
theorem hsAddr_ne_node {n k b : Nat} (hb : b < 2 ^ 20) : hsAddr n k ≠ b := by
  unfold hsAddr
  omega

/-! ### Frames with a request -/

/-- The port as a frame begins: the refusal of the frame before is gone, the mode is noted, the frame counted. -/
def State.portFrame (s : State) (mode3 : Bool) : Main :=
  ({ s.start.frameIn with host := { s.main.host with refusal := none } }.setObj O.DV_LP_MODE (if mode3 then 3 else 0)).inc
    O.DV_LP_FRAMES

theorem State.portStart_frame (s : State) (mode3 : Bool) :
    (s.portStart mode3).frameIn.host = { s.main.host with refusal := none } ∧ (s.portStart mode3).frameIn.fab = s.main.fab := by
  have h : ∃ o e, s.portStart mode3 = { s.start with
      host := { s.main.host with refusal := none }
      objs := o
      sess := e } := ⟨_, _, rfl⟩
  obtain ⟨o, e, h⟩ := h
  rw [h]
  exact ⟨rfl, rfl⟩

theorem State.obj_portFrame (s : State) (mode3 : Bool) {b : Nat} (h1 : b ≠ O.DV_LP_MODE) (h2 : b ≠ O.DV_LP_FRAMES) :
    (s.portFrame mode3).obj b = s.main.obj b :=
  (Main.objs_keep _ _ _ _ h2).trans (Main.objs_keep _ _ _ _ h1)

/-- R520: a reply is shown, and nothing else. -/
theorem Main.presents_frame (m : Main) (r : HostReply) : (m.presents r).host = m.host ∧
    (∀ b, (m.presents r).obj b = m.obj b) ∧ (m.presents r).fab = m.fab := ⟨rfl, fun _ => rfl, rfl⟩

theorem Main.obj_hostRefuse (m : Main) (c n b : Nat) : (m.hostRefuse c n).obj b = m.obj b := rfl

/-- R521: a request that comes while another is unfinished. -/
def Main.portBusy (m : Main) (q : Req) : Main :=
  ((m.noteAbort 9 aBusy q.addr.toNat).inc O.DV_LP_BUSY_COUNT).hostRefuse aBusy q.seq.toNat

theorem Main.portBusy_spec (m : Main) (q : Req) :
    (m.portBusy q).host = { m.host with refusal := some { status := aBusy, seq := q.seq.toNat } } ∧
    (m.portBusy q).obj O.DV_LP_BUSY_COUNT = (m.obj O.DV_LP_BUSY_COUNT + 1) % 2 ^ 36 ∧ (m.portBusy q).fab = m.fab := by
  have hobj : (m.noteAbort 9 aBusy q.addr.toNat).obj O.DV_LP_BUSY_COUNT = m.obj O.DV_LP_BUSY_COUNT :=
    Main.noteAbort_obj _ _ _ _ _ (hsAddr_ne_node (by decide)).symm (hsAddr_ne_node (by decide)).symm
  obtain ⟨o, hnote⟩ := m.noteAbort_frame 9 aBusy q.addr.toNat
  have hcount := (m.noteAbort 9 aBusy q.addr.toNat).obj_inc_same O.DV_LP_BUSY_COUNT
  obtain ⟨p, hinc⟩ := (m.noteAbort 9 aBusy q.addr.toNat).setObj_frame O.DV_LP_BUSY_COUNT
    (((m.noteAbort 9 aBusy q.addr.toNat).obj O.DV_LP_BUSY_COUNT + 1) % 2 ^ 36)
  have hframe : (m.noteAbort 9 aBusy q.addr.toNat).inc O.DV_LP_BUSY_COUNT = { m with objs := p } := by
    rw [Main.inc, hinc, hnote]
  unfold Main.portBusy
  rw [hframe] at hcount ⊢
  exact ⟨rfl, hcount.trans (by rw [hobj]), rfl⟩

section
variable {q : Req} {s : State} {c : Instr} {w : Bool} {f : Main → Main × Ans}

/-- R515: a frame with a request, on the port while it is heard. -/
theorem State.onMain_hostRequest (hn : q.sess.val = 9) (hh : s.main.hears 9 false = true) :
    s.onMain (fun m => m.request q w f) = .next { s with main := s.start.frameIn.hostRequest q f } := by
  have hhears : s.start.frameIn.hears 9 w = true := hh
  have hreq : s.start.request q w f = s.start.frameIn.hostRequest q f := by
    unfold Main.request
    dsimp only
    rw [hn, hhears]
    rfl
  change Host.Outcome.next { s with main := s.start.request q w f } = _
  rw [hreq]

theorem State.hostRequest_long (hl : 4096 < q.len) : s.start.frameIn.hostRequest q f =
    (((s.portFrame q.mode3).inc O.DV_LP_FRAME_ERR).hostRefuse aFrame q.seq.toNat).presents s.main.host.present := by
  unfold Main.hostRequest
  simp only [if_pos hl]
  rfl

theorem State.hostRequest_busy (hl : q.len ≤ 4096) (hb : s.main.host.busy = true) : s.start.frameIn.hostRequest q f =
    ((s.portStart q.mode3).frameIn.portBusy q).presents s.main.host.present := by
  have hb' : (s.portStart q.mode3).frameIn.host.busy = true := hb
  unfold Main.hostRequest
  simp only [if_neg (Nat.not_lt.2 hl)]
  change Main.presents (if (s.portStart q.mode3).frameIn.host.busy = true then _ else _) _ = _
  rw [if_pos hb']
  rfl

theorem State.hostRequest_taken (hl : q.len ≤ 4096) (hb : s.main.host.busy = false)
    (hne : (f (s.portStart q.mode3).frameIn).2.status ≠ aBusy) : s.start.frameIn.hostRequest q f =
    Main.presents { (f (s.portStart q.mode3).frameIn).1 with host := {
      busy := (f (s.portStart q.mode3).frameIn).2.status == aPending, seq := q.seq.toNat, refusal := none,
      reply := { status := (f (s.portStart q.mode3).frameIn).2.status, seq := q.seq.toNat,
                 data := (f (s.portStart q.mode3).frameIn).2.data } } } s.main.host.present := by
  have hb' : ¬ (s.portStart q.mode3).frameIn.host.busy = true := fun h => Bool.noConfusion (hb.symm.trans h)
  unfold Main.hostRequest
  simp only [if_neg (Nat.not_lt.2 hl)]
  change Main.presents (if (s.portStart q.mode3).frameIn.host.busy = true then _ else
    if (f (s.portStart q.mode3).frameIn).2.status = aBusy then _ else _) _ = _
  rw [if_neg hb', if_neg hne]
  rfl

/-- R520: any frame shows the reply held at its start. -/
theorem Main.out_hostRequest (m : Main) : (m.hostRequest q f).out.status = some m.host.present.status ∧
    (m.hostRequest q f).out.data = m.host.present.data := ⟨rfl, rfl⟩

/-- R516-R521: a request that the port refuses. -/
theorem hostFrame_refuses (hn : q.sess.val = 9) (hh : s.main.hears 9 false = true)
    (hexec : exec c s = s.onMain (fun m => m.request q w f)) : Completes c s (fun t =>
      t.main.out.status = some s.main.host.present.status ∧ t.main.out.data = s.main.host.present.data ∧
      (4096 < q.len → t.main.host = { s.main.host with refusal := some { status := aFrame, seq := q.seq.toNat } } ∧
        t.main.obj O.DV_LP_FRAME_ERR = (s.main.obj O.DV_LP_FRAME_ERR + 1) % 2 ^ 36) ∧
      (q.len ≤ 4096 → s.main.host.busy = true →
        t.main.host = { s.main.host with refusal := some { status := aBusy, seq := q.seq.toNat } } ∧
        t.main.obj O.DV_LP_BUSY_COUNT = (s.main.obj O.DV_LP_BUSY_COUNT + 1) % 2 ^ 36 ∧ t.main.fab = s.main.fab)) := by
  rw [State.onMain_hostRequest hn hh] at hexec
  obtain ⟨hstatus, hdata⟩ := Main.out_hostRequest (q := q) (f := f) s.start.frameIn
  refine completes_of_exec hexec ⟨hstatus, hdata, fun hl => ?_, fun hl hb => ?_⟩
  · rw [State.hostRequest_long hl]
    obtain ⟨-, p2, -⟩ := (((s.portFrame q.mode3).inc O.DV_LP_FRAME_ERR).hostRefuse aFrame q.seq.toNat).presents_frame
      s.main.host.present
    refine ⟨rfl, ((p2 _).trans (Main.obj_hostRefuse _ _ _ _)).trans ?_⟩
    rw [Main.obj_inc_same, State.obj_portFrame s q.mode3 (by decide) (by decide)]
  · rw [State.hostRequest_busy hl hb]
    obtain ⟨hhost, hfab⟩ := s.portStart_frame q.mode3
    have hobj : (s.portStart q.mode3).frameIn.obj O.DV_LP_BUSY_COUNT = s.main.obj O.DV_LP_BUSY_COUNT :=
      s.obj_portFrame q.mode3 (by decide) (by decide)
    obtain ⟨h1, h2, h3⟩ := (s.portStart q.mode3).frameIn.portBusy_spec q
    rw [hhost] at h1
    obtain ⟨p1, p2, p3⟩ := ((s.portStart q.mode3).frameIn.portBusy q).presents_frame s.main.host.present
    exact ⟨p1.trans h1, (p2 _).trans (h2.trans (by rw [hobj])), p3.trans (h3.trans hfab)⟩

/-! ### READ_INC -/

theorem Main.incWord_frameIn (m : Main) (n a : Nat) : m.frameIn.incWord n a = m.incWord n a := by
  have hfront : m.frameIn.frontRead n a false = m.frontRead n a false := rfl
  unfold Main.incWord
  simp only [hfront, Main.readData_frameIn]

/-- R524: a READ_INC that is accepted. -/
theorem Main.incFrame_of_room {m : Main} {a len : Nat} {w : Word} (hw : m.incWord 9 a = .inr w) (hroom : m.beRoom = true) :
    m.incFrame a len = (m.enqueueReq { key := { sess := 9 }, cmd := .readInc, addr := a, len := len,
                                                  tokens := beTokens (bytesFor (2 * len / 9)) }, { status := aPending }) := by
  have hroom' : ¬ (!m.beRoom) = true := by rw [hroom]; decide
  unfold Main.incFrame
  rw [hw]
  dsimp only [Main.queueReq]
  rw [if_neg hroom', if_pos rfl]

theorem readInc_queued (hn : q.sess.val = 9) (hh : s.main.hears 9 false = true) (hl : q.len ≤ 4096)
    (hb : s.main.host.busy = false) {x : Word} (hw : (s.portStart q.mode3).incWord 9 q.addr.toNat = .inr x)
    (hroom : (s.portStart q.mode3).beRoom = true) : Completes (.readInc q) s (fun t =>
      t.main.host.busy = true ∧ t.main.host.seq = q.seq.toNat ∧
      ∃ k, t.main.fab.queue = BeItem.place { key := { sess := 9 }, at_ := s.main.now, frame := s.main.line.frames + 1,
                                             cmd := .readInc, addr := q.addr.toNat, len := q.len, tokens := k }
        s.main.fab.queue) := by
  let f : Main → Main × Ans := fun m => if q.sess.val = 9 then m.incFrame q.addr.toNat q.len else (m, { status := aBadCommand })
  let it : BeItem := { key := { sess := 9 }, cmd := .readInc, addr := q.addr.toNat, len := q.len,
                       tokens := beTokens (bytesFor (2 * q.len / 9)) }
  have hf : f (s.portStart q.mode3).frameIn = ((s.portStart q.mode3).frameIn.enqueueReq it, { status := aPending }) :=
    (if_pos hn).trans (Main.incFrame_of_room (((s.portStart q.mode3).incWord_frameIn 9 q.addr.toNat).trans hw) hroom)
  have hexec : exec (.readInc q) s = .next { s with main := s.start.frameIn.hostRequest q f } := State.onMain_hostRequest hn hh
  have hne : (f (s.portStart q.mode3).frameIn).2.status ≠ aBusy := by
    rw [hf]
    exact (by decide : aPending ≠ aBusy)
  obtain ⟨⟨o, hframe⟩, -⟩ := (s.portStart q.mode3).frameIn.enqueueReq_frame it
  have hqueue : ((s.portStart q.mode3).frameIn.enqueueReq it).fab.queue =
      ({ it with at_ := s.main.now, frame := s.main.line.frames + 1 } : BeItem).place s.main.fab.queue := by
    rw [hframe]
    rfl
  rw [State.hostRequest_taken hl hb hne, hf] at hexec
  exact completes_of_exec hexec ⟨rfl, rfl, _, hqueue⟩

/-- R120: elsewhere its code is not defined. -/
theorem readInc_undefined (hn : q.sess.val ≠ 9) (hh : s.main.hears q.sess false = true) : Completes (.readInc q) s (fun t =>
    t.main.out.status = some aBadCommand) := by
  have hexec : exec (.readInc q) s = .next { s with
      main := Main.shown (if q.sess.val = 9 then (s.heard q.sess).incFrame q.addr.toNat q.len
        else (s.heard q.sess, { status := aBadCommand })) } :=
    State.onMain_request _ hn hh
  rw [if_neg hn] at hexec
  exact completes_of_exec hexec rfl

end

/-! ### Frames without a request -/

section
variable {mode3 : Bool} {s : State}

theorem nullFrame_leaves (hopen : s.main.portOpen = true) : Completes (.nullFrame mode3) s (fun t =>
    t.main.host = { s.main.host with refusal := none } ∧
    t.main.out.status = some s.main.host.present.status ∧ (t.main.se 9).last = s.main.now ∧
    t.main.obj O.DV_LP_FRAMES = (s.main.obj O.DV_LP_FRAMES + 1) % 2 ^ 36) := by
  have hopen' : s.start.portOpen = true := hopen
  have hexec : exec (.nullFrame mode3) s = .next { s with main := (s.start.hostFrame mode3).touch 9 } := by
    change Host.Outcome.next { s with
      main := if s.start.portOpen = true then (s.start.hostFrame mode3).touch 9 else s.start.portMute } = _
    rw [if_pos hopen']
  refine completes_of_exec hexec ⟨rfl, rfl, ?_, ?_⟩
  · rw [Main.se_touch, if_pos rfl]
    rfl
  · change ((Main.setObj { s.start with host := { s.start.host with refusal := none } } O.DV_LP_MODE _).inc
      O.DV_LP_FRAMES).obj O.DV_LP_FRAMES = _
    rw [Main.obj_inc_same, Main.objs_keep _ _ _ _ (by decide)]
    rfl

/-- R518: what the refusal writes. -/
theorem Main.host_refuseFrame (m : Main) (c : Nat) (b : List Byte) :
    (m.refuseFrame c b).host = { m.host with refusal := some { status := c, seq := (b.getD 1 0).toNat } } := by
  unfold Main.refuseFrame
  dsimp only
  split
  · rfl
  · split <;> rfl

theorem hostFrame_refused {b : List Byte} (hopen : s.main.portOpen = true) (hb : b.headD 0 ≠ 0) (hc : hostFrameCode b ≠ 0) :
    Completes (.hostFrameRefused mode3 b) s (fun t =>
      t.main.host = { s.main.host with refusal := some { status := hostFrameCode b, seq := (b.getD 1 0).toNat } } ∧
      t.main.out.status = some s.main.host.present.status ∧ (b.length < 7 → hostFrameCode b = aFrame)) := by
  have hopen' : ¬ (!s.start.portOpen) = true := by
    have h : s.start.portOpen = true := hopen
    rw [h]
    decide
  have hexec : exec (.hostFrameRefused mode3 b) s = .next { s with
      main := { (s.start.hostFrame mode3).refuseFrame (hostFrameCode b) b with out := (s.start.hostFrame mode3).out } } := by
    change Host.Outcome.next { s with
      main :=
        if (!s.start.portOpen) = true then s.start.portMute
        else if b.headD 0 = 0 then (s.start.hostFrame mode3).touch 9
        else match hostFrameCode b with
          | 0 => s.start
          | c => { (s.start.hostFrame mode3).refuseFrame c b with out := (s.start.hostFrame mode3).out } } = _
    rw [if_neg hopen', if_neg hb]
    generalize hostFrameCode b = code at hc
    cases code with
    | zero => exact absurd rfl hc
    | succ n => rfl
  refine completes_of_exec hexec ⟨?_, rfl, fun hlen => ?_⟩
  · exact Main.host_refuseFrame _ _ _
  · unfold hostFrameCode
    exact if_pos (Or.inl hlen)

end

/-- Settles O40. -/
theorem hostPortFrames : Obligations.HostPortFrames := by
  unfold Obligations.HostPortFrames
  refine ⟨fun q c s hn hc hh => ?_, fun q s => ⟨fun hn hh hl hb ⟨x, hw⟩ hroom => readInc_queued hn hh hl hb hw hroom,
    fun hn hh => readInc_undefined hn hh⟩,
    fun mode3 b s hopen => ⟨nullFrame_leaves hopen, fun hb hc => hostFrame_refused hopen hb hc⟩⟩
  rcases hc with rfl | rfl | rfl | rfl | rfl | rfl | rfl <;> exact hostFrame_refuses hn hh rfl

end Sys2Proof.Machine
end

section
/-! The end of queued work: a queued read, an answer place, a peripheral transfer (R37, R134-R136, R527, R528). -/

namespace Sys2Proof.Machine

/-! ### A queued read -/

/-- R136: an answer placed with its session. -/
theorem Main.deliver_ok {m : Main} {k : Key} (a : Nat) (d : List Byte) (hn : k.sess ≠ 9) : m.deliver k a 0 d =
    m.modSe k.sess (fun s => { s with places := s.places.map (fun p => if p.ticket = k.ticket ∧ p.stage = 0 then
      { p with stage := 1, status := 0, len := d.length, data := d } else p) }) := by
  unfold Main.deliver
  rw [Main.noteAbort_ok]
  exact if_neg (fun h => hn h.1)

/-- R134: a queued read returns its data. -/
theorem Main.runItem_read {m : Main} {x : BeItem} {d : List Byte} (hcmd : x.cmd = .read) (hbar : m.barred x.addr = false)
    (hd : m.readData x.key.sess x.addr 0 x.len = .inr d) : m.runItem x = m.deliver x.key x.addr 0 d := by
  unfold Main.runItem
  rw [hcmd]
  dsimp only
  rw [hbar, if_neg Bool.false_ne_true, hd]

theorem answerReady_read {sess : Sess} {ticket : Byte} {x : BeItem} {rest : List BeItem} {d : List Byte} {s : State}
    (hn : sess.val ≠ 9) (hrun : s.main.tb.running = true) (hq : s.main.fab.queue = x :: rest) (hsess : x.key.sess = sess.val)
    (htick : x.key.ticket = ticket.toNat) (hcmd : x.cmd = .read) (hw : s.main.fab.waiting = [])
    (hc : s.main.fab.cells.length < 16)
    (hbar : Main.barred { s.start with fab := { s.main.fab with queue := rest } } x.addr = false)
    (hd : Main.readData { s.start with fab := { s.main.fab with queue := rest } } sess x.addr 0 x.len = .inr d) :
    Completes (.answerReady sess ticket) s (fun t =>
      t = { s with main := { s.main with out := {}, sess := t.main.sess, fab := { s.main.fab with queue := rest } } } ∧
      (t.main.se sess).places = (s.main.se sess).places.map (fun p => if p.ticket = ticket.toNat ∧ p.stage = 0 then
        { p with stage := 1, status := 0, len := d.length, data := d } else p) ∧
      ∀ k, k ≠ sess.val → t.main.se k = s.main.se k) := by
  let m : Main := { s.start with fab := { s.main.fab with queue := rest } }
  have hq' : s.start.fab.queue = x :: rest := hq
  have hturn : s.start.beTurn = true := by
    have hw' : s.start.fab.waiting = [] := hw
    have hc' : s.start.fab.cells.length < 16 := hc
    unfold Main.beTurn
    rw [hw', decide_eq_true hc']
    rfl
  have hgate : ¬ (x.key.sess ≠ sess.val ∨ (sess.val ≠ 9 ∧ x.key.ticket ≠ ticket.toNat) ∨ (!s.start.beTurn) = true) := by
    rw [hturn]
    exact fun h => h.elim (absurd hsess) (fun h => h.elim (fun h => h.2 htick) (by decide))
  have hitem : m.runItem x = m.modSe sess (fun s => { s with places := s.places.map (fun p =>
      if p.ticket = ticket.toNat ∧ p.stage = 0 then { p with stage := 1, status := 0, len := d.length, data := d } else p) }) := by
    rw [Main.runItem_read hcmd hbar (by rw [hsess]; exact hd), Main.deliver_ok _ _ (by rw [hsess]; exact hn), hsess, htick]
  have hexec : exec (.answerReady sess ticket) s = .next { s with main := m.runItem x } := by
    change Host.Outcome.next { s with
      main := match s.start.fab.queue with
        | [] => s.start
        | q :: rest =>
          if q.key.sess ≠ sess.val ∨ (sess.val ≠ 9 ∧ q.key.ticket ≠ ticket.toNat) ∨ (!s.start.beTurn) = true then s.start else
          let m := Main.runItem { s.start with fab := { s.start.fab with queue := rest } } q
          if m.tb.running = true then m else m.answersReady } = _
    rw [hq']
    dsimp only
    have hrun' : (m.runItem x).tb.running = true := by rw [hitem]; exact hrun
    rw [if_neg hgate]
    exact congrArg (fun n => Host.Outcome.next { s with main := n }) (if_pos hrun')
  rw [hitem] at hexec
  refine completes_of_exec hexec ⟨rfl, ?_, fun k hk => ?_⟩
  · rw [Main.se_modSe, if_pos rfl]
    rfl
  · rw [Main.se_modSe, if_neg hk]
    rfl

/-! ### An answer place -/

theorem answerPlace_freed (sess : Sess) (ticket : Byte) (s : State) : Completes (.answerPlaceFreed sess ticket) s (fun t =>
    t = { s with main := { s.main with out := {}, sess := t.main.sess } } ∧
    ∀ p, p ∈ (t.main.se sess).places ↔ p ∈ (s.main.se sess).places ∧ ¬(p.ticket = ticket.toNat ∧ p.stage = 2 ∧
      p.ready + s.main.obj (ntAddr 0 O.NT_PEND_KEEP) * unitsPerMs ≤ s.main.now)) := by
  have hexec : exec (.answerPlaceFreed sess ticket) s = .next { s with
      main := s.start.modSe sess (fun x => { x with places := x.places.filter (fun p =>
        !(p.ticket == ticket.toNat && p.stage == 2 &&
          decide (p.ready + s.main.obj (ntAddr 0 O.NT_PEND_KEEP) * unitsPerMs ≤ s.main.now))) }) } := rfl
  refine completes_of_exec hexec ⟨rfl, fun p => ?_⟩
  rw [Main.se_modSe, if_pos rfl]
  change p ∈ List.filter _ (s.main.se sess).places ↔ _
  simp only [List.mem_filter, Bool.not_eq_true', Bool.and_eq_false_iff, beq_eq_false_iff_ne, decide_eq_false_iff_not]
  tauto

/-! ### A transfer -/

/-- R527: a byte as it passes over the wire. -/
def wireByte (lsb : Bool) (b : Byte) : Byte := if lsb then b.reverse else b

theorem wireBytes_eq_map (lsb : Bool) (l : List Byte) : wireBytes lsb l = l.map (wireByte lsb) := by
  cases lsb
  · exact (List.map_id l).symm
  · rfl

/-- R528: the bytes that a transfer leaves. -/
theorem getD_received (lsb : Bool) (rx : List Byte) {n k : Nat} (hk : k < n) :
    (wireBytes lsb ((List.range n).map (fun k => rx.getD k 0))).getD k 0 = wireByte lsb (rx.getD k 0) := by
  rw [wireBytes_eq_map, List.getD_eq_getElem?_getD, List.getElem?_map, List.getElem?_map, List.getElem?_range hk]
  rfl

theorem psTransfer_ends (n : Fin 2) (rx : List Byte) (s : State) (hb : (s.main.psm n).busy = true)
    (ht : (s.main.psm n).startT + s.main.psTime n ≤ s.main.now) : Completes (.psTransferEnd n rx) s (fun t =>
    let wire := fun b : Byte => if s.main.objB (psAddr n O.PSn_LSB_FIRST) then b.reverse else b
    (t.main.psm n).busy = false ∧ (t.main.psm n).tx = (s.main.psm n).tx ∧
    t.main.out.frame = some (4 + n.val, (s.main.psm n).tx.map wire) ∧
    (t.main.psm n).rx.length = (s.main.psm n).tx.length ∧ ∀ k, k < (s.main.psm n).tx.length →
      (t.main.psm n).rx.getD k 0 = wire (rx.getD k 0)) := by
  let p := s.main.psm n
  let lsb := s.main.objB (psAddr n O.PSn_LSB_FIRST)
  let m := s.start.psAnswer n 0
  have hgate : ¬ (!(s.start.psm n).busy || decide (s.start.now < (s.start.psm n).startT + s.start.psTime n)) = true := by
    have hb' : (s.start.psm n).busy = true := hb
    have ht' : ¬ s.start.now < (s.start.psm n).startT + s.start.psTime n := Nat.not_lt.2 ht
    rw [hb', decide_eq_false ht']
    decide
  have hexec : exec (.psTransferEnd n rx) s = .next { s with
      main := Main.modPs { m with out := { m.out with frame := some (4 + n.val, wireBytes lsb p.tx) } } n (fun _ => {
        tx := p.tx, rx := wireBytes lsb ((List.range p.tx.length).map (fun k => rx.getD k 0)) }) } := by
    change Host.Outcome.next { s with
      main :=
        if (!(s.start.psm n).busy || decide (s.start.now < (s.start.psm n).startT + s.start.psTime n)) = true then s.start
        else Main.modPs { m with out := { m.out with frame := some (4 + n.val, wireBytes lsb p.tx) } } n (fun _ => {
          tx := p.tx, rx := wireBytes lsb ((List.range p.tx.length).map (fun k => rx.getD k 0)) }) } = _
    rw [if_neg hgate]
  refine completes_of_exec hexec ⟨?_, ?_, ?_, ?_, fun k hk => ?_⟩
  · rw [Main.psm_modPs, if_pos rfl]
  · rw [Main.psm_modPs, if_pos rfl]
  · exact congrArg (fun l => some (4 + n.val, l)) (wireBytes_eq_map lsb p.tx)
  · rw [Main.psm_modPs, if_pos rfl, wireBytes_eq_map, List.length_map, List.length_map, List.length_range]
  · rw [Main.psm_modPs, if_pos rfl]
    exact getD_received lsb rx hk

/-- Settles O41. -/
theorem queuedWorkEnds : Obligations.QueuedWorkEnds := by
  unfold Obligations.QueuedWorkEnds
  exact ⟨fun sess ticket x rest d s hn hrun hq hsess htick hcmd hw hc hbar hd =>
      answerReady_read hn hrun hq hsess htick hcmd hw hc hbar hd, answerPlace_freed, psTransfer_ends⟩

end Sys2Proof.Machine
end

section
/-! SEGMENT: a segment is compared without its reserved bits (R6, R365). -/

namespace Sys2Proof.Machine

/-- A segment whose word 0 has a reserved bit set. -/
def reservedBitWords : List Word := [1, 0, 90000000, 0, 0, 0, 100, 100, 0]

/-- The record that brings it to virtual master 2. -/
def reservedBitRecord : Req :=
  { sess := 0, seq := 5, mode3 := false, addr := BitVec.ofNat 24 (cmAddr 2 O.CM_VM_SEGMENT), len := 0,
    data := bytesOfWords reservedBitWords }

/-- Master 2 holds the segment already: as it is held, its reserved bits read 0. -/
def segmentHeld : State :=
  .inService (fun m => (m.setObj (ntAddr 0 O.NT_SYNC_MODE) 1).modVm 2 (fun x => { x with queue := [segmentOf reservedBitWords] }))

/-- The record passes its checks, and no held segment has its very words. -/
theorem segmentHeld_accepts : segmentHeld.main.hears 0 true = true ∧
    (segmentHeld.start.touch 0).frontWrite 0 reservedBitRecord.addr.toNat false reservedBitRecord.data = none ∧
    (info? reservedBitRecord.addr.toNat).bind (fun o => parseWrite reservedBitRecord.addr.toNat o false reservedBitRecord.data) =
      some { words := reservedBitWords } ∧
    (segmentHeld.start.touch 0).bootBars reservedBitRecord.addr.toNat = false ∧
    (segmentHeld.main.vmst 2).held.any (fun g => g.raw == reservedBitWords) = false ∧
    (segmentHeld.start.touch 0).segRefusal 2 (segmentOf reservedBitWords) = none := by
  decide +kernel

/-- It is the same segment again: the master receives none. -/
theorem segmentHeld_keeps : (segmentHeld.main.vmst 2).placing = [] ∧
    ((segmentHeld.after (.segment reservedBitRecord)).main.vmst 2).placing = [] := by
  decide +kernel

/-- Refutes O42: a held segment reads 0 in its reserved bits, and a record that brings it once more with such a bit set is the
same segment again, though its words differ: the master does not receive it. -/
theorem not_broadcastWrites : ¬ Obligations.BroadcastWrites := by
  unfold Obligations.BroadcastWrites
  intro h
  obtain ⟨hhears, hfront, hparse, hboot, hheld, hrefusal⟩ := segmentHeld_accepts
  obtain ⟨o, hinfo, hdata⟩ := Option.bind_eq_some_iff.1 hparse
  obtain ⟨-, -, -, hsegment⟩ := h reservedBitRecord segmentHeld (by decide) hhears
  obtain ⟨-, hreceived⟩ := (hsegment o _ (by decide) (by decide) hfront hinfo hdata hboot).after
  obtain ⟨-, hplacing, -⟩ := hreceived hheld hrefusal
  obtain ⟨hbefore, hafter⟩ := segmentHeld_keeps
  have hgrows : ((segmentHeld.after (.segment reservedBitRecord)).main.vmst 2).placing =
      [] ++ [(segmentHeld.main.now, segmentOf reservedBitWords)] := hbefore ▸ hplacing
  rw [hafter] at hgrows
  exact List.cons_ne_nil _ _ hgrows.symm

end Sys2Proof.Machine
end

section
/-! Network events and the entries of a CARRIER (R144, R145, R386). -/

namespace Sys2Proof.Machine

/-! ### Edges that reach the latch units -/

/-- Of the main die only the latch units and their flags have changed. -/
structure Main.LatchesOnly (m n : Main) : Prop where
  frame : ∃ o l, n = { m with
    objs := o
    ev := { m.ev with latches := l } }
  obj : ∀ b, (∀ u, b ≠ evAddr u O.EV_LT_FLAGS) → n.obj b = m.obj b

section
variable {m n k : Main}

theorem Main.LatchesOnly.refl (m : Main) : Main.LatchesOnly m m := ⟨⟨m.objs, m.ev.latches, rfl⟩, fun _ _ => rfl⟩

theorem Main.LatchesOnly.trans (h : Main.LatchesOnly m n) (h' : Main.LatchesOnly n k) : Main.LatchesOnly m k := by
  refine ⟨?_, fun b hb => (h'.obj b hb).trans (h.obj b hb)⟩
  obtain ⟨o, l, rfl⟩ := h.frame
  obtain ⟨o', l', rfl⟩ := h'.frame
  exact ⟨o', l', rfl⟩

theorem Main.LatchesOnly.modLt (m : Main) (u : Nat) (f : Latch → Latch) : Main.LatchesOnly m (m.modLt u f) :=
  ⟨⟨m.objs, _, rfl⟩, fun _ _ => rfl⟩

theorem Main.LatchesOnly.ltFlag (m : Main) (u b : Nat) : Main.LatchesOnly m (m.ltFlag u b) :=
  ⟨⟨_, m.ev.latches, rfl⟩, fun c hc => Main.objs_keep _ _ _ c (hc u)⟩

/-- R378: what an edge does to one latch unit: nothing, one that waits, or the flag of a lost one. -/
theorem Main.LatchesOnly.edge {x : Main} (h : Main.LatchesOnly m x) (u b : Nat) (f : Latch → Latch) (p q : Prop) [Decidable p]
    [Decidable q] : Main.LatchesOnly m (if p then x else if q then x.modLt u f else x.ltFlag u b) := by
  split
  · exact h
  · split
    · exact h.trans (.modLt x u f)
    · exact h.trans (.ltFlag x u b)

/-- R378, R379: an edge reaches the latch units only. -/
theorem Main.LatchesOnly.latchEdges (m : Main) (kind num : Nat) (level : Bool) (t : Nat) :
    Main.LatchesOnly m (m.latchEdges kind num level t) := by
  unfold Main.latchEdges
  exact forEach_keeps (Main.LatchesOnly m) _ (fun u x hx => hx.edge u 0 _ _ _) _ m (.refl m)

end

/-- The flags of a latch unit are no other object of the event unit. -/
theorem evAddr_ne_flags {u v n : Nat} (hn : n < 4096) (h : n ≠ O.EV_LT_FLAGS) : evAddr u n ≠ evAddr v O.EV_LT_FLAGS := by
  unfold evAddr
  unfold O.EV_LT_FLAGS at h ⊢
  omega

/-! ### A network event -/

theorem EventEntry.words_eq {e : EventEntry} (hv : e.valid = true) : EventEntry.words e =
    [BitVec.ofNat 36 (2 ^ 35 + e.kind.toNat * 2 ^ 24 + e.source.toNat * 2 ^ 12 + e.id.toNat),
     BitVec.ofNat 36 (e.time / 2 ^ 36), BitVec.ofNat 36 e.time, e.value] := by
  unfold EventEntry.words wordN
  rw [hv]
  rfl

/-- The last of what a ring keeps is the last that came. -/
theorem getLast?_drop_append {α : Type} (l : List α) (x : α) (n : Nat) :
    ((l ++ [x]).drop ((l ++ [x]).length - (n + 1))).getLast? = some x := by
  have hlen : (l ++ [x]).length = l.length + 1 := by rw [List.length_append]; rfl
  have hk : ¬ (l ++ [x]).length ≤ (l ++ [x]).length - (n + 1) := by omega
  rw [List.getLast?_drop, if_neg hk, List.getLast?_concat]

/-- R386: what a network event leaves. -/
theorem Main.netEvent_spec (m : Main) (e : EventEntry) (hv : e.valid = true) :
    (m.netEvent e.kind.toNat e.source.toNat e.id.toNat e.time e.value).ev.netrx.getLast? = some (EventEntry.words e) ∧
    (m.netEvent e.kind.toNat e.source.toNat e.id.toNat e.time e.value).obj (evAddr 0 O.EV_NETRX_COUNT) =
      (m.obj (evAddr 0 O.EV_NETRX_COUNT) + 1) % 2 ^ 36 ∧
    (m.netEvent e.kind.toNat e.source.toNat e.id.toNat e.time e.value).line = m.line ∧
    (m.netEvent e.kind.toNat e.source.toNat e.id.toNat e.time e.value).out = m.out := by
  let all := m.ev.netrx ++ [EventEntry.words e]
  let n : Main := { m with ev := { m.ev with netrx := all.drop (all.length - 16) } }
  have hn : m.netEvent e.kind.toNat e.source.toNat e.id.toNat e.time e.value =
      (n.inc (evAddr 0 O.EV_NETRX_COUNT)).latchEdges 3 e.id.toNat true e.time := by
    dsimp only [n, all]
    rw [EventEntry.words_eq hv]
    rfl
  have hlatch := Main.LatchesOnly.latchEdges (n.inc (evAddr 0 O.EV_NETRX_COUNT)) 3 e.id.toNat true e.time
  have hcount := hlatch.obj (evAddr 0 O.EV_NETRX_COUNT) (fun u => evAddr_ne_flags (by decide) (by decide))
  obtain ⟨o, l, hframe⟩ := hlatch.frame
  rw [hn]
  refine ⟨?_, ?_, ?_, ?_⟩
  · rw [hframe]
    exact getLast?_drop_append m.ev.netrx (EventEntry.words e) 15
  · rw [hcount, Main.obj_inc_same]
    rfl
  · rw [hframe]
    rfl
  · rw [hframe]
    rfl

/-! ### Entries that a record brings -/

/-- The key by which an entry is known (R145). -/
def entryKey (e : EventEntry) : Nat × Nat × Nat := (e.source.toNat, e.id.toNat, e.time)

/-- The entry is noted as seen. -/
def Main.noteSeen (m : Main) (e : EventEntry) : Main := { m with line := { m.line with seen := entryKey e :: m.line.seen } }

theorem Main.actEntry_eq (m : Main) (e : EventEntry) : m.actEntry e =
    if (!e.valid || m.line.seen.contains (entryKey e)) = true then m
    else match e.kind.toNat with
      | 0x20 => (m.noteSeen e).aqNet e.id.toNat e.time
      | 0x40 => (m.noteSeen e).netEvent 0x40 e.source.toNat e.id.toNat e.time e.value
      | 0x41 => (m.noteSeen e).netEvent 0x41 e.source.toNat e.id.toNat e.time e.value
      | _ => m.noteSeen e := rfl

theorem Main.actEntry_of_seen {m : Main} {e : EventEntry} (h : m.line.seen.contains (entryKey e) = true) : m.actEntry e = m := by
  rw [Main.actEntry_eq, h, Bool.or_true, if_pos rfl]

theorem Main.actEntry_of_event {m : Main} {e : EventEntry} (hv : e.valid = true) (hk : e.kind = 0x40 ∨ e.kind = 0x41)
    (h : m.line.seen.contains (entryKey e) = false) :
    m.actEntry e = (m.noteSeen e).netEvent e.kind.toNat e.source.toNat e.id.toNat e.time e.value := by
  rw [Main.actEntry_eq, h, hv, if_neg (by decide)]
  rcases hk with hk | hk <;> rw [hk] <;> rfl

/-- An entry acts on neither the queue of the node's own entries nor on what is answered. -/
theorem Main.actEntry_frame (m : Main) (e : EventEntry) : (m.actEntry e).line.txq = m.line.txq ∧ (m.actEntry e).out = m.out := by
  have hnet : ∀ (x : Main) id t, (x.aqNet id t).line = x.line ∧ (x.aqNet id t).out = x.out := by
    intro x id t
    obtain ⟨o, a, hframe⟩ := (Main.AqOnly.aqNet x id t).frame
    rw [hframe]
    exact ⟨rfl, rfl⟩
  have hevent : ∀ (x : Main) kind, (x.netEvent kind e.source.toNat e.id.toNat e.time e.value).line = x.line ∧
      (x.netEvent kind e.source.toNat e.id.toNat e.time e.value).out = x.out := by
    intro x kind
    unfold Main.netEvent
    obtain ⟨o, l, hframe⟩ := (Main.LatchesOnly.latchEdges (Main.inc _ (evAddr 0 O.EV_NETRX_COUNT)) 3 e.id.toNat true e.time).frame
    rw [hframe]
    exact ⟨rfl, rfl⟩
  have hseen : (m.noteSeen e).line.txq = m.line.txq ∧ (m.noteSeen e).out = m.out := ⟨rfl, rfl⟩
  rw [Main.actEntry_eq]
  generalize m.noteSeen e = x at hseen
  split
  · exact ⟨rfl, rfl⟩
  · split
    · obtain ⟨hline, hout⟩ := hnet x e.id.toNat e.time
      rwa [hline, hout]
    · obtain ⟨hline, hout⟩ := hevent x 0x40
      rwa [hline, hout]
    · obtain ⟨hline, hout⟩ := hevent x 0x41
      rwa [hline, hout]
    · exact hseen

theorem Main.actEntries_frame (es : List EventEntry) (m : Main) :
    (es.foldl (fun m e => m.actEntry e) m).line.txq = m.line.txq ∧ (es.foldl (fun m e => m.actEntry e) m).out = m.out := by
  refine foldl_keeps_mem (fun n : Main => n.line.txq = m.line.txq ∧ n.out = m.out) (fun m e => m.actEntry e) es
    (fun e _ n hn => ?_) m ⟨rfl, rfl⟩
  obtain ⟨htxq, hout⟩ := n.actEntry_frame e
  exact ⟨htxq.trans hn.1, hout.trans hn.2⟩

/-- R144: among entries that are all valid there is no place. -/
theorem placeEntry_of_valid (own : EventEntry) {es : List EventEntry} (h : ∀ e ∈ es, e.valid = true) : placeEntry own es = none := by
  induction es with
  | nil => rfl
  | cons e es ih =>
    rw [placeEntry, if_pos (h e List.mem_cons_self), ih (fun x hx => h x (List.mem_cons_of_mem _ hx))]
    rfl

/-! ### The rows -/

/-- What a broadcast shows of its answer (R139). -/
def Main.castShown (r : Cast) : Main :=
  match r.2 with
  | none => r.1
  | some (c, a) => { r.1 with out := { r.1.out with status := some c, rlen := a, taken := c == 0 } }

theorem Main.castShown_frame (m : Main) (c a : Nat) : (Main.castShown (m, some (c, a))).line = m.line ∧
    (Main.castShown (m, some (c, a))).ev = m.ev ∧ (Main.castShown (m, some (c, a))).objs = m.objs ∧
    (Main.castShown (m, some (c, a))).out.data = m.out.data ∧ (Main.castShown (m, some (c, a))).out.status = some c :=
  ⟨rfl, rfl, rfl, rfl, rfl⟩

/-- R139: a broadcast that is heard. -/
theorem State.onMain_castRow {s : State} {n : Nat} (f : Main → Cast) (hn : n ≠ 9) (hh : s.main.hears n true = true) :
    s.onMain (fun m => m.castRow n f) = .next { s with main := Main.castShown (f (s.start.touch n)) } := by
  have hgate : ¬ (n = 9 ∨ (!s.start.hears n true) = true) := by
    rw [State.hears_start, hh]
    exact fun h => h.elim hn (by decide)
  exact congrArg (fun m => Host.Outcome.next { s with main := m }) (if_neg hgate)

section
variable {sess : Sess} {s : State}

theorem ntrig_acts {e : EventEntry} (hn : sess.val ≠ 9) (hh : s.main.hears sess true = true) (hv : e.valid = true)
    (hk : e.kind = 0x40 ∨ e.kind = 0x41) : Completes (.ntrig sess [e]) s (fun t =>
      if s.main.line.seen.contains (e.source.toNat, e.id.toNat, e.time) then
        t = { s with main := { s.main with out := t.main.out, sess := t.main.sess } }
      else t.main.ev.netrx.getLast? = some (EventEntry.words e) ∧
        t.main.obj (evAddr 0 O.EV_NETRX_COUNT) = (s.main.obj (evAddr 0 O.EV_NETRX_COUNT) + 1) % 2 ^ 36 ∧
        t.main.line.seen = (e.source.toNat, e.id.toNat, e.time) :: s.main.line.seen) := by
  have hexec : exec (.ntrig sess [e]) s = .next { s with
      main := Main.castShown ((s.start.touch sess).actEntry e, some (0, (s.start.touch sess).nodeAddr)) } :=
    State.onMain_castRow (fun m => m.ntrigNow [e]) hn hh
  by_cases hseen : s.main.line.seen.contains (entryKey e) = true
  · rw [Main.actEntry_of_seen (m := s.start.touch sess) hseen] at hexec
    refine completes_of_exec hexec ?_
    rw [if_pos (show s.main.line.seen.contains (e.source.toNat, e.id.toNat, e.time) = true from hseen)]
    rfl
  · have hline : ((s.start.touch sess).noteSeen e).line.seen = entryKey e :: s.main.line.seen := rfl
    have hobj : ((s.start.touch sess).noteSeen e).obj (evAddr 0 O.EV_NETRX_COUNT) = s.main.obj (evAddr 0 O.EV_NETRX_COUNT) := rfl
    rw [Main.actEntry_of_event (m := s.start.touch sess) hv hk (Bool.not_eq_true _ ▸ hseen)] at hexec
    refine completes_of_exec hexec ?_
    rw [if_neg (show ¬ s.main.line.seen.contains (e.source.toNat, e.id.toNat, e.time) = true from hseen)]
    generalize (s.start.touch sess).noteSeen e = x at hline hobj ⊢
    generalize (s.start.touch sess).nodeAddr = a
    obtain ⟨hrx, hcount, hkeep, -⟩ := Main.netEvent_spec x e hv
    rw [hobj] at hcount
    rw [← hkeep] at hline
    generalize x.netEvent e.kind.toNat e.source.toNat e.id.toNat e.time e.value = y at hrx hcount hline
    obtain ⟨sline, sev, sobjs, -, -⟩ := Main.castShown_frame y 0 a
    refine ⟨?_, ?_, ?_⟩
    · exact (congrArg (fun v => v.netrx.getLast?) sev).trans hrx
    · unfold Main.obj at hcount ⊢
      exact (congrArg (fun o => (mget (dflt (evAddr 0 O.EV_NETRX_COUNT)) o (evAddr 0 O.EV_NETRX_COUNT)).toNat) sobjs).trans hcount
    · exact (congrArg (fun l => l.seen) sline).trans hline

/-- What a CARRIER answers with. -/
def Main.carrierShown (r : Cast × List EventEntry) : Main :=
  Main.castShown ({ r.1.1 with out := { r.1.1.out with data := bytesOfWords (r.2.flatMap EventEntry.words) } }, r.1.2)

theorem exec_carrier (es : List EventEntry) (hn : sess.val ≠ 9) (hh : s.main.hears sess true = true) :
    exec (.carrier sess es) s = .next { s with main := Main.carrierShown ((s.start.touch sess).carrierNow es true) } :=
  State.onMain_castRow (fun m =>
    let r := m.carrierNow es true
    ({ r.1.1 with out := { r.1.1.out with data := bytesOfWords (r.2.flatMap EventEntry.words) } }, r.1.2)) hn hh

/-- R144: the node's own entry leaves its queue. -/
theorem carrier_places {es out : List EventEntry} {own : EventEntry} {rest : List EventEntry} (hn : sess.val ≠ 9)
    (hh : s.main.hears sess true = true) (hq : s.main.line.txq = own :: rest) (hp : placeEntry own es = some out) :
    Completes (.carrier sess es) s (fun t => t.main.line.txq = rest ∧
      t.main.out.data = bytesOfWords (out.flatMap EventEntry.words) ∧ t.main.out.status = some 0) := by
  have hq' : (s.start.touch sess).line.txq = own :: rest := hq
  let n : Main := es.foldl (fun m e => m.actEntry e) { s.start.touch sess with line := { s.main.line with txq := rest } }
  have hnow : (s.start.touch sess).carrierNow es true = ((n, some (0, (s.start.touch sess).nodeAddr)), out) := by
    unfold Main.carrierNow
    dsimp only
    rw [hq']
    dsimp only
    rw [if_pos rfl, hp]
    rfl
  have hexec := exec_carrier es hn hh
  rw [hnow] at hexec
  exact completes_of_exec hexec ⟨(Main.actEntries_frame es _).1, rfl, rfl⟩

/-- R144, R145: a CARRIER that takes none. -/
theorem carrier_passes {es : List EventEntry} (hn : sess.val ≠ 9) (hh : s.main.hears sess true = true)
    (h : s.main.line.txq = [] ∨ ∀ e ∈ es, e.valid = true) : Completes (.carrier sess es) s (fun t =>
      t.main.line.txq = s.main.line.txq ∧ t.main.out.data = bytesOfWords (es.flatMap EventEntry.words) ∧
      t.main.out.status = none) := by
  let n : Main := es.foldl (fun m e => m.actEntry e) (s.start.touch sess)
  have hnow : (s.start.touch sess).carrierNow es true = ((n, none), es) := by
    unfold Main.carrierNow
    dsimp only
    cases hq : (s.start.touch sess).line.txq with
    | nil => rfl
    | cons own rest =>
      have hvalid : ∀ e ∈ es, e.valid = true := h.resolve_left (fun hnil => List.cons_ne_nil _ _ (hq.symm.trans hnil))
      dsimp only
      rw [if_pos rfl, placeEntry_of_valid own hvalid]
  obtain ⟨htxq, hout⟩ := Main.actEntries_frame es (s.start.touch sess)
  have hexec := exec_carrier es hn hh
  rw [hnow] at hexec
  exact completes_of_exec hexec ⟨htxq, rfl, congrArg Out.status hout⟩

end

/-- Settles O43. -/
theorem networkEntries : Obligations.NetworkEntries := by
  unfold Obligations.NetworkEntries
  exact fun sess s hn hh => ⟨fun e hv hk => ntrig_acts hn hh hv hk, fun es out own rest hq hp => carrier_places hn hh hq hp,
    fun es h => carrier_passes hn hh h⟩

end Sys2Proof.Machine
end

section
/-! Frames on the line, on SV and in passage (R146, R147, R149, R152, R154-R156). -/

namespace Sys2Proof.Machine

theorem ntAddr_ne {p q k l : Nat} (hk : k < 4096) (hl : l < 4096) (h : k ≠ l) : ntAddr p k ≠ ntAddr q l := by
  unfold ntAddr
  omega

/-! ### The counters of a received frame -/

/-- Of the main die only objects have changed, and those listed only. -/
def Main.ObjsTouched (l : List Nat) (m n : Main) : Prop := (∃ o, n = { m with objs := o }) ∧ ObjsBut m n l

theorem Main.ObjsTouched.refl (l : List Nat) (m : Main) : Main.ObjsTouched l m m := ⟨⟨m.objs, rfl⟩, fun _ _ => rfl⟩

theorem Main.ObjsTouched.inc {l : List Nat} {m n : Main} (h : Main.ObjsTouched l m n) {a : Nat} (ha : a ∈ l) :
    Main.ObjsTouched l m (n.inc a) := by
  obtain ⟨⟨o, rfl⟩, hobj⟩ := h
  exact ⟨⟨_, rfl⟩, fun b hb => (Main.objs_keep _ _ _ _ (ne_of_mem_of_not_mem ha hb).symm).trans (hobj b hb)⟩

theorem Main.ObjsTouched.mono {l k : List Nat} {m n : Main} (h : Main.ObjsTouched l m n) (hlk : ∀ a ∈ l, a ∈ k) :
    Main.ObjsTouched k m n := ⟨h.1, fun b hb => h.2 b (fun hm => hb (hlk b hm))⟩

/-- The counters before the FCS is looked at. -/
def Main.rxSeen (m : Main) (p : Nat) (b : List Byte) (damek : Bool) : Main :=
  let m := m.inc (ntAddr p O.NT_RX_FRAMES)
  let m := if damek then m.inc (ntAddr p O.NT_RX_DAMEK) else m
  if 1522 < b.length then m.inc (ntAddr p O.NT_LONG) else m

theorem Main.rxCount_eq (m : Main) (p : Nat) (b : List Byte) (damek : Bool) : m.rxCount p b damek =
    match fcsKind b with
    | 0 => m.rxSeen p b damek
    | 1 => (m.rxSeen p b damek).inc (ntAddr p O.NT_STOMPED)
    | _ => (m.rxSeen p b damek).inc (ntAddr p O.NT_FCS_ERR) := rfl

theorem Main.rxSeen_damek (m : Main) (p : Nat) (b : List Byte) :
    Main.ObjsTouched [ntAddr p O.NT_RX_FRAMES, ntAddr p O.NT_RX_DAMEK, ntAddr p O.NT_LONG] m (m.rxSeen p b true) := by
  have h := ((Main.ObjsTouched.refl [ntAddr p O.NT_RX_FRAMES, ntAddr p O.NT_RX_DAMEK, ntAddr p O.NT_LONG] m).inc
    (a := ntAddr p O.NT_RX_FRAMES) (by simp)).inc (a := ntAddr p O.NT_RX_DAMEK) (by simp)
  unfold Main.rxSeen
  dsimp only
  rw [if_pos rfl]
  split
  · exact h.inc (by simp)
  · exact h

theorem Main.rxSeen_foreign (m : Main) (p : Nat) (b : List Byte) :
    Main.ObjsTouched [ntAddr p O.NT_RX_FRAMES, ntAddr p O.NT_LONG] m (m.rxSeen p b false) := by
  have h := (Main.ObjsTouched.refl [ntAddr p O.NT_RX_FRAMES, ntAddr p O.NT_LONG] m).inc (a := ntAddr p O.NT_RX_FRAMES) (by simp)
  unfold Main.rxSeen
  dsimp only
  rw [if_neg Bool.false_ne_true]
  split
  · exact h.inc (by simp)
  · exact h

theorem Main.rxCount_touches (m : Main) (p : Nat) (b : List Byte) (damek : Bool) {l : List Nat}
    (h : Main.ObjsTouched l m (m.rxSeen p b damek)) :
    Main.ObjsTouched (l ++ [ntAddr p O.NT_STOMPED, ntAddr p O.NT_FCS_ERR]) m (m.rxCount p b damek) := by
  have h' := h.mono (k := l ++ [ntAddr p O.NT_STOMPED, ntAddr p O.NT_FCS_ERR]) (fun a ha => List.mem_append_left _ ha)
  rw [Main.rxCount_eq]
  split
  · exact h'
  · exact h'.inc (by simp)
  · exact h'.inc (by simp)

theorem fcsKind_of_good {b : List Byte} (h : frameGood b = true) : fcsKind b = 0 := by
  simp only [frameGood, Bool.and_eq_true, beq_iff_eq] at h
  exact h.1

/-- R132: of a good Damek frame. -/
theorem Main.rxCount_good (m : Main) (p : Nat) {b : List Byte} (h : frameGood b = true) :
    Main.ObjsTouched [ntAddr p O.NT_RX_FRAMES, ntAddr p O.NT_RX_DAMEK, ntAddr p O.NT_LONG] m (m.rxCount p b true) := by
  rw [Main.rxCount_eq, fcsKind_of_good h]
  exact m.rxSeen_damek p b

theorem Main.rxCount_frame (m : Main) (p : Nat) (b : List Byte) (damek : Bool) : ∃ o, m.rxCount p b damek = { m with objs := o } := by
  cases damek
  · exact (m.rxCount_touches p b false (m.rxSeen_foreign p b)).1
  · exact (m.rxCount_touches p b true (m.rxSeen_damek p b)).1

theorem Main.portUp_rxCount (m : Main) (p q : Nat) (b : List Byte) (damek : Bool) :
    (m.rxCount p b damek).portUp q = m.portUp q := by
  obtain ⟨o, h⟩ := m.rxCount_frame p b damek
  rw [h]
  rfl

theorem Main.line_rxCount (m : Main) (p : Nat) (b : List Byte) (damek : Bool) : (m.rxCount p b damek).line = m.line := by
  obtain ⟨o, h⟩ := m.rxCount_frame p b damek
  rw [h]

theorem Main.out_rxCount (m : Main) (p : Nat) (b : List Byte) (damek : Bool) : (m.rxCount p b damek).out = m.out := by
  obtain ⟨o, h⟩ := m.rxCount_frame p b damek
  rw [h]

/-- R132: a good frame leaves with the FCS it came with. -/
theorem sealFrame_of_good {b : List Byte} (h : frameGood b = true) : sealFrame (b.take (b.length - 4)) (frameGood b) = b := by
  have hk := fcsKind_of_good h
  have hfcs : b.drop (b.length - 4) = fcsBytes (b.take (b.length - 4)) := by
    unfold fcsKind at hk
    dsimp only at hk
    by_contra hne
    rw [if_neg hne] at hk
    split at hk <;> exact absurd hk (by decide)
  unfold sealFrame
  rw [h, if_pos rfl, ← hfcs]
  exact List.take_append_drop _ _

/-! ### The line engine -/

/-- No frame is in passage on port `p` any more. -/
def State.uncut (s : State) (p : Nat) : Main := { s.start with line := { s.main.line with cut := s.main.line.cut.filter (· ≠ p) } }

/-- The line engine runs on the port. -/
theorem Main.onLine_of_ready {s : State} {p : Nat} {f : LineFrame} (h : s.main.lineReady p = true)
    (hcut : (f.cut && s.main.line.cut.contains p) = false) : s.start.onLine p f =
      if s.main.isDamek f.bytes then (s.uncut p).lineFrame p f.bytes else (s.uncut p).foreignOn p f.bytes := by
  simp only [Main.lineReady, Bool.and_eq_true, Bool.not_eq_true'] at h
  obtain ⟨⟨⟨hmod, hcore⟩, hby⟩, hup⟩ := h
  have h1 : (s.uncut p).sup.moduleHeld = false := hmod
  have h2 : ((s.uncut p).sup.coreHeld || (s.uncut p).sup.bypass) = false := by
    change (s.main.sup.coreHeld || s.main.sup.bypass) = false
    rw [hcore, hby]
    rfl
  have h3 : (!(s.uncut p).portUp p) = false := by
    change (!s.main.portUp p) = false
    rw [hup]
    rfl
  change (if (s.uncut p).sup.moduleHeld = true then s.uncut p
    else if (f.cut && s.main.line.cut.contains p) = true then _
    else if ((s.uncut p).sup.coreHeld || (s.uncut p).sup.bypass) = true then _
    else if (!(s.uncut p).portUp p) = true then s.uncut p
    else if s.main.isDamek f.bytes = true then (s.uncut p).lineFrame p f.bytes else (s.uncut p).foreignOn p f.bytes) = _
  rw [h1, hcut, h2, h3]
  rfl

section
variable {m : Main} {p : Nat} {b : List Byte}

/-- What a Damek frame does after it has been counted, on the machine `n`. -/
def Main.lineTurn (n : Main) (p : Nat) (b : List Byte) : Main :=
  let port := if n.portUp (1 - p) then 1 - p else p
  let leave := fun (m : Main) (body : List Byte) =>
    m.send port (sealFrame (if n.portUp (1 - p) then body else withLooped body) (frameGood b))
  let body := b.take (b.length - 4)
  let sq : BitVec 16 := BitVec.ofNat 16 (headerOf b / 65536)
  if !headerOk b then leave (n.inc (ntAddr 0 O.NT_REC_MALFORMED)) body
  else if loopedOf b then leave n body
  else if n.line.seqs.contains sq then leave (n.inc (ntAddr 0 O.NT_DUPLICATES)) body
  else
    let m := { n with line := { n.line with seqs := (sq :: n.line.seqs).take 16 } }
    let m := m.setObj (ntAddr 0 O.NT_UPSTREAM) p
    let x := m.process { hops := headerOf b / 2 ^ 44 % 4096 } b
    leave x.1 x.2

theorem Main.lineFrame_eq (m : Main) (p : Nat) (b : List Byte) : m.lineFrame p b =
    if (!(m.rxCount p b true).portUp (1 - p) && loopedOf b) = true then (m.rxCount p b true).inc (ntAddr (1 - p) O.NT_DROPPED)
    else (m.rxCount p b true).lineTurn p b := rfl

/-- R147: LOOPED, with the onward port down. -/
theorem Main.lineFrame_dropped (hup : m.portUp (1 - p) = false) (hl : loopedOf b = true) :
    m.lineFrame p b = (m.rxCount p b true).inc (ntAddr (1 - p) O.NT_DROPPED) := by
  rw [Main.lineFrame_eq, Main.portUp_rxCount, hup, hl]
  rfl

theorem Main.lineFrame_turns (h : m.portUp (1 - p) = true ∨ loopedOf b = false) :
    m.lineFrame p b = (m.rxCount p b true).lineTurn p b := by
  have hgate : ¬ (!(m.rxCount p b true).portUp (1 - p) && loopedOf b) = true := by
    rw [Main.portUp_rxCount]
    rcases h with h | h <;> rw [h] <;> simp
  rw [Main.lineFrame_eq, if_neg hgate]

/-- R146, R149: a good frame that is not processed leaves as it came. -/
theorem Main.lineTurn_unprocessed (hok : headerOk b = true) (hg : frameGood b = true) (hup : m.portUp (1 - p) = true)
    (h : (loopedOf b || m.line.seqs.contains (BitVec.ofNat 16 (headerOf b / 65536))) = true) :
    m.lineTurn p b = (if loopedOf b then m else m.inc (ntAddr 0 O.NT_DUPLICATES)).send (1 - p) b := by
  have hok' : ¬ (!headerOk b) = true := by rw [hok]; decide
  unfold Main.lineTurn
  simp only [hup, if_true]
  rw [if_neg hok', sealFrame_of_good hg]
  by_cases hl : loopedOf b = true
  · rw [if_pos hl, if_pos hl]
  · rw [Bool.eq_false_iff.2 hl, Bool.false_or] at h
    rw [if_neg hl, if_neg hl, if_pos h]

/-- R146: a frame that is processed. -/
theorem Main.lineTurn_processed (hok : headerOk b = true) (hl : loopedOf b = false)
    (hseen : m.line.seqs.contains (BitVec.ofNat 16 (headerOf b / 65536)) = false) : ∃ (n : Main) (body : List Byte),
    m.lineTurn p b = n.send (if m.portUp (1 - p) then 1 - p else p)
      (sealFrame (if m.portUp (1 - p) then body else withLooped body) (frameGood b)) := by
  unfold Main.lineTurn
  simp only [hok, hl, hseen, Bool.not_true, Bool.false_eq_true, if_false]
  exact ⟨_, _, rfl⟩

end

/-! ### Damek frames on the line -/

section
variable {p : LPort} {f : LineFrame} {s : State}

theorem exec_damekFrame (hr : s.main.lineReady (LPort.num p) = true) (hd : s.main.isDamek f.bytes = true)
    (hcut : (f.cut && s.main.line.cut.contains (LPort.num p)) = false) :
    exec (.damekFrame p f) s = .next { s with main := (s.uncut (LPort.num p)).lineFrame (LPort.num p) f.bytes } := by
  have hon := Main.onLine_of_ready hr hcut
  rw [hd, if_pos rfl] at hon
  change Host.Outcome.next { s with main := s.start.onLine (LPort.num p) f } = _
  rw [hon]

theorem damekFrame_unprocessed (hr : s.main.lineReady (LPort.num p) = true) (hd : s.main.isDamek f.bytes = true)
    (hok : headerOk f.bytes = true) (hcut : (f.cut && s.main.line.cut.contains (LPort.num p)) = false)
    (hg : frameGood f.bytes = true) (hup : s.main.portUp (1 - LPort.num p) = true)
    (h : (loopedOf f.bytes || s.main.line.seqs.contains (BitVec.ofNat 16 (headerOf f.bytes / 65536))) = true) :
    Completes (.damekFrame p f) s (fun t =>
      t.main.out.frame = some (1 - LPort.num p, f.bytes) ∧
      t = { s with main := { s.main with out := t.main.out, objs := t.main.objs,
                                         line := { s.main.line with cut := s.main.line.cut.filter (· ≠ LPort.num p) } } } ∧
      ObjsBut s.main t.main [ntAddr (LPort.num p) O.NT_RX_FRAMES, ntAddr (LPort.num p) O.NT_RX_DAMEK,
                             ntAddr (LPort.num p) O.NT_LONG, ntAddr 0 O.NT_DUPLICATES] ∧
      t.main.obj (ntAddr 0 O.NT_DUPLICATES) = (if loopedOf f.bytes then s.main.obj (ntAddr 0 O.NT_DUPLICATES)
        else (s.main.obj (ntAddr 0 O.NT_DUPLICATES) + 1) % 2 ^ 36)) := by
  let i := LPort.num p
  have hexec := exec_damekFrame hr hd hcut
  obtain ⟨⟨o, hcount⟩, hobj⟩ := (s.uncut i).rxCount_good i hg
  have hup' : ((s.uncut i).rxCount i f.bytes true).portUp (1 - i) = true := (Main.portUp_rxCount _ _ _ _ _).trans hup
  have hseen : (loopedOf f.bytes || ((s.uncut i).rxCount i f.bytes true).line.seqs.contains
      (BitVec.ofNat 16 (headerOf f.bytes / 65536))) = true := by
    rw [Main.line_rxCount]
    exact h
  have hdup : ((s.uncut i).rxCount i f.bytes true).obj (ntAddr 0 O.NT_DUPLICATES) = s.main.obj (ntAddr 0 O.NT_DUPLICATES) := by
    refine hobj _ ?_
    simp only [List.mem_cons, List.not_mem_nil, or_false, not_or]
    exact ⟨ntAddr_ne (by decide) (by decide) (by decide), ntAddr_ne (by decide) (by decide) (by decide),
      ntAddr_ne (by decide) (by decide) (by decide)⟩
  rw [Main.lineFrame_turns (m := s.uncut i) (Or.inl hup), Main.lineTurn_unprocessed hok hg hup' hseen] at hexec
  generalize (s.uncut i).rxCount i f.bytes true = n at hexec hcount hobj hdup
  have hkeep : ObjsBut s.main n [ntAddr i O.NT_RX_FRAMES, ntAddr i O.NT_RX_DAMEK, ntAddr i O.NT_LONG, ntAddr 0 O.NT_DUPLICATES] := by
    exact fun a ha => hobj a (fun hm => ha (List.mem_append_left [ntAddr 0 O.NT_DUPLICATES] hm))
  cases hl : loopedOf f.bytes
  · rw [hl, if_neg Bool.false_ne_true] at hexec
    refine completes_of_exec hexec ⟨rfl, ?_, fun a ha => ?_, ?_⟩
    · rw [hcount]
      rfl
    · exact (Main.objs_keep _ _ _ _ (fun h => ha (by simp [h]))).trans (hkeep a ha)
    · rw [if_neg Bool.false_ne_true, ← hdup]
      exact n.obj_inc_same _
  · rw [hl, if_pos rfl] at hexec
    refine completes_of_exec hexec ⟨rfl, ?_, hkeep, ?_⟩
    · rw [hcount]
      rfl
    · rw [if_pos rfl]
      exact hdup

theorem damekFrame_dropped (hr : s.main.lineReady (LPort.num p) = true) (hd : s.main.isDamek f.bytes = true)
    (hcut : (f.cut && s.main.line.cut.contains (LPort.num p)) = false) (hup : s.main.portUp (1 - LPort.num p) = false)
    (hl : loopedOf f.bytes = true) : Completes (.damekFrame p f) s (fun t =>
      t.main.out.frame = none ∧ t.main.obj (ntAddr (1 - LPort.num p) O.NT_DROPPED) =
        (s.main.obj (ntAddr (1 - LPort.num p) O.NT_DROPPED) + 1) % 2 ^ 36) := by
  let i := LPort.num p
  have hexec := exec_damekFrame hr hd hcut
  obtain ⟨-, hobj⟩ := (s.uncut i).rxCount_touches i f.bytes true ((s.uncut i).rxSeen_damek i f.bytes)
  have hdrop : ((s.uncut i).rxCount i f.bytes true).obj (ntAddr (1 - i) O.NT_DROPPED) = s.main.obj (ntAddr (1 - i) O.NT_DROPPED) := by
    refine hobj _ ?_
    simp only [List.mem_append, List.mem_cons, List.not_mem_nil, or_false, not_or]
    exact ⟨⟨ntAddr_ne (by decide) (by decide) (by decide), ntAddr_ne (by decide) (by decide) (by decide),
      ntAddr_ne (by decide) (by decide) (by decide)⟩, ntAddr_ne (by decide) (by decide) (by decide),
      ntAddr_ne (by decide) (by decide) (by decide)⟩
  rw [Main.lineFrame_dropped (m := s.uncut i) hup hl] at hexec
  refine completes_of_exec hexec ⟨?_, ?_⟩
  · exact congrArg Out.frame (Main.out_rxCount _ _ _ _)
  · exact (Main.obj_inc_same _ _).trans (congrArg (fun v => (v + 1) % 2 ^ 36) hdrop)

theorem damekFrame_processed (hr : s.main.lineReady (LPort.num p) = true) (hd : s.main.isDamek f.bytes = true)
    (hok : headerOk f.bytes = true) (hcut : (f.cut && s.main.line.cut.contains (LPort.num p)) = false)
    (hl : loopedOf f.bytes = false) (hseen : s.main.line.seqs.contains (BitVec.ofNat 16 (headerOf f.bytes / 65536)) = false) :
    Completes (.damekFrame p f) s (fun t => ∃ body, t.main.out.frame =
      some (if s.main.portUp (1 - LPort.num p) then (1 - LPort.num p, sealFrame body (frameGood f.bytes))
            else (LPort.num p, sealFrame (withLooped body) (frameGood f.bytes)))) := by
  let i := LPort.num p
  have hexec := exec_damekFrame hr hd hcut
  have hup : ((s.uncut i).rxCount i f.bytes true).portUp (1 - i) = s.main.portUp (1 - i) := Main.portUp_rxCount _ _ _ _ _
  have hseen' : ((s.uncut i).rxCount i f.bytes true).line.seqs.contains (BitVec.ofNat 16 (headerOf f.bytes / 65536)) = false := by
    rw [Main.line_rxCount]
    exact hseen
  obtain ⟨n, body, hturn⟩ := Main.lineTurn_processed (p := i) hok hl hseen'
  rw [Main.lineFrame_turns (m := s.uncut i) (Or.inr hl), hturn, hup] at hexec
  refine completes_of_exec hexec ⟨body, ?_⟩
  cases s.main.portUp (1 - i) <;> rfl

/-- R152: a frame in passage as bypass begins or ends. -/
theorem damekFrame_broken (hmod : s.main.sup.moduleHeld = false) (hphy : (s.main.pl (1 - LPort.num p)).phy ≠ 0)
    (hf : f.cut = true) (hc : s.main.line.cut.contains (LPort.num p) = true) : Completes (.damekFrame p f) s (fun t =>
      t.main.out.frame = some (1 - LPort.num p, sealFrame (f.bytes.take (f.bytes.length - 4)) false) ∧
      t = { s with main := { s.main with out := t.main.out, line := { s.main.line with
        cut := s.main.line.cut.filter (· ≠ LPort.num p) } } }) := by
  let i := LPort.num p
  have h1 : (s.uncut i).sup.moduleHeld = false := hmod
  have h2 : (f.cut && s.main.line.cut.contains i) = true := by rw [hf, hc]; rfl
  have h3 : ((s.uncut i).pl (1 - i)).phy ≠ 0 := hphy
  have hexec : exec (.damekFrame p f) s = .next { s with
      main := (s.uncut i).send (1 - i) (sealFrame (f.bytes.take (f.bytes.length - 4)) false) } := by
    change Host.Outcome.next { s with
      main :=
        if (s.uncut i).sup.moduleHeld = true then s.uncut i
        else if (f.cut && s.main.line.cut.contains i) = true then
          (if ((s.uncut i).pl (1 - i)).phy = 0 then s.uncut i
           else (s.uncut i).send (1 - i) (sealFrame (f.bytes.take (f.bytes.length - 4)) false))
        else _ } = _
    rw [h1, h2, if_neg Bool.false_ne_true, if_pos rfl, if_neg h3]
  exact completes_of_exec hexec ⟨rfl, rfl⟩

end

/-! ### SV and foreign frames -/

theorem serviceFrame_turned {b : List Byte} {s : State} (hsv : s.main.svRuns = true) (hd : s.main.isDamek b = true) :
    Completes (.serviceFrame b) s (fun t => ∃ body,
      t.main.out.frame = some (2, sealFrame (withLooped body) (frameGood b))) := by
  have h1 : ¬ (!s.start.svRuns) = true := by
    have h : s.start.svRuns = true := hsv
    rw [h]
    decide
  have h2 : ¬ (!s.start.isDamek b) = true := by
    have h : s.start.isDamek b = true := hd
    rw [h]
    decide
  have hexec : ∃ (n : Main) (body : List Byte), exec (.serviceFrame b) s = .next { s with
      main := Main.send n 2 (sealFrame (withLooped body) (frameGood b)) } := by
    have hcall : exec (.serviceFrame b) s = execServiceFrame b s := rfl
    have hstart : ({ s.main with out := {} } : Main) = s.start := rfl
    rw [hcall, execServiceFrame, State.onMain_eq, hstart]
    dsimp only
    rw [if_neg h1, if_neg h2]
    split <;> exact ⟨_, _, rfl⟩
  obtain ⟨n, body, hexec⟩ := hexec
  exact completes_of_exec hexec ⟨body, rfl⟩

/-- R156: on SV a foreign frame is counted and discarded. -/
theorem serviceFrame_discarded {b : List Byte} {s : State} (hsv : s.main.svRuns = true) (hd : s.main.isDamek b = false) {c : Instr}
    (hc : c = .serviceFrame b ∨ c = .foreignFrame .sv { bytes := b }) : Completes c s (fun t =>
      t.main.out.frame = none ∧ ObjsOnly s t [ntAddr 2 O.NT_RX_FRAMES, ntAddr 2 O.NT_LONG, ntAddr 2 O.NT_STOMPED,
                                               ntAddr 2 O.NT_FCS_ERR]) := by
  have h1 : ¬ (!s.start.svRuns) = true := by
    have h : s.start.svRuns = true := hsv
    rw [h]
    decide
  have h2 : (!s.start.isDamek b) = true := by
    have h : s.start.isDamek b = false := hd
    rw [h]
    rfl
  have hexec : exec c s = .next { s with main := s.start.rxCount 2 b false } := by
    rcases hc with rfl | rfl
    · change Host.Outcome.next { s with
        main := if (!s.start.svRuns) = true then s.start else if (!s.start.isDamek b) = true then s.start.rxCount 2 b false else _ } = _
      rw [if_neg h1, if_pos h2]
    · change Host.Outcome.next { s with
        main := if (!s.start.svRuns) = true then s.start else s.start.rxCount 2 b false } = _
      rw [if_neg h1]
  obtain ⟨⟨o, hframe⟩, hobj⟩ := s.start.rxCount_touches 2 b false (s.start.rxSeen_foreign 2 b)
  refine completes_of_exec hexec ⟨congrArg Out.frame (Main.out_rxCount _ _ _ _), ?_, hobj⟩
  rw [hframe]
  rfl

theorem foreignFrame_passes {p : Port3} {f : LineFrame} {s : State} (hp : p ≠ .sv)
    (hr : s.main.lineReady (Port3.num p) = true) (hd : s.main.isDamek f.bytes = false)
    (hptp : natOfBytes ((f.bytes.drop 12).take 2) ≠ 0x88F7) (hcut : (f.cut && s.main.line.cut.contains (Port3.num p)) = false) :
    Completes (.foreignFrame p f) s (fun t =>
      t.main.out.frame = (if s.main.portUp (1 - Port3.num p) then some (1 - Port3.num p, f.bytes) else none) ∧
      t.main.line = { s.main.line with cut := t.main.line.cut } ∧ t.main.sess = s.main.sess) := by
  let i := Port3.num p
  have hkind : ({ frame := f.bytes } : PtpFrame).kind = none := if_pos hptp
  have hforeign : (s.uncut i).foreignOn i f.bytes = ((s.uncut i).rxCount i f.bytes false).passOn i f.bytes := by
    unfold Main.foreignOn
    dsimp only
    rw [hkind]
  have hon := Main.onLine_of_ready hr hcut
  rw [hd, if_neg Bool.false_ne_true, hforeign] at hon
  have hexec : exec (.foreignFrame p f) s = .next { s with
      main := ((s.uncut i).rxCount i f.bytes false).passOn i f.bytes } := by
    cases p with
    | sv => exact absurd rfl hp
    | la =>
      change Host.Outcome.next { s with main := s.start.onLine 0 f } = _
      exact congrArg (fun m => Host.Outcome.next { s with main := m }) hon
    | lb =>
      change Host.Outcome.next { s with main := s.start.onLine 1 f } = _
      exact congrArg (fun m => Host.Outcome.next { s with main := m }) hon
  have hup : ((s.uncut i).rxCount i f.bytes false).portUp (1 - i) = s.main.portUp (1 - i) := Main.portUp_rxCount _ _ _ _ _
  obtain ⟨o, hframe⟩ := (s.uncut i).rxCount_frame i f.bytes false
  unfold Main.passOn at hexec
  dsimp only at hexec
  rw [hup] at hexec
  rw [hframe] at hexec
  refine completes_of_exec hexec ?_
  cases s.main.portUp (1 - i) <;> exact ⟨rfl, rfl, rfl⟩

/-- Settles O44. -/
theorem framesFindTheirWay : Obligations.FramesFindTheirWay := by
  unfold Obligations.FramesFindTheirWay
  refine ⟨fun p f s hr hd hok hcut => ⟨fun hg hup h => damekFrame_unprocessed hr hd hok hcut hg hup h,
      fun hup hl => damekFrame_dropped hr hd hcut hup hl, fun hl hseen => damekFrame_processed hr hd hok hcut hl hseen⟩,
    fun b s hsv => ⟨serviceFrame_turned hsv, fun hd c hc => serviceFrame_discarded hsv hd hc⟩,
    fun p f s hp hr hd hptp hcut => foreignFrame_passes hp hr hd hptp hcut,
    fun p f s hmod hphy hf hc => damekFrame_broken hmod hphy hf hc⟩

end Sys2Proof.Machine
end

section
/-! The links of the ports (R107, R148, R172). -/

namespace Sys2Proof.Machine

/-- The speed of a link as it is kept. -/
def speedOf (v : LinkSpeed) : Nat := match v with | .m100 => 1 | .m1000 => 2

section
variable {p : Port3} {s : State}

/-- R107: a line port is not held down for its speed. -/
theorem not_heldDown {i phy : Nat} {o : PortLink} (h : i = 2 ∨ o.up = false ∨ o.phy = phy) :
    (decide (i < 2) && o.up && o.phy != phy) = false := by
  rcases h with rfl | h | h
  · rfl
  · rw [h, Bool.and_false, Bool.false_and]
  · rw [h, bne_self_eq_false, Bool.and_false]

theorem phyLinkUp_begins (hmod : s.main.sup.moduleHeld = false) (v : LinkSpeed)
    (hoff : s.main.offers (Port3.num p) (speedOf v) = true)
    (h : Port3.num p = 2 ∨ (s.main.pl (1 - Port3.num p)).up = false ∨ (s.main.pl (1 - Port3.num p)).phy = speedOf v) :
    Completes (.phyLinkUp p v) s (fun t =>
      t = { s with main := { s.main with out := {}, line := { s.main.line with ports := t.main.line.ports } } } ∧
      t.main.pl (Port3.num p) = { phy := speedOf v, up := false, held := false,
                                  healEnd := some (s.main.now + s.main.obj (ntAddr 0 O.NT_HEAL_HOLD) * unitsPerMs) }) := by
  let i := Port3.num p
  have hgate : ¬ (s.start.sup.moduleHeld || !s.start.offers i (speedOf v)) = true := by
    have h1 : s.start.sup.moduleHeld = false := hmod
    have h2 : s.start.offers i (speedOf v) = true := hoff
    rw [h1, h2]
    decide
  have hheld : (decide (i < 2) && (s.start.pl (1 - i)).up && (s.start.pl (1 - i)).phy != speedOf v) = false := not_heldDown h
  have hexec : exec (.phyLinkUp p v) s = .next { s with
      main := s.start.modPl i (fun _ => { phy := speedOf v, up := false, held := false, healEnd := some s.start.healEnd }) } := by
    change Host.Outcome.next { s with
      main :=
        if (s.start.sup.moduleHeld || !s.start.offers i (speedOf v)) = true then s.start
        else
          let held := decide (i < 2) && (s.start.pl (1 - i)).up && (s.start.pl (1 - i)).phy != speedOf v
          s.start.modPl i (fun _ => {
            phy := speedOf v, up := false, held := held, healEnd := if held then none else some s.start.healEnd }) } = _
    rw [if_neg hgate, hheld]
    rfl
  refine completes_of_exec hexec ⟨rfl, ?_⟩
  rw [Main.pl_modPl, if_pos rfl]
  rfl

/-- R172: the peer delay of a port begins anew. -/
def Main.pdelayAnew (m : Main) (i : Nat) : Main := { m with pdelay := mset {} m.pdelay i { due := m.now } }

theorem Main.lineUp_line (m : Main) {i : Nat} (hi : i ≠ 2) :
    m.lineUp i = (m.pdelayAnew i).setObj (ntAddr i O.NT_PDELAY) 0 := if_neg hi

theorem Main.lineUp_sv (m : Main) : m.lineUp 2 = m := if_pos rfl

/-- R172: the peer delay of a line port that comes up. -/
theorem Main.lineUp_spec (m : Main) (i : Nat) : (∃ o x, m.lineUp i = { m with objs := o, pdelay := x }) ∧
    (i < 2 → (m.lineUp i).obj (ntAddr i O.NT_PDELAY) = 0 ∧ ObjsBut m (m.lineUp i) [ntAddr i O.NT_PDELAY]) ∧
    (i = 2 → (m.lineUp i).objs = m.objs) := by
  by_cases hi : i = 2
  · subst hi
    rw [Main.lineUp_sv]
    exact ⟨⟨m.objs, m.pdelay, rfl⟩, fun h => absurd h (Nat.lt_irrefl 2), fun _ => rfl⟩
  · rw [Main.lineUp_line m hi]
    have hframe : ∃ x, m.pdelayAnew i = { m with pdelay := x } := ⟨_, rfl⟩
    obtain ⟨x, hx⟩ := hframe
    have hn : ∀ a, (m.pdelayAnew i).obj a = m.obj a := by
      intro a
      rw [hx]
      rfl
    obtain ⟨o, ho⟩ := (m.pdelayAnew i).setObj_frame (ntAddr i O.NT_PDELAY) 0
    refine ⟨⟨o, x, ?_⟩, fun _ => ⟨?_, fun a ha => ?_⟩, fun h => absurd h hi⟩
    · rw [ho, hx]
    · exact ((m.pdelayAnew i).obj_setObj_same _ _).trans (Nat.zero_mod _)
    · exact ((m.pdelayAnew i).objs_keep _ _ a (by simpa using ha)).trans (hn a)

theorem portUp_declares {e : Nat} (hheal : (s.main.pl (Port3.num p)).healEnd = some e) (hdue : e ≤ s.main.now)
    (hphy : (s.main.pl (Port3.num p)).phy ≠ 0) (hup : (s.main.pl (Port3.num p)).up = false)
    (h : Port3.num p = 2 ∨ (s.main.pl (1 - Port3.num p)).up = false ∨
      (s.main.pl (1 - Port3.num p)).phy = (s.main.pl (Port3.num p)).phy) : Completes (.portUp p) s (fun t =>
      t = { s with main := { s.main with out := {}, objs := t.main.objs, pdelay := t.main.pdelay,
                                         line := { s.main.line with ports := t.main.line.ports } } } ∧
      (Port3.num p < 2 → t.main.obj (ntAddr (Port3.num p) O.NT_PDELAY) = 0 ∧
        ObjsBut s.main t.main [ntAddr (Port3.num p) O.NT_PDELAY]) ∧
      (Port3.num p = 2 → t.main.objs = s.main.objs) ∧
      t.main.pl (Port3.num p) = { s.main.pl (Port3.num p) with up := true, healEnd := none } ∧
      ∀ k, k ≠ Port3.num p → t.main.pl k = s.main.pl k) := by
  let i := Port3.num p
  let n := s.start.modPl i (fun x => { x with up := true, healEnd := none })
  have hheal' : (s.start.pl i).healEnd = some e := hheal
  have hgate : (e ≤ s.start.now ∨ (!s.start.tb.running) = true) ∧ (s.start.pl i).phy ≠ 0 ∧ (!(s.start.pl i).up) = true := by
    have hup' : (s.start.pl i).up = false := hup
    exact ⟨Or.inl hdue, hphy, by rw [hup']; rfl⟩
  have hheld : ¬ (decide (i < 2) && (s.start.pl (1 - i)).up && (s.start.pl (1 - i)).phy != (s.start.pl i).phy) = true := by
    have hno : (decide (i < 2) && (s.start.pl (1 - i)).up && (s.start.pl (1 - i)).phy != (s.start.pl i).phy) = false := not_heldDown h
    rw [hno]
    decide
  have hexec : exec (.portUp p) s = .next { s with main := n.lineUp i } := by
    change Host.Outcome.next { s with
      main := match (s.start.pl i).healEnd with
        | none => s.start
        | some t =>
          if (t ≤ s.start.now ∨ (!s.start.tb.running) = true) ∧ (s.start.pl i).phy ≠ 0 ∧ (!(s.start.pl i).up) = true then
            if (decide (i < 2) && (s.start.pl (1 - i)).up && (s.start.pl (1 - i)).phy != (s.start.pl i).phy) = true then
              s.start.modPl i (fun x => { x with held := true, healEnd := none })
            else n.lineUp i
          else s.start } = _
    rw [hheal']
    dsimp only
    rw [if_pos hgate, if_neg hheld]
  obtain ⟨⟨o, x, hframe⟩, hline, hsv⟩ := n.lineUp_spec i
  have hpl : ∀ k, (n.lineUp i).pl k = if k = i then { s.main.pl i with up := true, healEnd := none } else s.main.pl k := by
    intro k
    rw [hframe]
    exact s.start.pl_modPl i k (fun x => { x with up := true, healEnd := none })
  refine completes_of_exec hexec ⟨?_, hline, hsv, ?_, fun k hk => ?_⟩
  · rw [hframe]
    rfl
  · rw [hpl, if_pos rfl]
  · rw [hpl, if_neg hk]

/-- R148: a port that has been declared up goes down. -/
def Main.portLost (m : Main) (i : Nat) : Main :=
  let n := (m.modPl i (fun _ => {})).inc (ntAddr i O.NT_LINK_DOWN_COUNT)
  { n with pdelay := merase n.pdelay i }

theorem Main.linkLost_of_up {m : Main} {i : Nat} (h : (m.pl i).up = true) : m.linkLost i =
    if i < 2 ∧ ((m.portLost i).pl (1 - i)).held = true then
      (m.portLost i).modPl (1 - i) (fun y => { y with held := false, healEnd := some (m.portLost i).healEnd })
    else m.portLost i := by
  unfold Main.linkLost
  simp only [h, Bool.true_or, if_true, true_and]
  rfl

theorem portDown_counts (h : (s.main.pl (Port3.num p)).up = true) : Completes (.portDown p) s (fun t =>
    t.main.pl (Port3.num p) = {} ∧ t.main.pd (Port3.num p) = {} ∧
    t.main.obj (ntAddr (Port3.num p) O.NT_LINK_DOWN_COUNT) =
      (s.main.obj (ntAddr (Port3.num p) O.NT_LINK_DOWN_COUNT) + 1) % 2 ^ 36 ∧
    ObjsBut s.main t.main [ntAddr (Port3.num p) O.NT_LINK_DOWN_COUNT]) := by
  let i := Port3.num p
  have hexec : exec (.portDown p) s = .next { s with main := s.start.linkLost i } := rfl
  have hpl : (s.start.portLost i).pl i = {} := (s.start.pl_modPl i i _).trans (if_pos rfl)
  have hpd : (s.start.portLost i).pd i = {} := by
    unfold Main.portLost Main.pd
    rw [mget_merase, if_pos rfl]
  have hcount : (s.start.portLost i).obj (ntAddr i O.NT_LINK_DOWN_COUNT) =
      (s.main.obj (ntAddr i O.NT_LINK_DOWN_COUNT) + 1) % 2 ^ 36 := (s.start.modPl i (fun _ => {})).obj_inc_same _
  have hkeep : ObjsBut s.main (s.start.portLost i) [ntAddr i O.NT_LINK_DOWN_COUNT] :=
    fun a ha => (s.start.modPl i (fun _ => {})).objs_keep _ _ a (by simpa using ha)
  rw [Main.linkLost_of_up (m := s.start) h] at hexec
  generalize s.start.portLost i = n at hexec hpl hpd hcount hkeep
  by_cases hheld : i < 2 ∧ (n.pl (1 - i)).held = true
  · rw [if_pos hheld] at hexec
    have hne : i ≠ 1 - i := by have := hheld.1; omega
    refine completes_of_exec hexec ⟨?_, hpd, hcount, hkeep⟩
    rw [Main.pl_modPl, if_neg hne]
    exact hpl
  · rw [if_neg hheld] at hexec
    exact completes_of_exec hexec ⟨hpl, hpd, hcount, hkeep⟩

end

/-- Settles O45. -/
theorem portsFollowTheirLinks : Obligations.PortsFollowTheirLinks := by
  unfold Obligations.PortsFollowTheirLinks
  exact fun p s hmod => ⟨fun v hoff h => phyLinkUp_begins hmod v hoff h,
    fun e hheal hdue hphy hup h => portUp_declares hheal hdue hphy hup h, portDown_counts⟩

end Sys2Proof.Machine
end

section
/-! PTP messages as they pass and as they steer (R167, R168, R171, R173, R174). -/

namespace Sys2Proof.Machine

/-! ### The passage -/

theorem State.uncut_of_nil {s : State} (h : s.main.line.cut = []) (p : Nat) : s.uncut p = s.start := by
  have hline : ({ s.main.line with cut := [] } : Line) = s.main.line := by rw [← h]
  unfold State.uncut
  rw [h]
  exact congrArg (fun l => ({ s.start with line := l } : Main)) hline

/-- The line engine as it takes a PTP frame of the kind. -/
structure Main.Takes (m : Main) (p : Nat) (g : PtpFrame) (kind : Nat) : Prop where
  ready : m.lineReady p = true
  damek : m.isDamek g.frame = false
  kind : g.kind = some kind
  good : frameGood g.frame = true

theorem Main.takes_of_takesPtp {m : Main} {p kind : Nat} {g : PtpFrame} (h : m.takesPtp p g kind = true) : Main.Takes m p g kind := by
  simp only [Main.takesPtp, Bool.and_eq_true, Bool.not_eq_true', beq_iff_eq] at h
  obtain ⟨⟨⟨⟨⟨⟨hmod, hcore⟩, hby⟩, hup⟩, hdamek⟩, hkind⟩, hgood⟩ := h
  refine ⟨?_, hdamek, hkind, hgood⟩
  unfold Main.lineReady
  rw [hmod, hcore, hby, hup]
  rfl

/-- R132: a good foreign frame is counted in one object. -/
theorem Main.rxCount_foreign_good (m : Main) (p : Nat) {b : List Byte} (h : frameGood b = true) :
    m.rxCount p b false = m.inc (ntAddr p O.NT_RX_FRAMES) := by
  have hlen : ¬ 1522 < b.length := by
    simp only [frameGood, Bool.and_eq_true, decide_eq_true_eq] at h
    omega
  rw [Main.rxCount_eq, fcsKind_of_good h]
  unfold Main.rxSeen
  dsimp only
  rw [if_neg Bool.false_ne_true, if_neg hlen]
  rfl

/-- A PTP frame counted on port `p` and sent on as `b`. -/
def State.passed (s : State) (p : Nat) (b : List Byte) : Main := (s.start.inc (ntAddr p O.NT_RX_FRAMES)).send (1 - p) b

/-- R168: what leaves by the other port. -/
def Main.passing (m : Main) (p kind : Nat) (g : PtpFrame) : List Byte := if kind = 0 then g.corrected (m.syncCorrection p) else g.frame

theorem Main.syncCorrection_inc (m : Main) (p q : Nat) :
    (m.inc (ntAddr q O.NT_RX_FRAMES)).syncCorrection p = m.syncCorrection p := by
  have hobj : ∀ k l, l < 4096 → l ≠ O.NT_RX_FRAMES → (m.inc (ntAddr q O.NT_RX_FRAMES)).obj (ntAddr k l) = m.obj (ntAddr k l) :=
    fun k l hl h => Main.objs_keep _ _ _ _ (ntAddr_ne hl (by decide) h)
  have hts : ∀ k, (m.inc (ntAddr q O.NT_RX_FRAMES)).tsUser k = m.tsUser k :=
    fun k => congrArg (fun w => sgn (BitVec.ofNat 36 w)) (hobj k O.NT_TS_USER (by decide) (by decide))
  have hpl : ∀ k, (m.inc (ntAddr q O.NT_RX_FRAMES)).pl k = m.pl k := fun _ => rfl
  unfold Main.syncCorrection Main.rxCorr Main.txCorr Main.holdTime
  simp only [hobj p O.NT_PDELAY (by decide) (by decide), hts, hpl]

section
variable {p kind : Nat} {g : PtpFrame} {s : State}

/-- R168: Sync, Follow_Up and Announce pass on. -/
theorem State.onLine_ptp (hg : Main.Takes s.main p g kind) (hk : kind ≠ 2 ∧ kind ≠ 3 ∧ kind ≠ 10)
    (hup : s.main.portUp (1 - p) = true) (hcut : s.main.line.cut = []) :
    s.start.onLine p { bytes := g.frame } = s.passed p (s.main.passing p kind g) := by
  have hon := Main.onLine_of_ready (f := { bytes := g.frame }) hg.ready (by rfl)
  rw [hg.damek, if_neg Bool.false_ne_true, State.uncut_of_nil hcut] at hon
  have hup' : (s.start.inc (ntAddr p O.NT_RX_FRAMES)).portUp (1 - p) = true := hup
  have hpass : ∀ b, (s.start.inc (ntAddr p O.NT_RX_FRAMES)).passOn p b = s.passed p b := fun b => if_pos hup'
  have hcorr : (s.start.inc (ntAddr p O.NT_RX_FRAMES)).syncCorrection p = s.main.syncCorrection p := Main.syncCorrection_inc _ _ _
  have hkind : ({ frame := g.frame } : PtpFrame).kind = some kind := hg.kind
  have hforeign : s.start.foreignOn p g.frame = s.passed p (s.main.passing p kind g) := by
    unfold Main.foreignOn
    rw [Main.rxCount_foreign_good _ _ hg.good]
    dsimp only
    rw [hkind, ← hpass]
    obtain ⟨h2, h3, h10⟩ := hk
    unfold Main.passing
    split
    next h => rw [Option.some.inj h, if_pos rfl, hcorr]
    next h => exact absurd (Option.some.inj h) h2
    next h => exact absurd (Option.some.inj h) h3
    next h => exact absurd (Option.some.inj h) h10
    next h0 _ _ _ => rw [if_neg (fun h => h0 (congrArg some h))]
  exact hon.trans hforeign

theorem State.obj_passed (s : State) (p : Nat) (b : List Byte) {k l : Nat} (hl : l < 4096) (h : l ≠ O.NT_RX_FRAMES) :
    (s.passed p b).obj (ntAddr k l) = s.main.obj (ntAddr k l) :=
  Main.objs_keep _ _ _ _ (ntAddr_ne hl (by decide) h)

theorem State.objsOnly_passed (s : State) (p : Nat) (b : List Byte) :
    ObjsOnly s { s with main := s.passed p b } [ntAddr p O.NT_RX_FRAMES] :=
  ⟨rfl, fun a ha => Main.objs_keep _ _ _ _ (by simpa using ha)⟩

end

/-! ### The servo -/

/-- The servo changes neither what leaves nor the two-step Syncs that wait. -/
def Main.SyncKept (m n : Main) : Prop := n.out = m.out ∧ n.ptp.held = m.ptp.held

section
variable {m n k : Main}

theorem Main.SyncKept.trans (h : Main.SyncKept m n) (h' : Main.SyncKept n k) : Main.SyncKept m k :=
  ⟨h'.1.trans h.1, h'.2.trans h.2⟩

theorem Main.SyncKept.measured (m : Main) (off : Int) : Main.SyncKept m (m.measured off) := by
  unfold Main.measured
  dsimp only
  split <;> exact ⟨rfl, rfl⟩

theorem Main.SyncKept.steer (m : Main) (off : Int) (dt : Nat) : Main.SyncKept m (m.steer off dt) := ⟨rfl, rfl⟩

theorem Main.SyncKept.setSync (m : Main) (st : Nat) : Main.SyncKept m (m.setSync st) := ⟨rfl, rfl⟩

theorem Main.SyncKept.lockStep (m : Main) (off : Int) : Main.SyncKept m (m.lockStep off) := by
  have hcounts : ∀ good bad, Main.SyncKept m (if m.syncState = 1 ∧ 16 ≤ good then m.setSync 2
      else if m.syncState = 2 ∧ 4 ≤ bad then m.setSync 1 else { m with ptp := { m.ptp with good := good, bad := bad } }) := by
    intro good bad
    split
    · exact .setSync m 2
    · split
      · exact .setSync m 1
      · exact ⟨rfl, rfl⟩
  exact hcounts _ _

theorem Main.SyncKept.decideOffset (m : Main) (off : Int) (dt : Nat) : Main.SyncKept m (m.decideOffset off dt) := by
  have hm : Main.SyncKept m { m.measured off with ptp := { m.ptp with first := none, deciding := false } } :=
    ⟨(Main.SyncKept.measured m off).1, rfl⟩
  have hacquire : ∀ x, Main.SyncKept m x → Main.SyncKept m ((x.steer off dt).setSync 1) :=
    fun x hx => hx.trans ((Main.SyncKept.steer x off dt).trans (.setSync _ 1))
  unfold Main.decideOffset
  dsimp only
  split
  · exact hacquire _ hm
  · split
    · exact hacquire _ ⟨hm.1, hm.2⟩
    · split
      · exact hacquire _ ⟨hm.1, hm.2⟩
      · exact ⟨hm.1, hm.2⟩

/-- R173: the Sync is the latest one used, and names the port. -/
def Main.syncTaken (m : Main) (p : Nat) (rx : Int) : Main :=
  { m.setObj (ntAddr 0 O.NT_PTP_PORT) p with ptp := { m.ptp with lastSync := rx.toNat } }

/-- R173, R174, R177: what a Sync does by NT_SYNC_STATE. -/
def Main.syncUsed (m : Main) (rx off : Int) (dt : Nat) : Main :=
  if m.syncState = 0 ∨ m.syncState = 3 ∨ m.ptp.deciding then
    match m.ptp.first with
    | none => { m with ptp := { m.ptp with first := some (rx.toNat, off) } }
    | some _ => m.decideOffset off dt
  else if m.syncState = 4 then m.decideOffset off dt
  else ((m.measured off).steer off dt).lockStep off

theorem Main.useSync_eq (m : Main) (p : Nat) (rx off : Int) (interval : Nat) : m.useSync p rx off interval =
    if m.obj (ntAddr 0 O.NT_PTP_PORT) ≠ p ∧ m.obj (ntAddr 0 O.NT_PTP_PORT) ≠ 0xFF ∧ rx ≤ (m.ptp.lastSync + interval : Nat) then m
    else (m.syncTaken p rx).syncUsed rx off (rx - m.ptp.lastSync).toNat := rfl

theorem Main.SyncKept.syncUsed (m : Main) (rx off : Int) (dt : Nat) : Main.SyncKept m (m.syncUsed rx off dt) := by
  unfold Main.syncUsed
  split
  · split
    · exact ⟨rfl, rfl⟩
    · exact .decideOffset m off dt
  · split
    · exact .decideOffset m off dt
    · exact (Main.SyncKept.measured m off).trans ((Main.SyncKept.steer _ off dt).trans (.lockStep _ off))

theorem Main.SyncKept.useSync (m : Main) (p : Nat) (rx off : Int) (interval : Nat) :
    Main.SyncKept m (m.useSync p rx off interval) := by
  have htaken : Main.SyncKept m (m.syncTaken p rx) := ⟨rfl, rfl⟩
  rw [Main.useSync_eq]
  split
  · exact ⟨rfl, rfl⟩
  · exact htaken.trans (.syncUsed _ rx off _)

end

end Sys2Proof.Machine
end

section
/-! PTP messages at the node: Sync, Follow_Up and Announce (R168, R171, R173, R174). -/

namespace Sys2Proof.Machine

/-! ### The bounds of the servo (R161, R173) -/

theorem clampInc_bounds (n : Nat) : 0x9FF800000 ≤ clampInc n ∧ clampInc n ≤ 0xA00800000 := by
  unfold clampInc
  omega

/-- What lies within `d` of an estimate in range lies within `d` of it in range too. -/
theorem clampInc_near {est inc d : Nat} (he : 0x9FF800000 ≤ est ∧ est ≤ 0xA00800000) (h1 : est ≤ inc + d) (h2 : inc ≤ est + d) :
    est ≤ clampInc inc + d ∧ clampInc inc ≤ est + d := by
  unfold clampInc
  omega

/-- R173, R177: NT_INC lies within NT_SLEW_PPM of NT_FREQ_EST. -/
theorem Main.steer_spec (m : Main) (off : Int) (dt : Nat) : ∃ est inc : Nat,
    m.steer off dt = (m.setObj (ntAddr 0 O.NT_FREQ_EST) est).setInc inc ∧ est < 2 ^ 36 ∧ inc < 2 ^ 36 ∧
    est ≤ inc + est * m.obj (ntAddr 0 O.NT_SLEW_PPM) / 1000000 ∧ inc ≤ est + est * m.obj (ntAddr 0 O.NT_SLEW_PPM) / 1000000 := by
  let est := clampInc (Config.rateEstimate (m.objW (ntAddr 0 O.NT_FREQ_EST)) off dt).toNat
  let d := est * m.obj (ntAddr 0 O.NT_SLEW_PPM) / 1000000
  let inc := if m.objB (ntAddr 0 O.NT_SLEWING) then (if 0 < off then est - d else est + d)
    else max (est - d) (min (est + d) (Config.servoInc (BitVec.ofNat 36 est) off).toNat)
  have hest : 0x9FF800000 ≤ est ∧ est ≤ 0xA00800000 := clampInc_bounds _
  have hnear : est ≤ inc + d ∧ inc ≤ est + d := by
    dsimp only [inc]
    generalize (Config.servoInc (BitVec.ofNat 36 est) off).toNat = w
    generalize d = d
    split
    · split <;> omega
    · omega
  obtain ⟨h1, h2⟩ := clampInc_near hest hnear.1 hnear.2
  have hinc : clampInc inc ≤ 0xA00800000 := (clampInc_bounds inc).2
  have heq : m.steer off dt = (m.setObj (ntAddr 0 O.NT_FREQ_EST) est).setInc (clampInc inc) := rfl
  exact ⟨est, clampInc inc, heq, by omega, by omega, h1, h2⟩

/-- R174: a change of NT_SYNC_STATE leaves the time base and every other object. -/
theorem Main.lockStep_frame (m : Main) (off : Int) : (m.lockStep off).tb = m.tb ∧
    ∀ b, b ≠ ntAddr 0 O.NT_SYNC_STATE → (m.lockStep off).obj b = m.obj b := by
  have hset : ∀ st, (m.setSync st).tb = m.tb ∧ ∀ b, b ≠ ntAddr 0 O.NT_SYNC_STATE → (m.setSync st).obj b = m.obj b :=
    fun st => ⟨rfl, fun b hb => Main.objs_keep _ _ _ _ hb⟩
  have hcounts : ∀ (n : Main), n = m.setSync 2 ∨ n = m.setSync 1 ∨ n.tb = m.tb ∧ n.objs = m.objs →
      n.tb = m.tb ∧ ∀ b, b ≠ ntAddr 0 O.NT_SYNC_STATE → n.obj b = m.obj b := by
    rintro n (rfl | rfl | ⟨htb, hobjs⟩)
    · exact hset 2
    · exact hset 1
    · refine ⟨htb, fun b _ => ?_⟩
      unfold Main.obj
      rw [hobjs]
  have hcases : ∀ good bad, (fun n => n = m.setSync 2 ∨ n = m.setSync 1 ∨ n.tb = m.tb ∧ n.objs = m.objs)
      (if m.syncState = 1 ∧ 16 ≤ good then m.setSync 2 else if m.syncState = 2 ∧ 4 ≤ bad then m.setSync 1
        else { m with ptp := { m.ptp with good := good, bad := bad } }) := by
    intro good bad
    split
    · exact Or.inl rfl
    · split
      · exact Or.inr (Or.inl rfl)
      · exact Or.inr (Or.inr ⟨rfl, rfl⟩)
  exact hcounts _ (hcases _ _)

/-- R177: NT_OFFSET as it is measured. -/
theorem Main.measured_spec (m : Main) (off : Int) : (m.measured off).obj (ntAddr 0 O.NT_OFFSET) = (wordOf off).toNat ∧
    (∃ o, m.measured off = { m with objs := o }) ∧
    ∀ b, b ≠ ntAddr 0 O.NT_OFFSET → b ≠ ntAddr 0 O.NT_SLEWING → (m.measured off).obj b = m.obj b := by
  have hofs : (m.setObjI (ntAddr 0 O.NT_OFFSET) off).obj (ntAddr 0 O.NT_OFFSET) = (wordOf off).toNat :=
    Main.obj_setObj_same_of_lt m (ntAddr 0 O.NT_OFFSET) (wordOf off).isLt
  have hkeep : ∀ b, b ≠ ntAddr 0 O.NT_OFFSET → (m.setObjI (ntAddr 0 O.NT_OFFSET) off).obj b = m.obj b :=
    fun b hb => Main.objs_keep _ _ _ _ hb
  obtain ⟨o, ho⟩ := m.setObj_frame (ntAddr 0 O.NT_OFFSET) (wordOf off).toNat
  have hframe : m.setObjI (ntAddr 0 O.NT_OFFSET) off = { m with objs := o } := ho
  unfold Main.measured
  dsimp only
  split
  · refine ⟨(Main.objs_keep _ _ _ _ (ntAddr_ne (by decide) (by decide) (by decide))).trans hofs, ?_, fun b h1 h2 =>
      (Main.objs_keep _ _ _ _ h2).trans (hkeep b h1)⟩
    obtain ⟨o', ho'⟩ := (m.setObjI (ntAddr 0 O.NT_OFFSET) off).setObj_frame (ntAddr 0 O.NT_SLEWING) 0
    exact ⟨o', by rw [ho', hframe]⟩
  · exact ⟨hofs, ⟨o, hframe⟩, fun b h1 _ => hkeep b h1⟩

/-- R173: a Sync in ACQUIRE or LOCKED. -/
theorem Main.useSync_steers {m : Main} {p : Nat} {rx off : Int} {interval : Nat} (hport : m.obj (ntAddr 0 O.NT_PTP_PORT) = p)
    (hst : m.syncState = 1 ∨ m.syncState = 2) (hdec : m.ptp.deciding = false) :
    (m.useSync p rx off interval).objW (ntAddr 0 O.NT_OFFSET) = wordOf off ∧
    (let est := (m.useSync p rx off interval).obj (ntAddr 0 O.NT_FREQ_EST)
     let d := est * m.obj (ntAddr 0 O.NT_SLEW_PPM) / 1000000
     est ≤ (m.useSync p rx off interval).tb.inc.toNat + d ∧ (m.useSync p rx off interval).tb.inc.toNat ≤ est + d) := by
  have htaken : ∀ b, b ≠ ntAddr 0 O.NT_PTP_PORT → (m.syncTaken p rx).obj b = m.obj b := fun b hb => Main.objs_keep _ _ _ _ hb
  have hst' : (m.syncTaken p rx).syncState = m.syncState := htaken _ (ntAddr_ne (by decide) (by decide) (by decide))
  have hdec' : (m.syncTaken p rx).ptp.deciding = false := hdec
  have hslew : (m.syncTaken p rx).obj (ntAddr 0 O.NT_SLEW_PPM) = m.obj (ntAddr 0 O.NT_SLEW_PPM) :=
    htaken _ (ntAddr_ne (by decide) (by decide) (by decide))
  have hgate : ¬ ((m.syncTaken p rx).syncState = 0 ∨ (m.syncTaken p rx).syncState = 3 ∨ (m.syncTaken p rx).ptp.deciding = true) := by
    rw [hst', hdec']
    rintro (h | h | h)
    · omega
    · omega
    · exact Bool.false_ne_true h
  have hgate' : ¬ (m.syncTaken p rx).syncState = 4 := by rw [hst']; omega
  have huse : m.useSync p rx off interval =
      (((m.syncTaken p rx).measured off).steer off (rx - m.ptp.lastSync).toNat).lockStep off := by
    rw [Main.useSync_eq, if_neg (fun h => h.1 hport), Main.syncUsed, if_neg hgate, if_neg hgate']
  obtain ⟨hofs, ⟨o, hframe⟩, hkeep⟩ := (m.syncTaken p rx).measured_spec off
  generalize (rx - m.ptp.lastSync).toNat = dt at huse
  have hslew' : ((m.syncTaken p rx).measured off).obj (ntAddr 0 O.NT_SLEW_PPM) = m.obj (ntAddr 0 O.NT_SLEW_PPM) :=
    (hkeep _ (ntAddr_ne (by decide) (by decide) (by decide)) (ntAddr_ne (by decide) (by decide) (by decide))).trans hslew
  generalize (m.syncTaken p rx).measured off = n at huse hofs hslew'
  obtain ⟨est, inc, hsteer, hest, hinc, h1, h2⟩ := n.steer_spec off dt
  obtain ⟨htb, hobj⟩ := (n.steer off dt).lockStep_frame off
  have hest' : (m.useSync p rx off interval).obj (ntAddr 0 O.NT_FREQ_EST) = est := by
    rw [huse, hobj _ (ntAddr_ne (by decide) (by decide) (by decide)), hsteer]
    exact Main.obj_setObj_same_of_lt n (ntAddr 0 O.NT_FREQ_EST) hest
  have hinc' : (m.useSync p rx off interval).tb.inc.toNat = inc := by
    rw [huse, htb, hsteer]
    exact Nat.mod_eq_of_lt hinc
  have hofs' : (m.useSync p rx off interval).obj (ntAddr 0 O.NT_OFFSET) = (wordOf off).toNat := by
    rw [huse, hobj _ (ntAddr_ne (by decide) (by decide) (by decide)), hsteer]
    exact (Main.objs_keep n _ _ _ (ntAddr_ne (by decide) (by decide) (by decide))).trans hofs
  refine ⟨?_, ?_⟩
  · unfold Main.objW
    rw [hofs']
    exact BitVec.ofNat_toNat ..
  · dsimp only
    rw [hest', hinc', ← hslew']
    exact ⟨h1, h2⟩

/-! ### Sync -/

section
variable {port : LPort} {s : State} {g : PtpFrame}

theorem Main.offsetOf_congr {m n : Main} {p : Nat} (h : n.obj (ntAddr p O.NT_PDELAY) = m.obj (ntAddr p O.NT_PDELAY))
    (rx corr : Int) (origin : Nat) : n.offsetOf p rx corr origin = m.offsetOf p rx corr origin := by
  unfold Main.offsetOf
  rw [h]

/-- R168, R171: a Sync, and what the node makes of it. -/
theorem exec_sync {raw : Instant} (hup : s.main.portUp (1 - LPort.num port) = true) (hcut : s.main.line.cut = [])
    (h : s.main.takesPtp (LPort.num port) g 0 = true) : exec (.sync port raw g) s = .next { s with
      main :=
        let n := s.passed (LPort.num port) (g.corrected (s.main.syncCorrection (LPort.num port)))
        let rx := s.main.rxStamp (LPort.num port) raw
        if s.main.follows g.domain g.master = false then n
        else if g.twoStep then
          { n with ptp := { n.ptp with held := { port := LPort.num port, master := g.master, seqId := g.seqId, stamp := rx,
                                                 corr := g.correction, interval := g.interval } ::
                                                 n.ptp.held.filter (fun x => x.port != LPort.num port) } }
        else n.useSync (LPort.num port) rx (s.main.offsetOf (LPort.num port) rx g.correction g.originTime) g.interval } := by
  let p := LPort.num port
  have hon : s.start.onLine p { bytes := g.frame } = s.passed p (g.corrected (s.main.syncCorrection p)) :=
    State.onLine_ptp (kind := 0) (Main.takes_of_takesPtp h) (by decide) hup hcut
  have hofs : ∀ rx, (s.passed p (g.corrected (s.main.syncCorrection p))).offsetOf p rx g.correction g.originTime =
      s.main.offsetOf p rx g.correction g.originTime :=
    fun rx => Main.offsetOf_congr (s.obj_passed p _ (by decide) (by decide)) rx _ _
  have h' : s.start.takesPtp p g 0 = true := h
  change Host.Outcome.next { s with
    main :=
      let n := s.start.onLine p { bytes := g.frame }
      let rx := s.start.rxStamp p raw
      if (!(s.start.takesPtp p g 0 && s.main.follows g.domain g.master)) = true then n
      else if g.twoStep then
        { n with ptp := { n.ptp with held := { port := p, master := g.master, seqId := g.seqId, stamp := rx,
                                               corr := g.correction, interval := g.interval } ::
                                               n.ptp.held.filter (fun x => x.port != p) } }
      else n.useSync p rx (n.offsetOf p rx g.correction g.originTime) g.interval } = _
  rw [hon, h', Bool.true_and]
  dsimp only
  rw [hofs]
  cases s.main.follows g.domain g.master <;> rfl

theorem sync_passes (raw : Instant) (hup : s.main.portUp (1 - LPort.num port) = true) (hcut : s.main.line.cut = [])
    (h : s.main.takesPtp (LPort.num port) g 0 = true) : Completes (.sync port raw g) s (fun t =>
      t.main.out.frame = some (1 - LPort.num port, g.corrected (s.main.syncCorrection (LPort.num port))) ∧
      (s.main.follows g.domain g.master = false → ObjsOnly s t [ntAddr (LPort.num port) O.NT_RX_FRAMES]) ∧
      (s.main.follows g.domain g.master = true → g.twoStep = true → ∃ h, t.main.ptp.held.head? = some h ∧ h.port = LPort.num port ∧
        h.master = g.master ∧ h.seqId = g.seqId ∧ t.main.tb = s.main.tb) ∧
      (s.main.follows g.domain g.master = true → g.twoStep = false → s.main.obj (ntAddr 0 O.NT_PTP_PORT) = LPort.num port →
        (s.main.syncState = 1 ∨ s.main.syncState = 2) → s.main.ptp.deciding = false →
        t.main.objW (ntAddr 0 O.NT_OFFSET) = wordOf (s.main.offsetOf (LPort.num port) (s.main.rxStamp (LPort.num port) raw)
          g.correction g.originTime) ∧
        (let est := t.main.obj (ntAddr 0 O.NT_FREQ_EST)
         let d := est * s.main.obj (ntAddr 0 O.NT_SLEW_PPM) / 1000000
         est ≤ t.main.tb.inc.toNat + d ∧ t.main.tb.inc.toNat ≤ est + d))) := by
  have hexec := exec_sync (raw := raw) hup hcut h
  have hout : (s.passed (LPort.num port) (g.corrected (s.main.syncCorrection (LPort.num port)))).out.frame =
      some (1 - LPort.num port, g.corrected (s.main.syncCorrection (LPort.num port))) := rfl
  have htb : (s.passed (LPort.num port) (g.corrected (s.main.syncCorrection (LPort.num port)))).tb = s.main.tb := rfl
  have hptp : (s.passed (LPort.num port) (g.corrected (s.main.syncCorrection (LPort.num port)))).ptp = s.main.ptp := rfl
  have honly := s.objsOnly_passed (LPort.num port) (g.corrected (s.main.syncCorrection (LPort.num port)))
  have hobj : ∀ l, l < 4096 → l ≠ O.NT_RX_FRAMES →
      (s.passed (LPort.num port) (g.corrected (s.main.syncCorrection (LPort.num port)))).obj (ntAddr 0 l) = s.main.obj (ntAddr 0 l) :=
    fun l hl hne => s.obj_passed _ _ hl hne
  generalize s.passed (LPort.num port) (g.corrected (s.main.syncCorrection (LPort.num port))) = n at hexec hout htb hptp honly hobj
  dsimp only at hexec
  cases hf : s.main.follows g.domain g.master
  · rw [hf, if_pos rfl] at hexec
    exact completes_of_exec hexec ⟨hout, fun _ => honly, nofun, nofun⟩
  · rw [hf, if_neg (by decide)] at hexec
    cases htwo : g.twoStep
    · rw [htwo, if_neg Bool.false_ne_true] at hexec
      have hkept := Main.SyncKept.useSync n (LPort.num port) (s.main.rxStamp (LPort.num port) raw)
        (s.main.offsetOf (LPort.num port) (s.main.rxStamp (LPort.num port) raw) g.correction g.originTime) g.interval
      refine completes_of_exec hexec ⟨(congrArg Out.frame hkept.1).trans hout, nofun, nofun, fun _ _ hport hst hdec => ?_⟩
      have hsteers := Main.useSync_steers (m := n) (rx := s.main.rxStamp (LPort.num port) raw)
        (off := s.main.offsetOf (LPort.num port) (s.main.rxStamp (LPort.num port) raw) g.correction g.originTime)
        (interval := g.interval) ((hobj _ (by decide) (by decide)).trans hport)
        (by unfold Main.syncState at hst ⊢; rw [hobj _ (by decide) (by decide)]; exact hst) (by rw [hptp]; exact hdec)
      rw [hobj O.NT_SLEW_PPM (by decide) (by decide)] at hsteers
      exact hsteers
    · rw [htwo, if_pos rfl] at hexec
      exact completes_of_exec hexec ⟨hout, nofun, fun _ _ => ⟨_, rfl, rfl, rfl, rfl, htb⟩, nofun⟩

/-! ### Follow_Up -/

theorem followUp_passes (hup : s.main.portUp (1 - LPort.num port) = true) (hcut : s.main.line.cut = [])
    (h : s.main.takesPtp (LPort.num port) g 8 = true) : Completes (.followUp port g) s (fun t =>
      t.main.out.frame = some (1 - LPort.num port, g.frame) ∧
      (s.main.ptp.held.find? (fun h => h.port == LPort.num port) = none → ObjsOnly s t [ntAddr (LPort.num port) O.NT_RX_FRAMES]) ∧
      (∀ h, s.main.ptp.held.find? (fun h => h.port == LPort.num port) = some h → s.main.follows g.domain g.master = true →
        h.master = g.master → h.seqId = g.seqId → t.main.ptp.held.find? (fun h => h.port == LPort.num port) = none)) := by
  let p := LPort.num port
  let n := s.passed p g.frame
  have hon : s.start.onLine p { bytes := g.frame } = n :=
    State.onLine_ptp (kind := 8) (Main.takes_of_takesPtp h) (by decide) hup hcut
  have h' : s.start.takesPtp p g 8 = true := h
  have hexec : exec (.followUp port g) s = .next { s with
      main := match s.main.ptp.held.find? (fun h => h.port == p) with
        | none => n
        | some h =>
          if s.main.follows g.domain g.master = true ∧ h.master = g.master ∧ h.seqId = g.seqId then
            Main.useSync { n with ptp := { n.ptp with held := s.main.ptp.held.filter (fun x => x.port != p) } } p h.stamp
              (n.offsetOf p h.stamp (h.corr + g.correction) g.originTime) h.interval
          else n } := by
    change Host.Outcome.next { s with
      main :=
        let m : Main := s.start.onLine p { bytes := g.frame }
        match m.ptp.held.find? (fun h : HeldSync => h.port == p) with
        | none => m
        | some h =>
          if (s.start.takesPtp p g 8 && s.main.follows g.domain g.master) = true ∧ h.master = g.master ∧ h.seqId = g.seqId then
            Main.useSync { m with ptp := { m.ptp with held := m.ptp.held.filter (fun x : HeldSync => x.port != p) } } p h.stamp
              (m.offsetOf p h.stamp (h.corr + g.correction) g.originTime) h.interval
          else m } = _
    rw [hon, h', Bool.true_and]
    rfl
  have hout : n.out.frame = some (1 - p, g.frame) := rfl
  have honly : ObjsOnly s { s with main := n } [ntAddr p O.NT_RX_FRAMES] := s.objsOnly_passed p g.frame
  generalize n = n at hexec hout honly
  cases hheld : s.main.ptp.held.find? (fun h => h.port == p) with
  | none =>
    rw [hheld] at hexec
    exact completes_of_exec hexec ⟨hout, fun _ => honly, nofun⟩
  | some x =>
    rw [hheld] at hexec
    dsimp only at hexec
    by_cases huse : s.main.follows g.domain g.master = true ∧ x.master = g.master ∧ x.seqId = g.seqId
    · rw [if_pos huse] at hexec
      have hkept := Main.SyncKept.useSync
        { n with ptp := { n.ptp with held := s.main.ptp.held.filter (fun x => x.port != p) } } p x.stamp
        (n.offsetOf p x.stamp (x.corr + g.correction) g.originTime) x.interval
      refine completes_of_exec hexec ⟨(congrArg Out.frame hkept.1).trans hout, nofun, fun _ _ _ _ _ => ?_⟩
      refine (congrArg (List.find? _) hkept.2).trans (List.find?_eq_none.2 fun y hy => ?_)
      have hne := (List.mem_filter.1 hy).2
      simpa using hne
    · rw [if_neg huse] at hexec
      refine completes_of_exec hexec ⟨hout, nofun, fun y hy hf hm hs => absurd ⟨hf, ?_⟩ huse⟩
      rw [Option.some.inj hy]
      exact ⟨hm, hs⟩

/-! ### Announce -/

/-- R168: the choice of a master leaves what has been sent. -/
theorem Main.out_selectMaster (m : Main) : m.selectMaster.out = m.out := by
  unfold Main.selectMaster
  dsimp only
  split <;> rfl

/-- R173: the best of the qualified masters is selected. -/
theorem Main.selectMaster_of_best {m : Main} {x : List Byte}
    (h : (bestHeard (m.liveAnnounces.filter Heard.qualified)).map (·.msg.master) = some x) :
    m.selectMaster.ptp.master = some x ∧ (m.ptp.master = some x ∨ m.selectMaster.master8 = x.take 8) := by
  unfold Main.selectMaster
  dsimp only
  rw [h]
  by_cases hx : some x = m.ptp.master
  · rw [if_pos hx]
    exact ⟨hx.symm, Or.inl hx.symm⟩
  · rw [if_neg hx]
    exact ⟨rfl, Or.inr rfl⟩

/-- R168: a second Announce of one master within four intervals. -/
theorem best_of_qualified {x : Heard} {m : Main} (hann : m.ptp.announces = [x]) (hlive : m.now < x.at_ + x.msg.timeout)
    (hq : x.qualified = true) : (bestHeard (m.liveAnnounces.filter Heard.qualified)).map (·.msg.master) = some x.msg.master := by
  unfold Main.liveAnnounces
  have hlive' : [x].filter (fun a => decide (m.now < a.at_ + a.msg.timeout)) = [x] :=
    List.filter_cons_of_pos (decide_eq_true hlive)
  rw [hann, hlive', List.filter_cons_of_pos hq]
  rfl

theorem announce_passes (hup : s.main.portUp (1 - LPort.num port) = true) (hcut : s.main.line.cut = [])
    (h : s.main.takesPtp (LPort.num port) g 11 = true) : Completes (.announce port g) s (fun t =>
      t.main.out.frame = some (1 - LPort.num port, g.frame) ∧
      (s.main.sup.boot = .run → s.main.obj (ntAddr 0 O.NT_SYNC_MODE) = 0 → s.main.obj (ntAddr 0 O.NT_PTP_DOMAIN) = g.domain →
        0 < g.timeout → g.stepsRemoved < 255 → ∀ h, s.main.ptp.announces = [h] → h.port = LPort.num port → h.msg.master = g.master →
        s.main.now ≤ h.at_ + 4 * g.interval → t.main.ptp.master = some g.master ∧ t.main.master8 = g.master.take 8 ∨
          s.main.ptp.master = some g.master)) := by
  let p := LPort.num port
  let n := s.passed p g.frame
  let same := fun (a : Heard) => a.port == p && a.msg.master == g.master
  let x : Heard := { port := p, at_ := s.main.now, prev := (s.main.ptp.announces.find? same).map (·.at_), msg := g }
  let k : Main := { n with ptp := { n.ptp with announces := x :: s.main.ptp.announces.filter (fun a => !same a) } }
  have hon : s.start.onLine p { bytes := g.frame } = n :=
    State.onLine_ptp (kind := 11) (Main.takes_of_takesPtp h) (by decide) hup hcut
  have h' : s.start.takesPtp p g 11 = true := h
  have hmode : n.obj (ntAddr 0 O.NT_SYNC_MODE) = s.main.obj (ntAddr 0 O.NT_SYNC_MODE) := s.obj_passed p _ (by decide) (by decide)
  have hdom : n.obj (ntAddr 0 O.NT_PTP_DOMAIN) = s.main.obj (ntAddr 0 O.NT_PTP_DOMAIN) := s.obj_passed p _ (by decide) (by decide)
  have hexec : exec (.announce port g) s = .next { s with
      main :=
        if (s.main.sup.boot != BootStep.run || s.main.obj (ntAddr 0 O.NT_SYNC_MODE) != 0 ||
          s.main.obj (ntAddr 0 O.NT_PTP_DOMAIN) != g.domain) = true then n else k.selectMaster } := by
    rw [← hmode, ← hdom]
    change Host.Outcome.next { s with
      main :=
        let m : Main := s.start.onLine p { bytes := g.frame }
        if (!s.start.takesPtp p g 11 || m.sup.boot != BootStep.run || m.obj (ntAddr 0 O.NT_SYNC_MODE) != 0 ||
          m.obj (ntAddr 0 O.NT_PTP_DOMAIN) != g.domain) = true then m
        else
          let x : Heard := { port := p, at_ := m.now, prev := (m.ptp.announces.find? same).map Heard.at_, msg := g }
          Main.selectMaster { m with ptp := { m.ptp with announces := x :: m.ptp.announces.filter (fun a => !same a) } } } = _
    rw [hon, h', Bool.not_true]
    rfl
  have hout : n.out.frame = some (1 - p, g.frame) := rfl
  have houtk : k.selectMaster.out.frame = some (1 - p, g.frame) := (congrArg Out.frame k.out_selectMaster).trans hout
  by_cases hgate : (s.main.sup.boot != BootStep.run || s.main.obj (ntAddr 0 O.NT_SYNC_MODE) != 0 ||
      s.main.obj (ntAddr 0 O.NT_PTP_DOMAIN) != g.domain) = true
  · rw [if_pos hgate] at hexec
    refine completes_of_exec hexec ⟨hout, fun hboot hm hd => absurd hgate ?_⟩
    rw [hboot, hm, hd, bne_self_eq_false, bne_self_eq_false, bne_self_eq_false]
    decide
  · rw [if_neg hgate] at hexec
    refine completes_of_exec hexec ⟨houtk, fun _ _ _ htime hsteps y hann hport hmaster hnear => ?_⟩
    have hsame : same y = true := by
      simp only [same, hport, hmaster, p, beq_self_eq_true, Bool.and_self]
    have hprev : x.prev = some y.at_ := by
      simp only [x, hann, List.find?_cons_of_pos hsame, Option.map_some]
    have hannk : k.ptp.announces = [x] := by
      simp only [k, hann, List.filter_cons, hsame, Bool.not_true, Bool.false_eq_true, if_false, List.filter_nil]
    have hq : x.qualified = true := by
      unfold Heard.qualified
      rw [hprev]
      exact Bool.and_eq_true_iff.2 ⟨decide_eq_true hsteps, decide_eq_true hnear⟩
    have hbest := best_of_qualified (m := k) hannk (Nat.lt_add_of_pos_right htime) hq
    obtain ⟨hsel, hsel8⟩ := Main.selectMaster_of_best hbest
    exact hsel8.elim Or.inr (fun h8 => Or.inl ⟨hsel, h8⟩)

end

/-- Settles O46. -/
theorem ptpMessagesPassAndSteer : Obligations.PtpMessagesPassAndSteer := by
  unfold Obligations.PtpMessagesPassAndSteer
  exact fun port s _ hup hcut => ⟨fun raw g h => sync_passes raw hup hcut h, fun g h => followUp_passes hup hcut h,
    fun g h => announce_passes hup hcut h⟩

end Sys2Proof.Machine
end

section
/-! Peer delay, master loss and the step of the time base (R169, R172, R174, R176). -/

namespace Sys2Proof.Machine

/-! ### The exchange of a port -/

theorem Main.pd_modPd (m : Main) (p : Nat) (f : Pdelay → Pdelay) : (m.modPd p f).pd p = f (m.pd p) := by
  unfold Main.modPd Main.pd
  rw [mget_mmod, if_pos rfl]

section
variable {p l : Nat}

/-- R169: the stamps of a port follow NT_TS_USER and no other object. -/
theorem Main.rxStamp_inc (m : Main) (hl : l < 4096) (h : l ≠ O.NT_TS_USER) (raw : Instant) :
    (m.inc (ntAddr p l)).rxStamp p raw = m.rxStamp p raw := by
  have hts : (m.inc (ntAddr p l)).tsUser p = m.tsUser p :=
    congrArg (fun w => sgn (BitVec.ofNat 36 w)) (m.objs_keep _ _ _ (ntAddr_ne (by decide) hl h.symm))
  unfold Main.rxStamp
  rw [hts]
  rfl

theorem Main.txStamp_inc (m : Main) (hl : l < 4096) (h : l ≠ O.NT_TS_USER) (raw : Instant) :
    (m.inc (ntAddr p l)).txStamp p raw = m.txStamp p raw := by
  have hts : (m.inc (ntAddr p l)).tsUser p = m.tsUser p :=
    congrArg (fun w => sgn (BitVec.ofNat 36 w)) (m.objs_keep _ _ _ (ntAddr_ne (by decide) hl h.symm))
  unfold Main.txStamp
  rw [hts]
  rfl

end

/-- A result brings its place among the last eight, and ends the exchange. -/
theorem Main.pd_pdResult (m : Main) (p : Nat) (d : Int) :
    (m.pdResult p d).pd p = { m.pd p with waiting := false, recv := none, results := (d :: (m.pd p).results).take 8 } := by
  have hpd := m.pd_modPd p (fun x => { x with waiting := false, recv := none, results := (d :: (m.pd p).results).take 8 })
  unfold Main.pdResult
  dsimp only
  split
  · exact hpd
  · exact hpd

/-- R172: the first result of an exchange is the delay. -/
theorem Main.obj_pdResult_first {m : Main} {p : Nat} {d : Int} (hnone : (m.pd p).results = []) (hd : 0 ≤ d) :
    (m.pdResult p d).obj (ntAddr p O.NT_PDELAY) = d.toNat % 2 ^ 72 := by
  have hmean : rnd ((((([d] : List Int).foldl (· + ·) 0 : Int)) : Rat) / (([d] : List Int).length : Rat)) = d := by
    have hone : ((((([d] : List Int).foldl (· + ·) 0 : Int)) : Rat) / (([d] : List Int).length : Rat)) = (d : Rat) := by
      simp
    rw [hone]
    exact if_pos rfl
  unfold Main.pdResult
  rw [hnone]
  change (if rnd ((((([d] : List Int).foldl (· + ·) 0 : Int)) : Rat) / (([d] : List Int).length : Rat)) < 0 then _ else
    (m.modPd p _).setObj (ntAddr p O.NT_PDELAY)
      (rnd ((((([d] : List Int).foldl (· + ·) 0 : Int)) : Rat) / (([d] : List Int).length : Rat))).toNat : Main).obj _ = _
  rw [hmean, if_neg (Int.not_lt.2 hd)]
  exact Main.obj_setObj_same _ _ _

section
variable {port : LPort} {s : State}

/-- R168: a peer-delay message stays at its port. -/
theorem State.onLine_peer {p : Nat} {g : PtpFrame} (hg : Main.Takes s.main p g 2) (hcut : s.main.line.cut = []) :
    s.start.onLine p { bytes := g.frame } = s.start.inc (ntAddr p O.NT_RX_FRAMES) := by
  have hon := Main.onLine_of_ready (f := { bytes := g.frame }) hg.ready (by rfl)
  rw [hg.damek, if_neg Bool.false_ne_true, State.uncut_of_nil hcut] at hon
  have hkind : ({ frame := g.frame } : PtpFrame).kind = some 2 := hg.kind
  have hforeign : s.start.foreignOn p g.frame = s.start.inc (ntAddr p O.NT_RX_FRAMES) := by
    unfold Main.foreignOn
    rw [Main.rxCount_foreign_good _ _ hg.good]
    dsimp only
    rw [hkind]
    rfl
  exact hon.trans hforeign

theorem pdelayReq_answered {g : PtpFrame} (rx tx : Instant) (hcut : s.main.line.cut = [])
    (h : s.main.takesPtp (LPort.num port) g 2 = true) : Completes (.pdelayReq port g rx tx) s (fun t =>
      ObjsOnly s t [ntAddr (LPort.num port) O.NT_RX_FRAMES] ∧
      t.main.out.frame = some (LPort.num port, peerMessage 3 g.domain (g.correction + 16384 *
        (s.main.txStamp (LPort.num port) tx - s.main.rxStamp (LPort.num port) rx)) (LPort.num port) g.seqId g.master)) := by
  let p := LPort.num port
  let n := s.start.inc (ntAddr p O.NT_RX_FRAMES)
  have hon : s.start.onLine p { bytes := g.frame } = n := State.onLine_peer (Main.takes_of_takesPtp h) hcut
  have hrx : n.rxStamp p rx = s.main.rxStamp p rx := s.start.rxStamp_inc (by decide) (by decide) rx
  have htx : n.txStamp p tx = s.main.txStamp p tx := s.start.txStamp_inc (by decide) (by decide) tx
  have h' : s.start.takesPtp p g 2 = true := h
  have hexec : exec (.pdelayReq port g rx tx) s = .next { s with
      main := n.send p (peerMessage 3 g.domain (g.correction + 16384 * (n.txStamp p tx - n.rxStamp p rx)) p g.seqId g.master) } := by
    change Host.Outcome.next { s with
      main :=
        let m : Main := s.start.onLine p { bytes := g.frame }
        if s.start.takesPtp p g 2 = true then
          m.send p (peerMessage 3 g.domain (g.correction + 16384 * (m.txStamp p tx - m.rxStamp p rx)) p g.seqId g.master)
        else m } = _
    rw [hon, h']
    rfl
  rw [hrx, htx] at hexec
  exact completes_of_exec hexec ⟨⟨rfl, fun a ha => Main.objs_keep _ _ _ _ (by simpa using ha)⟩, rfl⟩

theorem peerUp_gate {m : Main} {p : Nat} (h : m.lineReady p = true) : ¬ (!m.peerUp p) = true := by
  have h' : m.peerUp p = true := h
  rw [h']
  decide

/-- R172: the count of missing responses. -/
def Main.missedCounted (m : Main) (p : Nat) : Main := if (m.pd p).waiting then m.inc (ntAddr p O.NT_PDELAY_FAIL) else m

theorem Main.missedCounted_spec (m : Main) (p : Nat) : (m.missedCounted p).pd p = m.pd p ∧ (m.missedCounted p).now = m.now ∧
    (m.missedCounted p).pdelayPeriod = m.pdelayPeriod ∧ (∀ raw, (m.missedCounted p).txStamp p raw = m.txStamp p raw) ∧
    (m.missedCounted p).obj (ntAddr p O.NT_PDELAY_FAIL) =
      if (m.pd p).waiting then (m.obj (ntAddr p O.NT_PDELAY_FAIL) + 1) % 2 ^ 36 else m.obj (ntAddr p O.NT_PDELAY_FAIL) := by
  have hper : (m.inc (ntAddr p O.NT_PDELAY_FAIL)).pdelayPeriod = m.pdelayPeriod :=
    congrArg (fun w => secondsPow (sgn (BitVec.ofNat 36 w))) (m.objs_keep _ _ _ (ntAddr_ne (by decide) (by decide) (by decide)))
  unfold Main.missedCounted
  cases (m.pd p).waiting
  · exact ⟨rfl, rfl, rfl, fun _ => rfl, rfl⟩
  · exact ⟨rfl, rfl, hper, fun raw => m.txStamp_inc (by decide) (by decide) raw, m.obj_inc_same _⟩

theorem pdelayInterval_expires (hready : s.main.lineReady (LPort.num port) = true) (tx : Instant)
    (hdue : (s.main.pd (LPort.num port)).due ≤ s.main.now) : Completes (.pdelayIntervalExpiry port tx) s (fun t =>
      t.main.pd (LPort.num port) = { s.main.pd (LPort.num port) with
        waiting := true, seqId := (s.main.pd (LPort.num port)).seqId + 1, sent := s.main.txStamp (LPort.num port) tx, recv := none,
        due := (t.main.pd (LPort.num port)).due } ∧
      s.main.now ≤ (t.main.pd (LPort.num port)).due ∧ (t.main.pd (LPort.num port)).due ≤ s.main.now + s.main.pdelayPeriod ∧
      t.main.obj (ntAddr (LPort.num port) O.NT_PDELAY_FAIL) = (if (s.main.pd (LPort.num port)).waiting then
        (s.main.obj (ntAddr (LPort.num port) O.NT_PDELAY_FAIL) + 1) % 2 ^ 36
        else s.main.obj (ntAddr (LPort.num port) O.NT_PDELAY_FAIL)) ∧
      t.main.out.frame = some (LPort.num port, peerMessage 2 0 0 (LPort.num port) ((s.main.pd (LPort.num port)).seqId + 1)
        (List.replicate 10 0))) := by
  let p := LPort.num port
  let n := s.start.missedCounted p
  have hgate : ¬ (!s.start.peerUp p || (s.start.tb.running && decide (s.start.now < (s.start.pd p).due))) = true := by
    have hup : s.start.peerUp p = true := hready
    have hlate : decide (s.start.now < (s.start.pd p).due) = false := decide_eq_false (Nat.not_lt.2 hdue)
    rw [hup, hlate, Bool.and_false]
    decide
  let next := max (n.pd p).due (n.now - n.pdelayPeriod) + n.pdelayPeriod
  have hexec : exec (.pdelayIntervalExpiry port tx) s = .next { s with
      main := (n.modPd p (fun x => { x with waiting := true, seqId := (n.pd p).seqId + 1, sent := n.txStamp p tx, recv := none,
                                            due := next })).send p
        (peerMessage 2 0 0 p ((n.pd p).seqId + 1) (List.replicate 10 0)) } := by
    change Host.Outcome.next { s with
      main :=
        if (!s.start.peerUp p || (s.start.tb.running && decide (s.start.now < (s.start.pd p).due))) = true then s.start
        else (n.modPd p (fun x => { x with waiting := true, seqId := (n.pd p).seqId + 1, sent := n.txStamp p tx, recv := none,
                                           due := next })).send p
          (peerMessage 2 0 0 p ((n.pd p).seqId + 1) (List.replicate 10 0)) } = _
    rw [if_neg hgate]
  obtain ⟨hpd, hnow, hper, htx, hfail⟩ := s.start.missedCounted_spec p
  have hpd' : n.pd p = s.main.pd p := hpd
  have hnow' : n.now = s.main.now := hnow
  have hper' : n.pdelayPeriod = s.main.pdelayPeriod := hper
  have hnext : s.main.now ≤ next ∧ next ≤ s.main.now + s.main.pdelayPeriod := by
    have hle : (s.main.pd p).due ≤ s.main.now := hdue
    dsimp only [next]
    rw [hpd', hnow', hper']
    generalize (s.main.pd p).due = due at hle ⊢
    generalize s.main.now = now at hle ⊢
    omega
  have hset := n.pd_modPd p (fun x => { x with waiting := true, seqId := (n.pd p).seqId + 1, sent := n.txStamp p tx, recv := none,
                                               due := next })
  have htx' : n.txStamp p tx = s.main.txStamp p tx := htx tx
  rw [hpd', htx'] at hset hexec
  have hduet := congrArg Pdelay.due hset
  refine completes_of_exec hexec ⟨?_, hnext.1.trans_eq hduet.symm, hduet.trans_le hnext.2, hfail, rfl⟩
  exact hset.trans (congrArg (fun d => ({ s.main.pd p with
    waiting := true, seqId := (s.main.pd p).seqId + 1, sent := s.main.txStamp p tx, recv := none, due := d } : Pdelay)) hduet.symm)

theorem exec_pdelayResp (hready : s.main.lineReady (LPort.num port) = true) (rx : Instant) (g : PdelayMsg)
    (hw : (s.main.pd (LPort.num port)).waiting = true) (hsq : (s.main.pd (LPort.num port)).seqId = g.seqId) :
    exec (.pdelayResp port rx g) s = .next { s with
      main :=
        let n := s.start.inc (ntAddr (LPort.num port) O.NT_RX_FRAMES)
        let t4 := s.main.rxStamp (LPort.num port) rx
        if g.twoStep then n.modPd (LPort.num port) (fun x => { x with recv := some (t4, g.reqReceipt, g.correction) })
        else n.pdResult (LPort.num port) (meanDelay (s.main.pd (LPort.num port)).sent t4 g.correction) } := by
  let p := LPort.num port
  let n := s.start.inc (ntAddr p O.NT_RX_FRAMES)
  have hgate : ¬ (!s.start.peerUp p) = true := peerUp_gate (m := s.start) hready
  have hmatch : ¬ ((!(n.pd p).waiting) = true ∨ (n.pd p).seqId ≠ g.seqId) := by
    have hw' : (n.pd p).waiting = true := hw
    rw [hw']
    rintro (h | h)
    · exact absurd h (by decide)
    · exact h hsq
  have hrx : n.rxStamp p rx = s.main.rxStamp p rx := s.start.rxStamp_inc (by decide) (by decide) rx
  change Host.Outcome.next { s with
    main :=
      if (!s.start.peerUp p) = true then s.start
      else if (!(n.pd p).waiting) = true ∨ (n.pd p).seqId ≠ g.seqId then n
      else if g.twoStep then n.modPd p (fun x => { x with recv := some (n.rxStamp p rx, g.reqReceipt, g.correction) })
      else n.pdResult p (meanDelay (n.pd p).sent (n.rxStamp p rx) g.correction) } = _
  rw [if_neg hgate, if_neg hmatch, hrx]
  rfl

theorem pdelayFollowUp_completes (hready : s.main.lineReady (LPort.num port) = true) {sq : BitVec 16} {t4 receipt corr : Int}
    (o c : Int) (hrecv : (s.main.pd (LPort.num port)).recv = some (t4, receipt, corr))
    (hw : (s.main.pd (LPort.num port)).waiting = true) (hsq : (s.main.pd (LPort.num port)).seqId = sq) :
    Completes (.pdelayRespFollowUp port sq o c) s (fun t => (t.main.pd (LPort.num port)).waiting = false ∧
      (t.main.pd (LPort.num port)).results = (meanDelay (s.main.pd (LPort.num port)).sent t4 (o - receipt + corr + c) ::
        (s.main.pd (LPort.num port)).results).take 8) := by
  let p := LPort.num port
  let n := s.start.inc (ntAddr p O.NT_RX_FRAMES)
  have hgate : ¬ (!s.start.peerUp p) = true := peerUp_gate (m := s.start) hready
  have hmatch : ¬ ((!(n.pd p).waiting) = true ∨ (n.pd p).seqId ≠ sq) := by
    have hw' : (n.pd p).waiting = true := hw
    rw [hw']
    rintro (h | h)
    · exact absurd h (by decide)
    · exact h hsq
  have hrecv' : (n.pd p).recv = some (t4, receipt, corr) := hrecv
  have hexec : exec (.pdelayRespFollowUp port sq o c) s = .next { s with
      main := n.pdResult p (meanDelay (n.pd p).sent t4 (o - receipt + corr + c)) } := by
    change Host.Outcome.next { s with
      main :=
        if (!s.start.peerUp p) = true then s.start
        else match (n.pd p).recv with
          | none => n
          | some (t4, receipt, corr) =>
            if (!(n.pd p).waiting) = true ∨ (n.pd p).seqId ≠ sq then n
            else n.pdResult p (meanDelay (n.pd p).sent t4 (o - receipt + corr + c)) } = _
    rw [if_neg hgate, hrecv']
    simp only [if_neg hmatch]
  have hpd := n.pd_pdResult p (meanDelay (n.pd p).sent t4 (o - receipt + corr + c))
  exact completes_of_exec hexec ⟨congrArg Pdelay.waiting hpd, congrArg Pdelay.results hpd⟩

theorem pdelayResp_completes (hready : s.main.lineReady (LPort.num port) = true) (rx : Instant) (g : PdelayMsg)
    (hw : (s.main.pd (LPort.num port)).waiting = true) (hsq : (s.main.pd (LPort.num port)).seqId = g.seqId) :
    (g.twoStep = false → Completes (.pdelayResp port rx g) s (fun t => (t.main.pd (LPort.num port)).waiting = false ∧
      (let d := meanDelay (s.main.pd (LPort.num port)).sent (s.main.rxStamp (LPort.num port) rx) g.correction
       (t.main.pd (LPort.num port)).results = (d :: (s.main.pd (LPort.num port)).results).take 8 ∧
       ((s.main.pd (LPort.num port)).results = [] → 0 ≤ d →
         t.main.obj (ntAddr (LPort.num port) O.NT_PDELAY) = d.toNat % 2 ^ 72)))) ∧
    (g.twoStep = true → Completes (.pdelayResp port rx g) s (fun t => (t.main.pd (LPort.num port)).waiting = true ∧
      (t.main.pd (LPort.num port)).recv = some (s.main.rxStamp (LPort.num port) rx, g.reqReceipt, g.correction))) := by
  have hexec := exec_pdelayResp hready rx g hw hsq
  dsimp only at hexec
  have hpd : (s.start.inc (ntAddr (LPort.num port) O.NT_RX_FRAMES)).pd (LPort.num port) = s.main.pd (LPort.num port) := rfl
  generalize s.start.inc (ntAddr (LPort.num port) O.NT_RX_FRAMES) = n at hexec hpd
  refine ⟨fun hone => ?_, fun htwo => ?_⟩
  · rw [hone, if_neg (by decide)] at hexec
    have hres := n.pd_pdResult (LPort.num port) (meanDelay (s.main.pd (LPort.num port)).sent (s.main.rxStamp (LPort.num port) rx) g.correction)
    rw [hpd] at hres
    exact completes_of_exec hexec ⟨congrArg Pdelay.waiting hres, congrArg Pdelay.results hres,
      fun hnone hd => Main.obj_pdResult_first (hpd ▸ hnone) hd⟩
  · rw [htwo, if_pos rfl] at hexec
    have hset := n.pd_modPd (LPort.num port)
      (fun x => { x with recv := some (s.main.rxStamp (LPort.num port) rx, g.reqReceipt, g.correction) })
    rw [hpd] at hset
    exact completes_of_exec hexec ⟨(congrArg Pdelay.waiting hset).trans hw, congrArg Pdelay.recv hset⟩

end

/-! ### Master loss -/

/-- R174: HOLDOVER at NT_FREQ_EST. -/
def Main.heldOver (m : Main) : Main :=
  let n := ((m.setSync 3).inc (ntAddr 0 O.NT_LOSS_COUNT)).setInc (m.obj (ntAddr 0 O.NT_FREQ_EST))
  { n with ptp := { n.ptp with first := none, deciding := false } }

theorem Main.heldOver_spec (m : Main) : m.heldOver.syncState = 3 ∧
    m.heldOver.tb = { m.tb with inc := m.objW (ntAddr 0 O.NT_FREQ_EST) } ∧
    m.heldOver.obj (ntAddr 0 O.NT_LOSS_COUNT) = (m.obj (ntAddr 0 O.NT_LOSS_COUNT) + 1) % 2 ^ 36 := by
  have hsync : (m.setObj (ntAddr 0 O.NT_SYNC_STATE) 3).obj (ntAddr 0 O.NT_SYNC_STATE) = 3 :=
    Main.obj_setObj_same_of_lt m (ntAddr 0 O.NT_SYNC_STATE) (by decide)
  have hloss : (m.setObj (ntAddr 0 O.NT_SYNC_STATE) 3).obj (ntAddr 0 O.NT_LOSS_COUNT) = m.obj (ntAddr 0 O.NT_LOSS_COUNT) :=
    Main.objs_keep _ _ _ _ (ntAddr_ne (by decide) (by decide) (by decide))
  have hcount := (m.setObj (ntAddr 0 O.NT_SYNC_STATE) 3).obj_inc_same (ntAddr 0 O.NT_LOSS_COUNT)
  rw [hloss] at hcount
  have hkept : ((m.setObj (ntAddr 0 O.NT_SYNC_STATE) 3).inc (ntAddr 0 O.NT_LOSS_COUNT)).obj (ntAddr 0 O.NT_SYNC_STATE) = 3 :=
    (Main.objs_keep _ _ _ _ (ntAddr_ne (by decide) (by decide) (by decide))).trans hsync
  exact ⟨hkept, rfl, hcount⟩

/-- R168: the choice of a master names the port in use, and no other object. -/
theorem Main.selectMaster_frame (m : Main) : m.selectMaster.tb = m.tb ∧
    ∀ b, b ≠ ntAddr 0 O.NT_PTP_PORT → m.selectMaster.obj b = m.obj b := by
  unfold Main.selectMaster
  dsimp only
  split
  · exact ⟨rfl, fun _ _ => rfl⟩
  · refine ⟨rfl, fun b hb => ?_⟩
    have hkeep : (m.setObj (ntAddr 0 O.NT_PTP_PORT) 0xFF).obj b = m.obj b := Main.objs_keep _ _ _ _ hb
    exact hkeep

theorem masterLoss_holdsOver {s : State} (hmode : s.main.obj (ntAddr 0 O.NT_SYNC_MODE) = 0) (hlost : s.main.lost = true)
    (hst : s.main.syncState = 1 ∨ s.main.syncState = 2 ∨ s.main.syncState = 4) : Completes .masterLoss s (fun t =>
      t.main.syncState = 3 ∧ t.main.tb = { s.main.tb with inc := s.main.objW (ntAddr 0 O.NT_FREQ_EST) } ∧
      t.main.obj (ntAddr 0 O.NT_LOSS_COUNT) = (s.main.obj (ntAddr 0 O.NT_LOSS_COUNT) + 1) % 2 ^ 36) := by
  have hgate : ¬ (s.start.obj (ntAddr 0 O.NT_SYNC_MODE) ≠ 0 ∨ (!s.start.lost) = true) := by
    have hlost' : s.start.lost = true := hlost
    rw [hlost']
    rintro (h | h)
    · exact h hmode
    · exact absurd h (by decide)
  have hst' : s.start.syncState = 1 ∨ s.start.syncState = 2 ∨ s.start.syncState = 4 := hst
  have hexec : exec .masterLoss s = .next { s with main := s.start.heldOver.selectMaster } := by
    change Host.Outcome.next { s with
      main :=
        if s.start.obj (ntAddr 0 O.NT_SYNC_MODE) ≠ 0 ∨ (!s.start.lost) = true then s.start
        else (if s.start.syncState = 1 ∨ s.start.syncState = 2 ∨ s.start.syncState = 4 then s.start.heldOver
          else s.start).selectMaster } = _
    rw [if_neg hgate, if_pos hst']
  obtain ⟨hsync, htb, hloss⟩ := s.start.heldOver_spec
  obtain ⟨hseltb, hsel⟩ := s.start.heldOver.selectMaster_frame
  exact completes_of_exec hexec ⟨(hsel _ (ntAddr_ne (by decide) (by decide) (by decide))).trans hsync, hseltb.trans htb,
    (hsel _ (ntAddr_ne (by decide) (by decide) (by decide))).trans hloss⟩

/-! ### The step -/

theorem Main.AqOnly.tb {m n : Main} (h : Main.AqOnly m n) : n.tb = m.tb := by
  obtain ⟨⟨o, a, rfl⟩, _⟩ := h
  rfl

theorem Main.tb_masterStep (m : Main) (v : Nat) : (m.masterStep v).tb = m.tb := by
  unfold Main.masterStep
  dsimp only
  split
  · rfl
  · split <;> rfl

theorem Main.tb_latchStep (m : Main) (u : Nat) : (m.latchStep u).tb = m.tb := by
  unfold Main.latchStep
  split <;> rfl

theorem Main.AqOnly.aqArmNow (m : Main) {u : Nat} (hu : u < 8) (t : Nat) : Main.AqOnly m (m.aqArmNow u t) := by
  unfold Main.aqArmNow
  dsimp only
  refine Main.AqOnly.trans ?_ (.aqFlush _ hu)
  refine Main.AqOnly.trans ?_ (.foldl _ _ (fun c _ m => ?_) _)
  · exact (Main.AqOnly.modAq m u _).trans ((Main.AqOnly.setObj _ t hu (by decide)).trans ((Main.AqOnly.setObj _ 0 hu (by decide)).trans
      ((Main.AqOnly.setObj _ 0 hu (by decide)).trans ((Main.AqOnly.aqPush _ hu _).trans (.modAq _ u _)))))
  · split
    · exact (Main.AqOnly.aqPut m hu _ _ _ _).trans (.modAq _ u _)
    · exact .refl m

theorem Main.AqOnly.aqStep (m : Main) {u : Nat} (hu : u < 8) (old new : Nat) : Main.AqOnly m (m.aqStep u old new) := by
  have hrec := Main.AqOnly.aqPut m hu 3 0 old (BitVec.ofNat 36 new)
  unfold Main.aqStep
  dsimp only
  split
  · exact (hrec.trans (.aqFlush _ hu)).trans (.aqArmNow _ hu new)
  · exact (hrec.trans (.aqFlush _ hu)).trans ((Main.AqOnly.setObj _ _ hu (by decide)).trans (.modAq _ u _))
  · exact .refl m

/-- R176: the time base is set to `new`. -/
def Main.setTime (m : Main) (new : Nat) : Main := { m with tb := { m.tb.setExt new with slotDue := new } }

theorem Main.tb_setTime (m : Main) (new : Nat) : (m.setTime new).tb = { m.tb.setExt new with slotDue := new } := rfl

theorem Main.tb_edges (m : Main) (n : Nat) : (m.edges n).tb = m.tb.edges n := by
  obtain ⟨e, he⟩ := m.edges_frame n
  rw [he]

/-- R176: what comes with a step from `old` to `new`. -/
def Main.afterStep (m : Main) (old new : Nat) : Main :=
  forEach (List.range 32) (fun u m => m.latchStep u) (forEach aqUnits (fun u m => m.aqStep u old new)
    (forEach (List.range 16) (fun v m => m.masterStep v)
      ((m.inc (ntAddr 0 O.NT_STEP_COUNT)).shiftTimers ((new : Int) - (old : Int)))))

/-- R176: the step to time `v`, at its slot boundary. -/
def Main.stepTo (m : Main) (v : Int) : Main :=
  let m := m.edges (m.tb.edgesTo m.tb.slotDue)
  (m.setTime (v % 2 ^ 72).toNat).afterStep m.now (v % 2 ^ 72).toNat

/-- R176: no step awaits the boundary any more. -/
def Main.stepTaken (m : Main) : Main := { m with tb := { m.tb with step := none } }

theorem Main.timeStep_eq {m : Main} {v : Int} (h : m.tb.step = some (true, v)) : m.timeStep =
    if !m.stepTaken.tb.running || !m.stepTaken.stepAllowed then m.stepTaken else m.stepTaken.stepTo v := by
  unfold Main.timeStep
  rw [h]
  rfl

/-- What comes with a step leaves the time base as the step has set it. -/
theorem Main.tb_afterStep (m : Main) (old new : Nat) : (m.afterStep old new).tb = m.tb := by
  unfold Main.afterStep
  have hstart : ((m.inc (ntAddr 0 O.NT_STEP_COUNT)).shiftTimers ((new : Int) - (old : Int))).tb = m.tb := rfl
  generalize (m.inc (ntAddr 0 O.NT_STEP_COUNT)).shiftTimers ((new : Int) - (old : Int)) = n at hstart
  rw [forEach_frame Main.tb _ (fun u m => m.tb_latchStep u), (Main.AqOnly.units _ (fun u hu m => .aqStep m hu old new) _).tb,
    forEach_frame Main.tb _ (fun v m => m.tb_masterStep v), hstart]

theorem TimeBase.ext_setExt (t : TimeBase) {e : Nat} (he : e < 2 ^ 72) : (t.setExt e).ext = e := by
  simp only [TimeBase.ext, TimeBase.setExt, BitVec.toNat_ofNat]
  omega

theorem TimeBase.acc_setExt (t : TimeBase) (e : Nat) : (t.setExt e).acc.toNat % 2 ^ 30 = t.acc.toNat % 2 ^ 30 := by
  simp only [TimeBase.setExt, BitVec.toNat_ofNat]
  omega

theorem TimeBase.setExt_frame (t : TimeBase) (e : Nat) : (t.setExt e).step = t.step ∧ (t.setExt e).inc = t.inc := by
  cases t
  exact ⟨rfl, rfl⟩

theorem TimeBase.edges_frame (t : TimeBase) (n : Nat) : (t.edges n).step = t.step ∧ (t.edges n).inc = t.inc := by
  cases t
  exact ⟨rfl, rfl⟩

theorem Main.tb_stepTo (m : Main) {v : Nat} (hv : v < 2 ^ 72) :
    (m.stepTo v).tb = { (m.tb.edges (m.tb.edgesTo m.tb.slotDue)).setExt v with slotDue := v } := by
  have hnew : ((v : Int) % 2 ^ 72).toNat = v := by omega
  unfold Main.stepTo
  dsimp only
  rw [Main.tb_afterStep, hnew, Main.tb_setTime, Main.tb_edges]

/-- R176: a time base set to `v` at a boundary. -/
theorem TimeBase.set_spec (t : TimeBase) {v : Nat} (hv : v < 2 ^ 72) (u : TimeBase) (hu : u = { t.setExt v with slotDue := v }) :
    u.ext = v ∧ u.slotDue = v ∧ u.step = t.step ∧ u.inc = t.inc ∧ u.acc.toNat % 2 ^ 30 = t.acc.toNat % 2 ^ 30 := by
  obtain ⟨hstep, hinc⟩ := t.setExt_frame v
  have hext := t.ext_setExt hv
  have hacc := t.acc_setExt v
  generalize t.setExt v = w at hu hstep hinc hext hacc
  subst hu
  cases w
  exact ⟨hext, rfl, hstep, hinc, hacc⟩

/-- R176: the time base after a step to time `v`. -/
theorem Main.stepTo_spec (m : Main) {v : Nat} (hv : v < 2 ^ 72) : (m.stepTo v).now = v ∧ (m.stepTo v).tb.slotDue = v ∧
    (m.stepTo v).tb.step = m.tb.step ∧ (m.stepTo v).tb.inc = m.tb.inc ∧
    (m.stepTo v).tb.acc.toNat % 2 ^ 30 = (m.tb.edges (m.tb.edgesTo m.tb.slotDue)).acc.toNat % 2 ^ 30 := by
  obtain ⟨hext, hdue, hstep, hinc, hacc⟩ := TimeBase.set_spec _ hv _ (m.tb_stepTo hv)
  obtain ⟨hstep', hinc'⟩ := m.tb.edges_frame (m.tb.edgesTo m.tb.slotDue)
  exact ⟨hext, hdue, hstep.trans hstep', hinc.trans hinc', hacc⟩

theorem timeStep_sets {v : Nat} {s : State} (hstep : s.main.tb.step = some (true, (v : Int))) (hv : v < 2 ^ 72)
    (hrun : s.main.tb.running = true) (hok : s.main.stepAllowed = true) : Completes .timeStep s (fun t =>
      t.main.now = v ∧ t.main.tb.slotDue = v ∧ t.main.tb.step = none ∧ t.main.tb.inc = s.main.tb.inc ∧
      t.main.tb.acc.toNat % 2 ^ 30 = (s.main.tb.edges (s.main.tb.edgesTo s.main.tb.slotDue)).acc.toNat % 2 ^ 30) := by
  have hgate : ¬ (!s.start.stepTaken.tb.running || !s.start.stepTaken.stepAllowed) = true := by
    have h1 : s.start.stepTaken.tb.running = true := hrun
    have h2 : s.start.stepTaken.stepAllowed = true := hok
    rw [h1, h2]
    decide
  have hexec : exec .timeStep s = .next { s with main := s.start.timeStep } := rfl
  rw [Main.timeStep_eq (m := s.start) hstep, if_neg hgate] at hexec
  obtain ⟨hnow, hdue, hnone, hinc, hacc⟩ := s.start.stepTaken.stepTo_spec hv
  have hold : (s.start.stepTaken.tb.edges (s.start.stepTaken.tb.edgesTo s.start.stepTaken.tb.slotDue)).acc =
      (s.main.tb.edges (s.main.tb.edgesTo s.main.tb.slotDue)).acc := rfl
  rw [hold] at hacc
  generalize s.start.stepTaken.stepTo v = n at hexec hnow hdue hnone hinc hacc
  exact completes_of_exec hexec ⟨hnow, hdue, hnone, hinc, hacc⟩

theorem timeStep_dropped {v : Int} {s : State} (hstep : s.main.tb.step = some (true, v)) (hno : s.main.stepAllowed = false) :
    Completes .timeStep s (fun t =>
      t = { s with main := { s.main with out := {}, tb := { s.main.tb with step := none } } }) := by
  have hgate : (!s.start.stepTaken.tb.running || !s.start.stepTaken.stepAllowed) = true := by
    have h2 : s.start.stepTaken.stepAllowed = false := hno
    rw [h2, Bool.not_false, Bool.or_true]
  have hexec : exec .timeStep s = .next { s with main := s.start.timeStep } := rfl
  rw [Main.timeStep_eq (m := s.start) hstep, if_pos hgate] at hexec
  exact completes_of_exec hexec rfl

/-- Settles O47. -/
theorem peerDelayLossAndStep : Obligations.PeerDelayLossAndStep := by
  unfold Obligations.PeerDelayLossAndStep
  exact ⟨fun port s hready hcut => ⟨fun g rx tx h => pdelayReq_answered rx tx hcut h,
      fun tx hdue => pdelayInterval_expires hready tx hdue,
      fun rx g hw hsq => pdelayResp_completes hready rx g hw hsq,
      fun sq o c t4 receipt corr hrecv hw hsq => pdelayFollowUp_completes hready o c hrecv hw hsq⟩,
    fun s hmode hlost hst => masterLoss_holdsOver hmode hlost hst,
    fun v s hstep hv => ⟨fun hrun hok => timeStep_sets hstep hv hrun hok, fun hno => timeStep_dropped hstep hno⟩⟩

end Sys2Proof.Machine
end

section
/-! Virtual masters and their segments (R367-R369). -/

namespace Sys2Proof.Machine

/-! ### Handover -/

/-- R367: Δ of a segment that takes over. -/
def Main.handDelta (m : Main) (v : Nat) (g : Segment) (th : Nat) : Rat :=
  match (m.vmst v).st, m.vmAt v th with
  | 2, some p => wrapDiff (p.p - (g.eval th).p)
  | 3, some p => wrapDiff (p.p - (g.eval th).p)
  | _, _ => 0

theorem Main.handDelta_of_empty {m : Main} {v : Nat} (h : (m.vmst v).st = 0) (g : Segment) (th : Nat) : m.handDelta v g th = 0 := by
  unfold Main.handDelta
  rw [h]
  rfl

/-- R367: a segment as it is in force. -/
def Main.handed (m : Main) (v : Nat) (g : Segment) (th : Nat) : Segment :=
  { g with delta := m.handDelta v g th, tHand := th, mergeT := m.mergeTime v }

/-- R367, R381: a master with the segment in force, and the history. -/
def Master.takes (x : Master) (f : Segment) : Master :=
  let h := x.hist ++ x.force.toList
  { x with st := 2, force := some f, hist := h.drop (h.length - 3) }

theorem Main.takeOver_eq (m : Main) (v : Nat) (g : Segment) (th : Nat) : m.takeOver v g th =
    (m.modVm v (fun x => x.takes (m.handed v g th))).setObjI (cmAddr v O.CM_VM_MERGE_LAST) (rnd (m.handDelta v g th)) := rfl

theorem Main.vmst_takeOver (m : Main) (v : Nat) (g : Segment) (th : Nat) :
    (m.takeOver v g th).vmst v = (m.vmst v).takes (m.handed v g th) := by
  have hvm := m.vmst_modVm v v (fun x => x.takes (m.handed v g th))
  rw [if_pos rfl] at hvm
  rw [Main.takeOver_eq]
  exact hvm

/-- R367: a master that was empty takes over without a merge. -/
theorem Main.takeOver_of_empty {m : Main} {v : Nat} (h : (m.vmst v).st = 0) (g : Segment) (th : Nat) :
    (m.handed v g th).delta = 0 ∧ (m.takeOver v g th).objI (cmAddr v O.CM_VM_MERGE_LAST) = 0 := by
  have hd := Main.handDelta_of_empty h g th
  refine ⟨hd, ?_⟩
  rw [Main.takeOver_eq, hd]
  have hobj : ((m.modVm v (fun x => x.takes (m.handed v g th))).setObjI (cmAddr v O.CM_VM_MERGE_LAST) (rnd 0)).obj
      (cmAddr v O.CM_VM_MERGE_LAST) = 0 :=
    Main.obj_setObj_same_of_lt (m.modVm v (fun x => x.takes (m.handed v g th))) (cmAddr v O.CM_VM_MERGE_LAST) (by decide)
  exact congrArg (fun w => sgn (BitVec.ofNat 36 w)) hobj

section
variable {v : Fin 16} {g : Segment} {s : State}

/-! ### Placing -/

/-- R367: a segment received is no longer to be placed. -/
def Main.unplaced (m : Main) (v : Nat) : Main := m.modVm v (fun x => { x with placing := [] })

theorem Main.vmst_unplaced (m : Main) (v k : Nat) :
    (m.unplaced v).vmst k = if k = v then { m.vmst v with placing := [] } else m.vmst k := m.vmst_modVm v k _

theorem exec_segmentPlace {t0 : Nat} (h : (s.main.vmst v).placing = [(t0, g)]) : exec (.segmentPlace v) s = .next { s with
    main :=
      if t0 < slotStart s.main.now then (s.start.unplaced v).placeSeg v (slotStart s.main.now) g
      else s.start.modVm v (fun x => { x with placing := x.placing.filter (fun p => !decide (p.1 < slotStart s.main.now)) }) } := by
  let b := slotStart s.main.now
  have h' : (s.start.vmst v).placing = [(t0, g)] := h
  change Host.Outcome.next { s with
    main := ((s.start.vmst v).placing.filter (fun p : Nat × Segment => decide (p.1 < b))).foldl
      (fun (m : Main) (p : Nat × Segment) => m.placeSeg v b p.2)
      (s.start.modVm v (fun x => { x with placing := x.placing.filter (fun p => !decide (p.1 < b)) })) } = _
  by_cases hb : t0 < b
  · have hdue : [(t0, g)].filter (fun p => decide (p.1 < b)) = [(t0, g)] := by
      simp only [List.filter_cons, decide_eq_true hb, if_true, List.filter_nil]
    have hleft : ({ s.start.vmst v with placing := (s.start.vmst v).placing.filter (fun p => !decide (p.1 < b)) } : Master) =
        { s.start.vmst v with placing := [] } := by
      rw [h']
      simp only [List.filter_cons, decide_eq_true hb, Bool.not_true, Bool.false_eq_true, if_false, List.filter_nil]
    have hnone : s.start.modVm v (fun x => { x with placing := x.placing.filter (fun p => !decide (p.1 < b)) }) = s.start.unplaced v :=
      congrArg (fun y => ({ s.start with vm := mset {} s.start.vm v y } : Main)) hleft
    rw [h', hnone, hdue, if_pos hb]
    rfl
  · have hdue : [(t0, g)].filter (fun p => decide (p.1 < b)) = [] := by
      simp only [List.filter_cons, decide_eq_false hb, Bool.false_eq_true, if_false, List.filter_nil]
    rw [h', hdue, if_neg hb]
    rfl

theorem segmentPlace_waits {t0 : Nat} (h : (s.main.vmst v).placing = [(t0, g)]) (hb : slotStart s.main.now ≤ t0) :
    Completes (.segmentPlace v) s (fun t => t = { s with main := { s.main with out := {}, vm := t.main.vm } } ∧
      ∀ k, t.main.vmst k = s.main.vmst k) := by
  have hexec := exec_segmentPlace h
  rw [if_neg (Nat.not_lt.2 hb)] at hexec
  refine completes_of_exec hexec ⟨rfl, fun k => ?_⟩
  rw [Main.vmst_modVm]
  by_cases hk : k = v.val
  · have hf : ({ s.start.vmst v with placing := (s.start.vmst v).placing.filter (fun p => !decide (p.1 < slotStart s.main.now)) } : Master) =
        s.main.vmst v := by
      have h' : (s.start.vmst v).placing = [(t0, g)] := h
      have hkeep : (!decide (t0 < slotStart s.main.now)) = true := by simpa using hb
      have hp : (s.start.vmst v).placing.filter (fun p => !decide (p.1 < slotStart s.main.now)) = (s.start.vmst v).placing := by
        rw [h']
        simp only [List.filter_cons, hkeep, if_true, List.filter_nil]
      rw [hp]
      rfl
    rw [if_pos hk, hk]
    exact hf
  · rw [if_neg hk]
    rfl

/-- R367: a segment in the future that nothing comes before. -/
theorem Main.placeSeg_of_future {m : Main} {v b : Nat} (hst : (m.vmst v).st = 0 ∨ (m.vmst v).st = 1)
    (hq : ∀ q ∈ (m.vmst v).queue, g.tStart ≤ q.tStart) (hb : b < g.tStart) :
    m.placeSeg v b g = m.modVm v (fun x => { x with
      queue := x.queue.filter (fun q => decide (q.tStart < g.tStart)) ++ [g]
      st := if x.st = 0 then 1 else x.st }) := by
  have hnone : (m.vmst v).queue.filter (fun q => decide (q.tStart < g.tStart)) = [] :=
    List.filter_eq_nil_iff.2 fun q hmem => by simpa using hq q hmem
  have hpred : m.predAt v g.tStart g.tStart = none := by
    unfold Main.predAt
    dsimp only
    rw [hnone]
    rcases hst with h | h <;> rw [h] <;> rfl
  have hlate : decide (g.tStart ≤ b) = false := decide_eq_false (Nat.not_le.2 hb)
  unfold Main.placeSeg
  dsimp only
  rw [hlate]
  simp only [Bool.false_eq_true, if_false, hpred]

theorem segmentPlace_queues {t0 : Nat} (h : (s.main.vmst v).placing = [(t0, g)]) (ht : t0 < slotStart s.main.now)
    (hst : (s.main.vmst v).st = 0 ∨ (s.main.vmst v).st = 1) (hq : ∀ q ∈ (s.main.vmst v).queue, g.tStart ≤ q.tStart)
    (hb : slotStart s.main.now < g.tStart) : Completes (.segmentPlace v) s (fun t =>
      t.main.vmst v = { s.main.vmst v with queue := [g], placing := [], st := 1 } ∧ t.main.objs = s.main.objs ∧
      ∀ k, k ≠ v.val → t.main.vmst k = s.main.vmst k) := by
  have hself : (s.start.unplaced v).vmst v = { s.main.vmst v with placing := [] } := (Main.vmst_unplaced _ _ _).trans (if_pos rfl)
  have hexec := exec_segmentPlace h
  rw [if_pos ht, Main.placeSeg_of_future (m := s.start.unplaced v) (by rw [hself]; exact hst) (by rw [hself]; exact hq) hb] at hexec
  refine completes_of_exec hexec ⟨?_, rfl, fun k hk => ?_⟩
  · have hnone : (s.main.vmst v).queue.filter (fun q => decide (q.tStart < g.tStart)) = [] :=
      List.filter_eq_nil_iff.2 fun q hmem => by simpa using hq q hmem
    have hone : (if (s.main.vmst v).st = 0 then 1 else (s.main.vmst v).st) = 1 := by
      rcases hst with h0 | h1
      · rw [if_pos h0]
      · rw [if_neg (by rw [h1]; decide), h1]
    dsimp only
    rw [Main.vmst_modVm, if_pos rfl, hself]
    dsimp only
    rw [hnone, hone, List.nil_append]
  · dsimp only
    rw [Main.vmst_modVm, if_neg hk, Main.vmst_unplaced, if_neg hk]
    rfl

/-- R367: a late segment at a master that holds none. -/
theorem Main.placeSeg_of_late {m : Main} {v b : Nat} (hst : (m.vmst v).st = 0) (hq : (m.vmst v).queue = []) (hb : g.tStart ≤ b) :
    m.placeSeg v b g = (m.modVm v (fun x => { x with queue := [] })).takeOver v g b := by
  have hpred : m.predAt v 0 b = none := by
    unfold Main.predAt
    dsimp only
    rw [hq, hst, List.filter_nil]
    rfl
  unfold Main.placeSeg
  dsimp only
  rw [decide_eq_true hb, hq]
  simp only [if_true, Main.takeDue, hpred, Bool.false_eq_true, if_false]

theorem segmentPlace_takes {t0 : Nat} (h : (s.main.vmst v).placing = [(t0, g)]) (ht : t0 < slotStart s.main.now)
    (hst : (s.main.vmst v).st = 0) (hq : (s.main.vmst v).queue = []) (hb : g.tStart ≤ slotStart s.main.now) :
    Completes (.segmentPlace v) s (fun t => (t.main.vmst v).st = 2 ∧ (t.main.vmst v).placing = [] ∧
      t.main.objI (cmAddr v O.CM_VM_MERGE_LAST) = 0 ∧
      ∃ f, (t.main.vmst v).force = some f ∧ f.raw = g.raw ∧ f.delta = 0 ∧ f.tHand = slotStart s.main.now) := by
  have hself : (s.start.unplaced v).vmst v = { s.main.vmst v with placing := [] } := (Main.vmst_unplaced _ _ _).trans (if_pos rfl)
  have hexec := exec_segmentPlace h
  rw [if_pos ht, Main.placeSeg_of_late (m := s.start.unplaced v) (by rw [hself]; exact hst) (by rw [hself]; exact hq) hb] at hexec
  have hempty : ((s.start.unplaced v).modVm v (fun x => { x with queue := [] })).vmst v =
      { s.main.vmst v with placing := [], queue := [] } := by
    rw [Main.vmst_modVm, if_pos rfl, hself]
  generalize (s.start.unplaced v).modVm v (fun x => { x with queue := [] }) = n at hexec hempty
  have hvm := n.vmst_takeOver v g (slotStart s.main.now)
  have hst' : (n.vmst v).st = 0 := by rw [hempty]; exact hst
  obtain ⟨hdelta, hmerge⟩ := Main.takeOver_of_empty hst' g (slotStart s.main.now)
  generalize n.takeOver v g (slotStart s.main.now) = k at hexec hvm hmerge
  refine completes_of_exec hexec ⟨congrArg Master.st hvm, ?_, hmerge, n.handed v g (slotStart s.main.now),
    congrArg Master.force hvm, rfl, hdelta, rfl⟩
  refine (congrArg Master.placing hvm).trans ?_
  rw [hempty]
  rfl

/-! ### Takeover and the ends of a master -/

theorem segmentTakeover_takes {rest : List Segment} (hq : (s.main.vmst v).queue = g :: rest) (hdue : g.tStart ≤ s.main.now)
    (hst : (s.main.vmst v).st ≠ 4) : Completes (.segmentTakeover v) s (fun t =>
      (t.main.vmst v).st = 2 ∧ (t.main.vmst v).queue = rest ∧
      ∃ f, (t.main.vmst v).force = some f ∧ f.raw = g.raw ∧ f.tHand = g.tStart) := by
  let n := s.start.modVm v (fun x => { x with queue := rest })
  have hq' : (s.start.vmst v).queue = g :: rest := hq
  have hgate : g.tStart ≤ s.start.now ∧ (s.start.vmst v).st ≠ 4 := ⟨hdue, hst⟩
  have hexec : exec (.segmentTakeover v) s = .next { s with main := n.takeOver v g g.tStart } := by
    change Host.Outcome.next { s with
      main := match (s.start.vmst v).queue with
        | g :: rest =>
          if g.tStart ≤ s.start.now ∧ (s.start.vmst v).st ≠ 4 then
            (s.start.modVm v (fun x => { x with queue := rest })).takeOver v g g.tStart
          else s.start
        | [] => s.start } = _
    rw [hq']
    simp only [if_pos hgate]
    rfl
  have hvm := n.vmst_takeOver v g g.tStart
  have hn : n.vmst v = { s.main.vmst v with queue := rest } := (s.start.vmst_modVm v v _).trans (if_pos rfl)
  generalize n.takeOver v g g.tStart = k at hexec hvm
  refine completes_of_exec hexec ⟨congrArg Master.st hvm, ?_, n.handed v g g.tStart, congrArg Master.force hvm, rfl, rfl⟩
  refine (congrArg Master.queue hvm).trans ?_
  rw [hn]
  rfl

theorem masterOverrun_notes (hst : (s.main.vmst v).st = 2) (hf : (s.main.vmst v).force = some g) (h0 : g.tEnd ≠ 0)
    (hend : g.tEnd ≤ s.main.now) (hq : (s.main.vmst v).queue = []) : Completes (.masterOverrun v) s (fun t =>
      t.main.vmst v = { s.main.vmst v with st := 3, overT := max g.tEnd g.tHand } ∧ t.main.objs = s.main.objs) := by
  have hst' : (s.start.vmst v).st = 2 := hst
  have hf' : (s.start.vmst v).force = some g := hf
  have hgate : g.tEnd ≠ 0 ∧ g.tEnd ≤ s.start.now ∧ (s.start.vmst v).queue.isEmpty = true := by
    have hq' : (s.start.vmst v).queue = [] := hq
    exact ⟨h0, hend, by rw [hq']; rfl⟩
  have hexec : exec (.masterOverrun v) s = .next { s with
      main := s.start.modVm v (fun x => { x with st := 3, overT := max g.tEnd g.tHand }) } := by
    change Host.Outcome.next { s with
      main := match (s.start.vmst v).st, (s.start.vmst v).force with
        | 2, some g => if g.tEnd ≠ 0 ∧ g.tEnd ≤ s.start.now ∧ (s.start.vmst v).queue.isEmpty = true then
            s.start.modVm v (fun x => { x with st := 3, overT := max g.tEnd g.tHand }) else s.start
        | _, _ => s.start } = _
    rw [hst', hf']
    simp only [if_pos hgate]
  exact completes_of_exec hexec ⟨(s.start.vmst_modVm v v _).trans (if_pos rfl), rfl⟩

theorem masterRunout_begins (hst : (s.main.vmst v).st = 3) (hq : (s.main.vmst v).queue = [])
    (hdue : (s.main.vmst v).overT + s.main.obj (cmAddr v O.CM_VM_GRACE) * unitsPerMs ≤ s.main.now)
    (hnear : s.main.now ≤ (s.main.vmst v).overT + s.main.obj (cmAddr v O.CM_VM_GRACE) * unitsPerMs + unitsPerSlot) :
    Completes (.masterRunout v) s (fun t => (t.main.vmst v).st = 4 ∧
      (t.main.vmst v).outT = (s.main.vmst v).overT + s.main.obj (cmAddr v O.CM_VM_GRACE) * unitsPerMs ∧
      t.main.obj (cmAddr v O.CM_VM_RUNOUT_COUNT) = (s.main.obj (cmAddr v O.CM_VM_RUNOUT_COUNT) + 1) % 2 ^ 36) := by
  let due := (s.start.vmst v).overT + s.start.obj (cmAddr v O.CM_VM_GRACE) * unitsPerMs
  have hnear' : s.start.now ≤ due + unitsPerSlot := hnear
  have hgate : (s.start.vmst v).st = 3 ∧ (s.start.vmst v).queue.isEmpty = true ∧ due ≤ s.start.now := by
    have hq' : (s.start.vmst v).queue = [] := hq
    exact ⟨hst, by rw [hq']; rfl, hdue⟩
  let p := (s.start.vmAt v due).getD {}
  let n := s.start.modVm v (fun x => { x with st := 4, outT := due, outP := p.p, outV := p.v })
  have hexec : exec (.masterRunout v) s = .next { s with main := n.inc (cmAddr v O.CM_VM_RUNOUT_COUNT) } := by
    change Host.Outcome.next { s with
      main :=
        if (s.start.vmst v).st = 3 ∧ (s.start.vmst v).queue.isEmpty = true ∧ due ≤ s.start.now then
          let t := if s.start.now ≤ due + unitsPerSlot then due else s.start.now
          let p := (s.start.vmAt v t).getD {}
          (s.start.modVm v (fun x => { x with st := 4, outT := t, outP := p.p, outV := p.v })).inc (cmAddr v O.CM_VM_RUNOUT_COUNT)
        else s.start } = _
    rw [if_pos hgate, if_pos hnear']
  have hn : n.vmst v = { s.start.vmst v with st := 4, outT := due, outP := p.p, outV := p.v } :=
    (s.start.vmst_modVm v v _).trans (if_pos rfl)
  have hobj : n.obj (cmAddr v O.CM_VM_RUNOUT_COUNT) = s.main.obj (cmAddr v O.CM_VM_RUNOUT_COUNT) := rfl
  have hcount := n.obj_inc_same (cmAddr v O.CM_VM_RUNOUT_COUNT)
  rw [hobj] at hcount
  have hvm : (n.inc (cmAddr v O.CM_VM_RUNOUT_COUNT)).vmst v = n.vmst v := rfl
  rw [hn] at hvm
  generalize n.inc (cmAddr v O.CM_VM_RUNOUT_COUNT) = k at hexec hcount hvm
  exact completes_of_exec hexec ⟨congrArg Master.st hvm, congrArg Master.outT hvm, hcount⟩

/-- R357: a disengage leaves the masters. -/
theorem Main.vm_linkDrop (m : Main) (i : Nat) : (m.linkDrop i).vm = m.vm := by
  have hidle : (m.linkIdle i).vm = m.vm := by
    unfold Main.linkIdle Main.dropRetained
    dsimp only
    split <;> rfl
  unfold Main.linkDrop
  obtain ⟨x, hx⟩ := (m.linkIdle i).startRamp_frame i (m.pDec i)
  rw [hx]
  exact hidle

theorem Main.vm_endLinksOf (m : Main) (src : Src) : (m.endLinksOf src).vm = m.vm := by
  refine forEach_frame Main.vm _ (fun i n => ?_) _ m
  split
  · exact n.vm_linkDrop i
  · rfl

/-- R364: the position of a master as its RUNOUT ends. -/
def Main.vmEnded (m : Main) (v : Nat) : Main :=
  let n := (m.setObj (cmAddr v O.CM_VM_POS) (posWord ((m.vmAt v m.now).getD {}).p).toNat).setObj (cmAddr v O.CM_VM_VEL) 0
  n.setObj (cmAddr v O.CM_VM_ACC) 0

/-- R368: a master without a segment in force. -/
def Master.ended (x : Master) : Master :=
  { x with
    st := if x.queue.isEmpty then 0 else 1
    force := none
    hist := (x.hist ++ x.force.toList).drop ((x.hist ++ x.force.toList).length - 3) }

theorem masterEmpty_ends (hst : (s.main.vmst v).st = 4) (hend : s.main.runoutEnd v ≤ s.main.now) :
    Completes (.masterEmpty v) s (fun t =>
      (t.main.vmst v).st = (if (s.main.vmst v).queue = [] then 0 else 1) ∧ (t.main.vmst v).force = none) := by
  have hgate : (s.start.vmst v).st = 4 ∧ s.start.runoutEnd v ≤ s.start.now := ⟨hst, hend⟩
  have hexec : exec (.masterEmpty v) s = .next { s with
      main := ((s.start.vmEnded v).modVm v Master.ended).endLinksOf (.master v) } := by
    change Host.Outcome.next { s with
      main :=
        if (s.start.vmst v).st = 4 ∧ s.start.runoutEnd v ≤ s.start.now then
          ((s.start.vmEnded v).modVm v Master.ended).endLinksOf (.master v)
        else s.start } = _
    rw [if_pos hgate]
  have hvm : (((s.start.vmEnded v).modVm v Master.ended).endLinksOf (.master v)).vmst v = (s.main.vmst v).ended := by
    have hsame := Main.vm_endLinksOf ((s.start.vmEnded v).modVm v Master.ended) (.master v)
    have hmod : ((s.start.vmEnded v).modVm v Master.ended).vmst v = ((s.start.vmEnded v).vmst v).ended :=
      (Main.vmst_modVm _ v v _).trans (if_pos rfl)
    unfold Main.vmst at hmod ⊢
    rw [hsame]
    exact hmod
  generalize ((s.start.vmEnded v).modVm v Master.ended).endLinksOf (.master v) = k at hexec hvm
  refine completes_of_exec hexec ⟨(congrArg Master.st hvm).trans ?_, congrArg Master.force hvm⟩
  unfold Master.ended
  simp only [List.isEmpty_iff]

end

/-- Settles O48. -/
theorem mastersFollowTheirSegments : Obligations.MastersFollowTheirSegments := by
  unfold Obligations.MastersFollowTheirSegments
  refine fun v g s => ⟨fun t0 h => ⟨fun hb => segmentPlace_waits h hb, fun ht => ⟨fun hst hq hb => segmentPlace_queues h ht hst hq hb,
    fun hst hq hb => segmentPlace_takes h ht hst hq hb⟩⟩, fun rest hq hdue hst => segmentTakeover_takes hq hdue hst,
    fun hst hf h0 hend hq => masterOverrun_notes hst hf h0 hend hq, ?_, fun hst hend => masterEmpty_ends hst hend⟩
  rintro due rfl hst hq hdue hnear
  exact masterRunout_begins hst hq hdue hnear

end Sys2Proof.Machine
end

section
/-! Edges of event sources and their capture (R374, R375, R377-R383). -/

namespace Sys2Proof.Machine

/-! ### The level of a source -/

theorem putBit_testBit_self (n b : Nat) (v : Bool) : (putBit n b v).testBit b = v := by
  cases v
  · rw [putBit_false_testBit]
    simp
  · unfold putBit
    rw [if_pos rfl]
    split
    next h => exact h
    next h => rw [Nat.add_comm, Nat.testBit_two_pow_add_eq, Bool.eq_false_iff.2 h, Bool.not_false]

/-- R377: the level of a source is noted. -/
def Main.levelNoted (m : Main) (k : Nat) (level : Bool) : Main :=
  { m with ev := { m.ev with levels := BitVec.ofNat 48 (putBit m.ev.levels.toNat k level) } }

theorem Main.levelNoted_level (m : Main) {k : Nat} (hk : k < 48) (level : Bool) :
    (m.levelNoted k level).ev.levels.getLsbD k = level := by
  unfold Main.levelNoted
  dsimp only
  rw [BitVec.getLsbD_ofNat, putBit_testBit_self, decide_eq_true hk, Bool.true_and]

theorem Main.sourceEdge_event {m : Main} {k : Nat} (hk : k < 16) {level : Bool} {raw : Nat} (hopen : m.mittenClosed 0x1000 = false) :
    m.sourceEdge k level raw = ((m.levelNoted k level).latchEdges 1 k level (raw - m.obj (evAddr 0 (O.EV_SRC_DLY + k)))).aqEdge k level
      (raw - m.obj (evAddr 0 (O.EV_SRC_DLY + k))) := by
  have hopen' : (m.levelNoted k level).mittenClosed 0x1000 = false := hopen
  change (if (m.levelNoted k level).mittenClosed 0x1000 = true then m.levelNoted k level
    else if k < 16 then (m.levelNoted k level).latchEdges 1 k level (raw - m.obj (evAddr 0 (O.EV_SRC_DLY + k)))
    else (m.levelNoted k level).latchEdges 2 (k - 16) level (raw - m.obj (evAddr 0 (O.EV_SRC_DLY + k)))).aqEdge k level _ = _
  rw [hopen', if_neg Bool.false_ne_true, if_pos hk]

/-! ### A unit armed once -/

/-- R379: a unit armed once takes the first edge at or after its arming. -/
def Latch.once (e : LatchEdge) (x : Latch) : Latch :=
  if x.waiting.isEmpty && (match x.armed with | some t0 => decide (t0 ≤ e.t) | none => false) then { x with waiting := [e] } else x

theorem Latch.once_of_ready {x : Latch} {e : LatchEdge} {t0 : Nat} (hw : x.waiting = []) (ha : x.armed = some t0) (ht : t0 ≤ e.t) :
    (x.once e).waiting = [e] := by
  unfold Latch.once
  rw [hw, ha, List.isEmpty_nil]
  exact congrArg Latch.waiting (if_pos (decide_eq_true ht))

/-- R378: latch unit `u` hears edges of event source `k` that go to `level`, and is armed once. -/
structure Main.HearsOnce (m : Main) (u k : Nat) (level : Bool) : Prop where
  src : m.obj (evAddr u O.EV_LT_SRC) = 4096 + k
  edge : (m.obj (evAddr u O.EV_LT_EDGE)).testBit (if level then 0 else 1) = true
  mode : m.obj (evAddr u O.EV_LT_MODE) = 1

theorem Main.HearsOnce.of_obj {m n : Main} {u k : Nat} {level : Bool} (h : Main.HearsOnce m u k level)
    (hobj : ∀ b, (∀ v, b ≠ evAddr v O.EV_LT_FLAGS) → n.obj b = m.obj b) : Main.HearsOnce n u k level :=
  ⟨(hobj _ fun _ => evAddr_ne_flags (by decide) (by decide)).trans h.src,
    by rw [hobj _ fun _ => evAddr_ne_flags (by decide) (by decide)]; exact h.edge,
    (hobj _ fun _ => evAddr_ne_flags (by decide) (by decide)).trans h.mode⟩

/-- R378, R379, R383: what an edge does to a latch unit. -/
def Main.latchEdge (kind num : Nat) (level : Bool) (t u : Nat) (m : Main) : Main :=
  let src := m.obj (evAddr u O.EV_LT_SRC)
  let edge := m.obj (evAddr u O.EV_LT_EDGE)
  let x := m.lt u
  let fits := src == kind * 4096 + num && (kind == 3 || edge.testBit (if level then 0 else 1))
  let ready := match m.obj (evAddr u O.EV_LT_MODE) with
    | 1 => x.waiting.isEmpty && (match x.armed with | some t0 => decide (t0 ≤ t) | none => false)
    | 2 => true
    | _ => false
  if !(fits && ready) then m
  else if x.waiting.length < 4 then m.modLt u (fun x => { x with waiting := x.waiting ++ [{ t := t, level := level }] })
  else m.ltFlag u 0

theorem Main.latchEdges_eq (m : Main) (kind num : Nat) (level : Bool) (t : Nat) :
    m.latchEdges kind num level t = forEach (List.range 32) (Main.latchEdge kind num level t) m := rfl

theorem Main.latchEdge_only (kind num : Nat) (level : Bool) (t u : Nat) (m : Main) :
    Main.LatchesOnly m (Main.latchEdge kind num level t u m) := (Main.LatchesOnly.refl m).edge u 0 _ _ _

theorem Main.lt_latchEdge_other (kind num : Nat) (level : Bool) (t : Nat) {u v : Nat} (h : v ≠ u) (m : Main) :
    (Main.latchEdge kind num level t v m).lt u = m.lt u := by
  have hmod : ∀ f, (m.modLt v f).lt u = m.lt u := fun f => (m.lt_modLt v u f).trans (if_neg (Ne.symm h))
  have hcases : ∀ (p q : Prop) [Decidable p] [Decidable q] (f : Latch → Latch),
      (if p then m else if q then m.modLt v f else m.ltFlag v 0).lt u = m.lt u := by
    intro p q _ _ f
    split
    · rfl
    · split
      · exact hmod f
      · rfl
  exact hcases _ _ _

theorem Main.lt_latchEdge_once {m : Main} {u k t : Nat} {level : Bool} (h : Main.HearsOnce m u k level) :
    (Main.latchEdge 1 k level t u m).lt u = (m.lt u).once { t := t, level := level } := by
  have hfits : (m.obj (evAddr u O.EV_LT_SRC) == 1 * 4096 + k && ((1 : Nat) == 3 ||
      (m.obj (evAddr u O.EV_LT_EDGE)).testBit (if level then 0 else 1))) = true := by
    rw [h.src, h.edge, Nat.one_mul, beq_self_eq_true]
    rfl
  unfold Main.latchEdge
  dsimp only
  rw [hfits, h.mode, Bool.true_and]
  unfold Latch.once
  by_cases hready : ((m.lt u).waiting.isEmpty && (match (m.lt u).armed with | some t0 => decide (t0 ≤ t) | none => false)) = true
  · have hnone : (m.lt u).waiting = [] := List.isEmpty_iff.1 (Bool.and_eq_true_iff.1 hready).1
    have hset := m.lt_modLt u u (fun x => { x with waiting := x.waiting ++ [{ t := t, level := level }] })
    rw [if_pos rfl, hnone] at hset
    have hfew : (m.lt u).waiting.length < 4 := by rw [hnone]; decide
    rw [if_neg (by rw [hready]; decide), if_pos hfew, if_pos hready]
    exact hset
  · rw [if_pos (by rw [Bool.eq_false_iff.2 hready]; rfl), if_neg hready]

theorem Main.lt_latchEdges_once {m : Main} {u k t : Nat} {level : Bool} (hu : u < 32) (h : Main.HearsOnce m u k level) :
    (m.latchEdges 1 k level t).lt u = (m.lt u).once { t := t, level := level } := by
  rw [Main.latchEdges_eq]
  refine (forEach_at (fun n => Main.LatchesOnly m n) (fun n => n.lt u) (Main.latchEdge 1 k level t)
    (Latch.once { t := t, level := level }) u (fun v n hn => hn.trans (Main.latchEdge_only 1 k level t v n))
    (fun v n _ hv => Main.lt_latchEdge_other 1 k level t hv n)
    (fun n hn => Main.lt_latchEdge_once (h.of_obj hn.obj)) List.nodup_range m (.refl m)).trans
    (if_pos (List.mem_range.2 hu))

section
variable {s : State}

/-! ### Edges -/

theorem eventEdge_ignored {src : Fin 16} {level : Bool} {raw : Instant}
    (h : raw.ago < s.main.obj (evAddr 0 (O.EV_EVT_FILT_N + src)) ∨ s.main.ev.levels.getLsbD src = level) :
    Completes (.eventEdge src level raw) s (fun t => t = { s with main := { s.main with out := {} } }) := by
  have h' : raw.ago < s.start.obj (evAddr 0 (O.EV_EVT_FILT_N + src)) ∨ s.start.ev.levels.getLsbD src = level := h
  have hexec : exec (.eventEdge src level raw) s = .next { s with main := s.start } := by
    change Host.Outcome.next { s with
      main :=
        if raw.ago < s.start.obj (evAddr 0 (O.EV_EVT_FILT_N + src)) ∨ s.start.ev.levels.getLsbD src = level then s.start
        else s.start.sourceEdge src level (s.start.tb.stampOf raw) } = _
    rw [if_pos h']
  exact completes_of_exec hexec rfl

theorem eventEdge_waits {src : Fin 16} {level : Bool} {raw : Instant} {u : Fin 32} {t0 : Nat}
    (hfilt : s.main.obj (evAddr 0 (O.EV_EVT_FILT_N + src)) ≤ raw.ago) (hnew : s.main.ev.levels.getLsbD src ≠ level)
    (hhears : Main.HearsOnce s.main u src level) (hw : (s.main.lt u).waiting = []) (ha : (s.main.lt u).armed = some t0)
    (ht : t0 ≤ s.main.tb.stampOf raw - s.main.obj (evAddr 0 (O.EV_SRC_DLY + src))) (hopen : s.main.mittenClosed 0x1000 = false) :
    Completes (.eventEdge src level raw) s (fun t => t.main.ev.levels.getLsbD src = level ∧
      (t.main.lt u).waiting = [{ t := s.main.tb.stampOf raw - s.main.obj (evAddr 0 (O.EV_SRC_DLY + src)), level := level }] ∧
      t.main.ev.entries = s.main.ev.entries ∧ t.main.field = s.main.field) := by
  have hgate : ¬ (raw.ago < s.start.obj (evAddr 0 (O.EV_EVT_FILT_N + src)) ∨ s.start.ev.levels.getLsbD src = level) :=
    fun h => h.elim (Nat.not_lt.2 hfilt) hnew
  let n := s.start.levelNoted src level
  let t' := s.main.tb.stampOf raw - s.main.obj (evAddr 0 (O.EV_SRC_DLY + src))
  have hexec : exec (.eventEdge src level raw) s = .next { s with main := (n.latchEdges 1 src level t').aqEdge src level t' } := by
    change Host.Outcome.next { s with
      main :=
        if raw.ago < s.start.obj (evAddr 0 (O.EV_EVT_FILT_N + src)) ∨ s.start.ev.levels.getLsbD src = level then s.start
        else s.start.sourceEdge src level (s.start.tb.stampOf raw) } = _
    rw [if_neg hgate, Main.sourceEdge_event (m := s.start) src.isLt hopen]
    rfl
  have hlevel : n.ev.levels.getLsbD src = level := Main.levelNoted_level _ (by omega) level
  have hhears' : Main.HearsOnce n u src level := ⟨hhears.src, hhears.edge, hhears.mode⟩
  have hlt : (n.lt u) = s.main.lt u := rfl
  have hentries : n.ev.entries = s.main.ev.entries := rfl
  have hfield : n.field = s.main.field := rfl
  generalize n = n at hexec hlevel hhears' hlt hentries hfield
  have honce := Main.lt_latchEdges_once (t := t') u.isLt hhears'
  rw [hlt] at honce
  have hwait := Latch.once_of_ready (e := { t := t', level := level }) hw ha ht
  obtain ⟨o, l, hframe⟩ := (Main.LatchesOnly.latchEdges n 1 src level t').frame
  have hk : (n.latchEdges 1 src level t').ev.levels = n.ev.levels ∧ (n.latchEdges 1 src level t').ev.entries = n.ev.entries ∧
      (n.latchEdges 1 src level t').field = n.field := by
    rw [hframe]
    exact ⟨rfl, rfl, rfl⟩
  obtain ⟨hl, he, hf⟩ := hk
  generalize n.latchEdges 1 src level t' = k at hexec honce hl he hf
  obtain ⟨o', a', hframe'⟩ := (Main.AqOnly.aqEdge k src level t').frame
  rw [hframe'] at hexec
  exact completes_of_exec hexec ⟨(congrArg (fun l => l.getLsbD src) hl).trans hlevel, (congrArg Latch.waiting honce).trans hwait,
    he.trans hentries, hf.trans hfield⟩

/-! ### Captures -/

/-- R383: an edge no longer awaits capture. -/
def Main.edgeTaken (m : Main) (u : Nat) (e : LatchEdge) : Main := m.modLt u (fun x => { x with waiting := x.waiting.erase e })

theorem Main.lt_edgeTaken (m : Main) (u : Nat) (e : LatchEdge) (k : Nat) :
    (m.edgeTaken u e).lt k = if k = u then { m.lt u with waiting := (m.lt u).waiting.erase e } else m.lt k := m.lt_modLt u k _

/-- R382: a unit with a capture. -/
def Latch.captured (t : Nat) (x : Latch) : Latch :=
  let ring := x.ring ++ [[BitVec.ofNat 36 (t / 2 ^ 36), BitVec.ofNat 36 t, 0, 0]]
  { x with last := [0, BitVec.ofNat 36 t], ring := ring.drop (ring.length - 16), armed := none }

/-- R382: a capture of the time alone, with neither a network event nor a rule. -/
theorem Main.capture_plain {m : Main} {u t : Nat} (hsend : m.obj (evAddr u O.EV_LT_NETSEND) = 0)
    (hrule : 16 ≤ m.obj (evAddr u O.EV_LT_RULE)) :
    m.capture u t 0 0 false = (m.modLt u (Latch.captured t)).inc (evAddr u O.EV_LT_COUNT) := by
  let n := (m.modLt u (Latch.captured t)).inc (evAddr u O.EV_LT_COUNT)
  have hobj : ∀ l, l ≠ O.EV_LT_COUNT → n.obj (evAddr u l) = m.obj (evAddr u l) :=
    fun l hl => (m.modLt u (Latch.captured t)).objs_keep _ _ _ (fun h => hl (Nat.add_left_cancel h))
  have hsend' : n.objB (evAddr u O.EV_LT_NETSEND) = false := by
    unfold Main.objB
    rw [hobj _ (by decide), hsend]
    rfl
  have hrule' : 16 ≤ n.obj (evAddr u O.EV_LT_RULE) := by
    rw [hobj _ (by decide)]
    exact hrule
  have harm : n.ruleArm u t 0 = n := by
    unfold Main.ruleArm
    dsimp only
    rw [if_pos hrule']
  change (if n.objB (evAddr u O.EV_LT_NETSEND) = true then _ else n : Main).ruleArm u t 0 = n
  rw [hsend', if_neg Bool.false_ne_true]
  exact harm

theorem exec_latchCapture {u : Fin 32} {e : LatchEdge} (he : earliest (s.main.lt u).waiting = some e) :
    exec (.latchCapture u) s = .next { s with
      main := match s.start.captureAt (s.main.obj (evAddr u O.EV_LT_TGT)) e.t e.vel with
        | .later => s.start
        | .fail f => (s.start.edgeTaken u e).ltFlag u f
        | .timeOnly => (s.start.edgeTaken u e).capture u e.t 0 0 false
        | .good p v x => { (s.start.edgeTaken u e).capture u e.t p v x with fresh := s.start.fresh + 2 } } := by
  have he' : earliest (s.start.lt u).waiting = some e := he
  change Host.Outcome.next { s with
    main := match earliest (s.start.lt u).waiting with
      | none => s.start
      | some e => match s.start.captureAt (s.start.obj (evAddr u O.EV_LT_TGT)) e.t e.vel with
        | .later => s.start
        | .fail f => (s.start.edgeTaken u e).ltFlag u f
        | .timeOnly => (s.start.edgeTaken u e).capture u e.t 0 0 false
        | .good p v x => { (s.start.edgeTaken u e).capture u e.t p v x with fresh := s.start.fresh + 2 } } = _
  rw [he']
  rfl

theorem latchCapture_timeOnly {u : Fin 32} {e : LatchEdge} (he : earliest (s.main.lt u).waiting = some e)
    (htgt : s.main.obj (evAddr u O.EV_LT_TGT) = 0) (hsend : s.main.obj (evAddr u O.EV_LT_NETSEND) = 0)
    (hrule : 16 ≤ s.main.obj (evAddr u O.EV_LT_RULE)) : Completes (.latchCapture u) s (fun t =>
      ObjsBut s.main t.main [evAddr u O.EV_LT_COUNT] ∧
      t = { s with main := { s.main with out := {}, objs := t.main.objs,
                                         ev := { s.main.ev with latches := t.main.ev.latches } } } ∧
      t.main.obj (evAddr u O.EV_LT_COUNT) = (s.main.obj (evAddr u O.EV_LT_COUNT) + 1) % 2 ^ 36 ∧
      (t.main.lt u).last = [0, wordN e.t] ∧ (t.main.lt u).armed = none ∧
      (t.main.lt u).ring.getLast? = some [wordN (e.t / 2 ^ 36), wordN e.t, 0, 0] ∧ (t.main.lt u).ring.length ≤ 16 ∧
      (t.main.lt u).waiting = (s.main.lt u).waiting.erase e ∧ (∀ k, k ≠ u.val → t.main.lt k = s.main.lt k)) := by
  let n := s.start.edgeTaken u e
  have hat : s.start.captureAt (s.main.obj (evAddr u O.EV_LT_TGT)) e.t e.vel = .timeOnly := by
    rw [htgt]
    rfl
  have hexec := exec_latchCapture he
  rw [hat] at hexec
  dsimp only at hexec
  rw [Main.capture_plain (m := s.start.edgeTaken u e) hsend hrule] at hexec
  have htaken : ∀ k, n.lt k = if k = u.val then { s.main.lt u with waiting := (s.main.lt u).waiting.erase e } else s.main.lt k :=
    fun k => s.start.lt_edgeTaken u e k
  have hset : ∀ k, ((n.modLt u (Latch.captured e.t)).inc (evAddr u O.EV_LT_COUNT)).lt k =
      if k = u.val then Latch.captured e.t (n.lt u) else n.lt k := fun k => n.lt_modLt u k _
  have hself := (hset u).trans (if_pos rfl)
  rw [htaken, if_pos rfl] at hself
  have hcount : ((n.modLt u (Latch.captured e.t)).inc (evAddr u O.EV_LT_COUNT)).obj (evAddr u O.EV_LT_COUNT) =
      (s.main.obj (evAddr u O.EV_LT_COUNT) + 1) % 2 ^ 36 := (n.modLt u (Latch.captured e.t)).obj_inc_same _
  have hkeep : ObjsBut s.main ((n.modLt u (Latch.captured e.t)).inc (evAddr u O.EV_LT_COUNT)) [evAddr u O.EV_LT_COUNT] :=
    fun a ha => (n.modLt u (Latch.captured e.t)).objs_keep _ _ a (by simpa using ha)
  have hframe : ∃ o l, (n.modLt u (Latch.captured e.t)).inc (evAddr u O.EV_LT_COUNT) = { s.start with
      objs := o
      ev := { s.main.ev with latches := l } } := ⟨_, _, rfl⟩
  have hring := getLast?_drop_append (s.main.lt u).ring [BitVec.ofNat 36 (e.t / 2 ^ 36), BitVec.ofNat 36 e.t, 0, 0] 15
  have hlen : ∀ l : List (List Word), (l.drop (l.length - 16)).length ≤ 16 := by
    intro l
    rw [List.length_drop]
    omega
  change exec (.latchCapture u) s = .next { s with main := (n.modLt u (Latch.captured e.t)).inc (evAddr u O.EV_LT_COUNT) } at hexec
  generalize (n.modLt u (Latch.captured e.t)).inc (evAddr u O.EV_LT_COUNT) = k at hexec hset hself hcount hkeep hframe
  obtain ⟨o, l, hframe⟩ := hframe
  refine completes_of_exec hexec ⟨hkeep, ?_, hcount, congrArg Latch.last hself, congrArg Latch.armed hself,
    (congrArg (fun x => x.ring.getLast?) hself).trans hring, (congrArg (fun x => x.ring.length) hself).trans_le (hlen _),
    congrArg Latch.waiting hself, fun j hj => ?_⟩
  · rw [hframe]
    rfl
  · exact (hset j).trans ((if_neg hj).trans ((htaken j).trans (if_neg hj)))

/-- R53, R380: the source of a position object is the axis itself. -/
theorem srcOf_axis (a : Ax) : srcOf (256 + a) = .inst a := by revert a; decide +kernel

theorem latchCapture_notDefined {u : Fin 32} {e : LatchEdge} (he : earliest (s.main.lt u).waiting = some e) {a : Ax}
    (htgt : s.main.obj (evAddr u O.EV_LT_TGT) = 256 + a) (hmode : s.main.obj (fbAddr a O.FB_MODE) = 0) :
    Completes (.latchCapture u) s (fun t => (t.main.obj (evAddr u O.EV_LT_FLAGS)).testBit 1 = true ∧
      ObjsBut s.main t.main [evAddr u O.EV_LT_FLAGS] ∧ (t.main.lt u).ring = (s.main.lt u).ring) := by
  have hmode' : s.start.obj (fbAddr a O.FB_MODE) = 0 := hmode
  have hat : s.start.captureAt (s.main.obj (evAddr u O.EV_LT_TGT)) e.t e.vel = .fail 1 := by
    rw [htgt]
    unfold Main.captureAt
    rw [srcOf_axis]
    dsimp only
    rw [if_pos a.isLt]
    unfold Main.captureAxis
    dsimp only
    rw [hmode']
    rfl
  have hexec := exec_latchCapture he
  rw [hat] at hexec
  dsimp only at hexec
  have hlt : ((s.start.edgeTaken u e).lt u).ring = (s.main.lt u).ring := by
    rw [Main.lt_edgeTaken, if_pos rfl]
    rfl
  have hobj : ∀ b, (s.start.edgeTaken u e).obj b = s.main.obj b := fun _ => rfl
  generalize s.start.edgeTaken u e = n at hexec hlt hobj
  refine completes_of_exec hexec ⟨?_, fun b hb => ?_, hlt⟩
  · have hflag : (n.ltFlag u 1).obj (evAddr u O.EV_LT_FLAGS) = n.obj (evAddr u O.EV_LT_FLAGS) ||| 2 ^ 1 :=
      n.obj_orObj_same _ (by decide)
    dsimp only
    rw [hflag, Nat.testBit_or, Nat.testBit_two_pow_self, Bool.or_true]
  · exact (n.objs_keep _ _ b (by simpa using hb)).trans (hobj b)

end

/-- Settles O49. -/
theorem edgesAndCaptures : Obligations.EdgesAndCaptures := by
  unfold Obligations.EdgesAndCaptures
  exact ⟨fun src level raw s h => eventEdge_ignored h,
    fun src level raw u t0 s hfilt hnew hsrc hedge hmode hw ha ht hopen =>
      eventEdge_waits hfilt hnew ⟨hsrc, hedge, hmode⟩ hw ha ht hopen,
    fun u e s he => ⟨fun htgt hsend hrule => latchCapture_timeOnly he htgt hsend hrule,
      fun a htgt hmode => latchCapture_notDefined he htgt hmode⟩⟩

end Sys2Proof.Machine
end

section
/-! The action queue at work: execution, pulse off, expiry and overdue entries (R392, R395-R399, R440, R445). -/

namespace Sys2Proof.Machine

/-! ### The pulse of a channel -/

/-- R396: the pulse that a channel awaits ends, and its entry. -/
theorem Main.endPulse_spec (m : Main) (c : Nat) : (∃ p en, m.endPulse c = { m with ev := { m.ev with pulses := p, entries := en } }) ∧
    (mget (0, 0) (m.endPulse c).ev.pulses c).2 = 0 ∧
    ∀ k, (m.endPulse c).act k = m.act k ∨ (m.endPulse c).act k = { m.act k with st := 4 } := by
  unfold Main.endPulse
  split
  next e h => exact ⟨⟨m.ev.pulses, m.ev.entries, rfl⟩, congrArg Prod.snd h, fun _ => Or.inl rfl⟩
  next e n _ h =>
    refine ⟨⟨_, _, rfl⟩, ?_, fun k => ?_⟩
    · change (mget (0, 0) (merase m.ev.pulses c) c).2 = 0
      rw [mget_merase, if_pos rfl]
    · rw [Main.act_modAct]
      by_cases hk : k = e
      · rw [if_pos hk, hk]
        exact Or.inr rfl
      · rw [if_neg hk]
        exact Or.inl rfl

/-- R396: the entry of the pulse is done. -/
theorem Main.act_endPulse {m : Main} {c e n : Nat} (h : mget (0, 0) m.ev.pulses c = (e, n + 1)) :
    (m.endPulse c).act e = { m.act e with st := 4 } := by
  unfold Main.endPulse
  rw [h]
  exact (Main.act_modAct _ e e _).trans (if_pos rfl)

/-! ### A command to an output -/

/-- R440: a command goes to the field die while its link is up. -/
theorem Main.cmdOut_spec {m : Main} (hlink : m.field.link = 2) (c : Nat) (v : Bool) :
    (m.cmdOut c v).out.field = m.out.field ++ [(c, v)] ∧ (m.cmdOut c v).obj (ioAddr c O.IO_OUT) = b2n v ∧
    ((m.cmdOut c v).fc c).cmd = v := by
  have hfc : ∀ (n : Main) (f : FieldCh → FieldCh), ((n.modFc c f).fc c) = f (n.fc c) := fun n f => (n.fc_modFc c c f).trans (if_pos rfl)
  have hb : b2n v < 2 ^ 72 := by cases v <;> decide
  unfold Main.cmdOut
  rw [if_neg (fun h => h hlink)]
  refine ⟨rfl, ?_, ?_⟩
  · rw [Main.obj_setObj_same, Nat.mod_eq_of_lt hb]
  · rw [Main.fc_setObj, hfc]

/-- R397, R440: what the executor's command leaves. -/
theorem Main.actOut_frame (m : Main) (c : Nat) (v sup : Bool) :
    (∃ fr out f o, m.actOut c v sup = { m with fresh := fr, out := out, field := f, objs := o }) ∧
    ∀ u b, (m.actOut c v sup).obj (evAddr u b) = m.obj (evAddr u b) ∨ 0x800000 ≤ evAddr u b := by
  have hne : ∀ {u b c l}, evAddr u b < 0x800000 → evAddr u b ≠ ioAddr c l := fun h => by unfold ioAddr; omega
  unfold Main.actOut
  split
  · exact ⟨⟨m.fresh, m.out, m.field, m.objs, rfl⟩, fun _ _ => Or.inl rfl⟩
  · split
    · obtain ⟨hframe, hobj⟩ := m.cmdOut_frame c v
      exact ⟨hframe, fun u b => (Nat.lt_or_ge (evAddr u b) 0x800000).imp_left fun h => hobj _ (hne h)⟩
    · exact ⟨⟨m.fresh, m.out, m.field, _, rfl⟩,
        fun u b => (Nat.lt_or_ge (evAddr u b) 0x800000).imp_left fun h => m.objs_keep _ _ _ (hne h)⟩

/-! ### An entry in its turn -/

/-- R395: an entry as its execution begins. -/
def Main.fired (m : Main) (e t : Nat) (late : Bool) : Main := m.modAct e (fun a => { a with
  fire := none, word1 := BitVec.ofNat 36 t, lateRun := late, overdue := false, stale := a.missed && !late })

/-- R395: an entry that sets or clears its channel. -/
def Main.commanded (m : Main) (e t c : Nat) (late v sup : Bool) : Main := (((m.fired e t late).endPulse c).actOut c v sup).actDone e

theorem Main.execute_of_level {m : Main} {e t c : Nat} (late sup : Bool) (hkind : fld ((m.act e).words.getD 0 0) 31 28 = 1 ∨
    fld ((m.act e).words.getD 0 0) 31 28 = 2) (hc : fld ((m.act e).words.getD 6 0) 15 0 = c) (hbrake : m.brakeAxis c = none) :
    m.execute e t late sup = m.commanded e t c late (fld ((m.act e).words.getD 0 0) 31 28 == 1) sup := by
  have hbrake' : (m.fired e t late).brakeAxis c = none := hbrake
  unfold Main.execute
  dsimp only
  rw [hc]
  change (if 1 ≤ fld ((m.act e).words.getD 0 0) 31 28 ∧ fld ((m.act e).words.getD 0 0) 31 28 ≤ 3 ∧
    ((m.fired e t late).brakeAxis c).isSome = true then _ else _) = _
  rw [if_neg (by rw [hbrake']; rintro ⟨-, -, h⟩; exact Bool.false_ne_true h)]
  rcases hkind with h | h <;> rw [h] <;> rfl

theorem Main.act_actDone (m : Main) (e : Nat) : ∃ ch, (m.actDone e).act e = { m.act e with st := 4, result := 0, charged := ch } :=
  ⟨_, (Main.act_modAct m e e _).trans (if_pos rfl)⟩

/-- R395, R396: the entry of a command is done, and no pulse awaits its channel. -/
theorem Main.commanded_entry (m : Main) (e t c : Nat) (late v sup : Bool) :
    ((m.commanded e t c late v sup).act e).st = 4 ∧ ((m.commanded e t c late v sup).act e).word1 = wordN t ∧
    ((m.commanded e t c late v sup).act e).lateRun = late ∧ ((m.commanded e t c late v sup).act e).overdue = false ∧
    (mget (0, 0) (m.commanded e t c late v sup).ev.pulses c).2 = 0 ∧
    (m.commanded e t c late v sup).obj (evAddr 0 O.EV_DONE_COUNT) = (m.obj (evAddr 0 O.EV_DONE_COUNT) + 1) % 2 ^ 36 := by
  have hfired : (m.fired e t late).act e = { m.act e with
      fire := none, word1 := BitVec.ofNat 36 t, lateRun := late, overdue := false, stale := (m.act e).missed && !late } :=
    (Main.act_modAct m e e _).trans (if_pos rfl)
  have hobj : (m.fired e t late).obj (evAddr 0 O.EV_DONE_COUNT) = m.obj (evAddr 0 O.EV_DONE_COUNT) := rfl
  unfold Main.commanded
  generalize m.fired e t late = n at hfired hobj
  obtain ⟨⟨p, en, hframe⟩, hpulse, hact⟩ := n.endPulse_spec c
  have hobj' : (n.endPulse c).obj (evAddr 0 O.EV_DONE_COUNT) = n.obj (evAddr 0 O.EV_DONE_COUNT) := by
    rw [hframe]
    rfl
  have hword : ((n.endPulse c).act e).word1 = BitVec.ofNat 36 t ∧ ((n.endPulse c).act e).lateRun = late ∧
      ((n.endPulse c).act e).overdue = false := by
    rcases hact e with h | h <;> rw [h, hfired] <;> exact ⟨rfl, rfl, rfl⟩
  clear hframe
  generalize n.endPulse c = k at hpulse hobj' hword
  obtain ⟨⟨fr, out, f, o, hkframe⟩, hkobj⟩ := k.actOut_frame c v sup
  have hk : (k.actOut c v sup).ev = k.ev := by rw [hkframe]
  have hcount := (hkobj 0 O.EV_DONE_COUNT).resolve_right (by decide)
  have hsame : (k.actOut c v sup).act e = k.act e := by
    unfold Main.act
    rw [hk]
  clear hkframe
  generalize k.actOut c v sup = l at hk hcount hsame
  obtain ⟨ch, hdone⟩ := l.act_actDone e
  have hpl : (l.actDone e).ev.pulses = l.ev.pulses := rfl
  have hend : (l.actDone e).obj (evAddr 0 O.EV_DONE_COUNT) = (l.obj (evAddr 0 O.EV_DONE_COUNT) + 1) % 2 ^ 36 :=
    Main.obj_inc_same _ _
  obtain ⟨h1, h2, h3⟩ := hword
  rw [hdone, hpl, hk, hend, hcount, hobj', hobj, hsame]
  exact ⟨rfl, h1, h2, h3, hpulse, rfl⟩

/-- R440: the command of an entry, where no later one supersedes it. -/
theorem Main.commanded_out (m : Main) (e t c : Nat) (late v : Bool) :
    (m.field.link = 2 → (m.commanded e t c late v false).out.field = m.out.field ++ [(c, v)] ∧
      (m.commanded e t c late v false).obj (ioAddr c O.IO_OUT) = b2n v) ∧
    (m.field.link ≠ 2 → (m.commanded e t c late v false).obj (ioAddr 0 O.IO_CMD_DROPPED) =
      (m.obj (ioAddr 0 O.IO_CMD_DROPPED) + 1) % 2 ^ 36) := by
  obtain ⟨⟨p, en, hframe⟩, -, -⟩ := (m.fired e t late).endPulse_spec c
  have hn : ((m.fired e t late).endPulse c).field = m.field ∧ ((m.fired e t late).endPulse c).out = m.out ∧
      ∀ b, ((m.fired e t late).endPulse c).obj b = m.obj b := by
    rw [hframe]
    exact ⟨rfl, rfl, fun _ => rfl⟩
  unfold Main.commanded
  clear hframe
  generalize (m.fired e t late).endPulse c = n at hn
  obtain ⟨hfield, hout, hobj⟩ := hn
  have hkeep : ∀ (k : Main) (i l : Nat), (k.actDone e).obj (ioAddr i l) = k.obj (ioAddr i l) := by
    intro k i l
    refine Main.objs_keep _ _ _ _ ?_
    unfold ioAddr
    have : evAddr 0 O.EV_DONE_COUNT = 0x700107 := by decide
    omega
  have hdout : ∀ k : Main, (k.actDone e).out = k.out := fun _ => rfl
  refine ⟨fun hlink => ?_, fun hlink => ?_⟩
  · have hact : n.actOut c v false = n.cmdOut c v := by
      unfold Main.actOut
      rw [if_neg Bool.false_ne_true, if_pos (hfield ▸ hlink)]
    obtain ⟨ho, hio, -⟩ := Main.cmdOut_spec (m := n) (hfield ▸ hlink) c v
    rw [hact, hkeep, hdout, ho, hout]
    exact ⟨rfl, hio⟩
  · have hact : n.actOut c v false = n.inc (ioAddr 0 O.IO_CMD_DROPPED) := by
      unfold Main.actOut
      rw [if_neg Bool.false_ne_true, if_neg (hfield ▸ hlink)]
    rw [hact, hkeep, Main.obj_inc_same, hobj]

theorem Main.runDue_of_due {m : Main} {e due : Nat} (t : Nat) (hat : (m.act e).dueAt = some due) (hdue : due ≤ m.now)
    (hturn : m.itsTurn (m.tb.edgeOf due) (1 + e) = true) : m.runDue e t = m.execute e t (m.act e).overdue
      (m.superseded (m.tb.edgeOf due) (1 + e) (fld ((m.act e).words.getD 6 0) 15 0)) := by
  unfold Main.runDue
  dsimp only
  rw [hat]
  exact if_pos ⟨hdue, hturn⟩

theorem Action.dueAt_of_live {a : Action} (hst : a.st = 1 ∨ a.st = 2) (ho : a.overdue = false) : a.dueAt = a.fire := by
  unfold Action.dueAt
  rw [if_neg (by omega), ho, if_neg Bool.false_ne_true]

section
variable {e : Fin 1024} {s : State}

theorem actionFire_runs {t0 : Nat} (hfire : (s.main.act e).fire = some t0) (hst : (s.main.act e).st = 1 ∨ (s.main.act e).st = 2)
    (ho : (s.main.act e).overdue = false) (ht : t0 ≤ s.main.now)
    (hkind : fld ((s.main.act e).words.getD 0 0) 31 28 = 1 ∨ fld ((s.main.act e).words.getD 0 0) 31 28 = 2)
    (hturn : s.main.itsTurn (s.main.tb.edgeOf t0) (1 + e) = true)
    (hsup : s.main.superseded (s.main.tb.edgeOf t0) (1 + e) (fld ((s.main.act e).words.getD 6 0) 15 0) = false)
    (hbrake : s.main.brakeAxis (fld ((s.main.act e).words.getD 6 0) 15 0) = none) : exec (.actionFire e) s = .next { s with
      main := s.start.commanded e t0 (fld ((s.main.act e).words.getD 6 0) 15 0) false
        (fld ((s.main.act e).words.getD 0 0) 31 28 == 1) false } := by
  have hfire' : (s.start.act e).fire = some t0 := hfire
  have ho' : (s.start.act e).overdue = false := ho
  have hat : (s.start.act e).dueAt = some t0 := (Action.dueAt_of_live hst ho).trans hfire
  have hrun := Main.runDue_of_due (m := s.start) t0 hat ht hturn
  have hsup' : s.start.superseded (s.start.tb.edgeOf t0) (1 + e) (fld ((s.start.act e).words.getD 6 0) 15 0) = false := hsup
  rw [hsup', ho', Main.execute_of_level (m := s.start) (c := fld ((s.main.act e).words.getD 6 0) 15 0) false false hkind rfl hbrake] at hrun
  change Host.Outcome.next { s with
    main := match (s.start.act e).overdue, (s.start.act e).fire with
      | false, some t => s.start.runDue e t
      | _, _ => s.start } = _
  rw [ho', hfire']
  dsimp only
  rw [hrun]
  rfl

theorem overdueExecute_runs {due : Nat} (hat : (s.main.act e).dueAt = some due) (ho : (s.main.act e).overdue = true)
    (hdue : due ≤ s.main.now)
    (hkind : fld ((s.main.act e).words.getD 0 0) 31 28 = 1 ∨ fld ((s.main.act e).words.getD 0 0) 31 28 = 2)
    (hturn : s.main.itsTurn (s.main.tb.edgeOf due) (1 + e) = true)
    (hbrake : s.main.brakeAxis (fld ((s.main.act e).words.getD 6 0) 15 0) = none) : ∃ sup, exec (.overdueExecute e) s = .next { s with
      main := s.start.commanded e (slotStart s.main.now) (fld ((s.main.act e).words.getD 6 0) 15 0) true
        (fld ((s.main.act e).words.getD 0 0) 31 28 == 1) sup } := by
  have ho' : (s.start.act e).overdue = true := ho
  have hrun := Main.runDue_of_due (m := s.start) (slotStart s.main.now) hat hdue hturn
  generalize s.start.superseded (s.start.tb.edgeOf due) (1 + e) (fld ((s.start.act e).words.getD 6 0) 15 0) = sup at hrun
  rw [ho', Main.execute_of_level (m := s.start) (c := fld ((s.main.act e).words.getD 6 0) 15 0) true sup hkind rfl hbrake] at hrun
  refine ⟨sup, ?_⟩
  change Host.Outcome.next { s with
    main := if (s.start.act e).overdue = true then s.start.runDue e (slotStart s.main.now) else s.start } = _
  rw [if_pos ho', hrun]
  rfl

/-- R399: an entry that has expired. -/
def Main.expired (m : Main) (e : Nat) : Main :=
  (m.modAct e (fun a => { a with st := 6, result := 0x82, charged := false, fire := none })).inc (evAddr 0 O.EV_EXPIRED_COUNT)

theorem actionExpire_expires (hst : (s.main.act e).st = 1 ∨ (s.main.act e).st = 2) (ho : (s.main.act e).overdue = false)
    (hfire : ∀ t0, (s.main.act e).fire = some t0 → slotStart s.main.now < t0) (hmove : e.val ∉ s.main.ev.moves)
    (htrig : fld ((s.main.act e).words.getD 0 0) 35 32 ≠ 0) (hexp : ext2 (s.main.act e).words 4 ≠ 0)
    (hdue : ext2 (s.main.act e).words 4 ≤ slotStart s.main.now) :
    exec (.actionExpire e) s = .next { s with main := s.start.expired e } := by
  let due : Bool := match (s.start.act e).dueAt with | some t => decide (t ≤ slotStart s.start.now) | none => false
  have hlate : due = false := by
    have hat : (s.start.act e).dueAt = (s.main.act e).fire := Action.dueAt_of_live hst ho
    dsimp only [due]
    rw [hat]
    cases hf : (s.main.act e).fire with
    | none => rfl
    | some t0 => exact decide_eq_false (Nat.not_le.2 (hfire t0 hf))
  have hmove' : ¬ s.start.ev.moves.contains e.val = true := fun h => hmove (List.contains_iff_mem.1 h)
  have hgate : ((s.start.act e).st = 1 ∨ (s.start.act e).st = 2) ∧ (s.start.act e).overdue = false ∧ due = false ∧
      (¬ s.start.ev.moves.contains e.val = true) ∧ fld ((s.start.act e).words.getD 0 0) 35 32 ≠ 0 ∧
      ext2 (s.start.act e).words 4 ≠ 0 ∧ ext2 (s.start.act e).words 4 ≤ slotStart s.start.now :=
    ⟨hst, ho, hlate, hmove', htrig, hexp, hdue⟩
  change Host.Outcome.next { s with
    main :=
      if ((s.start.act e).st = 1 ∨ (s.start.act e).st = 2) ∧ (s.start.act e).overdue = false ∧ due = false ∧
        (¬ s.start.ev.moves.contains e.val = true) ∧ fld ((s.start.act e).words.getD 0 0) 35 32 ≠ 0 ∧
        ext2 (s.start.act e).words 4 ≠ 0 ∧ ext2 (s.start.act e).words 4 ≤ slotStart s.start.now then s.start.expired e
      else s.start } = _
  rw [if_pos hgate]

theorem Main.expired_spec (m : Main) (e : Nat) : ((m.expired e).act e).st = 6 ∧ ((m.expired e).act e).result = 0x82 ∧
    ((m.expired e).act e).charged = false ∧ ((m.expired e).act e).fire = none ∧ (∀ k, k ≠ e → (m.expired e).act k = m.act k) ∧
    (m.expired e).obj (evAddr 0 O.EV_EXPIRED_COUNT) = (m.obj (evAddr 0 O.EV_EXPIRED_COUNT) + 1) % 2 ^ 36 ∧
    ObjsBut m (m.expired e) [evAddr 0 O.EV_EXPIRED_COUNT] := by
  have hact : ∀ k, (m.expired e).act k = if k = e then { m.act e with st := 6, result := 0x82, charged := false, fire := none }
      else m.act k := fun k => m.act_modAct e k _
  have hself := (hact e).trans (if_pos rfl)
  exact ⟨congrArg Action.st hself, congrArg Action.result hself, congrArg Action.charged hself, congrArg Action.fire hself,
    fun k hk => (hact k).trans (if_neg hk), Main.obj_inc_same _ _, fun b hb => Main.objs_keep _ _ _ b (by simpa using hb)⟩

/-! ### Pulse off -/

theorem exec_pulseOff {ch : Fin 32} {e t0 : Nat} (hp : mget (0, 0) s.main.ev.pulses ch = (e, t0 + 1)) (ht : t0 ≤ s.main.now)
    (hturn : s.main.itsTurn (s.main.tb.edgeOf t0) 0 = true) : exec (.pulseOff ch) s = .next { s with
      main :=
        if ((s.main.fc ch).offDead || (s.main.brakeAxis ch).isSome) = true then
          (s.start.endPulse ch).modFc ch (fun f => { f with offDead := false })
        else (s.start.endPulse ch).actOut ch false (s.main.superseded (s.main.tb.edgeOf t0) 0 ch) } := by
  have hp' : mget (0, 0) s.start.ev.pulses ch = (e, t0 + 1) := hp
  have hgate : 0 < t0 + 1 ∧ t0 ≤ s.start.now ∧ s.start.itsTurn (s.start.tb.edgeOf t0) 0 = true := ⟨Nat.succ_pos _, ht, hturn⟩
  change Host.Outcome.next { s with
    main :=
      let p := mget (0, 0) s.start.ev.pulses ch
      let edge := s.start.tb.edgeOf ((p.2 - 1 : Nat))
      if 0 < p.2 ∧ p.2 - 1 ≤ s.start.now ∧ s.start.itsTurn edge 0 = true then
        if ((s.start.fc ch).offDead || (s.start.brakeAxis ch).isSome) = true then
          (s.start.endPulse ch).modFc ch (fun f => { f with offDead := false })
        else (s.start.endPulse ch).actOut ch false (s.start.superseded edge 0 ch)
      else s.start } = _
  rw [hp']
  dsimp only
  rw [Nat.add_sub_cancel, if_pos hgate]
  rfl

theorem pulseOff_ends {ch : Fin 32} {t0 : Nat} (hp : mget (0, 0) s.main.ev.pulses ch = (e.val, t0 + 1)) (ht : t0 ≤ s.main.now)
    (hturn : s.main.itsTurn (s.main.tb.edgeOf t0) 0 = true) : Completes (.pulseOff ch) s (fun t => (t.main.act e).st = 4 ∧
      (mget (0, 0) t.main.ev.pulses ch).2 = 0 ∧
      (s.main.field.link = 2 → (s.main.fc ch).offDead = false → s.main.brakeAxis ch = none →
        s.main.superseded (s.main.tb.edgeOf t0) 0 ch = false → (t.main.fc ch).cmd = false ∧ t.main.obj (ioAddr ch O.IO_OUT) = 0)) := by
  have hexec := exec_pulseOff hp ht hturn
  obtain ⟨⟨p, en, hframe⟩, hpulse, -⟩ := s.start.endPulse_spec ch
  have hact := Main.act_endPulse (m := s.start) hp
  have hfield : (s.start.endPulse ch).field = s.main.field := by
    rw [hframe]
    rfl
  clear hframe
  generalize s.start.endPulse ch = n at hexec hpulse hact hfield
  have hdone : (n.act e).st = 4 := by rw [hact]
  by_cases hdead : ((s.main.fc ch).offDead || (s.main.brakeAxis ch).isSome) = true
  · rw [if_pos hdead] at hexec
    refine completes_of_exec hexec ⟨hdone, hpulse, fun _ h1 h2 => absurd hdead ?_⟩
    rw [h1, h2]
    decide
  · rw [if_neg hdead] at hexec
    obtain ⟨⟨fr, out, f, o, hkframe⟩, -⟩ := n.actOut_frame ch false (s.main.superseded (s.main.tb.edgeOf t0) 0 ch)
    have hk : (n.actOut ch false (s.main.superseded (s.main.tb.edgeOf t0) 0 ch)).ev = n.ev := by rw [hkframe]
    clear hkframe
    refine completes_of_exec hexec ⟨?_, ?_, fun hlink _ _ hsup => ?_⟩
    · unfold Main.act at hdone ⊢
      rw [hk]
      exact hdone
    · dsimp only
      rw [hk]
      exact hpulse
    · obtain ⟨-, hio, hcmd⟩ := Main.cmdOut_spec (m := n) (hfield ▸ hlink) ch false
      have hcmdout : n.actOut ch false false = n.cmdOut ch false := by
        unfold Main.actOut
        rw [if_neg Bool.false_ne_true, if_pos (hfield ▸ hlink)]
      dsimp only
      rw [hsup, hcmdout]
      exact ⟨hcmd, hio⟩

end

/-- Settles O50. -/
theorem actionsRun : Obligations.ActionsRun := by
  unfold Obligations.ActionsRun
  intro e s
  refine ⟨fun t0 hfire hst ho ht hkind hturn hsup hbrake => ?fire, fun due hat ho hdue hkind hturn hbrake => ?overdue,
    fun hst ho hfire hmove htrig hexp hdue => ?expire, fun ch t0 hp ht hturn => pulseOff_ends hp ht hturn⟩
  case fire =>
    obtain ⟨hst4, hword, hlate, -, hpulse, hcount⟩ := s.start.commanded_entry e t0 (fld ((s.main.act e).words.getD 6 0) 15 0) false
      (fld ((s.main.act e).words.getD 0 0) 31 28 == 1) false
    obtain ⟨hup, hdown⟩ := s.start.commanded_out e t0 (fld ((s.main.act e).words.getD 6 0) 15 0) false
      (fld ((s.main.act e).words.getD 0 0) 31 28 == 1)
    exact completes_of_exec (actionFire_runs hfire hst ho ht hkind hturn hsup hbrake)
      ⟨hst4, hword, hlate, hpulse, hcount, hup, hdown⟩
  case overdue =>
    obtain ⟨sup, hexec⟩ := overdueExecute_runs hat ho hdue hkind hturn hbrake
    obtain ⟨hst4, hword, hlate, hover, -, -⟩ := s.start.commanded_entry e (slotStart s.main.now)
      (fld ((s.main.act e).words.getD 6 0) 15 0) true (fld ((s.main.act e).words.getD 0 0) 31 28 == 1) sup
    exact completes_of_exec hexec ⟨hst4, hlate, hover, hword⟩
  case expire =>
    exact completes_of_exec (actionExpire_expires hst ho hfire hmove htrig hexp hdue) (s.start.expired_spec e)

end Sys2Proof.Machine
end

section
/-! The slot boundary ends full post parts (R420, R494, R558). -/

namespace Sys2Proof.Machine

/-- R420: where unit `u` is in POST, its post part has room. -/
def Main.PostOpen (u : Nat) (m : Main) : Prop :=
  (m.aqu u).st = 3 → (m.aqu u).post.length < m.obj (aqAddr u O.AQ_DEPTH) - m.obj (aqAddr u O.AQ_PRE)

theorem Main.postOpen_aqPostFull (u : Nat) (m : Main) : Main.PostOpen u (m.aqPostFull u) := by
  unfold Main.aqPostFull
  split
  · intro h
    rw [Main.aqu_modAq, if_pos rfl] at h
    exact absurd h (show (4 : Nat) ≠ 3 by decide)
  next h => exact fun hst => Nat.lt_of_not_le fun hle => h ⟨hst, hle⟩

theorem Main.PostOpen.aqPostFull {u : Nat} {m : Main} (v : Nat) (h : Main.PostOpen u m) : Main.PostOpen u (m.aqPostFull v) := by
  by_cases hv : v = u
  · subst hv
    exact m.postOpen_aqPostFull v
  · unfold Main.aqPostFull
    split
    · intro hst
      have hother : (m.modAq v (fun x => { x with st := 4 })).aqu u = m.aqu u := (m.aqu_modAq v u _).trans (if_neg (Ne.symm hv))
      rw [hother] at hst ⊢
      exact h hst
    · exact h

/-- R558: whatever comes before it, the boundary ends with the post parts that are full. -/
theorem Main.slotBoundary_ends (m : Main) (x : SlotIn) :
    ∃ n : Main, m.slotBoundary x = forEach aqUnits (fun u m => m.aqPostFull u) n := by
  unfold Main.slotBoundary
  exact ⟨_, rfl⟩

theorem Main.postOpen_slotBoundary (m : Main) (x : SlotIn) (u : Fin 8) : Main.PostOpen u (m.slotBoundary x) := by
  obtain ⟨n, hn⟩ := m.slotBoundary_ends x
  rw [hn]
  exact forEach_brings (Main.PostOpen u) (fun v m => m.aqPostFull v) (fun m => m.postOpen_aqPostFull u)
    (fun v _ h => h.aqPostFull v) (List.mem_range.2 u.isLt) n

/-- Settles O51. -/
theorem slotBoundaryEndsFullPostParts : Obligations.SlotBoundaryEndsFullPostParts := by
  unfold Obligations.SlotBoundaryEndsFullPostParts
  intro x s
  have hexec : exec (.slotBoundary x) s = .next { s with
      main := if s.main.tb.running then s.start.slotBoundary x else s.start } := rfl
  refine ⟨fun hstopped => ?_, fun hrunning => ?_⟩
  · rw [hstopped, if_neg Bool.false_ne_true] at hexec
    exact completes_of_exec hexec rfl
  · rw [hrunning, if_pos rfl] at hexec
    have hpost := s.start.postOpen_slotBoundary x
    generalize s.start.slotBoundary x = n at hexec hpost
    exact completes_of_exec hexec ⟨rfl, rfl, hpost⟩

end Sys2Proof.Machine
end

section
/-! The ends of long operations (R101, R104, R363, R423). -/

namespace Sys2Proof.Machine

theorem Main.longEnd_of_idle {m : Main} {k : Nat} (h : (m.lop k).busy = false ∨ (m.lop k).paused = true) (how : OpEnd) :
    m.longEnd k how = m := by
  unfold Main.longEnd
  have hgate : (!(m.lop k).busy || (m.lop k).paused) = true := by
    rcases h with h | h
    · rw [h]
      rfl
    · rw [h, Bool.or_true]
  exact if_pos hgate

/-- An operation that runs. -/
theorem not_idle {o : LongOp} (hb : o.busy = true) (hp : o.paused = false) : ¬ (!o.busy || o.paused) = true := by
  rw [hb, hp]
  decide

/-! ### Results -/

/-- R102: of the main die only the operations, and the free values, have changed, and of the operations only the one of slot `k`. -/
structure Main.OpOnly (k : Nat) (m n : Main) : Prop where
  frame : ∃ o fr, n = { m with op := o, fresh := fr }
  other : ∀ j, j ≠ k → n.lop j = m.lop j

section
variable {m n l : Main} {k : Nat}

theorem Main.OpOnly.trans (h : Main.OpOnly k m n) (h' : Main.OpOnly k n l) : Main.OpOnly k m l := by
  refine ⟨?_, fun j hj => (h'.other j hj).trans (h.other j hj)⟩
  obtain ⟨o, fr, rfl⟩ := h.frame
  obtain ⟨o', fr', rfl⟩ := h'.frame
  exact ⟨o', fr', rfl⟩

theorem Main.OpOnly.refl (m : Main) : Main.OpOnly k m m := ⟨⟨m.op, m.fresh, rfl⟩, fun _ _ => rfl⟩

theorem Main.OpOnly.modOp (m : Main) (f : LongOp → LongOp) : Main.OpOnly k m (m.modOp k f) :=
  ⟨⟨_, m.fresh, rfl⟩, fun j hj => (m.lop_modOp k j f).trans (if_neg hj)⟩

end

/-- R102: a record is the operation's last. -/
theorem Main.addResult_spec (m : Main) (k kind : Nat) (index : Option Nat) (body : List Word) :
    Main.OpOnly k m (m.addResult k kind index body) ∧
    ∃ w, (m.addResult k kind index body).lop k =
      { m.lop k with partialR := true, result := (m.lop k).result ++ [w :: body] } := by
  have happend : ∀ (n : Main) (w : Word), (n.modOp k (fun o => { o with partialR := true, result := o.result ++ [w :: body] })).lop k =
      { n.lop k with partialR := true, result := (n.lop k).result ++ [w :: body] } := fun n w => (n.lop_modOp k k _).trans (if_pos rfl)
  have hfree : Main.OpOnly k m m.freeWord.2 := ⟨⟨m.op, _, rfl⟩, fun _ _ => rfl⟩
  unfold Main.addResult
  cases index with
  | some n => exact ⟨.modOp m _, _, happend m _⟩
  | none => exact ⟨hfree.trans (.modOp m.freeWord.2 _), _, happend m.freeWord.2 _⟩

theorem Main.lop_opDone (m : Main) (k : Nat) :
    (m.opDone k).lop k = { m.lop k with busy := false, finished := true, prog := 1000, paused := false } :=
  (m.lop_modOp k k _).trans (if_pos rfl)

/-! ### Readout -/

/-- R423: the header record of ten words stands first. -/
def LongOp.headed (o : LongOp) : Prop := ∃ r rs, o.result = r :: rs ∧ r.length = 10

/-- R423: the first record of a readout is its header record. -/
theorem Main.readoutNext_first {m : Main} {u : Nat} (h : (m.lop (opAQ u)).result = []) : ∃ n, m.readoutNext u = some n ∧
    Main.OpOnly (opAQ u) m n ∧ (n.lop (opAQ u)).headed := by
  let body := [wordN u, wordN (m.obj (aqAddr u O.AQ_FLAGS)), wordN (m.obj (aqAddr u O.AQ_TRIG_CAUSE)),
    wordN (m.obj (aqAddr u O.AQ_PRE_GOT)), wordN (m.obj (aqAddr u O.AQ_POST_GOT))] ++
    [wordN (m.obj (aqAddr u O.AQ_TRIG_TIME) / 2 ^ 36), wordN (m.obj (aqAddr u O.AQ_TRIG_TIME))] ++
    [wordN (m.obj (aqAddr u O.AQ_ARM_TIME) / 2 ^ 36), wordN (m.obj (aqAddr u O.AQ_ARM_TIME))]
  obtain ⟨honly, w, hrec⟩ := m.addResult_spec (opAQ u) 0x60 none body
  refine ⟨m.addResult (opAQ u) 0x60 none body, ?_, honly, w :: body, [], ?_, rfl⟩
  · unfold Main.readoutNext
    dsimp only
    rw [h]
    rfl
  · rw [hrec, h]
    rfl

/-- R423: a later record leaves the header record. -/
theorem Main.readoutNext_keeps {m n : Main} {u : Nat} (hn : m.readoutNext u = some n) (h : (m.lop (opAQ u)).headed) :
    Main.OpOnly (opAQ u) m n ∧ (n.lop (opAQ u)).headed := by
  obtain ⟨r, rs, hres, hlen⟩ := h
  unfold Main.readoutNext at hn
  dsimp only at hn
  rw [hres] at hn
  simp only [List.length_cons] at hn
  split at hn
  next =>
    obtain ⟨honly, w, hrec⟩ := m.addResult_spec (opAQ u) 0x61 (some rs.length)
      (((m.readoutWords u).drop (128 * rs.length)).take 128)
    rw [Option.some.inj hn] at honly hrec
    refine ⟨honly, r, rs ++ [w :: ((m.readoutWords u).drop (128 * rs.length)).take 128], ?_, hlen⟩
    rw [hrec, hres]
    rfl
  next => exact absurd hn nofun

theorem Main.readoutRest_keeps (u : Nat) (fuel : Nat) : ∀ (m : Main), (m.lop (opAQ u)).headed →
    Main.OpOnly (opAQ u) m (m.readoutRest u fuel) ∧ ((m.readoutRest u fuel).lop (opAQ u)).headed := by
  induction fuel with
  | zero => exact fun m h => ⟨.refl m, h⟩
  | succ fuel ih =>
    intro m h
    unfold Main.readoutRest
    cases hn : m.readoutNext u with
    | none => exact ⟨.refl m, h⟩
    | some n =>
      obtain ⟨honly, hhead⟩ := Main.readoutNext_keeps hn h
      obtain ⟨honly', hhead'⟩ := ih n hhead
      exact ⟨honly.trans honly', hhead'⟩

/-- R423: a readout that ends with no record yet. -/
theorem Main.readoutEnd_spec {m : Main} {u : Nat} (h : (m.lop (opAQ u)).result = []) : Main.OpOnly (opAQ u) m (m.readoutEnd u) ∧
    ∃ o : LongOp, o.headed ∧ (m.readoutEnd u).lop (opAQ u) = { o with busy := false, finished := true, prog := 1000, paused := false } := by
  obtain ⟨n, hn, honly, hhead⟩ := Main.readoutNext_first h
  have hrest : m.readoutRest u ((m.readoutWords u).length / 128 + 2) = n.readoutRest u ((m.readoutWords u).length / 128 + 1) := by
    change (match m.readoutNext u with | some x => x.readoutRest u ((m.readoutWords u).length / 128 + 1) | none => m) = _
    rw [hn]
  obtain ⟨honly', hhead'⟩ := Main.readoutRest_keeps u ((m.readoutWords u).length / 128 + 1) n hhead
  unfold Main.readoutEnd
  rw [hrest]
  exact ⟨(honly.trans honly').trans (.modOp _ _), _, hhead', Main.lop_opDone _ _⟩

theorem readout_ends {u : Fin 8} (rs : List (List Word)) {s : State} (hb : (s.main.lop (opAQ u)).busy = true)
    (hp : (s.main.lop (opAQ u)).paused = false) (hkind : (s.main.lop (opAQ u)).kind = 6) (hres : (s.main.lop (opAQ u)).result = []) :
    Completes (.longOperationEnd ⟨128 + u.val, by omega⟩ (.done rs)) s (fun t =>
      t = { s with main := { s.main with out := {}, op := t.main.op, fresh := t.main.fresh } } ∧
      (t.main.lop (opAQ u)).finished = true ∧ (t.main.lop (opAQ u)).busy = false ∧ (t.main.lop (opAQ u)).prog = 1000 ∧
      ((t.main.lop (opAQ u)).result.headD []).length = 10 ∧ ∀ k, k ≠ opAQ u → t.main.lop k = s.main.lop k) := by
  have hkind' : (s.start.lop (opAQ u)).kind = 6 := hkind
  have hlate : ¬ s.start.opLate (opAQ u) = true := by
    unfold Main.opLate Main.opTimedOut
    dsimp only
    have hnone : (opLimit 6 != 0) = false := rfl
    rw [hkind', hnone, Bool.false_and, Bool.and_false]
    decide
  have hexec : exec (.longOperationEnd ⟨128 + u.val, by omega⟩ (.done rs)) s = .next { s with main := s.start.readoutEnd u } := by
    have hend : s.start.longEnd (opAQ u) (.done rs) = s.start.readoutEnd u := by
      unfold Main.longEnd
      dsimp only
      rw [if_neg (not_idle (o := s.start.lop (opAQ u)) hb hp), if_neg hlate, hkind']
      exact congrArg s.start.readoutEnd (Nat.add_sub_cancel_left ..)
    exact congrArg (fun n : Main => Host.Outcome.next ({ s with main := n } : State)) hend
  obtain ⟨honly, o, ⟨r, l, hhead, hlen⟩, hlop⟩ := Main.readoutEnd_spec (m := s.start) hres
  generalize s.start.readoutEnd u = n at hexec honly hlop
  obtain ⟨⟨op, fr, hframe⟩, hother⟩ := honly
  refine completes_of_exec hexec ⟨?_, congrArg LongOp.finished hlop, congrArg LongOp.busy hlop, congrArg LongOp.prog hlop, ?_, hother⟩
  · rw [hframe]
    rfl
  · have hresult : (n.lop (opAQ u)).result = r :: l := (congrArg LongOp.result hlop).trans hhead
    dsimp only
    rw [hresult]
    exact hlen

/-! ### Cam commit -/

section
variable {s : State}

/-- R101: a cam commit that has failed. -/
theorem completes_camFail {how : OpEnd} {code : Nat} (hb : (s.main.lop opCM).busy = true)
    (hend : s.start.longEnd opCM how = s.start.opFail opCM code) :
    Completes (.longOperationEnd ⟨137, by omega⟩ how) s (fun t =>
      t = { s with main := { s.main with out := {}, op := t.main.op } } ∧ (t.main.lop opCM).failed = true ∧
      (t.main.lop opCM).err = code ∧ (t.main.lop opCM).busy = false ∧ (t.main.lop opCM).prog = (s.main.lop opCM).prog) := by
  have hexec : exec (.longOperationEnd ⟨137, by omega⟩ how) s = .next { s with main := s.start.opFail opCM code } :=
    congrArg (fun n : Main => Host.Outcome.next ({ s with main := n } : State)) hend
  have hlop : (s.start.opFail opCM code).lop opCM = { s.main.lop opCM with busy := false, failed := true, err := code, paused := false } :=
    (s.start.lop_modOp opCM opCM _).trans ((if_pos rfl).trans (if_pos hb))
  exact completes_of_exec hexec ⟨rfl, congrArg LongOp.failed hlop, congrArg LongOp.err hlop, congrArg LongOp.busy hlop,
    (congrArg LongOp.prog hlop).trans rfl⟩

/-- R363: the end of a cam commit that is not late. -/
theorem longEnd_cam (rs : List (List Word)) (hb : (s.main.lop opCM).busy = true) (hp : (s.main.lop opCM).paused = false)
    (hkind : (s.main.lop opCM).kind = 4) (hlate : s.main.opLate opCM = false) :
    s.start.longEnd opCM (.done rs) = s.start.camEnd (s.main.lop opCM).param := by
  have hkind' : (s.start.lop opCM).kind = 4 := hkind
  have hlate' : ¬ s.start.opLate opCM = true := by
    have h : s.start.opLate opCM = false := hlate
    rw [h]
    decide
  unfold Main.longEnd
  dsimp only
  rw [if_neg (not_idle (o := s.start.lop opCM) hb hp), if_neg hlate', hkind']
  rfl

theorem camCommit_times_out (rs : List (List Word)) (hb : (s.main.lop opCM).busy = true) (hp : (s.main.lop opCM).paused = false)
    (hkind : (s.main.lop opCM).kind = 4) (hlong : 10000 * unitsPerMs ≤ (s.main.lop opCM).ranFor s.main.now) :
    s.start.longEnd opCM (.fail 5 rs) = s.start.opFail opCM 5 := by
  have hkind' : (s.start.lop opCM).kind = 4 := hkind
  have hout : s.start.opTimedOut opCM = true := by
    unfold Main.opTimedOut
    dsimp only
    rw [hkind']
    have hten : opLimit 4 * 1000 * unitsPerMs ≤ (s.start.lop opCM).ranFor s.start.now := hlong
    rw [decide_eq_true hten, Bool.or_true, Bool.and_true]
    rfl
  have hfails : s.start.opFails opCM 5 = true := by
    have hb' : (s.start.lop opCM).busy = true := hb
    unfold Main.opFails
    dsimp only
    rw [hb', hout]
    rfl
  have hhalf : s.start.opHalf opCM 4 rs = s.start := rfl
  have hleaves : s.start.opLeaves opCM 4 = s.start := rfl
  unfold Main.longEnd
  dsimp only
  rw [if_neg (not_idle (o := s.start.lop opCM) hb hp), hkind', hhalf, hleaves]
  exact if_pos hfails

/-- R363: the next version of a table. -/
def Main.camNext (m : Main) (t : Nat) : CamTable where
  ver := (m.tab t).ver + 1
  base := m.obj (cmAddr t O.CM_TAB_BASE)
  words := (m.camHead (m.obj (cmAddr t O.CM_TAB_BASE))).words
  retained := if m.tabUsers t = 0 then none else some ((m.tab t).base, (m.tab t).words)

/-- R363: the image of a good commit is the table's next version. -/
def Main.camTaken (m : Main) (t : Nat) : Main := { m with tabs := mset {} m.tabs t (m.camNext t) }

theorem Main.tab_camTaken (m : Main) (t k : Nat) : (m.camTaken t).tab k = if k = t then m.camNext t else m.tab k := by
  unfold Main.camTaken Main.tab
  exact mget_mset ({} : CamTable) m.tabs t k (m.camNext t)

theorem Main.camEnd_of_good {m : Main} {t : Nat} (hhead : m.camHeaderBad (m.obj (cmAddr t O.CM_TAB_BASE)) = false)
    (hroom : m.obj (cmAddr t O.CM_TAB_BASE) + (m.camHead (m.obj (cmAddr t O.CM_TAB_BASE))).words ≤ 1048576)
    (htouch : m.camTouches (m.obj (cmAddr t O.CM_TAB_BASE)) (m.camHead (m.obj (cmAddr t O.CM_TAB_BASE))).words = false)
    (hcrc : crcWords ((List.range ((m.camHead (m.obj (cmAddr t O.CM_TAB_BASE))).words - 4)).map
      (fun k => m.camW (m.obj (cmAddr t O.CM_TAB_BASE) + 4 + k))) = fld (m.camW (m.obj (cmAddr t O.CM_TAB_BASE) + 3)) 31 0)
    (hret : (m.tab t).retained = none) : ∃ body, m.camEnd t = ((m.camTaken t).addResult opCM 0x40 none body).opDone opCM := by
  unfold Main.camEnd
  dsimp only
  rw [if_neg (by rw [hhead]; decide), if_neg (by rw [htouch]; rintro (h | h); exacts [Nat.not_lt.2 hroom h, Bool.false_ne_true h]),
    if_neg (not_not_intro hcrc), if_neg (by rw [hret]; decide)]
  exact ⟨_, rfl⟩

theorem camCommit_takes {rs : List (List Word)} {t : Nat} (hend : s.start.longEnd opCM (.done rs) = s.start.camEnd t)
    (hhead : s.main.camHeaderBad (s.main.obj (cmAddr t O.CM_TAB_BASE)) = false)
    (hroom : s.main.obj (cmAddr t O.CM_TAB_BASE) + (s.main.camHead (s.main.obj (cmAddr t O.CM_TAB_BASE))).words ≤ 1048576)
    (htouch : s.main.camTouches (s.main.obj (cmAddr t O.CM_TAB_BASE)) (s.main.camHead (s.main.obj (cmAddr t O.CM_TAB_BASE))).words = false)
    (hcrc : crcWords ((List.range ((s.main.camHead (s.main.obj (cmAddr t O.CM_TAB_BASE))).words - 4)).map
      (fun k => s.main.camW (s.main.obj (cmAddr t O.CM_TAB_BASE) + 4 + k))) = fld (s.main.camW (s.main.obj (cmAddr t O.CM_TAB_BASE) + 3)) 31 0)
    (hret : (s.main.tab t).retained = none) : Completes (.longOperationEnd ⟨137, by omega⟩ (.done rs)) s (fun u =>
      (u.main.tab t).ver = (s.main.tab t).ver + 1 ∧ (u.main.tab t).base = s.main.obj (cmAddr t O.CM_TAB_BASE) ∧
      (u.main.tab t).words = (s.main.camHead (s.main.obj (cmAddr t O.CM_TAB_BASE))).words ∧
      (∀ k, k ≠ t → u.main.tab k = s.main.tab k) ∧ (u.main.lop opCM).finished = true ∧ (u.main.lop opCM).busy = false) := by
  obtain ⟨body, hgood⟩ := Main.camEnd_of_good (m := s.start) hhead hroom htouch hcrc hret
  have hexec : exec (.longOperationEnd ⟨137, by omega⟩ (.done rs)) s = .next { s with
      main := ((s.start.camTaken t).addResult opCM 0x40 none body).opDone opCM } :=
    congrArg (fun n : Main => Host.Outcome.next ({ s with main := n } : State)) (hend.trans hgood)
  obtain ⟨⟨⟨o, fr, hframe⟩, -⟩, -⟩ := (s.start.camTaken t).addResult_spec opCM 0x40 none body
  have htabs : (((s.start.camTaken t).addResult opCM 0x40 none body).opDone opCM).tabs = (s.start.camTaken t).tabs := by
    rw [hframe]
    rfl
  have hdone := Main.lop_opDone ((s.start.camTaken t).addResult opCM 0x40 none body) opCM
  generalize ((s.start.camTaken t).addResult opCM 0x40 none body).opDone opCM = n at hexec htabs hdone
  have htab : ∀ k, n.tab k = if k = t then s.start.camNext t else s.start.tab k := by
    intro k
    rw [← Main.tab_camTaken]
    unfold Main.tab
    rw [htabs]
  have hself := (htab t).trans (if_pos rfl)
  exact completes_of_exec hexec ⟨congrArg CamTable.ver hself, congrArg CamTable.base hself, congrArg CamTable.words hself,
    fun k hk => (htab k).trans (if_neg hk), congrArg LongOp.finished hdone, congrArg LongOp.busy hdone⟩

end

/-- Settles O52. -/
theorem longOperationsEnd : Obligations.LongOperationsEnd := by
  unfold Obligations.LongOperationsEnd
  refine ⟨fun k how s h => ?idle, fun u rs s hb hp hkind hres => readout_ends rs hb hp hkind hres, fun rs s hb hp hkind => ?cam⟩
  case idle =>
    have hexec : exec (.longOperationEnd k how) s = .next { s with main := s.start.longEnd k how } := rfl
    rw [Main.longEnd_of_idle (m := s.start) h] at hexec
    exact completes_of_exec hexec rfl
  case cam =>
    refine ⟨fun _ hlong => completes_camFail hb (camCommit_times_out rs hb hp hkind hlong), fun hlate hbad => ?bad,
      fun hlate hhead hroom htouch hcrc hret =>
        camCommit_takes (longEnd_cam rs hb hp hkind hlate) hhead hroom htouch hcrc hret⟩
    case bad =>
      refine completes_camFail hb ((longEnd_cam rs hb hp hkind hlate).trans ?_)
      exact if_pos hbad

end Sys2Proof.Machine
end

section
/-! The link of the field die and its reach (R427, R436, R449). -/

namespace Sys2Proof.Machine

/-! ### Outputs and brakes -/

section
variable {m n : Main}

/-- R194: which axis names a channel as its brake follows AX_BRAKE_OUT. -/
theorem Main.brakeAxis_of_obj (h : ∀ a, a < 64 → n.io a O.AX_BRAKE_OUT = m.io a O.AX_BRAKE_OUT) (c : Nat) :
    n.brakeAxis c = m.brakeAxis c := by
  unfold Main.brakeAxis
  split
  · rfl
  · exact List.find?_congr fun a ha => by rw [h a (List.mem_range.1 ha)]

/-- R437: a channel is an output by IO_DIR and the brakes. -/
theorem Main.isOut_of_obj (h : ∀ a, a < 64 → n.io a O.AX_BRAKE_OUT = m.io a O.AX_BRAKE_OUT)
    (hd : ∀ c, n.obj (ioAddr c O.IO_DIR) = m.obj (ioAddr c O.IO_DIR)) (c : Nat) : n.isOut c = m.isOut c := by
  unfold Main.isOut
  rw [Main.brakeAxis_of_obj h, hd]

end

theorem ioAddr_ne {c k l j : Nat} (hk : k < 4096) (hl : l < 4096) (h : k ≠ l) : ioAddr c k ≠ ioAddr j l := by
  unfold ioAddr
  omega

theorem ioAddr_inj {c j k : Nat} (h : c ≠ j) : ioAddr c k ≠ ioAddr j k := by
  unfold ioAddr
  omega

/-- R444: a brake's fault changes the cores of the axes only. -/
theorem Main.raiseBrake_frame (m : Main) (c : Nat) : (∃ x, m.raiseBrake c = { m with inst := x }) ∧
    ∀ k, ((m.raiseBrake c).i k).home = (m.i k).home := by
  unfold Main.raiseBrake
  split
  next a _ =>
    refine ⟨⟨_, rfl⟩, fun k => ?_⟩
    unfold Main.raise
    rw [Main.i_modC]
    by_cases hk : k = a
    · rw [if_pos hk, hk]
    · rw [if_neg hk]
  next => exact ⟨⟨m.inst, rfl⟩, fun _ => rfl⟩

/-! ### Homing that is not in progress -/

/-- What no application changes, the whole leaves. -/
theorem forEach_same {α : Type} {f : α → Main → Main} {m : Main} (h : ∀ x, f x m = m) (l : List α) : forEach l f m = m :=
  forEach_keeps (fun n => n = m) f (fun x n hn => by rw [hn]; exact h x) l m rfl

theorem Main.inputBroken_of_noHoming {m : Main} (h : m.noHoming) (c : Nat) : m.inputBroken c = m := by
  unfold Main.inputBroken
  refine forEach_same (fun i => ?_) _
  rw [h i]
  exact if_neg fun h => Bool.false_ne_true h.1

theorem Main.inputsBroken_of_noHoming {m : Main} (h : m.noHoming) : forEach channels (fun c m => m.inputBroken c) m = m :=
  forEach_same (f := fun c m => m.inputBroken c) (fun c => Main.inputBroken_of_noHoming h c) channels

/-! ### The link goes down -/

/-- R427, R444, R445: output `c` as the link is lost. -/
def Main.outputDown (was c : Nat) (m : Main) : Main :=
  if 16 ≤ c ∧ m.isOut c = true then
    let m := if m.objB (ioAddr c O.IO_OUT) && was == 2 then m.raiseBrake c else m
    (m.modFc c (fun f => { f with cmd := false, rbT := m.now, offDead := true })).setObj (ioAddr c O.IO_OUT) 0
  else m

/-- R427: the loss is counted. -/
def Main.linkLossCounted (m : Main) : Main := { m with field := { m.field with link := 0 } }.inc (ioAddr 0 O.IO_LINK_LOSS_COUNT)

theorem Main.linkLossCounted_obj (m : Main) {b : Nat} (h : b ≠ ioAddr 0 O.IO_LINK_LOSS_COUNT) : m.linkLossCounted.obj b = m.obj b :=
  Main.objs_keep _ _ _ _ h

theorem Main.linkLossCounted_i (m : Main) (k : Nat) : m.linkLossCounted.i k = m.i k := rfl

theorem Main.linkDown_of_down {m : Main} (h : m.field.link = 0) : m.linkDown = m := if_pos h

theorem Main.linkDown_of_up {m : Main} (h : m.field.link ≠ 0) : m.linkDown =
    if m.field.link = 2 then
      forEach channels (fun c m => m.inputBroken c) (forEach channels (Main.outputDown m.field.link) m.linkLossCounted)
    else forEach channels (Main.outputDown m.field.link) m.linkLossCounted := if_neg h

/-- What the loss of the link leaves of the main die: the link and the channels, IO_OUT and the cores of axes apart. -/
structure Main.OutputsOnly (m n : Main) : Prop where
  link : n.field.link = m.field.link
  home : ∀ k, (n.i k).home = (m.i k).home
  obj : ∀ b, (∀ c, b ≠ ioAddr c O.IO_OUT) → n.obj b = m.obj b

section
variable {m n k : Main}

theorem Main.OutputsOnly.refl (m : Main) : Main.OutputsOnly m m := ⟨rfl, fun _ => rfl, fun _ _ => rfl⟩

theorem Main.OutputsOnly.trans (h : Main.OutputsOnly m n) (h' : Main.OutputsOnly n k) : Main.OutputsOnly m k :=
  ⟨h'.link.trans h.link, fun i => (h'.home i).trans (h.home i), fun b hb => (h'.obj b hb).trans (h.obj b hb)⟩

theorem Main.OutputsOnly.isOut (h : Main.OutputsOnly m n) (c : Nat) : n.isOut c = m.isOut c :=
  Main.isOut_of_obj (fun _ ha => h.obj _ fun _ => ioAddr_ne_instAddr _ ha (by decide))
    (fun _ => h.obj _ fun _ => ioAddr_ne (by decide) (by decide) (by decide)) c

/-- R444: whether the brake of an output had been released. -/
theorem Main.OutputsOnly.braked (m : Main) (c : Nat) (b : Bool) : Main.OutputsOnly m (if b then m.raiseBrake c else m) ∧
    (if b then m.raiseBrake c else m).field = m.field := by
  cases b
  · exact ⟨.refl m, rfl⟩
  · obtain ⟨⟨x, hx⟩, hhome⟩ := m.raiseBrake_frame c
    rw [if_pos rfl]
    refine ⟨⟨?_, hhome, fun b _ => ?_⟩, ?_⟩
    · rw [hx]
    · rw [hx]
      rfl
    · rw [hx]

/-- R427: an output is off and reads 0. -/
def Main.off (c : Nat) (m : Main) : Main :=
  (m.modFc c (fun f => { f with cmd := false, rbT := m.now, offDead := true })).setObj (ioAddr c O.IO_OUT) 0

theorem Main.outputDown_of_out {c : Nat} (hc : 16 ≤ c) (ho : m.isOut c = true) (was : Nat) :
    Main.outputDown was c m = (if m.objB (ioAddr c O.IO_OUT) && was == 2 then m.raiseBrake c else m).off c := if_pos ⟨hc, ho⟩

theorem Main.off_spec (m : Main) (c : Nat) : Main.OutputsOnly m (m.off c) ∧ ((m.off c).fc c).cmd = false ∧
    (m.off c).obj (ioAddr c O.IO_OUT) = 0 ∧
    ∀ j, j ≠ c → (m.off c).fc j = m.fc j ∧ (m.off c).obj (ioAddr j O.IO_OUT) = m.obj (ioAddr j O.IO_OUT) := by
  have hfc : ∀ j, (m.off c).fc j = if j = c then { m.fc c with cmd := false, rbT := m.now, offDead := true } else m.fc j :=
    fun j => m.fc_modFc c j _
  have hkeep : ∀ b, b ≠ ioAddr c O.IO_OUT → (m.off c).obj b = m.obj b := fun b hb => Main.objs_keep _ _ _ _ hb
  refine ⟨⟨rfl, fun _ => rfl, fun b hb => hkeep b (hb c)⟩, congrArg FieldCh.cmd ((hfc c).trans (if_pos rfl)), ?_,
    fun j hj => ⟨(hfc j).trans (if_neg hj), hkeep _ (ioAddr_inj hj)⟩⟩
  exact (Main.obj_setObj_same _ _ _).trans (Nat.zero_mod _)

theorem Main.outputDown_only (was c : Nat) (m : Main) : Main.OutputsOnly m (Main.outputDown was c m) := by
  by_cases h : 16 ≤ c ∧ m.isOut c = true
  · rw [Main.outputDown_of_out h.1 h.2]
    exact (Main.OutputsOnly.braked m c _).1.trans (Main.off_spec _ c).1
  · have hsame : Main.outputDown was c m = m := if_neg h
    rw [hsame]
    exact .refl m

theorem Main.outputsDown_only (was : Nat) (m : Main) : Main.OutputsOnly m (forEach channels (Main.outputDown was) m) :=
  forEach_keeps (Main.OutputsOnly m) _ (fun c n h => h.trans (Main.outputDown_only was c n)) _ m (.refl m)

/-- What is seen of an output: its command and IO_OUT. -/
def Main.outputSeen (c : Nat) (m : Main) : Bool × Nat := ((m.fc c).cmd, m.obj (ioAddr c O.IO_OUT))

theorem Main.outputSeen_down_other {was c j : Nat} (hj : j ≠ c) (m : Main) :
    Main.outputSeen c (Main.outputDown was j m) = Main.outputSeen c m := by
  by_cases h : 16 ≤ j ∧ m.isOut j = true
  · rw [Main.outputDown_of_out h.1 h.2]
    generalize (m.objB (ioAddr j O.IO_OUT) && was == 2) = b
    have hraise : (if b then m.raiseBrake j else m).field = m.field ∧ (if b then m.raiseBrake j else m).objs = m.objs := by
      cases b
      · exact ⟨rfl, rfl⟩
      · obtain ⟨⟨x, hx⟩, -⟩ := m.raiseBrake_frame j
        rw [if_pos rfl, hx]
        exact ⟨rfl, rfl⟩
    obtain ⟨hfield, hobjs⟩ := hraise
    generalize (if b then m.raiseBrake j else m) = n at hfield hobjs
    obtain ⟨-, -, -, hother⟩ := n.off_spec j
    obtain ⟨hfc, hobj⟩ := hother c hj.symm
    have hsame : Main.outputSeen c n = Main.outputSeen c m := by
      unfold Main.outputSeen Main.fc Main.obj
      rw [hfield, hobjs]
    rw [← hsame]
    unfold Main.outputSeen
    rw [hfc, hobj]
  · exact congrArg (Main.outputSeen c) (if_neg h : Main.outputDown was j m = m)

theorem Main.outputSeen_down_own {was c : Nat} (hc : 16 ≤ c) (ho : m.isOut c = true) :
    Main.outputSeen c (Main.outputDown was c m) = (false, 0) := by
  rw [Main.outputDown_of_out hc ho]
  obtain ⟨-, hcmd, hobj, -⟩ := Main.off_spec (if m.objB (ioAddr c O.IO_OUT) && was == 2 then m.raiseBrake c else m) c
  unfold Main.outputSeen
  rw [hcmd, hobj]

theorem Main.outputSeen_outputsDown {c : Nat} (hc : c < 32) (ho : m.isOut c = true) (was : Nat) :
    Main.outputSeen c (forEach channels (Main.outputDown was) m) = (false, 0) := by
  have h16 : 16 ≤ c := by
    simp only [Main.isOut, Bool.and_eq_true, decide_eq_true_eq] at ho
    exact ho.1.1
  exact (forEach_at (Main.OutputsOnly m) (Main.outputSeen c) (Main.outputDown was) (fun _ => (false, 0)) c
    (fun j n hn => hn.trans (Main.outputDown_only was j n)) (fun j n _ hj => Main.outputSeen_down_other hj n)
    (fun n hn => Main.outputSeen_down_own h16 ((hn.isOut c).trans ho)) List.nodup_range m (.refl m)).trans
    (if_pos (List.mem_range.2 hc))

/-- R427: the loss of a link, with no homing in progress. -/
theorem Main.linkDown_spec (h : m.field.link ≠ 0) (hhome : m.noHoming) : Main.OutputsOnly m.linkLossCounted m.linkDown ∧
    ∀ c, c < 32 → m.isOut c = true → Main.outputSeen c m.linkDown = (false, 0) := by
  have honly := Main.outputsDown_only m.field.link m.linkLossCounted
  have hseen : ∀ c, c < 32 → m.isOut c = true →
      Main.outputSeen c (forEach channels (Main.outputDown m.field.link) m.linkLossCounted) = (false, 0) := by
    intro c hc ho
    refine Main.outputSeen_outputsDown hc ?_ _
    rw [← ho]
    exact Main.isOut_of_obj (fun _ ha => m.linkLossCounted_obj (ioAddr_ne_instAddr _ ha (by decide)))
      (fun _ => m.linkLossCounted_obj (ioAddr_ne (by decide) (by decide) (by decide))) c
  rw [Main.linkDown_of_up h]
  generalize forEach channels (Main.outputDown m.field.link) m.linkLossCounted = n at honly hseen
  have hno : n.noHoming := by
    intro i
    rw [honly.home i, Main.linkLossCounted_i]
    exact hhome i
  rw [Main.inputsBroken_of_noHoming hno, ite_self]
  exact ⟨honly, hseen⟩

end

theorem barrierLinkLoss_off {s : State} (h : s.main.field.link ≠ 0) (hhome : s.main.noHoming) :
    Completes .barrierLinkLoss s (fun t => t.main.field.link = 0 ∧
      t.main.obj (ioAddr 0 O.IO_LINK_LOSS_COUNT) = (s.main.obj (ioAddr 0 O.IO_LINK_LOSS_COUNT) + 1) % 2 ^ 36 ∧
      ∀ c : Fin 32, s.main.isOut c = true → (t.main.fc c).cmd = false ∧ t.main.obj (ioAddr c O.IO_OUT) = 0) := by
  have hexec : exec .barrierLinkLoss s = .next { s with main := s.start.linkDown } := rfl
  obtain ⟨honly, hseen⟩ := Main.linkDown_spec (m := s.start) h hhome
  have hcount : s.start.linkLossCounted.obj (ioAddr 0 O.IO_LINK_LOSS_COUNT) =
      (s.main.obj (ioAddr 0 O.IO_LINK_LOSS_COUNT) + 1) % 2 ^ 36 := Main.obj_inc_same _ _
  have hlink : s.start.linkLossCounted.field.link = 0 := rfl
  generalize s.start.linkDown = n at hexec honly hseen
  refine completes_of_exec hexec ⟨honly.link.trans hlink,
    (honly.obj _ fun c => ioAddr_ne (by decide) (by decide) (by decide)).trans hcount, fun c ho => ?_⟩
  exact Prod.mk.inj (hseen c c.isLt ho)

/-! ### The link is configured -/

theorem barrierLinkReturn_configures {s : State} (h : s.main.field.link = 0) (hr : s.main.field.reach = false)
    (ho : s.main.mittenClosed 0x3000 = false) : Completes .barrierLinkReturn s (fun t =>
      t = { s with main := { s.main with out := {}, field := { s.main.field with link := 1 } } }) := by
  have hgate : s.start.field.link = 0 ∧ s.start.field.reach = false ∧ (!s.start.mittenClosed 0x3000) = true := by
    have ho' : s.start.mittenClosed 0x3000 = false := ho
    exact ⟨h, hr, by rw [ho']; rfl⟩
  have hexec : exec .barrierLinkReturn s = .next { s with
      main := { s.start with field := { s.start.field with link := 1 } } } := by
    change Host.Outcome.next { s with
      main :=
        if s.start.field.link = 0 ∧ s.start.field.reach = false ∧ (!s.start.mittenClosed 0x3000) = true then
          { s.start with field := { s.start.field with link := 1 } }
        else s.start } = _
    rw [if_pos hgate]
  exact completes_of_exec hexec rfl

/-- R318: chatter is counted in objects of the instances. -/
theorem Main.chatter_frame (m : Main) (c : Nat) : (∃ o, m.chatter c = { m with objs := o }) ∧
    ∀ b, (∀ i, b ≠ instAddr i O.LIM_CHATTER) → (m.chatter c).obj b = m.obj b := by
  have hcount : ∀ (n : Main) (p : Prop) [Decidable p] (i : Nat),
      ((∃ o, n = { m with objs := o }) ∧ ∀ b, (∀ i, b ≠ instAddr i O.LIM_CHATTER) → n.obj b = m.obj b) →
      (∃ o, (if p then n.inc (instAddr i O.LIM_CHATTER) else n) = { m with objs := o }) ∧
        ∀ b, (∀ i, b ≠ instAddr i O.LIM_CHATTER) → (if p then n.inc (instAddr i O.LIM_CHATTER) else n).obj b = m.obj b := by
    intro n p _ i hn
    split
    · obtain ⟨⟨o, rfl⟩, hobj⟩ := hn
      exact ⟨⟨_, rfl⟩, fun b hb => (Main.objs_keep _ _ _ _ (hb i)).trans (hobj b hb)⟩
    · exact hn
  exact forEach_keeps (fun n => (∃ o, n = { m with objs := o }) ∧ ∀ b, (∀ i, b ≠ instAddr i O.LIM_CHATTER) → n.obj b = m.obj b) _
    (fun i n hn => hcount _ _ i (hcount n _ i hn)) _ m ⟨⟨m.objs, rfl⟩, fun _ _ => rfl⟩

/-- R436: the level that a channel takes, and nothing of any channel else. -/
theorem Main.takeLevel_spec (m : Main) (c : Nat) (level : Bool) : ((m.takeLevel c level).fc c).level = level ∧
    ((m.takeLevel c level).fc c).cmd = (m.fc c).cmd ∧ (m.takeLevel c level).field.link = m.field.link ∧
    ∀ j, j ≠ c → (m.takeLevel c level).fc j = m.fc j := by
  unfold Main.takeLevel
  split
  next h => exact ⟨h, rfl, rfl, fun _ _ => rfl⟩
  next =>
    let n := (m.modFc c (fun f => { f with level := level, rbT := m.now })).inc (ioAddr c O.IO_EDGE_COUNT)
    have hfc : ∀ j, n.fc j = if j = c then { m.fc c with level := level, rbT := m.now } else m.fc j := fun j => m.fc_modFc c j _
    have hlink : n.field.link = m.field.link := rfl
    obtain ⟨⟨o, hframe⟩, -⟩ := n.chatter_frame c
    have hfield : (n.chatter c).field = n.field := by rw [hframe]
    have hchan : ∀ j, (n.chatter c).fc j = n.fc j := by
      intro j
      unfold Main.fc
      rw [hfield]
    have hself := (hchan c).trans ((hfc c).trans (if_pos rfl))
    have hlevel : ((n.chatter c).fc c).level = level := congrArg FieldCh.level hself
    have hcmd : ((n.chatter c).fc c).cmd = (m.fc c).cmd := (congrArg FieldCh.cmd hself).trans rfl
    have hup : (n.chatter c).field.link = m.field.link := (congrArg Field.link hfield).trans hlink
    exact ⟨hlevel, hcmd, hup, fun j hj => (hchan j).trans ((hfc j).trans (if_neg hj))⟩

/-- R427, R436: a channel as the configuration is acknowledged. -/
def Main.levelTaken (levels : BitVec 32) (c : Nat) (m : Main) : Main :=
  (m.takeLevel c (levels.getLsbD c)).modFc c (fun f => { f with levT := m.now, rbT := m.now })

theorem Main.levelTaken_spec (levels : BitVec 32) (c : Nat) (m : Main) :
    ((Main.levelTaken levels c m).fc c).level = levels.getLsbD c ∧ ((Main.levelTaken levels c m).fc c).cmd = (m.fc c).cmd ∧
    (Main.levelTaken levels c m).field.link = m.field.link ∧ ∀ j, j ≠ c → (Main.levelTaken levels c m).fc j = m.fc j := by
  obtain ⟨hlevel, hcmd, hlink, hother⟩ := m.takeLevel_spec c (levels.getLsbD c)
  have hfc : ∀ j, (Main.levelTaken levels c m).fc j = if j = c then
      { (m.takeLevel c (levels.getLsbD c)).fc c with levT := m.now, rbT := m.now } else (m.takeLevel c (levels.getLsbD c)).fc j :=
    fun j => Main.fc_modFc _ c j _
  have hself := (hfc c).trans (if_pos rfl)
  exact ⟨(congrArg FieldCh.level hself).trans hlevel, (congrArg FieldCh.cmd hself).trans hcmd, hlink,
    fun j hj => ((hfc j).trans (if_neg hj)).trans (hother j hj)⟩

theorem barrierConfigAck_takes {s : State} (levels : BitVec 32) (h : s.main.field.link = 1) :
    Completes (.barrierConfigAck levels) s (fun t => t.main.field.link = 2 ∧
      ∀ c : Fin 32, (t.main.fc c).level = levels.getLsbD c ∧ (t.main.fc c).cmd = (s.main.fc c).cmd) := by
  let n : Main := { s.start with field := { s.start.field with link := 2 } }
  have hexec : exec (.barrierConfigAck levels) s = .next { s with main := forEach channels (Main.levelTaken levels) n } := by
    have h' : s.start.field.link = 1 := h
    change Host.Outcome.next { s with
      main := if s.start.field.link = 1 then forEach channels (Main.levelTaken levels) n else s.start } = _
    rw [if_pos h']
  have hlink : (forEach channels (Main.levelTaken levels) n).field.link = 2 :=
    forEach_frame (fun k => k.field.link) _ (fun c k => (Main.levelTaken_spec levels c k).2.2.1) channels n
  have hchan : ∀ c : Fin 32, (fun k : Main => ((k.fc c).level, (k.fc c).cmd)) (forEach channels (Main.levelTaken levels) n) =
      (levels.getLsbD c, (s.main.fc c).cmd) := by
    intro c
    refine (forEach_at (fun _ => True) (fun k : Main => ((k.fc c).level, (k.fc c).cmd)) (Main.levelTaken levels)
      (fun x => (levels.getLsbD c, x.2)) c.val (fun _ _ _ => trivial) (fun j k _ hj => ?_) (fun k _ => ?_) List.nodup_range n
      trivial).trans (if_pos (List.mem_range.2 c.isLt))
    · obtain ⟨-, -, -, hother⟩ := Main.levelTaken_spec levels j k
      rw [hother c.val hj.symm]
    · obtain ⟨hlevel, hcmd, -, -⟩ := Main.levelTaken_spec levels c.val k
      exact Prod.ext hlevel hcmd
  generalize forEach channels (Main.levelTaken levels) n = k at hexec hlink hchan
  exact completes_of_exec hexec ⟨hlink, fun c => Prod.mk.inj (hchan c)⟩

/-! ### Field reach -/

/-- R449: a channel as field reach holds it. -/
def Main.chanHeld (c : Nat) (m : Main) : Main := m.modFc c (fun f => { f with
  cmd := false, wb := false, ol := false, short := false, hot := false, rb := false, demag := false, rbCmd := false })

theorem Main.chansHeld_spec (m : Main) : (∃ x, forEach channels Main.chanHeld m = { m with field := { m.field with chans := x } }) ∧
    ∀ c : Fin 32, ((forEach channels Main.chanHeld m).fc c).cmd = false := by
  refine ⟨forEach_keeps (fun n => ∃ x, n = { m with field := { m.field with chans := x } }) _ ?_ _ m ⟨m.field.chans, rfl⟩,
    fun c => forEach_brings (fun n => (n.fc c).cmd = false) Main.chanHeld (fun n => ?_) (fun j n hn => ?_)
      (List.mem_range.2 c.isLt) m⟩
  · rintro c n ⟨x, rfl⟩
    exact ⟨_, rfl⟩
  · exact congrArg FieldCh.cmd ((n.fc_modFc c c _).trans (if_pos rfl))
  · unfold Main.chanHeld
    rw [Main.fc_modFc]
    split
    · rfl
    · exact hn

theorem fieldIoReach_holds {s : State} (h : s.main.field.reach = false) (hhome : s.main.noHoming) :
    Completes .fieldIoReach s (fun t => t.main.field.reach = true ∧ t.main.field.link = 0 ∧
      t.main.obj (ioAddr 0 O.IO_FIELD_RESETS) = (s.main.obj (ioAddr 0 O.IO_FIELD_RESETS) + 1) % 2 ^ 36 ∧
      ∀ c : Fin 32, (t.main.fc c).cmd = false) := by
  let n : Main := s.start.linkDown.inc (ioAddr 0 O.IO_FIELD_RESETS)
  let k : Main := { n with field := { n.field with reach := true } }
  have hexec : exec .fieldIoReach s = .next { s with main := forEach channels Main.chanHeld k } := by
    have h' : s.start.field.reach = false := h
    change Host.Outcome.next { s with
      main := if s.start.field.reach = true then s.start else forEach channels Main.chanHeld k } = _
    rw [h', if_neg Bool.false_ne_true]
  have hdown : s.start.linkDown.field.link = 0 ∧
      s.start.linkDown.obj (ioAddr 0 O.IO_FIELD_RESETS) = s.main.obj (ioAddr 0 O.IO_FIELD_RESETS) := by
    by_cases hlink : s.start.field.link = 0
    · rw [Main.linkDown_of_down hlink]
      exact ⟨hlink, rfl⟩
    · obtain ⟨honly, -⟩ := Main.linkDown_spec (m := s.start) hlink hhome
      have hcounted : s.start.linkLossCounted.obj (ioAddr 0 O.IO_FIELD_RESETS) = s.main.obj (ioAddr 0 O.IO_FIELD_RESETS) :=
        s.start.linkLossCounted_obj (ioAddr_ne (by decide) (by decide) (by decide))
      exact ⟨honly.link, (honly.obj _ fun c => ioAddr_ne (by decide) (by decide) (by decide)).trans hcounted⟩
  obtain ⟨hlink, hresets⟩ := hdown
  have hcount := s.start.linkDown.obj_inc_same (ioAddr 0 O.IO_FIELD_RESETS)
  rw [hresets] at hcount
  have hk : k.field.reach = true ∧ k.field.link = 0 ∧
      k.obj (ioAddr 0 O.IO_FIELD_RESETS) = (s.main.obj (ioAddr 0 O.IO_FIELD_RESETS) + 1) % 2 ^ 36 :=
    ⟨rfl, hlink, hcount⟩
  generalize k = k at hexec hk
  obtain ⟨hreach, hlink, hcount⟩ := hk
  obtain ⟨⟨x, hframe⟩, hcmd⟩ := k.chansHeld_spec
  refine completes_of_exec hexec ⟨?_, ?_, ?_, hcmd⟩
  · rw [hframe]
    exact hreach
  · rw [hframe]
    exact hlink
  · rw [hframe]
    exact hcount

/-- Settles O53. -/
theorem fieldLinkAndReach : Obligations.FieldLinkAndReach := by
  unfold Obligations.FieldLinkAndReach
  exact fun s hhome => ⟨fun h => barrierLinkLoss_off h hhome, fun h hr ho => barrierLinkReturn_configures h hr ho,
    fun levels h => barrierConfigAck_takes levels h, fun h => fieldIoReach_holds h hhome, _, rfl, rfl⟩

end Sys2Proof.Machine
end

section
/-! Levels and diagnoses of the field channels (R429, R434, R436, R441-R444, R446, R448). -/

namespace Sys2Proof.Machine

section
variable {ch : Fin 32} {s : State}

/-! ### Changes of level -/

theorem exec_fieldInputChange (level : Bool) (arrival : FieldArrival) : exec (.fieldInputChange ch level arrival) s = .next { s with
    main :=
      if arrival.held = 0 ∨ arrival.held * 20 < s.main.obj (ioAddr ch O.IO_IN_FILT) * 1000 then s.start
      else if s.main.field.link ≠ 2 ∨ (s.main.fc ch).level = level then s.start
      else
        let raw := s.main.tb.stampOf arrival.at_ - s.main.obj (evAddr 0 (O.EV_IN_CORR + 16 + ch))
        let t := raw - s.main.obj (evAddr 0 (O.EV_SRC_DLY + 16 + ch))
        let n := (s.start.modFc ch (fun f => { f with level := level, rbT := s.main.now, levT := s.main.now })).inc
          (ioAddr ch O.IO_EDGE_COUNT)
        let n := (n.sourceEdge (16 + ch) level raw).chatter ch
        forEach (n.inst.map Prod.fst) (fun i n =>
          if (n.i i).home.isSome ∧ n.homeChan i = ch.val then n.homeEdge i t (n.homeE i) else n) n } := rfl

/-- R377: an edge of a source reaches the levels, the latch units and the acquisition units. -/
theorem Main.sourceEdge_spec (m : Main) {k : Nat} (hk : k < 48) (level : Bool) (raw : Nat) :
    (m.sourceEdge k level raw).ev.levels.getLsbD k = level ∧ (m.sourceEdge k level raw).field = m.field ∧
    (m.sourceEdge k level raw).inst = m.inst ∧
    ∀ b, (∀ u, b ≠ evAddr u O.EV_LT_FLAGS) → areaOf b ≠ 10 →
      (m.sourceEdge k level raw).obj b = m.obj b := by
  let t := raw - m.obj (evAddr 0 (O.EV_SRC_DLY + k))
  let n := m.levelNoted k level
  let l := if n.mittenClosed 0x1000 then n else if k < 16 then n.latchEdges 1 k level t else n.latchEdges 2 (k - 16) level t
  have heq : m.sourceEdge k level raw = l.aqEdge k level t := rfl
  have hlevel : n.ev.levels.getLsbD k = level := m.levelNoted_level hk level
  have hn : n.field = m.field ∧ n.inst = m.inst ∧ ∀ b, n.obj b = m.obj b := ⟨rfl, rfl, fun _ => rfl⟩
  have hlatch : Main.LatchesOnly n l := by
    dsimp only [l]
    split
    · exact .refl n
    · split
      · exact .latchEdges n 1 k level t
      · exact .latchEdges n 2 (k - 16) level t
  have haq := Main.AqOnly.aqEdge l k level t
  rw [heq]
  generalize l.aqEdge k level t = x at haq
  generalize l = l at hlatch haq
  generalize n = n at hlevel hn hlatch
  obtain ⟨⟨o, la, rfl⟩, hobj⟩ := hlatch
  obtain ⟨⟨o', a, rfl⟩, hobj'⟩ := haq
  obtain ⟨hfield, hinst, hsame⟩ := hn
  refine ⟨hlevel, hfield, hinst, fun b hb hb' => ?_⟩
  exact (hobj' b hb').trans ((hobj b hb).trans (hsame b))

theorem ioAddr_apart {c k : Nat} (hc : c < 32) (hk : k < 4096) :
    (∀ u, k ≠ O.EV_LT_FLAGS → ioAddr c k ≠ evAddr u O.EV_LT_FLAGS) ∧ areaOf (ioAddr c k) ≠ 10 ∧
    ∀ i, k ≠ O.LIM_CHATTER → ioAddr c k ≠ instAddr i O.LIM_CHATTER := by
  unfold ioAddr evAddr areaOf instAddr O.EV_LT_FLAGS O.LIM_CHATTER
  refine ⟨fun u h => by omega, by omega, fun i h => ?_⟩
  split <;> omega

theorem fieldInputChange_edge {level : Bool} {arrival : FieldArrival} (hheld : 0 < arrival.held)
    (hfilt : s.main.obj (ioAddr ch O.IO_IN_FILT) * 1000 ≤ arrival.held * 20) (hlink : s.main.field.link = 2)
    (hnew : (s.main.fc ch).level ≠ level) (hhome : s.main.noHoming) :
    Completes (.fieldInputChange ch level arrival) s (fun t => (t.main.fc ch).level = level ∧
      t.main.ev.levels.getLsbD (16 + ch) = level ∧
      t.main.obj (ioAddr ch O.IO_EDGE_COUNT) = (s.main.obj (ioAddr ch O.IO_EDGE_COUNT) + 1) % 2 ^ 36) := by
  have hexec := exec_fieldInputChange (ch := ch) (s := s) level arrival
  rw [if_neg (fun h => h.elim (Nat.ne_of_gt hheld) (Nat.not_lt.2 hfilt)), if_neg (fun h => h.elim (fun h => h hlink) hnew)] at hexec
  dsimp only at hexec
  generalize s.main.tb.stampOf arrival.at_ - s.main.obj (evAddr 0 (O.EV_IN_CORR + 16 + ch)) = raw at hexec
  let n := (s.start.modFc ch (fun f => { f with level := level, rbT := s.main.now, levT := s.main.now })).inc
    (ioAddr ch O.IO_EDGE_COUNT)
  change exec (.fieldInputChange ch level arrival) s = .next { s with
    main := forEach (((n.sourceEdge (16 + ch) level raw).chatter ch).inst.map Prod.fst) (fun i k =>
      if (k.i i).home.isSome ∧ k.homeChan i = ch.val then
        k.homeEdge i (raw - s.main.obj (evAddr 0 (O.EV_SRC_DLY + 16 + ch))) (k.homeE i) else k)
      ((n.sourceEdge (16 + ch) level raw).chatter ch) } at hexec
  have hfc : (n.fc ch).level = level := congrArg FieldCh.level ((s.start.fc_modFc ch ch _).trans (if_pos rfl))
  have hcount : n.obj (ioAddr ch O.IO_EDGE_COUNT) = (s.main.obj (ioAddr ch O.IO_EDGE_COUNT) + 1) % 2 ^ 36 := Main.obj_inc_same _ _
  have hinst : n.inst = s.main.inst := rfl
  generalize n = n at hexec hfc hcount hinst
  obtain ⟨hlev, hfield, hinst', hobj⟩ := n.sourceEdge_spec (k := 16 + ch) (by omega) level raw
  generalize n.sourceEdge (16 + ch) level raw = x at hexec hlev hfield hinst' hobj
  obtain ⟨⟨o, hframe⟩, hobj'⟩ := x.chatter_frame ch
  obtain ⟨hev, haq, hchat⟩ := ioAddr_apart (k := O.IO_EDGE_COUNT) ch.isLt (by decide)
  have hedges := (hobj' _ fun i => hchat i (by decide)).trans ((hobj _ (fun u => hev u (by decide)) haq).trans hcount)
  have hy : (x.chatter ch).field = x.field ∧ (x.chatter ch).inst = x.inst ∧ (x.chatter ch).ev = x.ev := by
    rw [hframe]
    exact ⟨rfl, rfl, rfl⟩
  clear hframe
  generalize x.chatter ch = y at hexec hedges hy
  obtain ⟨hyf, hyi, hye⟩ := hy
  have hnone : ∀ i, (y.i i).home = none := by
    intro i
    have hi : y.i i = s.main.i i := by
      unfold Main.i
      rw [hyi, hinst', hinst]
    rw [hi]
    exact hhome i
  have hsame : ∀ i, (if (y.i i).home.isSome ∧ y.homeChan i = ch.val then
      y.homeEdge i (raw - s.main.obj (evAddr 0 (O.EV_SRC_DLY + 16 + ch))) (y.homeE i) else y) = y := by
    intro i
    rw [hnone i]
    exact if_neg fun h => Bool.false_ne_true h.1
  rw [forEach_same (f := fun i (k : Main) => if (k.i i).home.isSome ∧ k.homeChan i = ch.val then
      k.homeEdge i (raw - s.main.obj (evAddr 0 (O.EV_SRC_DLY + 16 + ch))) (k.homeE i) else k) hsame] at hexec
  refine completes_of_exec hexec ⟨?_, ?_, hedges⟩
  · unfold Main.fc at hfc ⊢
    rw [hyf, hfield]
    exact hfc
  · dsimp only
    rw [hye]
    exact hlev

/-! ### Diagnoses -/

/-- R450: the latch of a channel's diagnosis is one object. -/
theorem Main.latchDiag_frame (m : Main) (c : Nat) : (∃ o, m.latchDiag c = { m with objs := o }) ∧
    ∀ b, b ≠ ioAddr c O.IO_DIAG_LATCH → (m.latchDiag c).obj b = m.obj b :=
  ⟨⟨_, rfl⟩, fun b hb => Main.objs_keep _ _ _ b hb⟩

/-- R442-R450: a diagnosis of channel `c` is noted and latched. -/
def Main.diagnosed (m : Main) (c : Nat) (f : FieldCh → FieldCh) : Main := (m.modFc c f).latchDiag c

theorem Main.diagnosed_spec (m : Main) (c : Nat) (f : FieldCh → FieldCh) : (m.diagnosed c f).fc c = f (m.fc c) ∧
    (m.diagnosed c f).inst = m.inst ∧ (∀ b, b ≠ ioAddr c O.IO_DIAG_LATCH → (m.diagnosed c f).obj b = m.obj b) ∧
    ∀ j, (m.diagnosed c f).brakeAxis j = m.brakeAxis j := by
  obtain ⟨⟨o, hframe⟩, hobj⟩ := (m.modFc c f).latchDiag_frame c
  have hfc : (m.modFc c f).fc c = f (m.fc c) := (m.fc_modFc c c f).trans (if_pos rfl)
  have hobj' : ∀ b, b ≠ ioAddr c O.IO_DIAG_LATCH → (m.diagnosed c f).obj b = m.obj b := fun b hb => hobj b hb
  refine ⟨?_, ?_, hobj', fun j => Main.brakeAxis_of_obj (fun a ha => hobj' _ (ioAddr_ne_instAddr _ ha (by decide))) j⟩
  · unfold Main.diagnosed
    rw [hframe]
    exact hfc
  · unfold Main.diagnosed
    rw [hframe]
    rfl

/-- R444: a diagnosis of an output raises BRAKE on the axis whose brake it is. -/
theorem Main.diagnosed_brakes (m : Main) (c : Nat) (f : FieldCh → FieldCh) :
    ((m.diagnosed c f).raiseBrake c).fc c = f (m.fc c) ∧
    ∀ a, m.brakeAxis c = some a → (((m.diagnosed c f).raiseBrake c).i a).core.raised.testBit cBrake = true := by
  obtain ⟨hfc, -, -, hbrake⟩ := m.diagnosed_spec c f
  generalize m.diagnosed c f = n at hfc hbrake
  refine ⟨?_, fun a ha => ?_⟩
  · obtain ⟨⟨x, hx⟩, -⟩ := n.raiseBrake_frame c
    rw [hx]
    exact hfc
  · unfold Main.raiseBrake
    rw [hbrake, ha]
    dsimp only
    rw [Main.raise_raised, Nat.testBit_or, Nat.testBit_two_pow_self, Bool.or_true]

theorem exec_wireBreak (held : Nat) (hen : s.main.obj (ioAddr ch O.IO_WB_EN) ≠ 0) (hlink : s.main.field.link = 2) :
    exec (.wireBreak ⟨ch, held⟩) s = .next { s with
      main :=
        if s.main.obj (ioAddr ch O.IO_WB_T) * 1000000 ≤ held * 20 then
          (s.start.diagnosed ch (fun f => { f with wb := true })).inputBroken ch
        else s.start } := by
  have hen' : s.start.objB (ioAddr ch O.IO_WB_EN) = true := bne_iff_ne.2 hen
  have hlink' : s.start.field.link = 2 := hlink
  change Host.Outcome.next { s with
    main :=
      if s.start.objB (ioAddr ch O.IO_WB_EN) = true ∧ s.start.field.link = 2 ∧
        s.start.obj (ioAddr ch O.IO_WB_T) * 1000000 ≤ held * 20 then
        (s.start.diagnosed ch (fun f => { f with wb := true })).inputBroken ch
      else s.start } = _
  rw [hen', hlink']
  simp only [true_and]
  rfl

theorem wireBreak_diagnosed {held : Nat} (hen : s.main.obj (ioAddr ch O.IO_WB_EN) ≠ 0) (hlink : s.main.field.link = 2)
    (hhome : s.main.noHoming) (hheld : s.main.obj (ioAddr ch O.IO_WB_T) * 1000000 ≤ held * 20) :
    Completes (.wireBreak ⟨ch, held⟩) s (fun t => t.main.fc ch = { s.main.fc ch with wb := true } ∧ t.main.inst = s.main.inst ∧
      ObjsBut s.main t.main [ioAddr ch O.IO_DIAG_LATCH]) := by
  have hexec := exec_wireBreak held hen hlink
  obtain ⟨hfc, hinst, hobj, -⟩ := s.start.diagnosed_spec ch (fun f => { f with wb := true })
  generalize s.start.diagnosed ch (fun f => { f with wb := true }) = n at hexec hfc hinst hobj
  have hno : n.noHoming := by
    intro i
    unfold Main.i
    rw [hinst]
    exact hhome i
  rw [if_pos hheld, Main.inputBroken_of_noHoming hno] at hexec
  exact completes_of_exec hexec ⟨hfc, hinst, fun b hb => hobj b (by simpa using hb)⟩

/-- R434, R443, R446: what changes one channel and nothing else. -/
theorem completes_channel {c : Instr} {f : FieldCh → FieldCh} (h : exec c s = .next { s with main := s.start.modFc ch f }) :
    Completes c s (fun t => (t = { s with main := { s.main with out := {}, field := { s.main.field with chans := t.main.field.chans } } } ∧
      t.main.fc ch = f (s.main.fc ch) ∧ ∀ k, k ≠ ch.val → t.main.fc k = s.main.fc k)) :=
  completes_of_exec h ⟨rfl, (s.start.fc_modFc ch ch f).trans (if_pos rfl), fun k hk => (s.start.fc_modFc ch k f).trans (if_neg hk)⟩

theorem readbackError_brakes (ho : s.main.isOut ch = true) (hlink : s.main.field.link = 2) (hd : (s.main.fc ch).demag = false)
    (hs : (s.main.fc ch).short = false) (hh : (s.main.fc ch).hot = false) (hne : (s.main.fc ch).level ≠ (s.main.fc ch).cmd)
    (ht : (s.main.fc ch).rbT + s.main.obj (ioAddr ch O.IO_RB_T) * unitsPerMs ≤ s.main.now) :
    Completes (.readbackError ch) s (fun t => (t.main.fc ch).rb = true ∧
      ∀ a, s.main.brakeAxis ch = some a → (t.main.i a).core.raised.testBit cBrake = true) := by
  have hgate : (s.start.isOut ch && s.start.field.link == 2 && !(s.start.fc ch).demag && !(s.start.fc ch).short &&
      !(s.start.fc ch).hot && (s.start.fc ch).level != (s.start.fc ch).cmd &&
      decide ((s.start.fc ch).rbT + s.start.obj (ioAddr ch O.IO_RB_T) * unitsPerMs ≤ s.start.now)) = true := by
    have h1 : s.start.isOut ch = true := ho
    have h2 : (s.start.field.link == 2) = true := beq_iff_eq.2 hlink
    have h3 : (s.start.fc ch).demag = false := hd
    have h4 : (s.start.fc ch).short = false := hs
    have h5 : (s.start.fc ch).hot = false := hh
    have h6 : ((s.start.fc ch).level != (s.start.fc ch).cmd) = true := bne_iff_ne.2 hne
    have h7 : decide ((s.start.fc ch).rbT + s.start.obj (ioAddr ch O.IO_RB_T) * unitsPerMs ≤ s.start.now) = true :=
      decide_eq_true ht
    rw [h1, h2, h3, h4, h5, h6, h7]
    rfl
  have hexec : exec (.readbackError ch) s = .next { s with
      main := (s.start.diagnosed ch (fun f => { f with rb := true, rbCmd := false })).raiseBrake ch } := by
    change Host.Outcome.next { s with
      main :=
        if (s.start.isOut ch && s.start.field.link == 2 && !(s.start.fc ch).demag && !(s.start.fc ch).short &&
          !(s.start.fc ch).hot && (s.start.fc ch).level != (s.start.fc ch).cmd &&
          decide ((s.start.fc ch).rbT + s.start.obj (ioAddr ch O.IO_RB_T) * unitsPerMs ≤ s.start.now)) = true then
          (s.start.diagnosed ch (fun f => { f with rb := true, rbCmd := false })).raiseBrake ch
        else s.start } = _
    rw [if_pos hgate]
  obtain ⟨hfc, hbrake⟩ := s.start.diagnosed_brakes ch (fun f => { f with rb := true, rbCmd := false })
  generalize (s.start.diagnosed ch (fun f => { f with rb := true, rbCmd := false })).raiseBrake ch = n at hexec hfc hbrake
  exact completes_of_exec hexec ⟨congrArg FieldCh.rb hfc, hbrake⟩

theorem outputShort_brakes {held : Nat} (ho : s.main.isOut ch = true) (hlink : s.main.field.link = 2) (hheld : 10000 ≤ held)
    (hcmd : (s.main.fc ch).cmd = true) : Completes (.outputShort ⟨ch, held⟩) s (fun t =>
      t.main.fc ch = { s.main.fc ch with short := true } ∧
      ∀ a, s.main.brakeAxis ch = some a → (t.main.i a).core.raised.testBit cBrake = true) := by
  have hgate : s.start.isOut ch = true ∧ s.start.field.link = 2 ∧ (s.start.fc ch).cmd = true ∧ 200000 ≤ held * 20 :=
    ⟨ho, hlink, hcmd, by omega⟩
  have hexec : exec (.outputShort ⟨ch, held⟩) s = .next { s with
      main := (s.start.diagnosed ch (fun f => { f with short := true })).raiseBrake ch } := by
    change Host.Outcome.next { s with
      main :=
        if s.start.isOut ch = true ∧ s.start.field.link = 2 ∧ (s.start.fc ch).cmd = true ∧ 200000 ≤ held * 20 then
          (s.start.diagnosed ch (fun f => { f with short := true })).raiseBrake ch
        else s.start } = _
    rw [if_pos hgate]
  obtain ⟨hfc, hbrake⟩ := s.start.diagnosed_brakes ch (fun f => { f with short := true })
  generalize (s.start.diagnosed ch (fun f => { f with short := true })).raiseBrake ch = n at hexec hfc hbrake
  exact completes_of_exec hexec ⟨hfc, hbrake⟩

theorem outputOvertemp_brakes (ho : s.main.isOut ch = true) (hlink : s.main.field.link = 2) (hcmd : (s.main.fc ch).cmd = true) :
    Completes (.outputOvertemp ch) s (fun t => t.main.fc ch = { s.main.fc ch with hot := true } ∧
      ∀ a, s.main.brakeAxis ch = some a → (t.main.i a).core.raised.testBit cBrake = true) := by
  have hgate : s.start.isOut ch = true ∧ s.start.field.link = 2 ∧ (s.start.fc ch).cmd = true := ⟨ho, hlink, hcmd⟩
  have hexec : exec (.outputOvertemp ch) s = .next { s with
      main := (s.start.diagnosed ch (fun f => { f with hot := true })).raiseBrake ch } := by
    change Host.Outcome.next { s with
      main :=
        if s.start.isOut ch = true ∧ s.start.field.link = 2 ∧ (s.start.fc ch).cmd = true then
          (s.start.diagnosed ch (fun f => { f with hot := true })).raiseBrake ch
        else s.start } = _
    rw [if_pos hgate]
  obtain ⟨hfc, hbrake⟩ := s.start.diagnosed_brakes ch (fun f => { f with hot := true })
  generalize (s.start.diagnosed ch (fun f => { f with hot := true })).raiseBrake ch = n at hexec hfc hbrake
  exact completes_of_exec hexec ⟨hfc, hbrake⟩

theorem openLoad_diagnosed {held : Nat} (ho : s.main.isOut ch = true) (hlink : s.main.field.link = 2) (hheld : 2500000 ≤ held)
    (hcmd : (s.main.fc ch).cmd = true) (hs : (s.main.fc ch).short = false) (hh : (s.main.fc ch).hot = false)
    (hen : s.main.obj (ioAddr ch O.IO_OL_EN) ≠ 0) : Completes (.openLoad ⟨ch, held⟩) s (fun t =>
      t.main.fc ch = { s.main.fc ch with ol := true } ∧ t.main.inst = s.main.inst) := by
  have hgate : (s.start.objB (ioAddr ch O.IO_OL_EN) && s.start.isOut ch && (s.start.fc ch).cmd && !(s.start.fc ch).short &&
      !(s.start.fc ch).hot && s.start.field.link == 2 && decide (50000000 ≤ held * 20)) = true := by
    have h1 : s.start.objB (ioAddr ch O.IO_OL_EN) = true := bne_iff_ne.2 hen
    have h2 : s.start.isOut ch = true := ho
    have h3 : (s.start.fc ch).cmd = true := hcmd
    have h4 : (s.start.fc ch).short = false := hs
    have h5 : (s.start.fc ch).hot = false := hh
    have h6 : (s.start.field.link == 2) = true := beq_iff_eq.2 hlink
    have h7 : decide (50000000 ≤ held * 20) = true := decide_eq_true (by omega)
    rw [h1, h2, h3, h4, h5, h6, h7]
    rfl
  have hexec : exec (.openLoad ⟨ch, held⟩) s = .next { s with main := s.start.diagnosed ch (fun f => { f with ol := true }) } := by
    change Host.Outcome.next { s with
      main :=
        if (s.start.objB (ioAddr ch O.IO_OL_EN) && s.start.isOut ch && (s.start.fc ch).cmd && !(s.start.fc ch).short &&
          !(s.start.fc ch).hot && s.start.field.link == 2 && decide (50000000 ≤ held * 20)) = true then
          s.start.diagnosed ch (fun f => { f with ol := true })
        else s.start } = _
    rw [if_pos hgate]
  obtain ⟨hfc, hinst, -, -⟩ := s.start.diagnosed_spec ch (fun f => { f with ol := true })
  generalize s.start.diagnosed ch (fun f => { f with ol := true }) = n at hexec hfc hinst
  exact completes_of_exec hexec ⟨hfc, hinst⟩

theorem exec_demagEnd (h : (s.main.fc ch).demag = true) : exec (.demagEnd ch) s = .next { s with
    main := s.start.modFc ch (fun f => { f with demag := false, rbT := s.main.now }) } := by
  have h' : (s.start.fc ch).demag = true := h
  change Host.Outcome.next { s with
    main :=
      if (s.start.fc ch).demag = true then s.start.modFc ch (fun f => { f with demag := false, rbT := s.main.now })
      else s.start } = _
  rw [if_pos h']

end

/-! ### The field supply -/

theorem exec_fieldUndervoltage {s : State} {mv : Nat} (h : mv ≤ 17000) : exec (.fieldUndervoltage mv) s = .next { s with
    main := { s.main with out := {}, field := { s.main.field with uv := true } } } := by
  change Host.Outcome.next { s with
    main := if mv ≤ 17000 then { s.main with out := {}, field := { s.main.field with uv := true } } else s.start } = _
  rw [if_pos h]

theorem exec_fieldUndervoltageEnd {s : State} {mv : Nat} (h : 17500 < mv) : exec (.fieldUndervoltageEnd mv) s = .next { s with
    main := { s.main with out := {}, field := { s.main.field with uv := false } } } := by
  change Host.Outcome.next { s with
    main := if 17500 < mv then { s.main with out := {}, field := { s.main.field with uv := false } } else s.start } = _
  rw [if_pos h]

/-- Settles O54. -/
theorem fieldChannelsReport : Obligations.FieldChannelsReport := by
  unfold Obligations.FieldChannelsReport
  intro ch s
  refine ⟨fun level arrival h => ?early, fun level arrival h0 hfilt hlink => ?down,
    fun level arrival h0 hfilt hlink hnew hhome => fieldInputChange_edge h0 hfilt hlink hnew hhome,
    fun hen hlink hhome => ⟨fun held hheld => ?unheld, fun held hheld => wireBreak_diagnosed hen hlink hhome hheld⟩,
    completes_channel (f := fun f => { f with wb := false, levT := if f.wb then s.main.now else f.levT }) rfl, fun ho hlink => ⟨fun hd hs hh hne ht => readbackError_brakes ho hlink hd hs hh hne ht,
      fun held hheld hcmd => outputShort_brakes ho hlink hheld hcmd, fun hcmd => outputOvertemp_brakes ho hlink hcmd,
      fun held hheld hcmd hs hh hen => openLoad_diagnosed ho hlink hheld hcmd hs hh hen⟩,
    completes_channel (f := fun f => { f with ol := false }) rfl, fun hd => completes_channel (f := fun f => { f with demag := false, rbT := s.main.now }) (exec_demagEnd hd),
    fun mv => ⟨fun h => completes_of_exec (exec_fieldUndervoltage h) rfl,
      fun h => completes_of_exec (exec_fieldUndervoltageEnd h) rfl⟩⟩
  case early =>
    have hexec := exec_fieldInputChange (ch := ch) (s := s) level arrival
    rw [if_pos h] at hexec
    exact completes_of_exec hexec rfl
  case down =>
    have hexec := exec_fieldInputChange (ch := ch) (s := s) level arrival
    rw [if_neg (fun h => h.elim (Nat.ne_of_gt h0) (Nat.not_lt.2 hfilt)), if_pos (Or.inl hlink)] at hexec
    exact completes_of_exec hexec rfl
  case unheld =>
    have hexec := exec_wireBreak held hen hlink
    rw [if_neg (Nat.not_le.2 hheld)] at hexec
    exact completes_of_exec hexec rfl

end Sys2Proof.Machine
end

section
/-! The configuration of the safety die and its self-test (R454-R458, R467, R471). -/

namespace Sys2Proof.Machine

section
variable {s : State}

/-- A command of the safety die. -/
theorem completes_of_safety {c : Instr} {d : SafetyDie} {P : State → Prop} (h : exec c s = .next { s with safety := d })
    (hP : P { s with safety := d }) : Completes c s P := ⟨_, h, hP⟩

theorem exec_safetyFieldReachRelease (l : List SealRead) (h : s.safety.held = true) :
    exec (.safetyFieldReachRelease l) s = .next { s with
      safety := { cfg := { sw := switchValues l, invalid := switchInvalid l }, nowInvalid := switchInvalid l } } := by
  change Host.Outcome.next { s with
    safety := if s.safety.held = true then
      { cfg := { sw := switchValues l, invalid := switchInvalid l }, nowInvalid := switchInvalid l } else s.safety } = _
  rw [if_pos h]

/-- R471: a zone may restart at the end of self-test. -/
def SafetyDie.goes (d : SafetyDie) (x : Zone) (z : Fin 2) : Bool := x.quiet && !d.zoneDemand z && !d.sw 11

/-- R457, R471: the zones at the end of a self-test that finds no fault. -/
def SafetyDie.tested (d : SafetyDie) : SafetyDie :=
  let sto := if d.sw 4 then b2n (!d.goes d.zone0 0) + b2n (!d.goes d.zone1 1) else b2n (!d.goes d.zone0 0)
  { d.count sto with
    zone0 := if d.goes d.zone0 0 then d.zone0.toRun d.clock else d.zone0.toSto d.clock
    zone1 := if d.goes d.zone1 1 then d.zone1.toRun d.clock else d.zone1.toSto d.clock }

theorem exec_safetySelfTestEnd (hh : s.safety.held = false) (ht : s.safety.testing = true) (hf : s.safety.fault = .none) :
    exec .safetySelfTestEnd s = .next { s with
      safety :=
        if s.safety.cfgInvalid then { s.safety with testing := false }.unitFault .seal
        else { s.safety with testing := false }.tested } := by
  change Host.Outcome.next { s with
    safety :=
      if (s.safety.held || !s.safety.testing) = true then s.safety
      else if s.safety.fault ≠ UnitFault.none then { s.safety with testing := false }
      else if s.safety.cfgInvalid = true then { s.safety with testing := false }.unitFault .seal
      else { s.safety with testing := false }.tested } = _
  rw [hh, ht, if_neg (c := (false || !true) = true) (by decide), if_neg (not_not_intro hf)]

/-- R471: the state a zone takes at the end of self-test. -/
theorem SafetyDie.tested_st (d : SafetyDie) (z : Fin 2) :
    (d.tested.zone z).st = if d.goes (d.zone z) z = true then .run else .sto := by
  have hend : ∀ (x : Zone) (b : Bool), (if b then x.toRun d.clock else x.toSto d.clock).st = if b = true then .run else .sto := by
    intro x b
    cases b <;> rfl
  have hz : z = 0 ∨ z = 1 := by omega
  rcases hz with rfl | rfl
  · exact hend _ _
  · exact hend _ _

theorem safetySelfTest_ends (hh : s.safety.held = false) (ht : s.safety.testing = true) (hf : s.safety.fault = .none) :
    Completes .safetySelfTestEnd s (fun t => t.main = s.main ∧ t.safety.testing = false ∧
      (s.safety.cfgInvalid = true → t.safety.fault = .seal ∧ t.safety.zone0.st = .fault ∧ t.safety.zone1.st = .fault) ∧
      (s.safety.cfgInvalid = false → s.safety.sw 11 = true →
        t.safety.fault = .none ∧ t.safety.zone0.st = .sto ∧ t.safety.zone1.st = .sto) ∧
      (s.safety.cfgInvalid = false → s.safety.sw 11 = false → ∀ z : Fin 2, (t.safety.zone z).st =
        (if (s.safety.zone z).quiet = true ∧ s.safety.zoneDemand z = false then .run else .sto))) := by
  have hexec := exec_safetySelfTestEnd hh ht hf
  cases hc : s.safety.cfgInvalid
  · rw [hc, if_neg Bool.false_ne_true] at hexec
    let d : SafetyDie := { s.safety with testing := false }
    have hst : ∀ z, (d.tested.zone z).st = if d.goes (d.zone z) z = true then .run else .sto := d.tested_st
    refine completes_of_safety hexec ⟨rfl, rfl, nofun, fun _ h11 => ⟨hf, ?_, ?_⟩, fun _ h11 z => (hst z).trans ?_⟩
    · have hno : d.goes (d.zone 0) 0 = false := by
        have h11' : d.sw 11 = true := h11
        rw [SafetyDie.goes, h11', Bool.not_true, Bool.and_false]
      exact (hst 0).trans (by rw [hno, if_neg Bool.false_ne_true])
    · have hno : d.goes (d.zone 1) 1 = false := by
        have h11' : d.sw 11 = true := h11
        rw [SafetyDie.goes, h11', Bool.not_true, Bool.and_false]
      exact (hst 1).trans (by rw [hno, if_neg Bool.false_ne_true])
    · refine if_congr ?_ rfl rfl
      have h11' : d.sw 11 = false := h11
      rw [SafetyDie.goes, h11', Bool.not_false, Bool.and_true, Bool.and_eq_true, Bool.not_eq_true']
      rfl
  · rw [hc, if_pos rfl] at hexec
    refine completes_of_safety hexec ⟨rfl, rfl, fun _ => ⟨?_, rfl, rfl⟩, nofun, nofun⟩
    change (if s.safety.fault = .none then UnitFault.seal else s.safety.fault) = .seal
    rw [if_pos hf]

theorem sealRead_checks (l : List SealRead) (hh : s.safety.held = false) : Completes (.sealRead l) s (fun t =>
    t.main = s.main ∧ t.safety.cfg = s.safety.cfg ∧
    (if switchValues l ≠ s.safety.cfg.sw ∨ switchInvalid l ≠ s.safety.cfg.invalid then
      t.safety.zone0.st = .fault ∧ t.safety.zone1.st = .fault ∧
        t.safety.fault = (if s.safety.fault = .none then .seal else s.safety.fault)
      else t.safety = { s.safety with nowInvalid := switchInvalid l })) := by
  let d : SafetyDie := { s.safety with nowInvalid := switchInvalid l }
  have hexec : exec (.sealRead l) s = .next { s with
      safety := if switchValues l ≠ s.safety.cfg.sw ∨ switchInvalid l ≠ s.safety.cfg.invalid then d.unitFault .seal else d } := by
    change Host.Outcome.next { s with
      safety :=
        if s.safety.held = true then s.safety
        else if switchValues l ≠ s.safety.cfg.sw ∨ switchInvalid l ≠ s.safety.cfg.invalid then d.unitFault .seal else d } = _
    rw [hh, if_neg Bool.false_ne_true]
  by_cases h : switchValues l ≠ s.safety.cfg.sw ∨ switchInvalid l ≠ s.safety.cfg.invalid
  · rw [if_pos h] at hexec
    refine completes_of_safety hexec ⟨rfl, rfl, ?_⟩
    rw [if_pos h]
    exact ⟨rfl, rfl, rfl⟩
  · rw [if_neg h] at hexec
    refine completes_of_safety hexec ⟨rfl, rfl, ?_⟩
    rw [if_neg h]

end

/-- Settles O55. -/
theorem safetyConfigurationIsRead : Obligations.SafetyConfigurationIsRead := by
  unfold Obligations.SafetyConfigurationIsRead
  exact fun l s => ⟨completes_of_safety (d := { held := true }) rfl rfl,
    fun h => completes_of_safety (exec_safetyFieldReachRelease l h) rfl,
    fun hh ht hf => safetySelfTest_ends hh ht hf, fun hh => sealRead_checks l hh⟩

end Sys2Proof.Machine
end

section
/-! Demands on the zones of the safety die (R459-R462, R467-R469). -/

namespace Sys2Proof.Machine

section
variable {d : SafetyDie} {i : SafeIn}

/-! ### Inputs -/

theorem SafetyDie.at_of_free (h : d.held = false) (us : Nat) : d.at_ us = { d with clock := max d.clock us } := by
  unfold SafetyDie.at_
  rw [h, if_neg Bool.false_ne_true]

theorem SafetyDie.inp_setInp (d : SafetyDie) (i : SafeIn) (x : SafeInput) : (d.setInp i x).inp i = x := by
  unfold SafetyDie.setInp SafetyDie.inp
  split
  · rfl
  · split <;> rfl

/-- An input is what its channels are. -/
theorem SafetyDie.inp_congr {d e : SafetyDie} (h0 : e.si0 = d.si0) (h1 : e.si1 = d.si1) (h2 : e.si2 = d.si2) (h3 : e.si3 = d.si3)
    (hc : e.chain = d.chain) (i : SafeIn) : e.inp i = d.inp i := by
  unfold SafetyDie.inp
  split
  · exact hc
  · split <;> assumption

theorem SafetyDie.inp_at (d : SafetyDie) (us : Nat) (i : SafeIn) : (d.at_ us).inp i = d.inp i := by
  obtain ⟨t, ht⟩ := d.at_frame us
  rw [ht]
  exact SafetyDie.inp_congr rfl rfl rfl rfl rfl i

/-- R460, R463: the level of a channel as it is recognised. -/
theorem SafeInput.change_levels (x : SafeInput) (chB demand : Bool) :
    (x.change chB demand).a = (if chB then x.a else demand) ∧ (x.change chB demand).b = (if chB then demand else x.b) := by
  have hrest : ∀ y : SafeInput, (fun z : SafeInput => z.a = y.a ∧ z.b = y.b) (
      let x := if y.latched && y.a && y.b then { y with both := true } else y
      if x.latched && x.both && !x.a && !x.b then { x with latched := false, both := false } else x) := by
    intro y
    dsimp only
    split <;> split <;> exact ⟨rfl, rfl⟩
  cases chB
  · exact hrest { x with a := demand }
  · exact hrest { x with b := demand }

/-- R461: an input that acts on zones. -/
def SafetyDie.used (d : SafetyDie) (i : SafeIn) : Prop := i = .chain ∨ ∃ n, i = .si n ∧ d.sw n = true

theorem SafetyDie.demandsIn_of_used (hu : d.used i) (h11 : d.sw 11 = false) (ha : ((d.inp i).a || (d.inp i).b) = true) :
    d.demandsIn i = true := by
  have hacts : ((d.inp i).a || (d.inp i).b || (d.inp i).latched) = true := by rw [ha, Bool.true_or]
  rcases hu with rfl | ⟨n, rfl, hn⟩
  · exact hacts
  · unfold SafetyDie.demandsIn
    dsimp only
    rw [hacts, hn, h11, Bool.and_false]
    rfl

/-! ### Zones -/

/-- R459: in the single-zone wiring every input demands both zones. -/
theorem SafetyDie.zoneDemand_of_single (h4 : d.sw 4 = false) (hi : d.demandsIn i = true) (z : Fin 2) : d.zoneDemand z = true := by
  unfold SafetyDie.zoneDemand
  rw [h4, if_neg Bool.false_ne_true]
  cases i with
  | chain => rw [hi, Bool.true_or]
  | si n =>
    have hn : n = 0 ∨ n = 1 ∨ n = 2 ∨ n = 3 := by omega
    rcases hn with rfl | rfl | rfl | rfl <;> rw [hi] <;> simp only [Bool.true_or, Bool.or_true]

/-- R459: with two zones SI2 demands zone 1. -/
theorem SafetyDie.zoneDemand_of_si2 (h4 : d.sw 4 = true) (hi : d.demandsIn (.si 2) = true) : d.zoneDemand 1 = true := by
  unfold SafetyDie.zoneDemand
  rw [h4, if_pos rfl, if_neg (by decide), hi, Bool.true_or, Bool.or_true]

/-- R460-R463, R471: the die as a channel of input `i` has begun to demand, before the demand acts. -/
def SafetyDie.heard (d : SafetyDie) (i : SafeIn) (chB : Bool) (us : Nat) : SafetyDie :=
  ((d.at_ us).setInp i { ((d.at_ us).inp i).change chB true with chgT := (d.at_ us).clock }).free (d.at_ us)

theorem SafetyDie.channelChange_acts {chB : Bool} {held : Nat} (us : Nat) (hh : d.held = false) (h11 : d.sw 11 = false)
    (hno : (if chB then (d.inp i).b else (d.inp i).a) = false) (hheld : 1000 ≤ held) :
    d.channelChange i chB ⟨true, held⟩ us = (d.heard i chB us).act := by
  have hgate : ¬ (held < 1000 ∨ (if chB then ((d.at_ us).inp i).b else ((d.at_ us).inp i).a) = true) := by
    rw [SafetyDie.inp_at, hno]
    exact fun h => h.elim (Nat.not_lt.2 hheld) Bool.false_ne_true
  have h11' : (d.heard i chB us).sw 11 = false := by
    obtain ⟨t, ht⟩ := d.at_frame us
    obtain ⟨a, b, c, e, f, hs⟩ := (d.at_ us).setInp_frame i { ((d.at_ us).inp i).change chB true with chgT := (d.at_ us).clock }
    unfold SafetyDie.heard
    rw [hs, ht]
    exact h11
  unfold SafetyDie.channelChange
  rw [hh, if_neg Bool.false_ne_true]
  dsimp only
  rw [if_neg hgate]
  exact if_neg fun h => Bool.false_ne_true (h11'.symm.trans h.2)

/-- What the die is before the demand acts. -/
theorem SafetyDie.heard_spec (hh : d.held = false) (chB : Bool) (us : Nat) : (d.heard i chB us).cfg = d.cfg ∧
    (d.heard i chB us).clock = max d.clock us ∧ (d.heard i chB us).demands = d.demands ∧
    (((d.heard i chB us).inp i).a || ((d.heard i chB us).inp i).b) = true ∧
    (d.heard i chB us).zone0 = (if d.zoneDemand 0 || (d.heard i chB us).zoneDemand 0 then { d.zone0 with freeT := max d.clock us }
      else d.zone0) ∧
    (d.heard i chB us).zone1 = (if d.zoneDemand 1 || (d.heard i chB us).zoneDemand 1 then { d.zone1 with freeT := max d.clock us }
      else d.zone1) := by
  let new : SafeInput := { ((d.at_ us).inp i).change chB true with chgT := (d.at_ us).clock }
  have hlevels : (new.a || new.b) = true := by
    obtain ⟨ha, hb⟩ := ((d.at_ us).inp i).change_levels chB true
    change ((((d.at_ us).inp i).change chB true).a || (((d.at_ us).inp i).change chB true).b) = true
    rw [ha, hb]
    cases chB
    · rfl
    · exact Bool.or_true _
  have hinp : (d.heard i chB us).inp i = new := by
    rw [← (d.at_ us).inp_setInp i new]
    exact SafetyDie.inp_congr rfl rfl rfl rfl rfl i
  obtain ⟨a, b, c, e, f, hs⟩ := (d.at_ us).setInp_frame i new
  have hheard : d.heard i chB us = ({ d.at_ us with si0 := a, si1 := b, si2 := c, si3 := e, chain := f } : SafetyDie).free (d.at_ us) := by
    rw [← hs]
    rfl
  rw [hinp]
  rw [hheard, SafetyDie.at_of_free hh]
  exact ⟨rfl, rfl, rfl, hlevels, rfl, rfl⟩

end

section
variable {i : SafeIn} {chB : Bool} {held us : Nat} {s : State}

theorem exec_safetyChannelChange (level : SafeLevel) : exec (.safetyChannelChange i chB level us) s = .next { s with
    safety := s.safety.channelChange i chB level us } := rfl

/-! ### A demand in RUN -/

theorem channelChange_ignored (hh : s.safety.held = false) (hheld : held < 1000) :
    Completes (.safetyChannelChange i chB ⟨true, held⟩ us) s (fun t => t.main = s.main ∧
      t.safety = { s.safety with clock := max s.safety.clock us }) := by
  have hsame : s.safety.channelChange i chB ⟨true, held⟩ us = { s.safety with clock := max s.safety.clock us } := by
    rw [← SafetyDie.at_of_free hh]
    unfold SafetyDie.channelChange
    rw [hh, if_neg Bool.false_ne_true]
    exact if_pos (Or.inl hheld)
  exact completes_of_safety (exec_safetyChannelChange _) ⟨rfl, hsame⟩

theorem channelChange_stops (hh : s.safety.held = false) (h11 : s.safety.sw 11 = false) (hu : s.safety.used i)
    (hno : (if chB then (s.safety.inp i).b else (s.safety.inp i).a) = false) (hheld : 1000 ≤ held) (h4 : s.safety.sw 4 = false)
    (hrun : s.safety.zone0.st = .run) (hsame : s.safety.zone1 = s.safety.zone0) :
    Completes (.safetyChannelChange i chB ⟨true, held⟩ us) s (fun t => t.main = s.main ∧ t.safety.zone1 = t.safety.zone0 ∧
      t.safety.demands = s.safety.demands + 1 ∧
      (s.safety.sw 8 = true → t.safety.zone0 = { s.safety.zone0 with
        st := .ss1, ss1T := max s.safety.clock us, freeT := max s.safety.clock us }) ∧
      (s.safety.sw 8 = false → t.safety.zone0.st = .sto ∧ t.safety.zone0.closed = false ∧ t.safety.zone0.signal = true ∧
        t.safety.zone0.releasing = false)) := by
  have hexec := exec_safetyChannelChange (i := i) (chB := chB) (us := us) (s := s) ⟨true, held⟩
  rw [SafetyDie.channelChange_acts us hh h11 hno hheld] at hexec
  obtain ⟨hcfg, hclock, hdem, hacts, hz0, hz1⟩ := SafetyDie.heard_spec (i := i) hh chB us
  generalize s.safety.heard i chB us = d at hexec hcfg hclock hdem hacts hz0 hz1
  have hsw : ∀ n, d.sw n = s.safety.sw n := fun n => congrArg (fun c => c.sw.testBit n) hcfg
  have hdi : d.demandsIn i = true := by
    refine SafetyDie.demandsIn_of_used (hu.imp_right ?_) ((hsw 11).trans h11) hacts
    rintro ⟨n, hi, hn⟩
    exact ⟨n, hi, (hsw n).trans hn⟩
  have hall := SafetyDie.zoneDemand_of_single ((hsw 4).trans h4) hdi
  rw [hall 0, Bool.or_true, if_pos rfl] at hz0
  rw [hall 1, Bool.or_true, if_pos rfl, hsame, ← hz0] at hz1
  have hst : d.zone0.st = .run := by rw [hz0]; exact hrun
  have hact0 : d.act.zone0 = d.zone0.demand (d.sw 8) d.clock := if_pos (hall 0)
  have hact1 : d.act.zone1 = d.zone1.demand (d.sw 8) d.clock := if_pos (hall 1)
  have hcount : d.act.demands = s.safety.demands + 1 := by
    have hone : d.demandedIn .run = 1 := by
      unfold SafetyDie.demandedIn
      rw [hsw 4, h4, if_neg Bool.false_ne_true, hst, hall 0]
      rfl
    change d.demands + BitVec.ofNat 36 (d.demandedIn .run) = _
    rw [hone, hdem]
    rfl
  refine completes_of_safety hexec ⟨rfl, ?_, hcount, fun h8 => ?_, fun h8 => ?_⟩
  · exact hact1.trans ((congrArg (fun z => z.demand (d.sw 8) d.clock) hz1).trans hact0.symm)
  · refine hact0.trans ?_
    unfold Zone.demand
    rw [hst]
    dsimp only
    rw [hsw 8, h8, if_pos rfl, hclock, hz0]
  · have hsto : d.act.zone0 = d.zone0.toSto d.clock := by
      refine hact0.trans ?_
      unfold Zone.demand
      rw [hst]
      dsimp only
      rw [hsw 8, h8, if_neg Bool.false_ne_true]
    exact ⟨congrArg Zone.st hsto, congrArg Zone.closed hsto, congrArg Zone.signal hsto, congrArg Zone.releasing hsto⟩

theorem channelChange_stops_zone1 (hh : s.safety.held = false) (h11 : s.safety.sw 11 = false) (hu : s.safety.used (.si 2))
    (hno : (if chB then (s.safety.inp (.si 2)).b else (s.safety.inp (.si 2)).a) = false) (hheld : 1000 ≤ held)
    (h4 : s.safety.sw 4 = true) (h0 : s.safety.zoneDemand 0 = false) (hrun : s.safety.zone1.st = .run) :
    Completes (.safetyChannelChange (.si 2) chB ⟨true, held⟩ us) s (fun t => t.safety.zone0 = s.safety.zone0 ∧
      t.safety.zone1.st = (if s.safety.sw 8 then .ss1 else .sto) ∧ t.safety.demands = s.safety.demands + 1) := by
  have hexec := exec_safetyChannelChange (i := .si 2) (chB := chB) (us := us) (s := s) ⟨true, held⟩
  rw [SafetyDie.channelChange_acts us hh h11 hno hheld] at hexec
  obtain ⟨hcfg, hclock, hdem, hacts, hz0, hz1⟩ := SafetyDie.heard_spec (i := .si 2) hh chB us
  have hd0 : (s.safety.heard (.si 2) chB us).zoneDemand 0 = false := by
    unfold SafetyDie.heard
    rw [SafetyDie.at_of_free hh]
    have hsame : ∀ (d : SafetyDie) (t : Nat) (x : SafeInput), d.sw 4 = true →
        ((({ d with clock := t } : SafetyDie).setInp (.si 2) x).free { d with clock := t }).zoneDemand 0 = d.zoneDemand 0 := by
      intro d t x h
      have h' : ((({ d with clock := t } : SafetyDie).setInp (.si 2) x).free { d with clock := t }).sw 4 = true := h
      unfold SafetyDie.zoneDemand
      rw [h, h']
      rfl
    rw [hsame _ _ _ h4]
    exact h0
  generalize s.safety.heard (.si 2) chB us = d at hexec hcfg hclock hdem hacts hz0 hz1 hd0
  have hsw : ∀ n, d.sw n = s.safety.sw n := fun n => congrArg (fun c => c.sw.testBit n) hcfg
  have hdi : d.demandsIn (.si 2) = true := by
    refine SafetyDie.demandsIn_of_used (hu.imp_right ?_) ((hsw 11).trans h11) hacts
    rintro ⟨n, hi, hn⟩
    exact ⟨n, hi, (hsw n).trans hn⟩
  have hd1 := SafetyDie.zoneDemand_of_si2 ((hsw 4).trans h4) hdi
  rw [h0, hd0, Bool.or_false, if_neg Bool.false_ne_true] at hz0
  rw [hd1, Bool.or_true, if_pos rfl] at hz1
  have hst : d.zone1.st = .run := by rw [hz1]; exact hrun
  have hact0 : d.act.zone0 = d.zone0 := by
    change (if d.zoneDemand 0 = true then _ else _) = _
    rw [hd0, if_neg Bool.false_ne_true]
  have hact1 : d.act.zone1 = d.zone1.demand (d.sw 8) d.clock := if_pos hd1
  have hcount : d.act.demands = s.safety.demands + 1 := by
    have hone : d.demandedIn .run = 1 := by
      unfold SafetyDie.demandedIn
      rw [hsw 4, h4, if_pos rfl, hst, hd0, hd1, Bool.and_false]
      rfl
    change d.demands + BitVec.ofNat 36 (d.demandedIn .run) = _
    rw [hone, hdem]
    rfl
  refine completes_of_safety hexec ⟨hact0.trans hz0, (congrArg Zone.st hact1).trans ?_, hcount⟩
  unfold Zone.demand
  rw [hst, hsw 8]
  cases s.safety.sw 8 <;> rfl

/-! ### Discrepancy and the SS1 delay -/

theorem SafetyDie.inp_act (d : SafetyDie) (i : SafeIn) : d.act.inp i = d.inp i := SafetyDie.inp_congr rfl rfl rfl rfl rfl i

theorem exec_discrepancyFault (hh : s.safety.held = false) (hm : s.safety.monitored i = true)
    (hne : (s.safety.inp i).a ≠ (s.safety.inp i).b) : exec (.discrepancyFault ⟨i, us⟩) s = .next { s with
      safety :=
        if max s.safety.clock us < (s.safety.inp i).chgT + s.safety.discMs * 1000 then s.safety.at_ us
        else
          let e := { s.safety.at_ us with discs := if (s.safety.inp i).latched then s.safety.discs else s.safety.discs + 1 }
          ((e.setInp i { s.safety.inp i with latched := true, both := false }).free (s.safety.at_ us)).act } := by
  have hm' : (s.safety.at_ us).monitored i = true := by
    rw [SafetyDie.at_of_free hh]
    cases i <;> exact hm
  have hd : (s.safety.at_ us).discMs = s.safety.discMs ∧ (s.safety.at_ us).clock = max s.safety.clock us ∧
      (s.safety.at_ us).discs = s.safety.discs := by
    rw [SafetyDie.at_of_free hh]
    exact ⟨rfl, rfl, rfl⟩
  obtain ⟨hms, hclock, hdiscs⟩ := hd
  have hne' : ((s.safety.inp i).a == (s.safety.inp i).b) = false := beq_eq_false_iff_ne.2 hne
  change Host.Outcome.next { s with safety := s.safety.discrepancy i us } = _
  unfold SafetyDie.discrepancy
  rw [hh, if_neg Bool.false_ne_true]
  dsimp only
  rw [hm', SafetyDie.inp_at, hne', hms, hclock, hdiscs]
  simp only [Bool.not_true, Bool.false_or, decide_eq_true_eq]

theorem discrepancy_latches (hh : s.safety.held = false) (hm : s.safety.monitored i = true)
    (hne : (s.safety.inp i).a ≠ (s.safety.inp i).b) (ht : (s.safety.inp i).chgT + s.safety.discMs * 1000 ≤ us) :
    Completes (.discrepancyFault ⟨i, us⟩) s (fun t => t.main = s.main ∧ (t.safety.inp i).latched = true ∧
      t.safety.discs = s.safety.discs + (if (s.safety.inp i).latched then 0 else 1)) := by
  have hexec := exec_discrepancyFault (us := us) hh hm hne
  rw [if_neg (by omega)] at hexec
  dsimp only at hexec
  let x : SafeInput := { s.safety.inp i with latched := true, both := false }
  let e : SafetyDie := { s.safety.at_ us with discs := if (s.safety.inp i).latched then s.safety.discs else s.safety.discs + 1 }
  have hinp : (((e.setInp i x).free (s.safety.at_ us)).act.inp i) = x := by
    have hfree : ((e.setInp i x).free (s.safety.at_ us)).inp i = (e.setInp i x).inp i :=
      SafetyDie.inp_congr rfl rfl rfl rfl rfl i
    rw [SafetyDie.inp_act, hfree, SafetyDie.inp_setInp]
  have hdiscs : ((e.setInp i x).free (s.safety.at_ us)).act.discs = s.safety.discs + (if (s.safety.inp i).latched then 0 else 1) := by
    obtain ⟨a, b, c, f, g, hs⟩ := e.setInp_frame i x
    rw [hs]
    change (if (s.safety.inp i).latched then s.safety.discs else s.safety.discs + 1) = _
    cases (s.safety.inp i).latched
    · rfl
    · exact (BitVec.add_zero _).symm
  exact completes_of_safety hexec ⟨rfl, congrArg SafeInput.latched hinp, hdiscs⟩

theorem discrepancy_waits (hh : s.safety.held = false) (hm : s.safety.monitored i = true)
    (hne : (s.safety.inp i).a ≠ (s.safety.inp i).b) (ht : us < (s.safety.inp i).chgT + s.safety.discMs * 1000)
    (hc : s.safety.clock ≤ us) : Completes (.discrepancyFault ⟨i, us⟩) s (fun t => t.main = s.main ∧
      t.safety = { s.safety with clock := us }) := by
  have hexec := exec_discrepancyFault (us := us) hh hm hne
  rw [if_pos (by omega), SafetyDie.at_of_free hh, Nat.max_eq_right hc] at hexec
  exact completes_of_safety hexec ⟨rfl, rfl⟩

end

section
variable {z : Fin 2} {us : Nat} {s : State}

/-- R459: the zone that is changed. -/
theorem SafetyDie.zone_modZone (d : SafetyDie) (z : Fin 2) (f : Zone → Zone) : (d.modZone z f).zone z = f (d.zone z) := by
  have hz : z = 0 ∨ z = 1 := by omega
  unfold SafetyDie.modZone
  cases d.sw 4
  · rcases hz with rfl | rfl <;> rfl
  · rcases hz with rfl | rfl <;> rfl

theorem SafetyDie.demands_modZone (d : SafetyDie) (z : Fin 2) (f : Zone → Zone) : (d.modZone z f).demands = d.demands := by
  unfold SafetyDie.modZone
  split
  · split <;> rfl
  · rfl

theorem exec_ss1DelayEnd (hh : s.safety.held = false) (hst : (s.safety.zone z).st = .ss1) :
    exec (.ss1DelayEnd ⟨z, us⟩) s = .next { s with
      safety :=
        if (s.safety.zone z).ss1T + s.safety.ss1Ms * 1000 ≤ max s.safety.clock us then
          ({ s.safety with clock := max s.safety.clock us }.count 1).modZone z (fun x => x.toSto (max s.safety.clock us))
        else { s.safety with clock := max s.safety.clock us } } := by
  let d : SafetyDie := { s.safety with clock := max s.safety.clock us }
  have hat : s.safety.at_ us = d := SafetyDie.at_of_free hh us
  have hst' : (d.zone z).st = .ss1 := hst
  change Host.Outcome.next { s with
    safety :=
      let d := s.safety.at_ us
      if (d.zone z).st = ZoneSt.ss1 ∧ (d.zone z).ss1T + d.ss1Ms * 1000 ≤ d.clock then
        (d.count 1).modZone z (fun x => x.toSto d.clock)
      else d } = _
  rw [hat]
  dsimp only
  rw [hst']
  simp only [true_and]
  rfl

theorem ss1_ends (hh : s.safety.held = false) (hst : (s.safety.zone z).st = .ss1)
    (ht : (s.safety.zone z).ss1T + s.safety.ss1Ms * 1000 ≤ us) : Completes (.ss1DelayEnd ⟨z, us⟩) s (fun t => t.main = s.main ∧
      (t.safety.zone z).st = .sto ∧ (t.safety.zone z).closed = false ∧ (t.safety.zone z).signal = true ∧
      t.safety.demands = s.safety.demands + 1) := by
  have hexec := exec_ss1DelayEnd (us := us) hh hst
  rw [if_pos (Nat.le_trans ht (Nat.le_max_right _ _))] at hexec
  let d : SafetyDie := { s.safety with clock := max s.safety.clock us }.count 1
  have hz := d.zone_modZone z (fun x => x.toSto (max s.safety.clock us))
  have hdem : (d.modZone z (fun x => x.toSto (max s.safety.clock us))).demands = s.safety.demands + 1 :=
    (d.demands_modZone z _).trans rfl
  exact completes_of_safety hexec ⟨rfl, congrArg Zone.st hz, congrArg Zone.closed hz, congrArg Zone.signal hz, hdem⟩

theorem ss1_waits (hh : s.safety.held = false) (hst : (s.safety.zone z).st = .ss1)
    (ht : us < (s.safety.zone z).ss1T + s.safety.ss1Ms * 1000) (hc : s.safety.clock ≤ us) :
    Completes (.ss1DelayEnd ⟨z, us⟩) s (fun t => t.main = s.main ∧ t.safety = { s.safety with clock := us }) := by
  have hexec := exec_ss1DelayEnd (us := us) hh hst
  rw [Nat.max_eq_right hc, if_neg (Nat.not_le.2 ht)] at hexec
  exact completes_of_safety hexec ⟨rfl, rfl⟩

end

/-- Settles O56. -/
theorem demandsStopTheirZone : Obligations.DemandsStopTheirZone := by
  unfold Obligations.DemandsStopTheirZone
  refine ⟨fun i chB held us s hh h11 hu hno => ⟨fun hheld => channelChange_ignored hh hheld,
      fun hheld h4 hrun hsame => channelChange_stops hh h11 hu hno hheld h4 hrun hsame, ?_⟩,
    fun i us s hh hm hne => ⟨fun ht => discrepancy_latches hh hm hne ht, fun ht hc => discrepancy_waits hh hm hne ht hc⟩,
    fun z us s hh hst => ⟨fun ht => ss1_ends hh hst ht, fun ht hc => ss1_waits hh hst ht hc⟩⟩
  rintro hheld h4 rfl h0 hrun
  exact channelChange_stops_zone1 hh h11 hu hno hheld h4 h0 hrun

end Sys2Proof.Machine
end

section
/-! Restart of zones, unit faults and the status frame (R466, R470, R471, R473-R475, R478, R480). -/

namespace Sys2Proof.Machine

section
variable {z : Fin 2} {us : Nat} {s : State}

/-! ### Restart -/

theorem SafetyDie.at_later (h : s.safety.held = false) (hc : s.safety.clock ≤ us) :
    s.safety.at_ us = { s.safety with clock := us } := by
  rw [SafetyDie.at_of_free h, Nat.max_eq_right hc]

theorem exec_autoRestart (hh : s.safety.held = false) (hc : s.safety.clock ≤ us) (h11 : s.safety.sw 11 = false)
    (hd : s.safety.zoneDemand z = false) (hf : s.safety.fault = .none) (hst : (s.safety.zone z).st = .sto) :
    exec (.autoRestart ⟨z, us⟩) s = .next { s with
      safety :=
        if us < (s.safety.zone z).freeT + 100000 then { s.safety with clock := us }
        else { s.safety with clock := us }.modZone z (fun x => x.toRun us) } := by
  let d : SafetyDie := { s.safety with clock := us }
  have hst' : (d.zone z).st = .sto := hst
  have hgate : (d.held || d.sw 11 || d.zoneDemand z || d.fault != .none || decide (d.clock < (d.zone z).freeT + 100000)) =
      decide (us < (s.safety.zone z).freeT + 100000) := by
    have h1 : d.held = false := hh
    have h2 : d.sw 11 = false := h11
    have h3 : d.zoneDemand z = false := hd
    have h4 : d.fault = .none := hf
    rw [h1, h2, h3, h4]
    rfl
  change Host.Outcome.next { s with
    safety :=
      let d := s.safety.at_ us
      if (d.held || d.sw 11 || d.zoneDemand z || d.fault != UnitFault.none ||
        decide (d.clock < (d.zone z).freeT + 100000)) = true then d
      else match (d.zone z).st with
        | ZoneSt.sto => d.modZone z (fun x => x.toRun d.clock)
        | ZoneSt.start => d.modZone z (fun x => { x with quiet := true })
        | _ => d } = _
  rw [SafetyDie.at_later hh hc]
  dsimp only
  rw [hgate, hst']
  simp only [decide_eq_true_eq]

theorem autoRestart_waits_or_runs (hh : s.safety.held = false) (hc : s.safety.clock ≤ us) (h11 : s.safety.sw 11 = false)
    (hd : s.safety.zoneDemand z = false) (hf : s.safety.fault = .none) (hst : (s.safety.zone z).st = .sto) :
    (us < (s.safety.zone z).freeT + 100000 → Completes (.autoRestart ⟨z, us⟩) s (fun t => t.main = s.main ∧
      t.safety = { s.safety with clock := us })) ∧
    ((s.safety.zone z).freeT + 100000 ≤ us → Completes (.autoRestart ⟨z, us⟩) s (fun t => t.main = s.main ∧
      t.safety.zone z = { s.safety.zone z with st := .run, closed := true, releasing := true, quiet := false, gtT := us })) := by
  have hexec := exec_autoRestart hh hc h11 hd hf hst
  refine ⟨fun ht => ?_, fun ht => ?_⟩
  · rw [if_pos ht] at hexec
    exact completes_of_safety hexec ⟨rfl, rfl⟩
  · rw [if_neg (Nat.not_lt.2 ht)] at hexec
    exact completes_of_safety hexec ⟨rfl, SafetyDie.zone_modZone _ z _⟩

theorem safeLevelRelease_withdraws (hh : s.safety.held = false) (hc : s.safety.clock ≤ us)
    (hr : (s.safety.zone z).releasing = true) (ht : (s.safety.zone z).gtT + 20000 ≤ us) :
    Completes (.safeLevelReleaseDelay ⟨z, us⟩) s (fun t => t.main = s.main ∧
      t.safety.zone z = { s.safety.zone z with signal := false, releasing := false }) := by
  let d : SafetyDie := { s.safety with clock := us }
  have hgate : (d.zone z).releasing = true ∧ (d.zone z).gtT + 20000 ≤ d.clock := ⟨hr, ht⟩
  have hexec : exec (.safeLevelReleaseDelay ⟨z, us⟩) s = .next { s with
      safety := d.modZone z (fun x => { x with signal := false, releasing := false }) } := by
    change Host.Outcome.next { s with
      safety :=
        let d := s.safety.at_ us
        if (d.zone z).releasing = true ∧ (d.zone z).gtT + 20000 ≤ d.clock then
          d.modZone z (fun x => { x with signal := false, releasing := false })
        else d } = _
    rw [SafetyDie.at_later hh hc]
    dsimp only
    rw [if_pos hgate]
  exact completes_of_safety hexec ⟨rfl, SafetyDie.zone_modZone d z _⟩

/-! ### Unit faults -/

/-- R470: both zones are in FAULT, and the first cause stands. -/
def UnitFaulted (f : UnitFault) (s t : State) : Prop :=
  t.main = s.main ∧ t.safety.zone0 = s.safety.zone0.toFault t.safety.clock ∧
    t.safety.zone1 = s.safety.zone1.toFault t.safety.clock ∧ t.safety.fault = (if s.safety.fault = .none then f else s.safety.fault)

/-- A command that leaves the die in a unit fault, perhaps later on its clock and with the gauntlet named. -/
theorem completes_unitFault {c : Instr} {f : UnitFault} {clock gt : Nat} (h : exec c s = .next { s with
    safety := { s.safety with clock := clock, gtFault := gt }.unitFault f }) : Completes c s (UnitFaulted f s) :=
  completes_of_safety h ⟨rfl, rfl, rfl, rfl⟩

theorem SafetyDie.gauntletFault_eq {d : SafetyDie} (h : d.held = false) (g : Fin 8) :
    d.gauntletFault g = { d with gtFault := d.gtFault ||| 2 ^ g.val }.unitFault .gauntlet := by
  unfold SafetyDie.gauntletFault
  rw [h, if_neg Bool.false_ne_true]

theorem exec_chainTestPulse (b passed : Bool) : exec (.chainTestPulse b passed) s = .next { s with
    safety := if (s.safety.chainOut || passed) = true then s.safety else s.safety.unitFault .chainOut } := rfl

theorem exec_gauntletTestPulse (g : Fin 8) (b passed : Bool) : exec (.gauntletTestPulse g b passed) s = .next { s with
    safety := if (s.safety.gtClosed g && !passed) = true then s.safety.gauntletFault g else s.safety } := rfl

theorem exec_gauntletReadbackCheck (g : Fin 8) (passed : Bool) : exec (.gauntletReadbackCheck ⟨g, us⟩ passed) s = .next { s with
    safety :=
      if (passed || (!((s.safety.at_ us).gtZone g).closed &&
        decide ((s.safety.at_ us).clock < ((s.safety.at_ us).gtZone g).gtT + 20000))) = true then s.safety.at_ us
      else (s.safety.at_ us).gauntletFault g } := rfl

theorem exec_gauntletCurrentLimit (g : Fin 8) : exec (.gauntletCurrentLimit ⟨g, us⟩) s = .next { s with
    safety := if (s.safety.gtClosed g && decide (1000 ≤ us)) = true then s.safety.gauntletFault g else s.safety } := rfl

theorem chainTest_fails (b : Bool) (h : s.safety.chainOut = false) : Completes (.chainTestPulse b false) s (UnitFaulted .chainOut s) := by
  have hexec := exec_chainTestPulse (s := s) b false
  rw [h, if_neg (by decide)] at hexec
  exact completes_unitFault hexec

theorem gauntletTest_fails (hh : s.safety.held = false) (g : Fin 8) (b : Bool) (h : s.safety.gtClosed g = true) :
    Completes (.gauntletTestPulse g b false) s (UnitFaulted .gauntlet s) := by
  have hexec := exec_gauntletTestPulse (s := s) g b false
  rw [h, if_pos (c := (true && !false) = true) rfl, SafetyDie.gauntletFault_eq hh] at hexec
  exact completes_unitFault hexec

theorem readback_fails (hh : s.safety.held = false) (g : Fin 8)
    (h : (s.safety.gtZone g).closed = true ∨ (s.safety.gtZone g).gtT + 20000 ≤ us) :
    Completes (.gauntletReadbackCheck ⟨g, us⟩ false) s (UnitFaulted .gauntlet s) := by
  let d : SafetyDie := { s.safety with clock := max s.safety.clock us }
  have hexec := exec_gauntletReadbackCheck (s := s) (us := us) g false
  rw [SafetyDie.at_of_free hh] at hexec
  have hgate : ¬ (false || (!(d.gtZone g).closed && decide (d.clock < (d.gtZone g).gtT + 20000))) = true := by
    have hz : d.gtZone g = s.safety.gtZone g := rfl
    have hlate : us ≤ d.clock := Nat.le_max_right _ _
    rw [hz]
    rcases h with hc | ht
    · rw [hc]
      exact Bool.false_ne_true
    · rw [decide_eq_false (Nat.not_lt.2 (Nat.le_trans ht hlate)), Bool.and_false]
      exact Bool.false_ne_true
  rw [if_neg hgate, SafetyDie.gauntletFault_eq (d := d) hh] at hexec
  exact completes_unitFault hexec

theorem currentLimit_fails (hh : s.safety.held = false) (g : Fin 8) (hus : 1000 ≤ us) (h : s.safety.gtClosed g = true) :
    Completes (.gauntletCurrentLimit ⟨g, us⟩) s (UnitFaulted .gauntlet s) := by
  have hexec := exec_gauntletCurrentLimit (s := s) (us := us) g
  rw [h, decide_eq_true hus, if_pos (c := (true && true) = true) rfl, SafetyDie.gauntletFault_eq hh] at hexec
  exact completes_unitFault hexec

theorem internalFault_fails (hh : s.safety.held = false) : Completes .safetyInternalFault s (UnitFaulted .internal s) := by
  have hexec : exec .safetyInternalFault s = .next { s with
      safety := if s.safety.held = true then s.safety else s.safety.unitFault .internal } := rfl
  rw [hh, if_neg Bool.false_ne_true] at hexec
  exact completes_unitFault hexec

theorem chainReadback_fails (hh : s.safety.held = false) : Completes .chainOutReadbackFault s (UnitFaulted .chainOut s) := by
  have hexec : exec .chainOutReadbackFault s = .next { s with
      safety := if s.safety.held = true then s.safety else s.safety.unitFault .chainOut } := rfl
  rw [hh, if_neg Bool.false_ne_true] at hexec
  exact completes_unitFault hexec

/-- R473, R474: a test passed changes nothing. -/
theorem test_passes {c : Instr} {g : Fin 8} {b : Bool} (hus : us ≤ s.safety.clock)
    (hc : c = .chainTestPulse b true ∨ c = .gauntletTestPulse g b true ∨ c = .gauntletReadbackCheck ⟨g, us⟩ true) :
    exec c s = .next s := by
  have hat : s.safety.at_ us = s.safety := by
    unfold SafetyDie.at_
    rw [Nat.max_eq_left hus, ite_self]
  rcases hc with rfl | rfl | rfl
  · rw [exec_chainTestPulse, Bool.or_true, if_pos rfl]
  · rw [exec_gauntletTestPulse, Bool.not_true, Bool.and_false, if_neg Bool.false_ne_true]
  · rw [exec_gauntletReadbackCheck, hat, Bool.true_or, if_pos rfl]

/-! ### What the main die shows -/

/-- Objects set one after another. -/
def Main.withObjs (l : List (Nat × Nat)) (m : Main) : Main :=
  l.foldl (fun m p => m.setObj p.1 p.2) m

theorem Main.withObjs_cons (p : Nat × Nat) (l : List (Nat × Nat)) (m : Main) : Main.withObjs (p :: l) m = Main.withObjs l (m.setObj p.1 p.2) := rfl

/-- Objects set one after another leave the objects that are not among them. -/
theorem Main.obj_withObjs_other {b : Nat} {l : List (Nat × Nat)} (h : b ∉ l.map Prod.fst) (m : Main) : (Main.withObjs l m).obj b = m.obj b := by
  induction l generalizing m with
  | nil => rfl
  | cons p l ih =>
    have hp : b ≠ p.1 := fun e => h (e ▸ List.mem_cons_self)
    have hl : b ∉ l.map Prod.fst := fun e => h (List.mem_cons_of_mem _ e)
    rw [Main.withObjs_cons]
    exact (ih hl _).trans (m.objs_keep _ _ _ hp)

/-- Objects set one after another, no two of one address: each holds what was set. -/
theorem Main.obj_withObjs {a v : Nat} {l : List (Nat × Nat)} (hd : (l.map Prod.fst).Nodup) (hmem : (a, v) ∈ l) (m : Main) :
    (Main.withObjs l m).obj a = v % 2 ^ 72 := by
  induction l generalizing m with
  | nil => exact absurd hmem List.not_mem_nil
  | cons p l ih =>
    obtain ⟨hp, hl⟩ := List.nodup_cons.1 hd
    rw [Main.withObjs_cons]
    rcases List.mem_cons.1 hmem with hfst | hmem
    · obtain ⟨rfl, rfl⟩ := Prod.mk.injEq .. ▸ hfst
      exact (Main.obj_withObjs_other hp _).trans (m.obj_setObj_same _ _)
    · exact ih hl hmem _

theorem Main.withObjs_frame (l : List (Nat × Nat)) (m : Main) : ∃ o, Main.withObjs l m = { m with objs := o } := by
  induction l generalizing m with
  | nil => exact ⟨m.objs, rfl⟩
  | cons p l ih =>
    obtain ⟨o₁, h₁⟩ := Main.setObj_frame m p.1 p.2
    obtain ⟨o₂, h₂⟩ := ih (m.setObj p.1 p.2)
    exact ⟨o₂, by rw [Main.withObjs_cons, h₂, h₁]⟩

/-- R478, R479: what a status frame shows. -/
def SafetyDie.status (d : SafetyDie) : List (Nat × Nat) :=
  [(0x900100, d.nowInvalid * 4096 + d.cfg.sw), (0x900101, d.discMs), (0x900102, d.ss1Ms), (0x900103, d.inputs),
   (0x900104, d.gauntlets), (0x900105, d.fault.code), (0x900106, 1), (0x900107, d.demands.toNat),
   (0x900108, d.discs.toNat), (0x900109, Config.safetyId.toNat), (0x900110, d.zone0.st.code),
   (0x901110, d.zone1.st.code), (0x900111, d.zoneCause 0), (0x901111, d.zoneCause 1)]

theorem SafetyDie.status_nodup (d : SafetyDie) : (d.status.map Prod.fst).Nodup := by
  have haddr : d.status.map Prod.fst = [0x900100, 0x900101, 0x900102, 0x900103, 0x900104, 0x900105, 0x900106, 0x900107, 0x900108,
    0x900109, 0x900110, 0x901110, 0x900111, 0x901111] := rfl
  rw [haddr]
  decide

theorem ZoneSt.code_lt (x : ZoneSt) : x.code < 2 ^ 72 := by cases x <;> decide

theorem UnitFault.code_lt (x : UnitFault) : x.code < 2 ^ 72 := by cases x <;> decide

/-- R478: a status object shows what the frame has brought. -/
theorem Main.obj_status (m : Main) {d : SafetyDie} {a v : Nat} (hmem : (a, v) ∈ d.status) (hv : v < 2 ^ 72) :
    (Main.withObjs d.status m).obj a = v :=
  (Main.obj_withObjs d.status_nodup hmem m).trans (Nat.mod_eq_of_lt hv)

theorem exec_safetyStatusFrame : exec .safetyStatusFrame s = .next { s with
    main := if s.safety.held = true then s.start else Main.withObjs s.safety.status { s.start with sfT := s.start.now } } := rfl

theorem statusFrame_shows (hh : s.safety.held = false) : Completes .safetyStatusFrame s (fun t => t.safety = s.safety ∧
    t.main.obj (sfAddr 0 O.SF_ZONE_STATE) = s.safety.zone0.st.code ∧
    t.main.obj (sfAddr 1 O.SF_ZONE_STATE) = s.safety.zone1.st.code ∧
    t.main.obj (sfAddr 0 O.SF_FAULT) = s.safety.fault.code ∧ t.main.obj (sfAddr 0 O.SF_LINK) = 1 ∧ t.main.inst = s.main.inst) := by
  have hexec := exec_safetyStatusFrame (s := s)
  rw [hh, if_neg Bool.false_ne_true] at hexec
  obtain ⟨o, ho⟩ := Main.withObjs_frame s.safety.status { s.start with sfT := s.start.now }
  have hobj := fun a v hmem hv => Main.obj_status { s.start with sfT := s.start.now } (d := s.safety) (a := a) (v := v) hmem hv
  have hinst : (Main.withObjs s.safety.status { s.start with sfT := s.start.now }).inst = s.main.inst := by
    rw [ho]
    rfl
  generalize Main.withObjs s.safety.status { s.start with sfT := s.start.now } = n at hexec hobj hinst
  refine completes_of_exec hexec ⟨rfl, hobj 0x900110 _ ?_ (ZoneSt.code_lt _), hobj 0x901110 _ ?_ (ZoneSt.code_lt _),
    hobj 0x900105 _ ?_ (UnitFault.code_lt _), hobj 0x900106 1 ?_ (by decide), hinst⟩
  all_goals
    unfold SafetyDie.status
    simp only [List.mem_cons, true_or, or_true]

theorem exec_safetyStatusTimeout : exec .safetyStatusTimeout s = .next { s with
    main := if s.main.sfT + 5 * unitsPerMs ≤ s.main.now then s.start.setObj (sfAddr 0 O.SF_LINK) 0 else s.start } := rfl

end

/-- Settles O57. -/
theorem restartsFaultsAndStatus : Obligations.RestartsFaultsAndStatus := by
  unfold Obligations.RestartsFaultsAndStatus
  refine ⟨fun z us s hh hc => ⟨fun h11 hd hf hst => autoRestart_waits_or_runs hh hc h11 hd hf hst,
      fun hr ht => safeLevelRelease_withdraws hh hc hr ht⟩, ?faults,
    fun c g b us s hus hc => completes_of_safety (test_passes hus hc) rfl,
    fun s => ⟨fun hh => statusFrame_shows hh, fun h => ?early, fun h => ?missing⟩⟩
  case faults =>
    rintro c f g b us s hh (⟨rfl, h, rfl⟩ | ⟨rfl, h, rfl⟩ | ⟨rfl, h, rfl⟩ | ⟨rfl, hus, h, rfl⟩ | ⟨rfl, rfl⟩ | ⟨rfl, rfl⟩)
    · exact chainTest_fails b h
    · exact gauntletTest_fails hh g b h
    · exact readback_fails hh g h
    · exact currentLimit_fails hh g hus h
    · exact internalFault_fails hh
    · exact chainReadback_fails hh
  case early =>
    have hexec := exec_safetyStatusTimeout (s := s)
    rw [if_neg (Nat.not_le.2 h)] at hexec
    exact completes_of_exec hexec rfl
  case missing =>
    have hexec := exec_safetyStatusTimeout (s := s)
    rw [if_pos h] at hexec
    refine completes_of_exec hexec ⟨⟨rfl, fun a ha => s.start.objs_keep _ _ _ (by simpa using ha)⟩, ?_⟩
    exact (s.start.obj_setObj_same _ _).trans (Nat.zero_mod _)

end Sys2Proof.Machine
end

section
/-! Reset sources, the reaches they hold and the release of the reaches (R482-R488, R492). -/

namespace Sys2Proof.Machine

section
variable {s : State}

/-! ### What core reach clears -/

/-- The supervisor as core reach leaves it. -/
def Sup.cleared (u : Sup) : Sup :=
  { u with
    boot := .trims, bypass := true, order := [], fwBank := none, fw := [], gen := 0, image := none, soft := none,
    mittens := [], mittenT := [] }

/-- R482: what core reach clears is clear, and the supervisor stands as `u`. -/
structure Main.Blank (u : Sup) (n : Main) : Prop where
  tb : n.tb = {}
  fab : n.fab = {}
  sess : n.sess = []
  owner : n.owner = []
  inst : n.inst = []
  locked : n.locked = false
  sup : n.sup = u

theorem Main.Blank.setObj {u : Sup} {n : Main} (h : n.Blank u) (a v : Nat) : (n.setObj a v).Blank u := by
  obtain ⟨o, ho⟩ := n.setObj_frame a v
  rw [ho]
  exact ⟨h.tb, h.fab, h.sess, h.owner, h.inst, h.locked, h.sup⟩

theorem Main.Blank.withSup {u : Sup} {n : Main} (h : n.Blank u) (u' : Sup) : ({ n with sup := u' } : Main).Blank u' :=
  ⟨h.tb, h.fab, h.sess, h.owner, h.inst, h.locked, rfl⟩

theorem Main.cleared_blank (m : Main) : m.cleared.Blank m.sup.cleared := by
  unfold Main.cleared
  split
  · exact ⟨rfl, rfl, rfl, rfl, rfl, rfl, rfl⟩
  · exact forEach_keeps (fun n => n.Blank m.sup.cleared) _ (fun p n hn => hn.setObj _ _) _ _ ⟨rfl, rfl, rfl, rfl, rfl, rfl, rfl⟩

/-! ### A source asserts -/

theorem Main.cutStore_frame (m : Main) : ∃ st f, m.cutStore = { m with store := st, fresh := f } := by
  unfold Main.cutStore
  dsimp only
  split
  · exact ⟨m.store, m.fresh, rfl⟩
  · split
    · exact ⟨m.store, m.fresh, rfl⟩
    · unfold Main.modBank
      split
      · exact ⟨_, _, rfl⟩
      · exact ⟨_, _, rfl⟩

/-- R152: a frame in passage is cut as bypass begins. -/
def Main.bypassBegun (m : Main) : Main := if m.sup.bypass || m.sup.coreHeld then m else { m with line := { m.line with cut := [0, 1] } }

/-- The main die while a source asserts, but for the supervisor. -/
def Main.reachHeld (m : Main) (src : ResetSource) : Main :=
  if moduleSource src then { m.bypassBegun.cutStore.cleared with line := {} } else m.bypassBegun.cutStore.cleared

theorem Main.reachHeld_blank (m : Main) (src : ResetSource) : (m.reachHeld src).Blank m.sup.cleared := by
  have hsup : m.bypassBegun.cutStore.sup = m.sup := by
    obtain ⟨st, f, h⟩ := m.bypassBegun.cutStore_frame
    rw [h]
    unfold Main.bypassBegun
    split <;> rfl
  have h := m.bypassBegun.cutStore.cleared_blank
  rw [hsup] at h
  unfold Main.reachHeld
  split
  · exact ⟨h.tb, h.fab, h.sess, h.owner, h.inst, h.locked, h.sup⟩
  · exact h

/-- R483, R486: the supervisor with a source asserted, in an episode that goes on or begins; `early` where the lock is not set. -/
def Sup.asserts (u : Sup) (src : ResetSource) (locked : Bool) : Sup :=
  { u.cleared with
    coreHeld := true, moduleHeld := u.moduleHeld || moduleSource src, asserted := addOnce src u.asserted
    clk := if u.coreHeld then u.clk else 0
    episode := if u.coreHeld then (if u.episode.any (fun p => p.1 == src) then u.episode else u.episode ++ [(src, u.clk)])
      else [(src, 0)]
    early := if u.coreHeld then u.early else !locked
    tryA := if moduleSource src then 0 else u.tryA, tryB := if moduleSource src then 0 else u.tryB }

theorem Main.assertReset_eq (m : Main) (src : ResetSource) :
    m.assertReset src = { m.reachHeld src with
      sup := { (m.reachHeld src).sup with
        coreHeld := true, clk := if (!m.sup.coreHeld) = true then 0 else m.sup.clk
        moduleHeld := m.sup.moduleHeld || moduleSource src, asserted := addOnce src m.sup.asserted
        episode :=
          let before := if (!m.sup.coreHeld) = true then [] else m.sup.episode
          if before.any (fun p => p.1 == src) then before
          else before ++ [(src, if (!m.sup.coreHeld) = true then 0 else m.sup.clk)]
        early := if (!m.sup.coreHeld) = true then !m.locked else m.sup.early
        tryA := if moduleSource src then 0 else m.sup.tryA, tryB := if moduleSource src then 0 else m.sup.tryB } } := rfl

theorem Main.assertReset_blank (m : Main) (src : ResetSource) : (m.assertReset src).Blank (m.sup.asserts src m.locked) := by
  have h := m.reachHeld_blank src
  rw [Main.assertReset_eq]
  refine ⟨h.tb, h.fab, h.sess, h.owner, h.inst, h.locked, ?_⟩
  dsimp only
  rw [h.sup]
  unfold Sup.asserts
  cases hc : m.sup.coreHeld <;> rfl

theorem exec_resetCommand (src : ResetSource) (h : s.main.resetReady src = true) :
    exec (resetCommand src) s = .next { s with main := s.start.assertReset src } := by
  cases src
  case softFull =>
    cases hs : s.main.sup.soft with
    | none =>
      simp only [Main.resetReady, hs, Bool.false_eq_true] at h
    | some t =>
      have hdue : t + unitsPerMs ≤ s.main.now := by
        simpa only [Main.resetReady, hs, decide_eq_true_eq] using h
      have hsoft : s.start.sup.soft = some t := hs
      change Host.Outcome.next { s with
        main :=
          match s.start.sup.soft with
          | some t => if t + unitsPerMs ≤ s.start.now then s.start.assertReset .softFull else s.start
          | none => s.start } = _
      rw [hsoft]
      dsimp only
      rw [if_pos (c := t + unitsPerMs ≤ s.start.now) hdue]
  case debug =>
    have hon : s.start.sup.otpDebug = true := h
    change Host.Outcome.next { s with
      main := if s.start.sup.otpDebug = true then s.start.assertReset .debug else s.start } = _
    rw [if_pos hon]
  all_goals rfl

/-! ### The remembered cause -/

/-- R488: `p` asserted before `q`, or at its instant with no higher code. -/
def Precedes (p q : ResetSource × Nat) : Prop := p.2 ≤ q.2 ∧ (p.2 = q.2 → sourceCode p.1 ≤ sourceCode q.1)

theorem Precedes.refl (p : ResetSource × Nat) : Precedes p p := ⟨Nat.le_refl _, fun _ => Nat.le_refl _⟩

theorem Precedes.trans {p q r : ResetSource × Nat} (h₁ : Precedes p q) (h₂ : Precedes q r) : Precedes p r := by
  unfold Precedes at *
  omega

theorem earlier_precedes (p q : ResetSource × Nat) : Precedes (earlier p q) p ∧ Precedes (earlier p q) q := by
  unfold earlier Precedes
  split <;> omega

theorem earlier_mem (p q : ResetSource × Nat) : earlier p q = p ∨ earlier p q = q := by
  unfold earlier
  split
  · exact .inr rfl
  · exact .inl rfl

theorem foldl_earlier_precedes (p : ResetSource × Nat) (l : List (ResetSource × Nat)) :
    l.foldl earlier p ∈ p :: l ∧ ∀ q ∈ p :: l, Precedes (l.foldl earlier p) q := by
  induction l generalizing p with
  | nil => exact ⟨List.mem_cons_self, fun q hq => List.mem_singleton.1 hq ▸ Precedes.refl p⟩
  | cons x l ih =>
    obtain ⟨hmem, hall⟩ := ih (earlier p x)
    obtain ⟨hp, hx⟩ := earlier_precedes p x
    have hfirst := hall _ List.mem_cons_self
    refine ⟨?_, fun q hq => ?_⟩
    · rcases List.mem_cons.1 hmem with h | h
      · rw [List.foldl_cons, h]
        rcases earlier_mem p x with e | e <;> rw [e] <;> simp only [List.mem_cons, true_or, or_true]
      · exact List.mem_cons_of_mem _ (List.mem_cons_of_mem _ h)
    · rcases List.mem_cons.1 hq with rfl | hq
      · exact hfirst.trans hp
      · rcases List.mem_cons.1 hq with rfl | hq
        · exact hfirst.trans hx
        · exact hall q (List.mem_cons_of_mem _ hq)

/-- R488: the sources among which the cause is found: those of module reach where there are any. -/
def widest (l : List (ResetSource × Nat)) : List (ResetSource × Nat) :=
  if (l.filter (fun p => moduleSource p.1)).isEmpty then l else l.filter (fun p => moduleSource p.1)

theorem mem_widest {l : List (ResetSource × Nat)} {p : ResetSource × Nat} (hp : p ∈ widest l) :
    p ∈ l ∧ (∀ q ∈ l, moduleSource q.1 = true → moduleSource p.1 = true) ∧
      ∀ q ∈ l, moduleSource q.1 = moduleSource p.1 → q ∈ widest l := by
  unfold widest at *
  by_cases he : (l.filter (fun p => moduleSource p.1)).isEmpty = true
  · rw [if_pos he] at hp ⊢
    have hnone : ∀ q ∈ l, moduleSource q.1 ≠ true := List.filter_eq_nil_iff.1 (List.isEmpty_iff.1 he)
    exact ⟨hp, fun q hq h => absurd h (hnone q hq), fun q hq _ => hq⟩
  · rw [if_neg he] at hp ⊢
    obtain ⟨hl, hm⟩ := List.mem_filter.1 hp
    exact ⟨hl, fun _ _ _ => hm, fun q hq h => List.mem_filter.2 ⟨hq, h.trans hm⟩⟩

/-- R488: the cause is the code of a source of widest reach that asserted first among those. -/
theorem causeOf_spec {l : List (ResetSource × Nat)} (h : l ≠ []) : ∃ p ∈ l, causeOf l = sourceCode p.1 ∧
    (∀ q ∈ l, moduleSource q.1 = true → moduleSource p.1 = true) ∧
    ∀ q ∈ l, moduleSource q.1 = moduleSource p.1 → Precedes p q := by
  have hcause : causeOf l = match widest l with | [] => 0 | p :: r => sourceCode (r.foldl earlier p).1 := rfl
  cases hw : widest l with
  | nil =>
    refine absurd hw ?_
    unfold widest
    split
    · exact h
    · next he => exact fun e => he (List.isEmpty_iff.2 e)
  | cons p r =>
    rw [hw] at hcause
    obtain ⟨hmem, hall⟩ := foldl_earlier_precedes p r
    rw [← hw] at hmem hall
    obtain ⟨hl, hwide, hsame⟩ := mem_widest hmem
    exact ⟨_, hl, hcause, hwide, fun q hq hreach => hall q (hsame q hq hreach)⟩

/-! ### The reaches release -/

/-- The signal and the announcement of a zone, as one of its axes takes them. -/
def Main.signalledAxis (signal ss1 : Bool) (a : Nat) (m : Main) : Main := m.modC a (fun c => { c with safe := signal, ss1 := ss1 && !signal })

theorem Main.signalled_eq (m : Main) (z : Fin 2) (signal ss1 : Bool) :
    m.signalled z signal ss1 = forEach (zoneAxes z) (Main.signalledAxis signal ss1) m := rfl

theorem Main.signalled_keeps (m : Main) (z : Fin 2) (signal ss1 : Bool) :
    (m.signalled z signal ss1).sup = m.sup ∧ (m.signalled z signal ss1).locked = m.locked ∧ (m.signalled z signal ss1).tb = m.tb := by
  rw [Main.signalled_eq]
  exact ⟨forEach_frame Main.sup (Main.signalledAxis signal ss1) (fun _ _ => rfl) _ m,
    forEach_frame Main.locked (Main.signalledAxis signal ss1) (fun _ _ => rfl) _ m,
    forEach_frame Main.tb (Main.signalledAxis signal ss1) (fun _ _ => rfl) _ m⟩

/-- R488: the supervisor at the release of core reach. -/
def Sup.released (u : Sup) : Sup :=
  { u.cleared with
    coreHeld := false, episode := [], cause := causeOf u.episode
    episodes := (if u.episode.any (fun p => p.1 == .por) then 0 else u.episodes) + 1 }

theorem Main.coreRelease_spec (m : Main) (d : SafetyDie) :
    (m.coreRelease d).sup = m.sup.released ∧ (m.coreRelease d).locked = false ∧ (m.coreRelease d).tb = {} := by
  let n : Main := { m.cleared with
    sup := { m.cleared.sup with
      coreHeld := false, episode := [], cause := causeOf m.sup.episode
      episodes := (if m.sup.episode.any (fun p => p.1 == .por) then 0 else m.sup.episodes) + 1 } }
  have hblank : (n.setObj (rsAddr O.RS_FLAGS) (b2n m.sup.early)).Blank n.sup := (m.cleared_blank.withSup n.sup).setObj _ _
  have hsup : n.sup = m.sup.released := by
    have h := m.cleared_blank.sup
    change ({ m.cleared.sup with
      coreHeld := false, episode := [], cause := causeOf m.sup.episode
      episodes := (if m.sup.episode.any (fun p => p.1 == .por) then 0 else m.sup.episodes) + 1 } : Sup) = _
    rw [h]
    rfl
  obtain ⟨h0sup, h0lock, h0tb⟩ := (n.setObj (rsAddr O.RS_FLAGS) (b2n m.sup.early)).signalled_keeps 0 (d.held || d.zone0.signal)
    (d.held || d.zone0.st != .run)
  obtain ⟨h1sup, h1lock, h1tb⟩ := ((n.setObj (rsAddr O.RS_FLAGS) (b2n m.sup.early)).signalled 0 (d.held || d.zone0.signal)
    (d.held || d.zone0.st != .run)).signalled_keeps 1 (d.held || d.zone1.signal) (d.held || d.zone1.st != .run)
  exact ⟨((h1sup.trans h0sup).trans hblank.sup).trans hsup, (h1lock.trans h0lock).trans hblank.locked,
    (h1tb.trans h0tb).trans hblank.tb⟩

theorem exec_moduleReachRelease (st : Straps) (hm : s.main.sup.moduleHeld = true) (ha : s.main.sup.asserted.any moduleSource = false) :
    exec (.moduleReachRelease st) s = .next { s with
      main := { s.start with sup := { s.start.sup with moduleHeld := false, straps := st } } } := by
  have hm' : s.start.sup.moduleHeld = true := hm
  have ha' : s.start.sup.asserted.any moduleSource = false := ha
  change Host.Outcome.next { s with
    main :=
      if (s.start.sup.moduleHeld && !s.start.sup.asserted.any moduleSource) = true then
        { s.start with sup := { s.start.sup with moduleHeld := false, straps := st } }
      else s.start } = _
  rw [hm', ha', if_pos (by decide)]

theorem exec_coreReachRelease (hc : s.main.sup.coreHeld = true) (hm : s.main.sup.moduleHeld = false) (ha : s.main.sup.asserted = []) :
    exec .coreReachRelease s = .next { s with main := s.start.coreRelease s.safety } := by
  have hgate : (s.start.sup.coreHeld && !s.start.sup.moduleHeld && s.start.sup.asserted.isEmpty) = true := by
    have hc' : s.start.sup.coreHeld = true := hc
    have hm' : s.start.sup.moduleHeld = false := hm
    have ha' : s.start.sup.asserted = [] := ha
    rw [hc', hm', ha']
    rfl
  change Host.Outcome.next { s with
    main :=
      if (s.start.sup.coreHeld && !s.start.sup.moduleHeld && s.start.sup.asserted.isEmpty) = true then s.start.coreRelease s.safety
      else s.start } = _
  rw [if_pos hgate]

end

/-- Settles O58. -/
theorem reachesHoldAndRelease : Obligations.ReachesHoldAndRelease := by
  unfold Obligations.ReachesHoldAndRelease
  refine ⟨fun src s h => ?asserts, fun src s => ⟨_, rfl, rfl⟩, fun st s hm ha => ?moduleReach, fun s hc hm ha he => ?coreReach⟩
  case asserts =>
    have hblank := s.start.assertReset_blank src
    exact completes_of_exec (exec_resetCommand src h)
      ⟨rfl, hblank.tb, hblank.fab, hblank.sess, hblank.owner, hblank.inst, hblank.locked, hblank.sup⟩
  case moduleReach => exact completes_of_exec (exec_moduleReachRelease st hm ha) rfl
  case coreReach =>
    obtain ⟨hsup, hlock, htb⟩ := s.start.coreRelease_spec s.safety
    have hexec := exec_coreReachRelease hc hm ha
    generalize s.start.coreRelease s.safety = n at hexec hsup hlock htb
    obtain ⟨p, hp, hcause, hwide, hfirst⟩ := causeOf_spec he
    refine completes_of_exec hexec ⟨rfl, ?_⟩
    dsimp only
    rw [hsup]
    refine ⟨rfl, rfl, rfl, ⟨p, hp, hcause, hwide, hfirst⟩, rfl, ?_, hlock, htb⟩
    change (if s.main.sup.episode.any (fun p => p.1 == .por) then (0 : Word) else s.main.sup.episodes) + 1 = _
    split <;> rfl

end Sys2Proof.Machine
end

section
/-! The steps of boot (R494, R495, R502-R504). -/

namespace Sys2Proof.Machine

section
variable {s : State} {m : Main}

/-! ### The steps run where boot stands at them -/

theorem exec_trimsLoaded {n : Nat} (h : s.main.bootAt .trims = true) :
    exec (.trimsLoaded n) s = .next { s with main := s.start.trims n } := by
  have h' : s.start.bootAt .trims = true := h
  change Host.Outcome.next { s with main := if s.start.bootAt .trims = true then s.start.trims n else s.start } = _
  rw [if_pos h']

theorem exec_firmwareVerified (h : s.main.bootAt .firmware = true) :
    exec .firmwareVerified s = .next { s with main := s.start.firmwareStep } := by
  have h' : s.start.bootAt .firmware = true := h
  change Host.Outcome.next { s with main := if s.start.bootAt .firmware = true then s.start.firmwareStep else s.start } = _
  rw [if_pos h']

theorem exec_configVerified (h : s.main.bootAt .config = true) :
    exec .configVerified s = .next { s with main := s.start.configStep } := by
  have h' : s.start.bootAt .config = true := h
  change Host.Outcome.next { s with main := if s.start.bootAt .config = true then s.start.configStep else s.start } = _
  rw [if_pos h']

theorem exec_timeBaseStart {x : Bool} (h : s.main.bootAt .timebase = true) :
    exec (.timeBaseStart x) s = .next { s with
      main := { s.start with
        tb := { running := true, refUsed := if s.start.refSel = 1 ∧ x then 1 else 0 }
        fab := { s.start.fab with frame := 0, slotNo := 0 }
        sup := { s.start.sup with boot := .apply } } } := by
  have h' : s.start.bootAt .timebase = true := h
  change Host.Outcome.next { s with
    main := if s.start.bootAt .timebase = true then
        { s.start with
          tb := { running := true, refUsed := if s.start.refSel = 1 ∧ x then 1 else 0 }
          fab := { s.start.fab with frame := 0, slotNo := 0 }
          sup := { s.start.sup with boot := .apply } }
      else s.start } = _
  rw [if_pos h']

theorem exec_configApplied {us : Nat} (h : s.main.bootAt .apply = true) :
    exec (.configApplied us) s = .next { s with main := s.start.applyConfig us } := by
  have h' : s.start.bootAt .apply = true := h
  change Host.Outcome.next { s with main := if s.start.bootAt .apply = true then s.start.applyConfig us else s.start } = _
  rw [if_pos h']

/-! ### Trims (R495) -/

theorem Main.sup_orObj (m : Main) (a v : Nat) : (m.orObj a v).sup = m.sup := by
  obtain ⟨o, ho⟩ := m.setObj_frame a (m.obj a ||| v)
  have hor : m.orObj a v = m.setObj a (m.obj a ||| v) := rfl
  rw [hor, ho]

theorem Main.trims_good {n : Nat} (h₁ : 1 ≤ n) (h₃ : n ≤ 3) :
    (m.trims n).sup.boot = .firmware ∧ (m.trims n).sup.bypass = false := by
  unfold Main.trims
  simp only [if_pos (And.intro h₁ h₃), and_self]

theorem Main.trims_bad {n : Nat} (h : n = 0 ∨ 3 < n) :
    (m.trims n).sup.boot = .haltTrim ∧ (m.trims n).sup.bypass = m.sup.bypass := by
  have hbad : ¬ (1 ≤ n ∧ n ≤ 3) := by omega
  have hn : n ≠ 1 := by omega
  unfold Main.trims
  simp only [if_neg hbad, if_neg hn, Main.sup_orObj, and_self]

/-! ### Firmware and configuration (R494, R502) -/

theorem Main.firmwareStep_none (h : m.sup.order = []) : m.firmwareStep = { m with sup := { m.sup with boot := .recovery } } := by
  unfold Main.firmwareStep
  rw [h]

/-- R494: a bank whose firmware passes is booted, and its try counted. -/
theorem Main.firmwareStep_passes {b : Bank} {rest : List Bank} (h : m.sup.order = b :: rest)
    (hw : fwWhy (m.bank b).fw m.sup.secVer = 0) :
    m.firmwareStep.sup.boot = .config ∧ m.firmwareStep.sup.fwBank = some b ∧ m.firmwareStep.tries b = m.tries b + 1 := by
  unfold Main.firmwareStep
  rw [h]
  dsimp only
  rw [if_pos hw]
  cases b <;> exact ⟨rfl, rfl, rfl⟩

/-- R494: a bank whose firmware fails gives way to the next in order. -/
theorem Main.firmwareStep_fails {b : Bank} {rest : List Bank} (h : m.sup.order = b :: rest)
    (hw : fwWhy (m.bank b).fw m.sup.secVer ≠ 0) : m.firmwareStep.sup.order = rest ∧
      m.firmwareStep.sup.fwBank = m.sup.fwBank ∧ m.firmwareStep.sup.boot = (if rest = [] then .recovery else .firmware) := by
  unfold Main.firmwareStep
  rw [h]
  dsimp only
  rw [if_neg hw]
  dsimp only
  rw [Main.sup_orObj]
  refine ⟨rfl, rfl, ?_⟩
  cases rest <;> rfl

theorem Main.configStep_spec {b : Bank} (h : m.sup.fwBank = some b) :
    let why := imgWhy (m.bank b).cfg (fwRelease m.firmware)
    m.configStep.sup.boot = .timebase ∧ m.configStep.sup.image = (if why = 0 then some (m.bank b).cfg else none) ∧
      m.configStep.obj (cfAddr 0 O.CF_DEFAULTED) = (if why = 0 then 0 else 1) := by
  intro why
  let n : Main := m.modBank b (fun x => { x with cfgGood := imgCheckOk (m.bank b).cfg })
  have hstep : m.configStep = { (n.setObj (cfAddr 0 O.CF_DEFAULTED) (b2n (why != 0))).setObj (cfAddr 0 O.CF_DEFAULT_WHY) why with
      sup := { ((n.setObj (cfAddr 0 O.CF_DEFAULTED) (b2n (why != 0))).setObj (cfAddr 0 O.CF_DEFAULT_WHY) why).sup with
        boot := .timebase, image := if why = 0 then some (m.bank b).cfg else none } } := by
    unfold Main.configStep
    rw [h]
  have hobj : ((n.setObj (cfAddr 0 O.CF_DEFAULTED) (b2n (why != 0))).setObj (cfAddr 0 O.CF_DEFAULT_WHY) why).obj
      (cfAddr 0 O.CF_DEFAULTED) = (if why = 0 then 0 else 1) := by
    rw [Main.objs_keep _ _ _ _ (by decide), Main.obj_setObj_same]
    by_cases hw : why = 0
    · rw [hw]
      rfl
    · rw [if_neg hw, bne_iff_ne.2 hw]
      rfl
  rw [hstep]
  exact ⟨rfl, rfl, hobj⟩

/-! ### The configuration applied (R503, R504) -/

theorem Main.locked_protect (m : Main) : m.protect.locked = true := by
  unfold Main.protect
  split <;> rfl

theorem Main.locked_fixedAddress (m : Main) : m.fixedAddress.locked = m.locked := by
  unfold Main.fixedAddress
  split
  · obtain ⟨o₁, h₁⟩ := m.setObj_frame (ntAddr 0 O.NT_NODE_ADDR) (m.obj (ntAddr 0 O.NT_ADDR_CFG))
    rw [h₁]
    obtain ⟨o₂, h₂⟩ := ({ m with objs := o₁ } : Main).setObj_frame (ntAddr 0 O.NT_ADDR_VALID) 1
    rw [h₂]
  · rfl

theorem Main.locked_setTries (m : Main) (b : Bank) (n : Nat) : (m.setTries b n).locked = m.locked := by cases b <;> rfl

theorem Main.applyConfig_spec (m : Main) (us : Nat) : (m.applyConfig us).sup.boot = .run ∧ (m.applyConfig us).locked = true ∧
    (m.applyConfig us).obj (rsAddr O.RS_BOOT_TIME) = us % 2 ^ 36 := by
  unfold Main.applyConfig
  extract_lets entries ports mapped protected_ n
  have hprot : protected_.locked = true := (Main.locked_fixedAddress _).trans (Main.locked_protect _)
  have hlock : n.locked = true := by
    unfold n
    split
    · exact (Main.locked_setTries _ _ _).trans hprot
    · exact hprot
  clear_value n
  have hus : us % 2 ^ 36 < 2 ^ 36 := Nat.mod_lt _ (by decide)
  generalize us % 2 ^ 36 = v at hus
  let r : Main := { n with sup := { n.sup with boot := .run } }
  have hobj : (r.setObj (rsAddr O.RS_BOOT_TIME) v).obj (rsAddr O.RS_BOOT_TIME) = v := r.obj_setObj_same_of_lt _ hus
  obtain ⟨o, ho⟩ := r.setObj_frame (rsAddr O.RS_BOOT_TIME) v
  exact ⟨(congrArg (fun k : Main => k.sup.boot) ho).trans rfl, (congrArg Main.locked ho).trans hlock, hobj⟩

end

/-- R494: the time base starts at 0. -/
theorem TimeBase.ext_started (r : Nat) : ({ running := true, refUsed := r } : TimeBase).ext = 0 := by
  simp only [TimeBase.ext]
  decide

/-- Settles O59. -/
theorem bootSteps : Obligations.BootSteps := by
  unfold Obligations.BootSteps
  refine ⟨fun n s h => ?trims, fun s h => ⟨fun ho => ?noBank, fun b rest ho => ?bank⟩, fun b s h hb => ?config,
    fun x s h => ?timeBase, fun us s h => ?apply⟩
  case trims =>
    exact completes_of_exec (exec_trimsLoaded h) ⟨Main.trims_good, Main.trims_bad⟩
  case noBank =>
    have hexec := exec_firmwareVerified h
    rw [Main.firmwareStep_none (m := s.start) ho] at hexec
    exact completes_of_exec hexec rfl
  case bank =>
    refine completes_of_exec (exec_firmwareVerified h) ?_
    split
    · next hw => exact Main.firmwareStep_passes (m := s.start) ho hw
    · next hw => exact Main.firmwareStep_fails (m := s.start) ho hw
  case config => exact completes_of_exec (exec_configVerified h) (Main.configStep_spec (m := s.start) hb)
  case timeBase => exact completes_of_exec (exec_timeBaseStart h) ⟨rfl, rfl, TimeBase.ext_started _, rfl, rfl, rfl⟩
  case apply => exact completes_of_exec (exec_configApplied h) (s.start.applyConfig_spec us)

end Sys2Proof.Machine
end

section
/-! The mitten of a unit closes, is held and opens, and what the reset of each unit clears (R489, R490, R526, R529). -/

namespace Sys2Proof.Machine

section
variable {m n k : Main} {s : State} {code : Nat}

/-! ### Requests that wait at a unit -/

/-- What the end of requests changes: the sessions' abort objects, their answer places, the queue, the host port and what is shown. -/
structure Main.RequestsOnly (m n : Main) : Prop where
  frame : ∃ o f se h u, n = { m with objs := o, fab := f, sess := se, host := h, out := u }
  obj : ∀ b, (∀ z, b ≠ hsAddr z O.HS_ABORT_LAST) → (∀ z, b ≠ hsAddr z O.HS_ABORT_COUNT) → n.obj b = m.obj b

theorem Main.RequestsOnly.refl (m : Main) : Main.RequestsOnly m m := ⟨⟨m.objs, m.fab, m.sess, m.host, m.out, rfl⟩, fun _ _ _ => rfl⟩

theorem Main.RequestsOnly.trans (h : Main.RequestsOnly m n) (h' : Main.RequestsOnly n k) : Main.RequestsOnly m k := by
  obtain ⟨⟨o₁, f₁, se₁, h₁, u₁, rfl⟩, ho⟩ := h
  obtain ⟨⟨o₂, f₂, se₂, h₂, u₂, rfl⟩, ho'⟩ := h'
  exact ⟨⟨o₂, f₂, se₂, h₂, u₂, rfl⟩, fun b hl hc => (ho' b hl hc).trans (ho b hl hc)⟩

theorem Main.RequestsOnly.foldl {α : Type} (f : Main → α → Main) (hf : ∀ x m, Main.RequestsOnly m (f m x)) (l : List α) (m : Main) :
    Main.RequestsOnly m (l.foldl f m) :=
  foldl_keeps_mem (Main.RequestsOnly m) f l (fun x _ n hn => hn.trans (hf x n)) m (.refl m)

theorem Main.RequestsOnly.noteAbort (m : Main) (sess c a : Nat) : Main.RequestsOnly m (m.noteAbort sess c a) := by
  obtain ⟨o, ho⟩ := m.noteAbort_frame sess c a
  exact ⟨⟨o, m.fab, m.sess, m.host, m.out, ho⟩, fun b hl hc => m.noteAbort_obj _ _ _ _ (hl _) (hc _)⟩

theorem Main.RequestsOnly.deliver (m : Main) (x : Key) (a st : Nat) (d : List Byte) : Main.RequestsOnly m (m.deliver x a st d) := by
  have hnote := Main.RequestsOnly.noteAbort m x.sess st a
  unfold Main.deliver
  refine hnote.trans ?_
  generalize m.noteAbort x.sess st a = n
  split
  · exact ⟨⟨n.objs, n.fab, n.sess, _, n.out, rfl⟩, fun _ _ _ => rfl⟩
  · exact ⟨⟨n.objs, n.fab, _, n.host, n.out, rfl⟩, fun _ _ _ => rfl⟩

theorem Main.RequestsOnly.reply (m : Main) (sess a st : Nat) (d : List Byte) : Main.RequestsOnly m (m.reply sess a st d) := by
  have hnote := Main.RequestsOnly.noteAbort m sess st a
  unfold Main.reply
  refine hnote.trans ?_
  generalize m.noteAbort sess st a = n
  exact ⟨⟨n.objs, n.fab, n.sess, n.host, _, rfl⟩, fun _ _ _ => rfl⟩

theorem Main.RequestsOnly.answer (m : Main) (key : Option Key) (sess a st : Nat) (d : List Byte) :
    Main.RequestsOnly m (m.answer key sess a st d) := by
  cases key with
  | none => exact .reply m sess a st d
  | some x => exact .deliver m x a st d

theorem Main.RequestsOnly.endRequests (m : Main) (code : Nat) : Main.RequestsOnly m (m.endRequests code) := by
  unfold Main.endRequests
  extract_lets mine q rs f n₁ n₂
  have h₁ : Main.RequestsOnly m n₁ := ⟨⟨m.objs, _, m.sess, m.host, m.out, rfl⟩, fun _ _ _ => rfl⟩
  have h₂ : Main.RequestsOnly n₁ n₂ := .foldl _ (fun x n => .deliver n x.key x.addr aUnitReset []) q n₁
  refine (h₁.trans h₂).trans (.foldl _ (fun r n => ?_) rs n₂)
  split
  · exact .refl n
  · exact .answer n r.key r.sess r.addr aUnitReset []

/-- What the end of requests leaves, seen through `g`. -/
theorem Main.RequestsOnly.keeps {β : Type} (h : Main.RequestsOnly m n) (g : Main → β)
    (hg : ∀ o f se h u, g { m with objs := o, fab := f, sess := se, host := h, out := u } = g m) : g n = g m := by
  obtain ⟨⟨o, f, se, w, u, rfl⟩, -⟩ := h
  exact hg o f se w u

/-! ### Supervisor and field link -/

/-- The supervisor and the field link are as they were. -/
structure Main.HeldApart (m n : Main) : Prop where
  sup : n.sup = m.sup
  link : n.field.link = m.field.link

theorem Main.HeldApart.refl (m : Main) : Main.HeldApart m m := ⟨rfl, rfl⟩

theorem Main.HeldApart.trans (h : Main.HeldApart m n) (h' : Main.HeldApart n k) : Main.HeldApart m k :=
  ⟨h'.sup.trans h.sup, h'.link.trans h.link⟩

theorem Main.HeldApart.setObj (m : Main) (a v : Nat) : Main.HeldApart m (m.setObj a v) := by
  obtain ⟨o, ho⟩ := m.setObj_frame a v
  rw [ho]
  exact ⟨rfl, rfl⟩

theorem Main.HeldApart.powerOff (m : Main) (i : Nat) : Main.HeldApart m (m.powerOff i) := by
  obtain ⟨l, o, x, h⟩ := m.powerOff_frame i
  rw [h]
  exact ⟨rfl, rfl⟩

theorem Main.HeldApart.homeFail (m : Main) (i c : Nat) : Main.HeldApart m (m.homeFail i c) := by
  unfold Main.homeFail
  split
  · exact ⟨rfl, rfl⟩
  · split
    · exact .refl m
    · split
      · obtain ⟨x, h⟩ := m.startRamp_frame i (m.homeAcc i)
        rw [h]
        exact ⟨rfl, rfl⟩
      · exact ⟨rfl, rfl⟩

theorem Main.HeldApart.inputBroken (m : Main) (c : Nat) : Main.HeldApart m (m.inputBroken c) := by
  unfold Main.inputBroken
  refine forEach_keeps (Main.HeldApart m) _ (fun i n hn => ?_) _ m (.refl m)
  split
  · exact hn.trans (.homeFail n i 0x80)
  · exact hn

theorem Main.HeldApart.braked (m : Main) (c : Nat) (b : Bool) : Main.HeldApart m (if b then m.raiseBrake c else m) := by
  cases b
  · exact .refl m
  · obtain ⟨⟨x, hx⟩, -⟩ := m.raiseBrake_frame c
    rw [if_pos rfl, hx]
    exact ⟨rfl, rfl⟩

theorem Main.HeldApart.outputDown (was c : Nat) (m : Main) : Main.HeldApart m (Main.outputDown was c m) := by
  by_cases h : 16 ≤ c ∧ m.isOut c = true
  · rw [Main.outputDown_of_out h.1 h.2]
    generalize (m.objB (ioAddr c O.IO_OUT) && was == 2) = b
    refine (Main.HeldApart.braked m c b).trans ?_
    generalize (if b then m.raiseBrake c else m) = n
    unfold Main.off
    have hcmd : Main.HeldApart n (n.modFc c (fun f => { f with cmd := false, rbT := n.now, offDead := true })) := ⟨rfl, rfl⟩
    exact hcmd.trans (.setObj _ _ 0)
  · have hsame : Main.outputDown was c m = m := if_neg h
    rw [hsame]
    exact .refl m

theorem Main.linkLossCounted_apart (m : Main) : m.linkLossCounted.sup = m.sup ∧ m.linkLossCounted.field.link = 0 :=
  ⟨(Main.HeldApart.setObj _ _ _).sup.trans rfl, (Main.HeldApart.setObj _ _ _).link.trans rfl⟩

/-- R427: with homing in progress or not, the link is down afterwards. -/
theorem Main.linkDown_apart (m : Main) : m.linkDown.sup = m.sup ∧ m.linkDown.field.link = 0 := by
  by_cases h : m.field.link = 0
  · rw [Main.linkDown_of_down h]
    exact ⟨rfl, h⟩
  · obtain ⟨hsup, hlink⟩ := m.linkLossCounted_apart
    have hout : Main.HeldApart m.linkLossCounted (forEach channels (Main.outputDown m.field.link) m.linkLossCounted) :=
      forEach_keeps (Main.HeldApart m.linkLossCounted) _ (fun c n hn => hn.trans (.outputDown _ c n)) _ _ (.refl _)
    rw [Main.linkDown_of_up h]
    generalize forEach channels (Main.outputDown m.field.link) m.linkLossCounted = r at hout
    have hbroken : Main.HeldApart r (forEach channels (fun c m => m.inputBroken c) r) :=
      forEach_keeps (Main.HeldApart r) _ (fun c n hn => hn.trans (.inputBroken n c)) _ _ (.refl r)
    have hend : Main.HeldApart r (if m.field.link = 2 then forEach channels (fun c m => m.inputBroken c) r else r) := by
      split
      · exact hbroken
      · exact .refl r
    exact ⟨(hout.trans hend).sup.trans hsup, (hout.trans hend).link.trans hlink⟩

/-! ### The unit of an axis lane -/

/-- The tokens of an axis's current and speed chains. -/
def Main.tokensGone (m : Main) (a : Nat) : Main :=
  { m with fab := { m.fab with
    waiting := m.fab.waiting.filter (fun t => !(t.inst == a && (t.task == .speed || t.task == .current)))
    cells := m.fab.cells.filter (fun p => !(p.2.inst == a && (p.2.task == .speed || p.2.task == .current))) } }

/-- R489: the lane and the port of an axis as their reset leaves them. -/
def Main.laneParts (m : Main) (a : Nat) : Main :=
  Main.modPt (m.modLn a (fun l => { period := l.period, shadow := l.shadow })) a (fun q => { lines := q.lines, newMode := q.newMode })

/-- R489: the objects of the lane and the port that read 0 after their reset. -/
def Main.laneObjs (m : Main) (a : Nat) : Main :=
  ((m.setObj (fbAddr a O.FB_POS) 0).setObj (fbAddr a O.FB_LATCH) 0).setObj (pwAddr a O.PW_COMM_VALID) 0

/-- R489: what the reset of the unit of axis lane `a` clears. -/
def Main.laneCleared (m : Main) (a : Nat) : Main := (((m.laneParts a).laneObjs a).unhome a).tokensGone a

/-- R489: the axes that use the unit take UNIT_RESET. -/
def Main.laneRaised (m : Main) (a : Nat) : Main :=
  forEach (axes.filter (fun b => m.usesPort b a && (m.i b).core.chains != 0)) (fun b m => m.raise b cUnitReset (some 0)) m

theorem Main.resetLane_eq (m : Main) (a : Nat) : m.resetLane a =
    if (!(((m.laneCleared a).laneRaised a).lop a).busy) = true then (m.laneCleared a).laneRaised a
    else if (((m.laneCleared a).laneRaised a).lop a).kind = 1 then ((m.laneCleared a).laneRaised a).homeFail a 0x02
    else (((m.laneCleared a).laneRaised a).opFail a 0x02).probeOff a := rfl

end

end Sys2Proof.Machine
end

section
/-! The reset of each unit and the moves of its mitten (R489, R490, R526, R529). -/

namespace Sys2Proof.Machine

section
variable {m n k : Main} {s : State} {code : Nat}

/-! ### The unit of an axis lane -/

theorem Main.laneObjs_frame (m : Main) (a : Nat) : ∃ o, m.laneObjs a = { m with objs := o } := by
  unfold Main.laneObjs
  obtain ⟨o₁, h₁⟩ := m.setObj_frame (fbAddr a O.FB_POS) 0
  rw [h₁]
  obtain ⟨o₂, h₂⟩ := ({ m with objs := o₁ } : Main).setObj_frame (fbAddr a O.FB_LATCH) 0
  rw [h₂]
  obtain ⟨o₃, h₃⟩ := ({ m with objs := o₂ } : Main).setObj_frame (pwAddr a O.PW_COMM_VALID) 0
  exact ⟨o₃, h₃⟩

theorem Main.obj_laneObjs (m : Main) (a : Ax) :
    (m.laneObjs a).obj (pwAddr a O.PW_COMM_VALID) = 0 ∧ (m.laneObjs a).obj (fbAddr a O.FB_POS) = 0 := by
  have hpos : fbAddr a O.FB_POS ≠ pwAddr a O.PW_COMM_VALID := fbAddr_ne_pwAddr (by omega) (by decide)
  unfold Main.laneObjs
  refine ⟨(Main.obj_setObj_same _ _ _).trans (Nat.zero_mod _), ?_⟩
  rw [Main.objs_keep _ _ _ _ hpos, Main.objs_keep _ _ _ _ (fbAddr_ne (by decide))]
  exact (Main.obj_setObj_same _ _ _).trans (Nat.zero_mod _)

theorem Main.laneCleared_eq (m : Main) (a : Nat) :
    ∃ o, m.laneCleared a = (Main.unhome { m.laneParts a with objs := o } a).tokensGone a ∧ ((m.laneParts a).laneObjs a).objs = o := by
  obtain ⟨o, ho⟩ := (m.laneParts a).laneObjs_frame a
  refine ⟨o, ?_, ?_⟩
  · unfold Main.laneCleared
    rw [ho]
  · rw [ho]

theorem Main.laneParts_frame (m : Main) (a : Nat) : ∃ l p, m.laneParts a = { m with lane := l, port := p } := ⟨_, _, rfl⟩

theorem Main.unhome_frame (m : Main) (a : Nat) : ∃ i, m.unhome a = { m with inst := i } := ⟨_, rfl⟩

theorem Main.tokensGone_frame (m : Main) (a : Nat) : ∃ f, m.tokensGone a = { m with fab := f } := ⟨_, rfl⟩

theorem Main.laneCleared_frame (m : Main) (a : Nat) :
    ∃ l p o i f, m.laneCleared a = { m with lane := l, port := p, objs := o, inst := i, fab := f } := by
  obtain ⟨l, p, hparts⟩ := m.laneParts_frame a
  obtain ⟨o, hobjs⟩ := (m.laneParts a).laneObjs_frame a
  obtain ⟨i, hinst⟩ := ((m.laneParts a).laneObjs a).unhome_frame a
  obtain ⟨f, hfab⟩ := (((m.laneParts a).laneObjs a).unhome a).tokensGone_frame a
  refine ⟨l, p, o, i, f, ?_⟩
  unfold Main.laneCleared
  rw [hfab, hinst, hobjs, hparts]

theorem Main.ln_laneCleared (m : Main) (a : Nat) :
    (m.laneCleared a).ln a = { period := (m.ln a).period, shadow := (m.ln a).shadow } := by
  obtain ⟨o, h, -⟩ := m.laneCleared_eq a
  rw [h]
  exact (m.ln_modLn a a (fun l => { period := l.period, shadow := l.shadow })).trans (if_pos rfl)

theorem Main.pt_laneCleared (m : Main) (a : Nat) :
    (m.laneCleared a).pt a = { lines := (m.pt a).lines, newMode := (m.pt a).newMode } := by
  obtain ⟨o, h, -⟩ := m.laneCleared_eq a
  rw [h]
  exact (m.pt_modPt a a (fun q => { lines := q.lines, newMode := q.newMode })).trans (if_pos rfl)

theorem Main.core_laneCleared (m : Main) (a : Nat) : ((m.laneCleared a).i a).core = { (m.i a).core with homed := false } := by
  obtain ⟨o, h, -⟩ := m.laneCleared_eq a
  rw [h]
  exact (m.core_modC a a (fun c => { c with homed := false })).trans (if_pos rfl)

theorem Main.obj_laneCleared (m : Main) (a : Ax) :
    (m.laneCleared a).obj (pwAddr a O.PW_COMM_VALID) = 0 ∧ (m.laneCleared a).obj (fbAddr a O.FB_POS) = 0 := by
  obtain ⟨o, h, ho⟩ := m.laneCleared_eq a
  have hobjs : (m.laneCleared a).objs = ((m.laneParts a).laneObjs a).objs := ((congrArg Main.objs h).trans rfl).trans ho.symm
  unfold Main.obj
  rw [hobjs]
  exact (m.laneParts a).obj_laneObjs a

theorem Main.raise_frame (m : Main) (b bit : Nat) (r : Option Nat) : ∃ x, m.raise b bit r = { m with inst := x } := ⟨_, rfl⟩

theorem Main.laneRaised_frame (m : Main) (a : Nat) : ∃ x, m.laneRaised a = { m with inst := x } :=
  forEach_keeps (fun n => ∃ x, n = { m with inst := x }) _ (fun b n ⟨x, hx⟩ => by
    obtain ⟨y, hy⟩ := n.raise_frame b cUnitReset (some 0)
    exact ⟨y, by rw [hy, hx]⟩) _ m ⟨m.inst, rfl⟩

theorem Main.homed_raise (m : Main) (b bit a : Nat) (r : Option Nat) : ((m.raise b bit r).i a).core.homed = (m.i a).core.homed := by
  by_cases h : a = b
  · subst h
    unfold Main.raise
    rw [Main.core_modC, if_pos rfl]
  · rw [Main.raise_core m b bit a r h]

theorem Main.raised_raise {a bit : Nat} (h : (m.i a).core.raised.testBit bit = true) (b : Nat) (r : Option Nat) :
    ((m.raise b bit r).i a).core.raised.testBit bit = true := by
  by_cases hab : a = b
  · subst hab
    rw [Main.raise_raised, Nat.testBit_or, h, Bool.true_or]
  · rw [Main.raise_core m b bit a r hab, h]

theorem Main.homed_laneRaised (m : Main) (a j : Nat) : ((m.laneRaised a).i j).core.homed = (m.i j).core.homed :=
  forEach_keeps (fun n => (n.i j).core.homed = (m.i j).core.homed) _ (fun b n hn => (n.homed_raise b cUnitReset j (some 0)).trans hn)
    _ m rfl

/-- R489: an axis in the ledger takes UNIT_RESET with its own unit. -/
theorem Main.raised_laneRaised {a : Ax} (h : (m.i a).core.chains ≠ 0) :
    ((m.laneRaised a).i a).core.raised.testBit cUnitReset = true := by
  have huse : m.usesPort a a = true := by
    unfold Main.usesPort
    rw [beq_self_eq_true, Bool.true_or]
  have hmem : a.val ∈ axes.filter (fun b => m.usesPort b a && (m.i b).core.chains != 0) := by
    refine List.mem_filter.2 ⟨List.mem_range.2 a.isLt, ?_⟩
    rw [huse, bne_iff_ne.2 h]
    rfl
  refine forEach_brings (fun n => (n.i a).core.raised.testBit cUnitReset = true) (fun b m => m.raise b cUnitReset (some 0))
    (fun n => ?_) (fun b n hn => Main.raised_raise hn b (some 0)) hmem m
  rw [Main.raise_raised, Nat.testBit_or, Nat.testBit_two_pow_self, Bool.or_true]

theorem Main.lop_laneRaised (m : Main) (a j : Nat) : ((m.laneCleared a).laneRaised a).lop j = m.lop j := by
  obtain ⟨l, p, o, i, f, h⟩ := m.laneCleared_frame a
  obtain ⟨x, hx⟩ := (m.laneCleared a).laneRaised_frame a
  rw [hx, h]
  rfl

theorem Main.resetLane_of_idle {a : Nat} (h : (m.lop a).busy = false) : m.resetLane a = (m.laneCleared a).laneRaised a := by
  rw [Main.resetLane_eq, Main.lop_laneRaised, h]
  exact if_pos rfl

theorem Main.sup_resetLane (m : Main) (a : Nat) : (m.resetLane a).sup = m.sup := by
  have hsup : ((m.laneCleared a).laneRaised a).sup = m.sup := by
    obtain ⟨l, p, o, i, f, h⟩ := m.laneCleared_frame a
    obtain ⟨x, hx⟩ := (m.laneCleared a).laneRaised_frame a
    rw [hx, h]
  rw [Main.resetLane_eq]
  generalize (m.laneCleared a).laneRaised a = r at hsup
  split
  · exact hsup
  · split
    · exact (Main.HeldApart.homeFail r a 0x02).sup.trans hsup
    · have hfail : (r.opFail a 0x02).sup = r.sup := rfl
      exact (Main.HeldApart.powerOff (r.opFail a 0x02) a).sup.trans (hfail.trans hsup)

/-! ### The event unit -/

/-- R489: a live entry fails. -/
def Main.entryFailed (m : Main) (e : Nat) : Main :=
  (m.actFailed e aUnitReset).modAct e (fun a => { a with fire := none, overdue := false })

/-- R489: a pending pulse off is commanded off. -/
def Main.pulseOff (m : Main) (c : Nat) : Main := if (m.brakeAxis c).isSome then m else m.cmdOut c false

/-- R489: a latch unit as the reset of the event unit leaves it. -/
def Main.latchReset (u : Nat) (m : Main) : Main :=
  m.modLt u (fun x => { x with waiting := [], armed := if m.obj (evAddr u O.EV_LT_MODE) = 1 then none else x.armed })

/-- R489: the entries and outputs of the event unit. -/
def Main.entriesReset (m : Main) : Main :=
  (m.ev.pulses.map Prod.fst).foldl Main.pulseOff (((m.ev.entries.filter (fun p => p.2.live)).map Prod.fst).foldl Main.entryFailed m)

/-- R489: no pulse and no move awaits anything. -/
def Main.pendingGone (m : Main) : Main := { m with ev := { m.ev with pulses := [], moves := [] } }

theorem Main.resetEvents_eq (m : Main) : m.resetEvents = forEach (List.range 32) Main.latchReset m.entriesReset.pendingGone := rfl

/-- R489: the entry is in FAILED with UNIT_RESET. -/
def Action.FailedByReset (a : Action) : Prop := a.st = 7 ∧ a.result = aUnitReset ∧ a.fire = none ∧ a.overdue = false

theorem mem_live {l : Map Action} {e : Nat} (h : (mget {} l e).live = true) : e ∈ (l.filter (fun p => p.2.live)).map Prod.fst := by
  induction l with
  | nil =>
    have hdead : (mget {} ([] : Map Action) e).live = false := rfl
    exact absurd (hdead.symm.trans h) Bool.false_ne_true
  | cons p l ih =>
    by_cases he : p.1 = e
    · have hp : p.2.live = true := by
        rwa [mget, if_pos he] at h
      exact List.mem_map.2 ⟨p, List.mem_filter.2 ⟨List.mem_cons_self, hp⟩, he⟩
    · have hl : (mget {} l e).live = true := by
        rwa [mget, if_neg he] at h
      obtain ⟨q, hq, hqe⟩ := List.mem_map.1 (ih hl)
      obtain ⟨hql, hqlive⟩ := List.mem_filter.1 hq
      exact List.mem_map.2 ⟨q, List.mem_filter.2 ⟨List.mem_cons_of_mem _ hql, hqlive⟩, hqe⟩

theorem Main.entryFailed_own (m : Main) (e : Nat) : ((m.entryFailed e).act e).FailedByReset := by
  have h : (m.entryFailed e).act e = { (m.actFailed e aUnitReset).act e with fire := none, overdue := false } :=
    (Main.act_modAct _ e e _).trans (if_pos rfl)
  have hf : (m.actFailed e aUnitReset).act e = { m.act e with st := 7, result := aUnitReset, charged := false } :=
    (Main.act_modAct _ e e _).trans (if_pos rfl)
  rw [h, hf]
  exact ⟨rfl, rfl, rfl, rfl⟩

theorem Main.entryFailed_other {e j : Nat} (h : e ≠ j) (m : Main) : (m.entryFailed j).act e = m.act e :=
  ((Main.act_modAct _ j e _).trans (if_neg h)).trans ((Main.act_modAct _ j e _).trans (if_neg h))

theorem Main.entryFailed_keeps {e : Nat} (h : (m.act e).FailedByReset) (j : Nat) : ((m.entryFailed j).act e).FailedByReset := by
  by_cases hj : e = j
  · exact hj ▸ m.entryFailed_own e
  · rwa [Main.entryFailed_other hj m]

/-- What the reset of entries and outputs leaves: all but entries, outputs and what is shown of them. -/
structure Main.EntriesOnly (m n : Main) : Prop where
  frame : ∃ fr u f o e, n = { m with fresh := fr, out := u, field := f, objs := o, ev := e }
  obj : ∀ b, (∀ c, b ≠ ioAddr c O.IO_OUT) → n.obj b = m.obj b

theorem Main.EntriesOnly.refl (m : Main) : Main.EntriesOnly m m := ⟨⟨m.fresh, m.out, m.field, m.objs, m.ev, rfl⟩, fun _ _ => rfl⟩

theorem Main.EntriesOnly.trans (h : Main.EntriesOnly m n) (h' : Main.EntriesOnly n k) : Main.EntriesOnly m k := by
  obtain ⟨⟨fr₁, u₁, f₁, o₁, e₁, rfl⟩, ho⟩ := h
  obtain ⟨⟨fr₂, u₂, f₂, o₂, e₂, rfl⟩, ho'⟩ := h'
  exact ⟨⟨fr₂, u₂, f₂, o₂, e₂, rfl⟩, fun b hb => (ho' b hb).trans (ho b hb)⟩

theorem Main.EntriesOnly.entryFailed (m : Main) (e : Nat) : Main.EntriesOnly m (m.entryFailed e) :=
  ⟨⟨m.fresh, m.out, m.field, m.objs, _, rfl⟩, fun _ _ => rfl⟩

theorem Main.EntriesOnly.pulseOff (m : Main) (c : Nat) : Main.EntriesOnly m (m.pulseOff c) ∧ (m.pulseOff c).ev = m.ev := by
  unfold Main.pulseOff
  split
  · exact ⟨.refl m, rfl⟩
  · obtain ⟨⟨fr, u, f, o, h⟩, hobj⟩ := m.cmdOut_frame c false
    exact ⟨⟨⟨fr, u, f, o, m.ev, h⟩, fun b hb => hobj b (hb c)⟩, (congrArg Main.ev h).trans rfl⟩

theorem Main.entriesReset_spec (m : Main) : Main.EntriesOnly m m.entriesReset ∧
    ∀ e, (m.act e).live = true → (m.entriesReset.act e).FailedByReset := by
  have hfail : Main.EntriesOnly m (((m.ev.entries.filter (fun p => p.2.live)).map Prod.fst).foldl Main.entryFailed m) :=
    foldl_keeps_mem (Main.EntriesOnly m) _ _ (fun e _ n hn => hn.trans (.entryFailed n e)) m (.refl m)
  have hlive : ∀ e, (m.act e).live = true →
      ((((m.ev.entries.filter (fun p => p.2.live)).map Prod.fst).foldl Main.entryFailed m).act e).FailedByReset := fun e he =>
    forEach_brings (fun n => (n.act e).FailedByReset) (fun e m => m.entryFailed e) (fun n => n.entryFailed_own e)
      (fun j n hn => Main.entryFailed_keeps hn j) (mem_live he) m
  unfold Main.entriesReset
  generalize ((m.ev.entries.filter (fun p => p.2.live)).map Prod.fst).foldl Main.entryFailed m = r at hfail hlive
  obtain ⟨honly, hev⟩ : Main.EntriesOnly r ((m.ev.pulses.map Prod.fst).foldl Main.pulseOff r) ∧
      ((m.ev.pulses.map Prod.fst).foldl Main.pulseOff r).ev = r.ev :=
    foldl_keeps_mem (fun n => Main.EntriesOnly r n ∧ n.ev = r.ev) _ _
      (fun c _ n hn => ⟨hn.1.trans (Main.EntriesOnly.pulseOff n c).1, (Main.EntriesOnly.pulseOff n c).2.trans hn.2⟩) r ⟨.refl r, rfl⟩
  refine ⟨hfail.trans honly, fun e he => ?_⟩
  unfold Main.act at *
  rw [hev]
  exact hlive e he

theorem Main.latchReset_frame (u : Nat) (m : Main) :
    ∃ l, Main.latchReset u m = { m with ev := { m.ev with latches := l } } := ⟨_, rfl⟩

theorem Main.latchesReset_frame (m : Main) :
    ∃ l, forEach (List.range 32) Main.latchReset m = { m with ev := { m.ev with latches := l } } :=
  forEach_keeps (fun n => ∃ l, n = { m with ev := { m.ev with latches := l } }) _
    (fun u n ⟨l, h⟩ => by
      obtain ⟨l', h'⟩ := Main.latchReset_frame u n
      exact ⟨l', by rw [h', h]⟩) _ m ⟨m.ev.latches, rfl⟩

/-- R489: edges awaiting capture are gone, and one-shot units disarm. -/
theorem Main.latchesReset_spec (m : Main) {u : Nat} (hu : u < 32) :
    (forEach (List.range 32) Main.latchReset m).lt u = { m.lt u with
      waiting := [], armed := if m.obj (evAddr u O.EV_LT_MODE) = 1 then none else (m.lt u).armed } := by
  have hkeep : ∀ j n, n.objs = m.objs → (Main.latchReset j n).objs = m.objs := fun j n hn => hn
  have hlt : ∀ j n, (Main.latchReset j n).lt u = if u = j then { n.lt j with
      waiting := [], armed := if n.obj (evAddr j O.EV_LT_MODE) = 1 then none else (n.lt j).armed } else n.lt u :=
    fun j n => n.lt_modLt j u _
  refine (forEach_at (fun n => n.objs = m.objs) (fun n => n.lt u) Main.latchReset (fun x => { x with
    waiting := [], armed := if m.obj (evAddr u O.EV_LT_MODE) = 1 then none else x.armed }) u hkeep
    (fun j n _ hj => (hlt j n).trans (if_neg (Ne.symm hj))) (fun n hn => ?_) List.nodup_range m rfl).trans
    (if_pos (List.mem_range.2 hu))
  rw [hlt, if_pos rfl]
  unfold Main.obj
  rw [hn]

/-- R489: what the event unit holds after its reset. -/
theorem Main.resetEvents_spec (m : Main) : m.resetEvents.sup = m.sup ∧
    (∀ e, (m.act e).live = true → (m.resetEvents.act e).FailedByReset) ∧ m.resetEvents.ev.pulses = [] ∧ m.resetEvents.ev.moves = [] ∧
    ∀ u, u < 32 → (m.resetEvents.lt u).waiting = [] ∧
      (m.obj (evAddr u O.EV_LT_MODE) = 1 → (m.resetEvents.lt u).armed = none) := by
  obtain ⟨honly, hlive⟩ := m.entriesReset_spec
  obtain ⟨l, hl⟩ := m.entriesReset.pendingGone.latchesReset_frame
  have hlatch := fun u (hu : u < 32) => m.entriesReset.pendingGone.latchesReset_spec hu
  rw [Main.resetEvents_eq]
  refine ⟨?_, fun e he => ?_, ?_, ?_, fun u hu => ⟨?_, fun hmode => ?_⟩⟩
  · rw [hl]
    obtain ⟨fr, w, f, o, e, h⟩ := honly.frame
    exact (congrArg Main.sup h).trans rfl
  · rw [hl]
    exact hlive e he
  · rw [hl]
    rfl
  · rw [hl]
    rfl
  · rw [hlatch u hu]
  · rw [hlatch u hu]
    have hkept : m.entriesReset.pendingGone.obj (evAddr u O.EV_LT_MODE) = m.obj (evAddr u O.EV_LT_MODE) :=
      honly.obj _ (fun c => by unfold evAddr ioAddr O.EV_LT_MODE O.IO_OUT; omega)
    exact if_pos (hkept.trans hmode)

end

end Sys2Proof.Machine
end

section
/-! The host port and the peripheral masters as their reset leaves them, and the moves of a mitten (R490, R526, R529). -/

namespace Sys2Proof.Machine

section
variable {m n k : Main} {s : State} {code : Nat}

/-! ### The host port and the peripheral masters -/

theorem Main.resetHostPort_spec (m : Main) :
    m.resetHostPort.sup = m.sup ∧ m.resetHostPort.host = { reply := { status := aUnitReset } } := by
  unfold Main.resetHostPort
  refine ⟨?_, rfl⟩
  dsimp only
  split
  · obtain ⟨o, ho⟩ := m.noteAbort_frame 9 aUnitReset m.heldAddr
    rw [ho]
  · rfl

theorem Main.freeBytes_spec (m : Main) (j : Nat) : (m.freeBytes j).1.length = j ∧ ∃ f, (m.freeBytes j).2 = { m with fresh := f } := by
  induction j with
  | zero => exact ⟨rfl, m.fresh, rfl⟩
  | succ j ih =>
    obtain ⟨hlen, f, hf⟩ := ih
    have hstep : m.freeBytes (j + 1) = ((m.freeBytes j).1 ++ [BitVec.ofNat 8 ((m.freeBytes j).2.freeWord).1.toNat],
        ((m.freeBytes j).2.freeWord).2) := by
      unfold Main.freeBytes
      rw [List.range_succ, List.foldl_append]
      rfl
    rw [hstep]
    refine ⟨?_, f + 1, ?_⟩
    · rw [List.length_append, hlen]
      rfl
    · rw [hf]
      rfl

theorem Main.RequestsOnly.psAnswer (m : Main) (j st : Nat) : Main.RequestsOnly m (m.psAnswer j st) := by
  unfold Main.psAnswer
  split
  · exact .refl m
  · exact .answer m _ _ _ st []

/-- R529: the transfer's bytes stay, and what it has received is undefined. -/
theorem Main.resetPs_spec (m : Main) (j : Nat) : (m.resetPs j).sup = m.sup ∧ ((m.resetPs j).psm j).busy = false ∧
    ((m.resetPs j).psm j).tx = (m.psm j).tx ∧ ((m.resetPs j).psm j).rx.length = (m.psm j).tx.length := by
  have hanswer : Main.RequestsOnly m (if (m.psm j).busy then m.psAnswer j aUnitReset else m) := by
    split
    · exact .psAnswer m j aUnitReset
    · exact .refl m
  unfold Main.resetPs
  dsimp only
  generalize (if (m.psm j).busy then m.psAnswer j aUnitReset else m) = r at hanswer
  obtain ⟨hlen, f, hf⟩ := r.freeBytes_spec (m.psm j).tx.length
  have hsup : (r.freeBytes (m.psm j).tx.length).2.sup = m.sup := by
    rw [hf]
    exact hanswer.keeps Main.sup (fun _ _ _ _ _ => rfl)
  generalize r.freeBytes (m.psm j).tx.length = x at hlen hsup
  have hps : (x.2.modPs j (fun _ => { tx := (m.psm j).tx, rx := x.1 })).psm j = { tx := (m.psm j).tx, rx := x.1 } :=
    (x.2.psm_modPs j j (fun _ => { tx := (m.psm j).tx, rx := x.1 })).trans (if_pos rfl)
  rw [hps]
  exact ⟨hsup, rfl, rfl, hlen⟩

/-! ### Which unit a mitten resets -/

/-- The units below the event unit, by their band of codes. -/
def Main.resetBand (m : Main) (code : Nat) : Main :=
  match code / 256 with
  | 1 => m.resetLane (code % 256)
  | 3 => (m.opFail (opAQ (code % 256)) 0x02).modAq (code % 256) (fun _ => {})
  | 8 => m.modEe (code % 256) (fun _ => {})
  | _ => m

theorem Main.resetUnit_eq (m : Main) (code : Nat) : m.resetUnit code =
    if code = 0x1000 then (m.endRequests code).resetEvents
    else if code = 0x2000 then (m.endRequests code).resetHostPort
    else if code = 0x2100 then (m.endRequests code).resetPs 0
    else if code = 0x2200 then (m.endRequests code).resetPs 1
    else if code = 0x3000 then (m.endRequests code).linkDown
    else (m.endRequests code).resetBand code := rfl

theorem Main.resetUnit_of_band (h : code < 0x1000) (m : Main) : m.resetUnit code = (m.endRequests code).resetBand code := by
  rw [Main.resetUnit_eq, if_neg (by omega), if_neg (by omega), if_neg (by omega), if_neg (by omega), if_neg (by omega)]

theorem Main.resetUnit_lane (m : Main) (a : Ax) : m.resetUnit (0x100 + a) = (m.endRequests (0x100 + a)).resetLane a := by
  have hband : (0x100 + a.val) / 256 = 1 := by omega
  have hunit : (0x100 + a.val) % 256 = a.val := by omega
  rw [Main.resetUnit_of_band (by omega), Main.resetBand, hband, hunit]
  rfl

theorem Main.resetUnit_acq (m : Main) (u : Fin 8) :
    m.resetUnit (0x300 + u) = ((m.endRequests (0x300 + u)).opFail (opAQ u) 0x02).modAq u (fun _ => {}) := by
  have hband : (0x300 + u.val) / 256 = 3 := by omega
  have hunit : (0x300 + u.val) % 256 = u.val := by omega
  rw [Main.resetUnit_of_band (by omega), Main.resetBand, hband, hunit]
  rfl

theorem Main.resetUnit_emulation (m : Main) (u : Fin 8) :
    m.resetUnit (0x800 + u) = (m.endRequests (0x800 + u)).modEe u (fun _ => {}) := by
  have hband : (0x800 + u.val) / 256 = 8 := by omega
  have hunit : (0x800 + u.val) % 256 = u.val := by omega
  rw [Main.resetUnit_of_band (by omega), Main.resetBand, hband, hunit]
  rfl

theorem Main.resetUnit_ps (m : Main) (j : Fin 2) :
    m.resetUnit (0x2100 + 0x100 * j) = (m.endRequests (0x2100 + 0x100 * j)).resetPs j := by
  rw [Main.resetUnit_eq]
  match j with
  | 0 => rfl
  | 1 => rfl

theorem Main.sup_resetBand (m : Main) (code : Nat) : (m.resetBand code).sup = m.sup := by
  unfold Main.resetBand
  split
  · exact m.sup_resetLane _
  · rfl
  · rfl
  · rfl

/-- R490: the reset of a unit leaves the supervisor, and so the mittens, as they were. -/
theorem Main.sup_resetUnit (m : Main) (code : Nat) : (m.resetUnit code).sup = m.sup := by
  have hend : (m.endRequests code).sup = m.sup := (Main.RequestsOnly.endRequests m code).keeps Main.sup (fun _ _ _ _ _ => rfl)
  rw [Main.resetUnit_eq]
  generalize m.endRequests code = r at hend
  rw [← hend]
  split
  · exact r.resetEvents_spec.1
  split
  · exact r.resetHostPort_spec.1
  split
  · exact (r.resetPs_spec 0).1
  split
  · exact (r.resetPs_spec 1).1
  split
  · exact r.linkDown_apart.1
  · exact r.sup_resetBand code

/-! ### The moves of a mitten -/

/-- The mitten of a unit at its next state, its next move `d` later. -/
def Main.mittenMoved (m : Main) (code st d : Nat) : Main := (m.setMitten code st).mittenNext code d

theorem Main.mittens_mittenMoved (m : Main) (code st d : Nat) : mget 0 (m.mittenMoved code st d).sup.mittens code = st ∧
    mget 0 (m.mittenMoved code st d).sup.mittenT code = mget 0 m.sup.mittenT code + d :=
  ⟨mget_mset_same 0 m.sup.mittens code st, mget_mset_same 0 m.sup.mittenT code _⟩

theorem Main.mittenDue_of {st : Nat} (h : mget 0 m.sup.mittens code = st) (ht : mget 0 m.sup.mittenT code ≤ m.now) :
    m.mittenDue code st = true := by
  unfold Main.mittenDue
  rw [h, decide_eq_true ht, beq_self_eq_true]
  rfl

theorem Main.not_mittenDue_of_early (h : m.now < mget 0 m.sup.mittenT code) (st : Nat) : m.mittenDue code st = false := by
  unfold Main.mittenDue
  rw [decide_eq_false (Nat.not_le.2 h), Bool.and_false]

theorem exec_mittenClose (s : State) (code : Nat) : exec (.mittenClose code) s = .next { s with
    main := if s.start.mittenDue code 1 = true then (s.start.mittenMoved code 2 (unitsPerSlot / 5)).resetUnit code else s.start } := rfl

theorem exec_mittenHoldEnd (s : State) (code : Nat) : exec (.mittenHoldEnd code) s = .next { s with
    main := if s.start.mittenDue code 2 = true then s.start.mittenMoved code 3 (unitsPerSlot * 4 / 5) else s.start } := rfl

theorem exec_mittenOpen (s : State) (code : Nat) : exec (.mittenOpen code) s = .next { s with
    main := if s.start.mittenDue code 3 = true then
        { (s.start.setMitten code 0).tripsFollow with
          sup := { (s.start.setMitten code 0).tripsFollow.sup with
            mittenT := merase (s.start.setMitten code 0).tripsFollow.sup.mittenT code } }
      else s.start } := rfl

/-- R490: a mitten that is due closes: what holds of the reset of its unit holds afterwards. -/
theorem mittenClose_resets (h : s.main.mittenDue code 1 = true) {P : State → Prop}
    (hP : ∀ t : Main, t = (s.start.mittenMoved code 2 (unitsPerSlot / 5)).resetUnit code → mget 0 t.sup.mittens code = 2 →
      mget 0 t.sup.mittenT code = mget 0 s.main.sup.mittenT code + 8000 → P { s with main := t }) :
    Completes (.mittenClose code) s P := by
  have hexec := exec_mittenClose s code
  have hdue : s.start.mittenDue code 1 = true := h
  rw [if_pos hdue] at hexec
  obtain ⟨hst, hT⟩ := s.start.mittens_mittenMoved code 2 (unitsPerSlot / 5)
  have hsup := (s.start.mittenMoved code 2 (unitsPerSlot / 5)).sup_resetUnit code
  refine completes_of_exec hexec (hP _ rfl ?_ ?_)
  · rw [hsup]
    exact hst
  · rw [hsup]
    exact hT

/-- R490: as the mitten closes, requests to the unit end; nothing else is changed before the unit's reset. -/
theorem mittenClose_ends (s : State) (code : Nat) {β : Type} (g : Main → β)
    (hg : ∀ m o f se h u, g { m with objs := o, fab := f, sess := se, host := h, out := u } = g m)
    (hsup : ∀ (m : Main) x u, g { m with sup := x, out := u } = g m) :
    g ((s.start.mittenMoved code 2 (unitsPerSlot / 5)).endRequests code) = g s.main :=
  ((Main.RequestsOnly.endRequests (s.start.mittenMoved code 2 (unitsPerSlot / 5)) code).keeps g (hg _)).trans (hsup s.main _ {})

/-! ### The units -/

theorem mittenClose_acq (u : Fin 8) (h : s.main.mittenDue (0x300 + u) 1 = true) :
    Completes (.mittenClose (0x300 + u)) s (fun t => mget 0 t.main.sup.mittens (0x300 + u) = 2 ∧ t.main.aqu u = {} ∧
      ((s.main.lop (opAQ u)).busy = true → (t.main.lop (opAQ u)).failed = true ∧ (t.main.lop (opAQ u)).err = 2)) := by
  refine mittenClose_resets h fun t ht hst _ => ⟨hst, ?_, fun hbusy => ?_⟩
  all_goals
    subst ht
    dsimp only
    rw [Main.resetUnit_acq]
  · exact (Main.aqu_modAq _ u u _).trans (if_pos rfl)
  · have hlop := mittenClose_ends s (0x300 + u) (fun m => m.lop (opAQ u)) (fun _ _ _ _ _ _ => rfl) (fun _ _ _ => rfl)
    generalize (s.start.mittenMoved (0x300 + u) 2 (unitsPerSlot / 5)).endRequests (0x300 + u) = r at hlop
    have hfail : ((r.opFail (opAQ u) 0x02).modAq u (fun _ => {})).lop (opAQ u) =
        { s.main.lop (opAQ u) with busy := false, failed := true, err := 2, paused := false } := by
      refine (r.lop_opFail (opAQ u) 0x02 (opAQ u)).trans ?_
      rw [if_pos rfl, hlop, if_pos hbusy]
    rw [hfail]
    exact ⟨rfl, rfl⟩

theorem mittenClose_emulation (u : Fin 8) (h : s.main.mittenDue (0x800 + u) 1 = true) :
    Completes (.mittenClose (0x800 + u)) s (fun t => mget 0 t.main.sup.mittens (0x800 + u) = 2 ∧ t.main.eeo u = {}) := by
  refine mittenClose_resets h fun t ht hst _ => ⟨hst, ?_⟩
  subst ht
  dsimp only
  rw [Main.resetUnit_emulation]
  exact (Main.eeo_modEe _ u u _).trans (if_pos rfl)

theorem mittenClose_lane (a : Ax) (h : s.main.mittenDue (0x100 + a) 1 = true) (hb : (s.main.lop a).busy = false) :
    Completes (.mittenClose (0x100 + a)) s (fun t => mget 0 t.main.sup.mittens (0x100 + a) = 2 ∧
      t.main.ln a = { period := (s.main.ln a).period, shadow := (s.main.ln a).shadow } ∧
      t.main.pt a = { lines := (s.main.pt a).lines, newMode := (s.main.pt a).newMode } ∧ (t.main.i a).core.homed = false ∧
      t.main.obj (pwAddr a O.PW_COMM_VALID) = 0 ∧ t.main.obj (fbAddr a O.FB_POS) = 0 ∧
      ((s.main.i a).core.chains ≠ 0 → (t.main.i a).core.raised.testBit cUnitReset = true)) := by
  refine mittenClose_resets h fun t ht hst _ => ⟨hst, ?_⟩
  subst ht
  have hlop := mittenClose_ends s (0x100 + a) (fun m => m.lop a) (fun _ _ _ _ _ _ => rfl) (fun _ _ _ => rfl)
  have hln := mittenClose_ends s (0x100 + a) (fun m => m.ln a) (fun _ _ _ _ _ _ => rfl) (fun _ _ _ => rfl)
  have hpt := mittenClose_ends s (0x100 + a) (fun m => m.pt a) (fun _ _ _ _ _ _ => rfl) (fun _ _ _ => rfl)
  have hi := mittenClose_ends s (0x100 + a) (fun m => m.i a) (fun _ _ _ _ _ _ => rfl) (fun _ _ _ => rfl)
  dsimp only
  rw [Main.resetUnit_lane]
  generalize (s.start.mittenMoved (0x100 + a) 2 (unitsPerSlot / 5)).endRequests (0x100 + a) = r at hlop hln hpt hi
  have hidle : (r.lop a).busy = false := by
    rw [hlop]
    exact hb
  obtain ⟨x, hx⟩ := (r.laneCleared a).laneRaised_frame a
  obtain ⟨hcomm, hpos⟩ := r.obj_laneCleared a
  rw [Main.resetLane_of_idle hidle]
  refine ⟨?_, ?_, ?_, ?_, ?_, fun hch => Main.raised_laneRaised ?_⟩
  · rw [← hln, hx]
    exact r.ln_laneCleared a
  · rw [← hpt, hx]
    exact r.pt_laneCleared a
  · rw [Main.homed_laneRaised, Main.core_laneCleared]
  · rw [hx]
    exact hcomm
  · rw [hx]
    exact hpos
  · rw [Main.core_laneCleared, hi]
    exact hch

theorem mittenClose_events (h : s.main.mittenDue 0x1000 1 = true) : Completes (.mittenClose 0x1000) s (fun t =>
    (∀ e : Fin 1024, (s.main.act e).live = true → (t.main.act e).st = 7 ∧ (t.main.act e).result = aUnitReset ∧
      (t.main.act e).fire = none ∧ (t.main.act e).overdue = false) ∧ t.main.ev.pulses = [] ∧ t.main.ev.moves = [] ∧
    ∀ u : Fin 32, (t.main.lt u).waiting = [] ∧ (s.main.obj (evAddr u O.EV_LT_MODE) = 1 → (t.main.lt u).armed = none)) := by
  refine mittenClose_resets h fun t ht _ _ => ?_
  subst ht
  have hact := fun e : Nat => mittenClose_ends s 0x1000 (fun m => m.act e) (fun _ _ _ _ _ _ => rfl) (fun _ _ _ => rfl)
  have hmode : ∀ u : Fin 32, ((s.start.mittenMoved 0x1000 2 (unitsPerSlot / 5)).endRequests 0x1000).obj (evAddr u O.EV_LT_MODE) =
      s.main.obj (evAddr u O.EV_LT_MODE) := fun u =>
    (Main.RequestsOnly.endRequests _ 0x1000).obj _ (fun z => by unfold evAddr hsAddr O.EV_LT_MODE O.HS_ABORT_LAST; omega)
      (fun z => by unfold evAddr hsAddr O.EV_LT_MODE O.HS_ABORT_COUNT; omega)
  have hunit : (s.start.mittenMoved 0x1000 2 (unitsPerSlot / 5)).resetUnit 0x1000 =
      ((s.start.mittenMoved 0x1000 2 (unitsPerSlot / 5)).endRequests 0x1000).resetEvents := rfl
  dsimp only
  rw [hunit]
  generalize (s.start.mittenMoved 0x1000 2 (unitsPerSlot / 5)).endRequests 0x1000 = r at hact hmode
  obtain ⟨-, hlive, hpulses, hmoves, hlatch⟩ := r.resetEvents_spec
  refine ⟨fun e he => hlive e ?_, hpulses, hmoves, fun u => ⟨(hlatch u u.isLt).1, fun hm => (hlatch u u.isLt).2 ((hmode u).trans hm)⟩⟩
  rw [hact e]
  exact he

theorem mittenClose_hostPort (h : s.main.mittenDue 0x2000 1 = true) : Completes (.mittenClose 0x2000) s (fun t =>
    t.main.host = { reply := { status := aUnitReset } }) := by
  refine mittenClose_resets h fun t ht _ _ => ?_
  subst ht
  exact (Main.resetHostPort_spec _).2

theorem mittenClose_ps (j : Fin 2) (h : s.main.mittenDue (0x2100 + 0x100 * j) 1 = true) :
    Completes (.mittenClose (0x2100 + 0x100 * j)) s (fun t => (t.main.psm j).busy = false ∧ (t.main.psm j).tx = (s.main.psm j).tx ∧
      (t.main.psm j).rx.length = (s.main.psm j).tx.length) := by
  refine mittenClose_resets h fun t ht _ _ => ?_
  subst ht
  have hps := mittenClose_ends s (0x2100 + 0x100 * j) (fun m => m.psm j) (fun _ _ _ _ _ _ => rfl) (fun _ _ _ => rfl)
  dsimp only
  rw [Main.resetUnit_ps]
  generalize (s.start.mittenMoved (0x2100 + 0x100 * j) 2 (unitsPerSlot / 5)).endRequests (0x2100 + 0x100 * j) = r at hps
  obtain ⟨-, hbusy, htx, hrx⟩ := r.resetPs_spec j
  have htx' : (r.psm j).tx = (s.main.psm j).tx := congrArg Ps.tx hps
  exact ⟨hbusy, htx.trans htx', hrx.trans (congrArg List.length htx')⟩

theorem mittenClose_field (h : s.main.mittenDue 0x3000 1 = true) : Completes (.mittenClose 0x3000) s (fun t =>
    t.main.field.link = 0) := by
  refine mittenClose_resets h fun t ht _ _ => ?_
  subst ht
  exact (Main.linkDown_apart _).2

/-! ### Hold and opening -/

theorem mittenHoldEnd_ends (h : mget 0 s.main.sup.mittens code = 2) (ht : mget 0 s.main.sup.mittenT code ≤ s.main.now) :
    Completes (.mittenHoldEnd code) s (fun t =>
      t = { s with main := { s.main with
              out := {}, sup := { s.main.sup with mittens := t.main.sup.mittens, mittenT := t.main.sup.mittenT } } } ∧
      mget 0 t.main.sup.mittens code = 3 ∧ mget 0 t.main.sup.mittenT code = mget 0 s.main.sup.mittenT code + 32000) := by
  have hexec := exec_mittenHoldEnd s code
  rw [if_pos (Main.mittenDue_of (m := s.start) h ht)] at hexec
  obtain ⟨hst, hT⟩ := s.start.mittens_mittenMoved code 3 (unitsPerSlot * 4 / 5)
  exact completes_of_exec hexec ⟨rfl, hst, hT⟩

theorem mittenOpen_opens (h : mget 0 s.main.sup.mittens code = 3) (ht : mget 0 s.main.sup.mittenT code ≤ s.main.now) :
    Completes (.mittenOpen code) s (fun t => mget 0 t.main.sup.mittens code = 0 ∧
      ∀ u, u ≠ code → mget 0 t.main.sup.mittens u = mget 0 s.main.sup.mittens u) := by
  have hexec := exec_mittenOpen s code
  rw [if_pos (Main.mittenDue_of (m := s.start) h ht)] at hexec
  have hmittens : (s.start.setMitten code 0).tripsFollow.sup.mittens = mset 0 s.main.sup.mittens code 0 := by
    obtain ⟨o, l, i, hf⟩ := (s.start.setMitten code 0).tripsFollow_frame
    exact (congrArg (fun n : Main => n.sup.mittens) hf).trans rfl
  generalize (s.start.setMitten code 0).tripsFollow = r at hexec hmittens
  refine completes_of_exec hexec ?_
  dsimp only
  rw [hmittens]
  exact ⟨mget_mset_same 0 _ code 0, fun u hu => mget_mset_other 0 _ code u 0 hu⟩

/-- R490: before its time no move of the mitten does anything. -/
theorem mitten_waits (h : s.main.now < mget 0 s.main.sup.mittenT code) :
    ∀ c ∈ [Instr.mittenClose code, .mittenHoldEnd code, .mittenOpen code],
      Completes c s (fun t => t = { s with main := { s.main with out := {} } }) := by
  have hnot := fun st => Main.not_mittenDue_of_early (m := s.start) h st
  intro c hc
  simp only [List.mem_cons, List.not_mem_nil, or_false] at hc
  rcases hc with rfl | rfl | rfl
  · have hexec := exec_mittenClose s code
    rw [if_neg (Bool.eq_false_iff.1 (hnot 1))] at hexec
    exact completes_of_exec hexec rfl
  · have hexec := exec_mittenHoldEnd s code
    rw [if_neg (Bool.eq_false_iff.1 (hnot 2))] at hexec
    exact completes_of_exec hexec rfl
  · have hexec := exec_mittenOpen s code
    rw [if_neg (Bool.eq_false_iff.1 (hnot 3))] at hexec
    exact completes_of_exec hexec rfl

end

/-- Settles O60. -/
theorem mittensMove : Obligations.MittensMove := by
  unfold Obligations.MittensMove
  exact ⟨fun u s => ⟨fun h => mittenClose_acq u h, fun h => mittenClose_emulation u h⟩, fun a s h hb => mittenClose_lane a h hb,
    fun s => ⟨fun h => mittenClose_events h, fun h => mittenClose_hostPort h, fun j h => mittenClose_ps j h,
      fun h => mittenClose_field h⟩,
    fun code s => ⟨fun h ht => mittenClose_resets (Main.mittenDue_of h ht) fun _ _ hst hT => ⟨hst, hT⟩,
      fun h ht => mittenHoldEnd_ends h ht, fun h ht => mittenOpen_opens h ht, fun h => mitten_waits h⟩⟩

end Sys2Proof.Machine
end
